-- ==== Sys2Proof/Word.lean ====
section
/-! DEFINITION. The word types of the block: MBUS serves 32-bit words (R412), buffers hold bytes, engine registers are 32 bits wide (R137). -/

namespace Sys2Proof

/-- One MBUS word (R412). -/
abbrev Word := BitVec 32

/-- One byte of a buffer or a frame. -/
abbrev Byte := BitVec 8

/-- The word of a number, modulo 2^32. -/
abbrev Word.ofNat (n : Nat) : Word := BitVec.ofNat 32 n

end Sys2Proof
end

