-- ==== Sys2Proof/Params.lean ====
section
/-! DEFINITION. The operand types of the commands: instruction fields of the orbit engines (Tables 5-7 and 5-11, reserved bits included, since R159 makes them matter), mailbox messages (Table 13-3), and what reaches the block from outside (frames, readings, records). -/

namespace Sys2Proof

/-- ALU format (Table 5-7) without OP and FN: `rsv` is bits [40:32]. -/
structure AluArgs where
  gd : BitVec 4
  ga : BitVec 4
  gb : BitVec 4
  i : Bool
  imm : Word
  rsv : BitVec 9
  deriving DecidableEq, Repr

/-- BR format without OP and CC: `rsv` is bit [44]. -/
structure BrArgs where
  ga : BitVec 4
  gb : BitVec 4
  i : Bool
  tgt : BitVec 12
  imm : Word
  rsv : BitVec 1
  deriving DecidableEq, Repr

/-- Plain format: `rsv` is bits [57:0]. -/
structure PlainArgs where
  rsv : BitVec 58
  deriving DecidableEq, Repr

/-- MOVI format: `rsv1` is bits [57:54], `rsv2` bits [49:32]. -/
structure MoviArgs where
  gd : BitVec 4
  imm : Word
  rsv1 : BitVec 4
  rsv2 : BitVec 18
  deriving DecidableEq, Repr

/-- DBNZ format: `rsv1` is [57:54], `rsv2` [49:44], `rsv3` [31:0]. -/
structure DbnzArgs where
  ga : BitVec 4
  tgt : BitVec 12
  rsv1 : BitVec 4
  rsv2 : BitVec 6
  rsv3 : BitVec 32
  deriving DecidableEq, Repr

/-- CALL format: `rsv1` is [57:44], `rsv2` [31:0]. -/
structure CallArgs where
  tgt : BitVec 12
  rsv1 : BitVec 14
  rsv2 : BitVec 32
  deriving DecidableEq, Repr

/-- LD format without `H`: `rsv1` is [57:54], `rsv2` [44:12]. -/
structure LdArgs where
  gd : BitVec 4
  ga : BitVec 4
  disp : BitVec 12
  rsv1 : BitVec 4
  rsv2 : BitVec 33
  deriving DecidableEq, Repr

/-- GET format: `rsv1` is [57:54], `rsv2` [49:8]. -/
structure GetArgs where
  gd : BitVec 4
  sel : BitVec 8
  rsv1 : BitVec 4
  rsv2 : BitVec 42
  deriving DecidableEq, Repr

/-- PUT format: `rsv1` is [57:54], `rsv2` [49:2]. -/
structure PutArgs where
  ga : BitVec 4
  sel : BitVec 2
  rsv1 : BitVec 4
  rsv2 : BitVec 48
  deriving DecidableEq, Repr

/-- EVT format: `rsv` is [57:17]. -/
structure EvtArgs where
  int : Bool
  code : BitVec 16
  rsv : BitVec 41
  deriving DecidableEq, Repr

/-- GATE (Table 5-11): `rsv` is [36:30]. `go`, `orr` and `off` are the Action format's `GO`, `OR` and `OFF`. -/
structure GateArgs where
  go : BitVec 4
  orr : Bool
  off : BitVec 30
  port : BitVec 6
  state : BitVec 8
  hold : BitVec 2
  rsv : BitVec 7
  deriving DecidableEq, Repr

/-- SGATE: `rsv` is [43:30]. -/
structure SgateArgs where
  go : BitVec 4
  orr : Bool
  off : BitVec 30
  handle : BitVec 8
  opn : Bool
  rsv : BitVec 14
  deriving DecidableEq, Repr

/-- LAUNCH: `rsv` is [43:30]. -/
structure LaunchArgs where
  go : BitVec 4
  orr : Bool
  off : BitVec 30
  port : BitVec 6
  cls : BitVec 3
  rsv : BitVec 14
  deriving DecidableEq, Repr

/-- INJ: `rsv` is [38:30]. -/
structure InjArgs where
  go : BitVec 4
  orr : Bool
  off : BitVec 30
  port : BitVec 6
  tmpl : BitVec 8
  rsv : BitVec 9
  deriving DecidableEq, Repr

/-- TOUT: `rsv` is [41:30]. -/
structure ToutArgs where
  go : BitVec 4
  orr : Bool
  off : BitVec 30
  pin : BitVec 3
  lvl : Bool
  fine : BitVec 6
  fr : Bool
  rsv : BitVec 12
  deriving DecidableEq, Repr

/-- CAPT: `rsv` is [46:30]. -/
structure CaptArgs where
  go : BitVec 4
  orr : Bool
  off : BitVec 30
  dom : BitVec 3
  slot : BitVec 3
  rsv : BitVec 17
  deriving DecidableEq, Repr

/-- MARK: `rsv` is [44:30]. -/
structure MarkArgs where
  go : BitVec 4
  orr : Bool
  off : BitVec 30
  group : BitVec 8
  rsv : BitVec 15
  deriving DecidableEq, Repr

/-- RSWAP: `rsv` is [52:30]. -/
structure RswapArgs where
  go : BitVec 4
  orr : Bool
  off : BitVec 30
  rsv : BitVec 23
  deriving DecidableEq, Repr

/-- One command record as the firmware serves it: the partner it came from (Table 13-1), whether it is the last record of its message, and its parameter words (Table 13-8, word 0 first). -/
structure MbCmd where
  partner : Fin 4
  last : Bool
  words : List Word
  deriving DecidableEq, Repr

/-! ## Frames -/

/-- A VLAN tag: S-tag (TPID 0x88A8) or C-tag (0x8100), PCP, DEI and VID (R112). -/
structure VTag where
  stag : Bool
  pcp : BitVec 3
  dei : Bool
  vid : BitVec 12
  deriving DecidableEq, Repr

/-- An R-TAG (Table 11-1): the claim number in its reserved bytes and the sequence number. -/
structure RTag where
  claim : BitVec 16
  seq : BitVec 16
  deriving DecidableEq, Repr

/-- An HSR tag: path identifier, LSDU size and sequence number. -/
structure HsrTag where
  path : BitVec 4
  lsdu : BitVec 12
  seq : BitVec 16
  deriving DecidableEq, Repr

/-- A PRP trailer: sequence number, LanId and LSDU size. -/
structure PrpTag where
  seq : BitVec 16
  lan : BitVec 4
  lsdu : BitVec 12
  deriving DecidableEq, Repr

/-- An IP header (R112): `proto` is the IPv4 protocol or the next-header field of the IPv6 header; `mf` and `frag` are an IPv4 header's; `ext` lists what follows an IPv6 header, each header by its own next-header field and its length in bytes; `sport` and `dport` are the first four bytes of what comes after. `total` is the IPv4 total length or IPv6 payload length, `offset` the bytes before the IP header. Addresses are numbers whose low byte is the first byte sent. `csumOk` says that the UDP checksum fits the frame. -/
structure IpHdr where
  v6 : Bool
  src : BitVec 128
  dst : BitVec 128
  proto : BitVec 8
  dscp : BitVec 6
  sport : BitVec 16
  dport : BitVec 16
  mf : Bool := false
  frag : BitVec 13 := 0
  ext : List (BitVec 8 × Nat) := []
  csumOk : Bool := true
  total : BitVec 16
  offset : Nat
  deriving DecidableEq, Repr

/-- The trailer of a proving frame (Table 11-7). -/
structure ProvTrailer where
  tmpl : BitVec 8
  unitB : Bool
  pclaim : Bool
  seq : BitVec 16
  orb : BitVec 32
  txns : BitVec 32
  deriving DecidableEq, Repr

/-- An AUTHENTICATION TLV as the device checks it (R245): SPP, keyID, the bytes that the ICV covers, and the ICV. -/
structure PtpAuth where
  spp : BitVec 8
  keyId : BitVec 32
  covered : List Byte
  icv : List Byte
  deriving DecidableEq, Repr

/-- What an Announce carries of the grandmaster: priorities, clockQuality, identity and stepsRemoved. -/
structure PtpAnn where
  prio1 : BitVec 8
  prio2 : BitVec 8
  cls : BitVec 8
  acc : BitVec 8
  var : BitVec 16
  gm : BitVec 64
  steps : BitVec 16
  deriving DecidableEq, Repr

/-- What the L1_SYNC TLV of a Signaling message shows (R230): whether the sender's transmit clock is congruent with its domain, and the rate that it reports of its own peer, in 2^-4 ppb. -/
structure L1Sync where
  congruent : Bool
  rate : Option Int := none
  deriving DecidableEq, Repr

/-- The action of a Management message, and the answer that names no support (R217). -/
inductive PtpMgmt where
  | get | set | command | response | ack | notSupported
  deriving DecidableEq, Repr

/-- A PTP message as the device reads it. `corr` is the correction field in 2^-16 ns; `origin` the message's timestamp in ns; `ident` the sourcePortIdentity and `reqIdent` the requestingPortIdentity of a response; `l1` is the L1_SYNC TLV of a Signaling message, `mgmt` the action of a Management message, and `path` the clock identities of a PATH_TRACE TLV. -/
structure PtpMsg where
  mtype : BitVec 4
  malformed : Bool
  domNum : BitVec 8
  sdoId : BitVec 12
  seqId : BitVec 16
  twoStep : Bool
  ident : BitVec 80
  corr : Int
  origin : Nat
  reqIdent : BitVec 80
  ann : Option PtpAnn
  l1 : Option L1Sync
  claim : Option (BitVec 16)
  echo : Option (BitVec 16)
  auth : Option PtpAuth
  mgmt : Option PtpMgmt := none
  path : Option (List (BitVec 64)) := none
  deriving DecidableEq, Repr

/-- What the firmware finds of a candidate at an evaluation beside what the state shows: whether its signal is there, and the rate of its updates in mHz (R289). -/
structure RefMeas where
  slot : Fin 16
  signal : Bool
  updates : Nat
  deriving DecidableEq, Repr

/-- A frame's content as the device reads and edits it. MAC addresses are numbers whose low byte is the first byte sent; `etype` is the EtherType after the tags. -/
structure Pkt where
  dst : BitVec 48
  src : BitVec 48
  vlans : List VTag
  rtag : Option RTag
  hsr : Option HsrTag
  prp : Option PrpTag
  etype : BitVec 16
  ip : Option IpHdr
  prov : Option ProvTrailer
  ptp : Option PtpMsg
  body : List Byte
  deriving DecidableEq, Repr

/-- A frame as it arrives at a port: its content, its length from destination address to FCS, whether its FCS is good and whether the MAC found another error, and what its timestamp rests on: the TDC code of the latching edge and the bit position of the timestamp point in its block (R225). -/
structure RxFrame where
  pkt : Pkt
  len : Nat
  fcsOk : Bool
  macErr : Bool
  code : BitVec 12
  bitPos : Nat
  deriving DecidableEq, Repr

/-- How a frame came through the MAC merge sublayer of a port with `PORT_PREEMPT.EN` = 1 (R177, Table 6-7): whole, reassembled from so many continuation fragments, failed in reassembly after so many, an mPacket with an unknown SMD or a wrong fragment count, or a verify or respond mPacket. -/
inductive MmRx where
  | whole
  | assembled (frags : Nat)
  | assyErr (frags : Nat)
  | smdErr
  | verify
  | respond
  deriving DecidableEq, Repr

/-- The port modes and FEC of Table 8-4. -/
inductive LinkKind where
  | r25none | r25base | r25rs | r100rs | r10none | r10base | x1 | sgmii
  deriving DecidableEq, Repr

/-! ## The twin (Table 11-2) -/

/-- A heartbeat: the Orbit grid as its domain, period and ALIGN in 2^-32 ns. -/
structure TwHeart where
  claim : BitVec 16 := 0
  prov : BitVec 16 := 0
  orbit : BitVec 64 := 0
  mode : BitVec 4 := 0
  tstate : BitVec 3 := 0
  aligned : Bool := false
  fw : Word := 0
  dom : BitVec 3 := 0
  period : Nat := 0
  align : Int := 0
  revReq : Bool := false
  deriving DecidableEq, Repr

/-- A domain mirror: the rate word, the time at the Orbit start in 2^-48 ns, the epoch counter, the timing state, the selected slot, the candidate states by slot, and a history sample (mean rate word, valid) made in the Orbit. -/
structure TwMirror where
  dom : Fin 8
  rate : BitVec 48
  time : Nat
  epoch : BitVec 32
  tstate : BitVec 3
  sel : Option (Fin 16)
  cands : List (BitVec 3)
  hist : Option (Int × Bool)
  deriving DecidableEq, Repr

/-- An output record: rising edges as (pin, time of the pin's domain in 2^-16 ns); Announces sent as (domain, port, content); Syncs sent as (domain, port, originTimestamp in ns, and the receiver's own domain time in ns at the same instant, as its timing exchange places it: 0 as sent). -/
structure TwOutput where
  edges : List (Fin 8 × Int) := []
  anns : List (Fin 8 × Fin 64 × PtpAnn) := []
  syncs : List (Fin 8 × Fin 64 × Int × Int) := []
  deriving DecidableEq, Repr

/-- A record of the twin link. A Comet mirror lists (function, `SEQ`); a timing exchange the sender's transmit and last receive timestamps by domain, in 2^-16 ns. -/
inductive TwinRec where
  | heart (h : TwHeart)
  | mirror (m : TwMirror)
  | comet (l : List (Nat × Nat))
  | output (o : TwOutput)
  | timing (tx rx : List Int)
  deriving DecidableEq, Repr

/-! ## BOOT and faults -/

/-- What BIST tests and repairs (Table 2-4): a pool bank (16 is the spare), an octet's egress memory, an instruction memory row, an engine's spare row, a fabric path (64 is the spare), a TDC channel (74 to 83 are spares). -/
inductive BistUnit where
  | bank (octet : Fin 8) (b : Fin 17)
  | egress (octet : Fin 8)
  | row (eng : Fin 9) (r : Fin 512)
  | spareRow (eng : Fin 9) (r : Fin 8)
  | path (j : Fin 65)
  | tdc (c : Fin 84)
  deriving DecidableEq, Repr

/-- What a pass through BOOT finds (R52, R53): the ROM check and the RAM test, the factory repairs of the fuses as words of Table 2-6, the units that fail in this BOOT's tests in the order found, the ns of TIME from the end of step 1 to the end of BOOT where this BOOT starts TIME, and of the TDC channels named the 512 counts that their collection gave and the lap in ps (R269): of a channel not named they are a free value that passes. -/
structure BootResult where
  romOk : Bool
  ramOk : Bool
  fuses : List Word
  fails : List BistUnit
  ns : Nat
  tdc : List (Fin 84 × List Nat × Nat) := []
  deriving DecidableEq, Repr

/-- An ECC error (R68, R161): a single bit, corrected in place; an uncorrectable error in a table or memory; or one met by engine `e` at its word `addr`, at a fetch or at an LD. -/
inductive EccKind where
  | corrected
  | table
  | engine (e : Fin 9)
  deriving DecidableEq, Repr

/-! ## The bus -/

/-- A TAP instruction (R39). -/
inductive TapIr where
  | boundary
  | bypass
  | idcode
  | other (ir : Nat)
  deriving DecidableEq, Repr

/-- What lets or holds back interrupt messages (R419): a vector's mask, the function mask, Bus Master Enable, MSI-X Enable. -/
inductive MsixOp where
  | vector (k : Fin 64) (masked : Bool)
  | function (masked : Bool)
  | busMaster (en : Bool)
  | enable (en : Bool)
  deriving DecidableEq, Repr

end Sys2Proof
end

