-- ==== Sys2Proof/Syntax.lean ====
section
/-! DEFINITION. The commands of the block: one constructor per row of spec/opcode_table.json, in its order, with the row's operands. Commands that the device performs at an instant of its own clocks carry only what tells one such event from another; commands from outside carry what the sender sends. -/

namespace Sys2Proof

/-- The commands (spec/opcode_table.json). -/
inductive Instr where
  /-- POWER_ON (R44): VDD_CORE rises through the monitor release level after having been below retention; everything is reset and the device enters STRAP. -/
  | powerOn (straps : BitVec 11) (vtio33 : Bool)
  /-- RESET_N (R44): A low pulse of at least 100 ns on RESET_N resets everything, as at power-on, and the device enters STRAP at its release. -/
  | resetN (lowNs : Nat) (straps : BitVec 11) (vtio33 : Bool)
  /-- REFCLK_EXCURSION (R48): Any excursion of REFCLK from its limits, including a missing edge, restarts the 10 ms qualification count. -/
  | refclkExcursion
  /-- REFCLK_QUALIFIED (R48): REFCLK has been within limits for 10 ms with valid straps, so the device leaves STRAP for BOOT. -/
  | refclkQualified
  /-- BOOT_COMPLETE (R52): BOOT ends and the mode becomes DOCK, or HALT on a fatal result. -/
  | bootComplete (r : BootResult)
  /-- GLB_RESET_WRITE (R44): A write of GLB_RESET.WARM with the right key starts a warm reset; a wrong key is counted in BADKEY. -/
  | glbResetWrite (v : Word)
  /-- WARM_RESET (R44): A warm reset resets all logic except the kept state and enters BOOT. -/
  | warmReset (k : Fin 3)
  /-- PERST_N (R44): PERST_N low resets only the PCIe endpoint and its configuration space. -/
  | perstN
  /-- BROWN_OUT_TRIP (R45): VDD_CORE falls through 0.68 V and stays above 0.60 V; the device enters RECOVER or acts per mode. -/
  | brownOutTrip (step1 : Option Nat)
  /-- BROWN_OUT_RELEASE (R69): The monitor releases at 0.70 V and recovery, BOOT, STRAP or a paused erase continues. -/
  | brownOutRelease
  /-- REFWARM_CHANGE (R35): A level of REFWARM stable for 1 ms is accepted, with CFG3 = 1. -/
  | refwarmChange (level : Bool)
  /-- REFCLK_LOST (R51): Four missing REFCLK periods after STRAP: the PLL holds, servo inputs are gated and domains move to holdover or FREE. -/
  | refclkLost
  /-- REFCLK_RETURN (R51): REFCLK within limits for 10 ms again: the PLL relocks without a phase step and candidates requalify. -/
  | refclkReturn
  /-- THERMAL_ALARM (R42): A die sensor reaches 100 °C and the thermal alarm is raised. -/
  | thermalAlarm (k : Fin 9) (t : Int)
  /-- THERMAL_ALARM_CLEAR (R355): Every sensor reads below 95 °C, so the alarm clears and burst granting resumes. -/
  | thermalAlarmClear (ts : List Int)
  /-- THERMAL_TRIP (R42): A die sensor reaches 112 °C and the device enters HALT. -/
  | thermalTrip (k : Fin 9) (t : Int)
  /-- WATCHDOG_EXPIRY (R68): The management-core watchdog expires after 100 ms without service and the device enters RECOVER. -/
  | watchdogExpiry
  /-- ECC_ERROR (R68): ECC detects an error in a table or memory; a single-bit error is corrected and an uncorrectable one enters RECOVER. -/
  | eccError (k : EccKind)
  /-- RECOVERY_COMPLETE (R69): Recovery ends and the mode becomes DOCK or TSTATE, or HALT if a check fails. -/
  | recoveryComplete (ok : Bool)
  /-- RECOVER_TIMEOUT (R69): RECOVER has not completed within 1 s and the device enters HALT with HALT_CAUSE 5. -/
  | recoverTimeout
  /-- PLL_UNLOCK (R339): A PLL other than the timebase PLL loses lock, holds its control value and sets CLK_STAT.UNLOCK. -/
  | pllUnlock (k : Fin 12)
  /-- PLL_RELOCK (R339): The PLL relocks without a frequency step. -/
  | pllRelock (k : Fin 12)
  /-- MB_DOORBELL (R376): A doorbell write posts the request in the partner's buffer to the firmware. -/
  | mbDoorbell (p : Fin 2) (v : Word)
  /-- MB_RSP_ACK (R376): A write of MB_RSP_ACK frees the response buffer. -/
  | mbRspAck (p : Fin 2) (v : Word)
  /-- I2C_RESET_WORD (R378): Writing 0x5A to I²C address 0x0410 starts a warm reset without the token. -/
  | i2cResetWord (v : Word)
  /-- AGENT_FRAME (R379): An in-band agent frame is checked by ICV and nonce and served as a mailbox message. -/
  | agentFrame (src : BitVec 48) (nonce : Word) (words : List Word) (icv : List Byte)
  /-- RELAY_MESSAGE (R380): A message with RELAY set arrives at the twin and is served there as from partner 2. -/
  | relayMessage (words : List Word)
  /-- RELAY_TIMEOUT (R365): A relayed message finds no answer within 100 ms and fails with UNREACHABLE. -/
  | relayTimeout (p : Fin 4)
  /-- TRANSACTION_APPLY (R366): The committed changes take effect together at the first Orbit start at least 2 µs after staging. -/
  | transactionApply
  /-- STATUS (R373): Returns mode, firmware, Orbit number, token, alarms, temperature and event head. -/
  | status (m : MbCmd)
  /-- EVENT_READ (R373): Returns event log entries from a given index. -/
  | eventRead (m : MbCmd)
  /-- JOURNAL_READ (R367): Returns the status of a journalled transaction. -/
  | journalRead (m : MbCmd)
  /-- PTP_STATUS (R373): Returns the port states and parent data of one domain's PTP instance. -/
  | ptpStatus (m : MbCmd)
  /-- ATTEST (R383): Returns an HMAC under the device key over a challenge, the die tag and GLB_FW. -/
  | attest (m : MbCmd)
  /-- TOKEN_GIVE (R360): Passes the ownership token to a named partner. -/
  | tokenGive (m : MbCmd)
  /-- TOKEN_RELEASE (R360): TOKEN_GIVE with its release flag frees the token. -/
  | tokenRelease (m : MbCmd)
  /-- TOKEN_TAKE (R360): Gives the token to the caller if free, or to the board controller with force. -/
  | tokenTake (m : MbCmd)
  /-- START (R63): Takes the device from DOCK to FREE. -/
  | startCmd (m : MbCmd)
  /-- DOCK (R63): Takes the device from a forwarding mode to DOCK, aborting proving and clearing LOCKED_SEEN. -/
  | dockCmd (m : MbCmd)
  /-- RESET (R370): Mailbox command that starts a warm reset 1 ms after its response. -/
  | resetCmd (m : MbCmd)
  /-- HALT (R370): Mailbox command that enters HALT with HALT_CAUSE 7. -/
  | haltCmd (m : MbCmd)
  /-- PROVE (R328): Starts a proving run with the given plan. -/
  | prove (m : MbCmd)
  /-- PROVE_ABORT (R333): PROVE with its abort flag aborts the run in progress. -/
  | proveAbort (m : MbCmd)
  /-- OPEN_DEBUG (R385): Accepted under R384, sets SEC_STAT.OPEN and starts the erase that leads to OPEN. -/
  | openDebug (m : MbCmd)
  /-- OPEN_ERASE_COMPLETE (R385): The erase completes, ERASED is set and the mode becomes OPEN unless HALT stands. -/
  | openEraseComplete
  /-- CAL_RUN (R261): Marks the named TDC channels pending. -/
  | calRun (m : MbCmd)
  /-- REF_FORCE (R285): Forces selection of a named qualified slot. -/
  | refForce (m : MbCmd)
  /-- REF_FORCE_RELEASE (R285): REF_FORCE with its release option ends a force. -/
  | refForceRelease (m : MbCmd)
  /-- REF_CLEAR (R279): Returns named disqualified candidates to QUALIFYING and clears SUSPECT. -/
  | refClear (m : MbCmd)
  /-- POWER_SET (R371): Writes clock and power register items. -/
  | powerSet (m : MbCmd)
  /-- POWER_SET_WAKE (R352): POWER_SET with its wake bit wakes the device from P3. -/
  | powerSetWake (m : MbCmd)
  /-- COUNTER_SET (R373): Configures the host dump ring, period, groups and user window. -/
  | counterSet (m : MbCmd)
  /-- REPAIR_RESTORE (R58): Restores saved field repairs into the repair map in DOCK. -/
  | repairRestore (m : MbCmd)
  /-- CAL_RESTORE (R271): Restores saved TDC bin tables in DOCK. -/
  | calRestore (m : MbCmd)
  /-- KEY_LOAD (R382): Loads a 256-bit key into a key slot. -/
  | keyLoad (m : MbCmd)
  /-- KEY_ERASE (R382): Erases a key slot and its bindings. -/
  | keyErase (m : MbCmd)
  /-- KEY_BIND (R382): Binds an SPP and keyID to a key slot. -/
  | keyBind (m : MbCmd)
  /-- KEY_UNBIND (R382): Removes a binding. -/
  | keyUnbind (m : MbCmd)
  /-- AGENT_SET (R379): Enables or disables the in-band agent on a port with a key slot. -/
  | agentSet (m : MbCmd)
  /-- FABRIC_SET (R84): Writes fabric and admission register items, refusing over-committed reserves. -/
  | fabricSet (m : MbCmd)
  /-- SHAPER_SET (R371): Writes port identification, shaper and gate register items. -/
  | shaperSet (m : MbCmd)
  /-- STREAM_EDIT_WRITE (R374): Stages an identification insert or a write of a context, group or sequence function. -/
  | streamEditWrite (m : MbCmd)
  /-- STREAM_EDIT_DELETE (R374): Stages a delete of an identification key or an indexed object. -/
  | streamEditDelete (m : MbCmd)
  /-- STREAM_COMMIT (R133): Commits the staged stream changes to take effect together. -/
  | streamCommit (m : MbCmd)
  /-- ORBIT_SET (R143): Sets the orbit domain, period and ALIGN in DOCK. -/
  | orbitSet (m : MbCmd)
  /-- ORBIT_LOAD (R375): Writes a chunk of a program into an engine's inactive bank and checks the image. -/
  | orbitLoad (m : MbCmd)
  /-- ORBIT_SWAP (R153): Requests a bank swap for the named engines. -/
  | orbitSwap (m : MbCmd)
  /-- GATE_LIST_SET (R184): Gives a port a gate list that the firmware compiles into its engine program. -/
  | gateListSet (m : MbCmd)
  /-- GATE_LIST_LOAD (R184): The firmware finishes loading the compiled program and times the swap for the operative start. -/
  | gateListLoad
  /-- PTP_SET (R216): Writes PTP register items and data-set items. -/
  | ptpSet (m : MbCmd)
  /-- REF_SET (R276): Writes reference selection register items. -/
  | refSet (m : MbCmd)
  /-- DOMAIN_ADJUST_OFFSET (R373): Submits an offset δ to a domain under R195. -/
  | domainAdjustOffset (m : MbCmd)
  /-- DOMAIN_ADJUST_SET_TIME (R373): Submits the difference between a given time and the domain's time under R195. -/
  | domainAdjustSetTime (m : MbCmd)
  /-- DOMAIN_ADJUST_RATE (R193): Writes a domain's rate word while its loop is open. -/
  | domainAdjustRate (m : MbCmd)
  /-- DOMAIN_LOOP_OPEN (R295): Opens a domain's loop: the PLL stops, the domain becomes FREE and selection stops. -/
  | domainLoopOpen (m : MbCmd)
  /-- DOMAIN_LOOP_CLOSE (R295): Closes a domain's loop and resumes selection from FREE. -/
  | domainLoopClose (m : MbCmd)
  /-- TIMEPIN_SET (R209): Writes TOUT and TIN configuration items. -/
  | timepinSet (m : MbCmd)
  /-- TWIN_SET (R308): Writes twin and claim filter configuration. -/
  | twinSet (m : MbCmd)
  /-- PROVE_SET (R371): Writes proving configuration, schedule, expectations and templates. -/
  | proveSet (m : MbCmd)
  /-- ORBIT_START (R6): An Orbit starts at its grid point; the Orbit number increases by one. -/
  | orbitStart
  /-- LIST_SEAL (R145): The action list for the next Orbit is sealed 64 ns before it starts. -/
  | listSeal
  /-- RUN_OVERRUN (R146): A run uses its budget without END; its actions are discarded and registers restored. -/
  | runOverrun (e : Fin 9)
  /-- ENG_SWAP_REQ (R153): A write of ENG_SWAP.REQ requests a swap for the named engines. -/
  | engSwapReq (v : Word)
  /-- ENG_FAULT_CLEAR (R160): Writing 1 to ENG_STAT.FAULT clears it and lets runs resume. -/
  | engFaultClear (e : Fin 9)
  /-- NOP (R157): Does nothing. -/
  | nop (e : Fin 9) (w : PlainArgs)
  /-- END (R157): Ends the run and makes its PUT writes visible. -/
  | endRun (e : Fin 9) (w : PlainArgs)
  /-- ADD (R157): g[GD] = a + b. -/
  | add (e : Fin 9) (w : AluArgs)
  /-- SUB (R157): g[GD] = a − b. -/
  | sub (e : Fin 9) (w : AluArgs)
  /-- AND (R157): g[GD] = a AND b. -/
  | andOp (e : Fin 9) (w : AluArgs)
  /-- OR (R157): g[GD] = a OR b. -/
  | orOp (e : Fin 9) (w : AluArgs)
  /-- XOR (R157): g[GD] = a XOR b. -/
  | xorOp (e : Fin 9) (w : AluArgs)
  /-- SHL (R157): g[GD] = a shifted left by b[4:0]. -/
  | shl (e : Fin 9) (w : AluArgs)
  /-- SHR (R157): g[GD] = a shifted right logically by b[4:0]. -/
  | shr (e : Fin 9) (w : AluArgs)
  /-- SAR (R157): g[GD] = a shifted right arithmetically by b[4:0]. -/
  | sar (e : Fin 9) (w : AluArgs)
  /-- MUL (R157): g[GD] = low 32 bits of a × b, in 4 cycles. -/
  | mul (e : Fin 9) (w : AluArgs)
  /-- MINU (R157): g[GD] = unsigned minimum of a and b. -/
  | minu (e : Fin 9) (w : AluArgs)
  /-- MAXU (R157): g[GD] = unsigned maximum of a and b. -/
  | maxu (e : Fin 9) (w : AluArgs)
  /-- MOVI (R157): g[GD] = IMM. -/
  | movi (e : Fin 9) (w : MoviArgs)
  /-- JMP (R157): Jumps to TGT always. -/
  | jmp (e : Fin 9) (w : BrArgs)
  /-- BEQ (R157): Jumps when a = b. -/
  | beq (e : Fin 9) (w : BrArgs)
  /-- BNE (R157): Jumps when a ≠ b. -/
  | bne (e : Fin 9) (w : BrArgs)
  /-- BLTU (R157): Jumps when a < b unsigned. -/
  | bltu (e : Fin 9) (w : BrArgs)
  /-- BGEU (R157): Jumps when a ≥ b unsigned. -/
  | bgeu (e : Fin 9) (w : BrArgs)
  /-- BLTS (R157): Jumps when a < b signed. -/
  | blts (e : Fin 9) (w : BrArgs)
  /-- BGES (R157): Jumps when a ≥ b signed. -/
  | bges (e : Fin 9) (w : BrArgs)
  /-- BANY (R157): Jumps when a AND b is not 0. -/
  | bany (e : Fin 9) (w : BrArgs)
  /-- BNONE (R157): Jumps when a AND b is 0. -/
  | bnone (e : Fin 9) (w : BrArgs)
  /-- DBNZ (R157): Decrements g[GA] and jumps if the result is not 0. -/
  | dbnz (e : Fin 9) (w : DbnzArgs)
  /-- CALL (R157): Pushes the return address and jumps to TGT. -/
  | call (e : Fin 9) (w : CallArgs)
  /-- RET (R157): Pops an address and jumps to it. -/
  | ret (e : Fin 9) (w : PlainArgs)
  /-- LD_L (R157): Loads bits [31:0] of a bank word into g[GD]. -/
  | ldL (e : Fin 9) (w : LdArgs)
  /-- LD_H (R157): Loads bits [63:32] of a bank word into g[GD]. -/
  | ldH (e : Fin 9) (w : LdArgs)
  /-- GET (R157): Loads the value selected by SEL into g[GD]. -/
  | get (e : Fin 9) (w : GetArgs)
  /-- PUT (R157): Sets ENG_OUT[SEL], visible when the run completes. -/
  | put (e : Fin 9) (w : PutArgs)
  /-- EVT (R157): Writes an event-log entry and optionally raises the engine interrupt. -/
  | evt (e : Fin 9) (w : EvtArgs)
  /-- GATE (R148): Issues a GATE action for a port of the engine's octet. -/
  | gate (e : Fin 9) (w : GateArgs)
  /-- SGATE (R148): Issues an SGATE action for a stream gate. -/
  | sgate (e : Fin 9) (w : SgateArgs)
  /-- LAUNCH (R148): Issues a LAUNCH action for an egress queue. -/
  | launch (e : Fin 9) (w : LaunchArgs)
  /-- INJ (R148): Issues an INJ action for a proving template on a port. -/
  | inj (e : Fin 9) (w : InjArgs)
  /-- TOUT (R158): Issues a TOUT edge action with fine placement. -/
  | tout (e : Fin 9) (w : ToutArgs)
  /-- CAPT (R148): Issues a CAPT action for a domain and capture slot. -/
  | capt (e : Fin 9) (w : CaptArgs)
  /-- MARK (R148): Issues a MARK action for a counter group. -/
  | mark (e : Fin 9) (w : MarkArgs)
  /-- RSWAP (R148): Issues an RSWAP action requesting the reservation bank swap. -/
  | rswap (e : Fin 9) (w : RswapArgs)
  /-- GATE_EFFECT (R148): A port's gate states and hold change at T. -/
  | gateEffect (e : Fin 9)
  /-- LAUNCH_EFFECT (R171): The head frame of a queue becomes due at T. -/
  | launchEffect (e : Fin 9)
  /-- INJ_EFFECT (R330): A proving frame becomes due at T, or is suppressed or held. -/
  | injEffect (e : Fin 9)
  /-- SGATE_EFFECT (R121): A stream gate opens or closes at T. -/
  | sgateEffect (e : Fin 9)
  /-- TOUT_EFFECT (R149): A TOUT pin takes its level at T, unless too close to the previous edge. -/
  | toutEffect (e : Fin 9)
  /-- CAPT_EFFECT (R148): A domain's time at T is written into a capture slot. -/
  | captEffect (e : Fin 9)
  /-- MARK_EFFECT (R400): The counter hub latches the group's selectors at T. -/
  | markEffect (e : Fin 9)
  /-- RSWAP_EFFECT (R148): Acts as a write of FAB_CTRL.RSV_SWAP at T. -/
  | rswapEffect (e : Fin 9)
  /-- FABRIC_SLOT (R74): The fabric advances one slot of 31.25 ns. -/
  | fabricSlot (errs : List (Fin 64 × BitVec 64))
  /-- FULL_BIT_BROADCAST (R88): At the end of slot 63 intermediates and egresses compute and broadcast their full bits. -/
  | fullBitBroadcast
  /-- RSV_SWAP_REQUEST (R99): A write of FAB_CTRL.RSV_SWAP requests the reservation bank swap. -/
  | rsvSwapRequest
  /-- RSV_BANK_SWAP (R99): At the first round start after the next Orbit start the inactive reservation bank becomes active and is checked. -/
  | rsvBankSwap
  /-- FRAME_RECEIVE (R111): A received frame passes the ingress stages in order. -/
  | frameReceive (p : Fin 64) (how : MmRx) (r : RxFrame) (ovf : Bool)
  /-- PFC_REPEAT (R100): While XOFF stands the PFC frame is repeated every QUANTA / 2 quanta. -/
  | pfcRepeat (p : Fin 64) (c : Fin 8)
  /-- PFC_RECEIVE (R101): A received PFC or pause frame stops the affected egress queues. -/
  | pfcReceive (p : Fin 64) (pause : Bool) (stop : BitVec 8) (resume : BitVec 8)
  /-- PFC_TIMER_EXPIRE (R101): A received pause time runs out and the queues resume. -/
  | pfcTimerExpire (p : Fin 64) (c : Fin 8)
  /-- CELL_ARRIVE (R91): A cell reaches the egress and is reassembled in order. -/
  | cellArrive (o : Fin 64) (err : BitVec 64)
  /-- RESEQ_GAP_TIMEOUT (R91): The gap timer runs out after 16 µs and the frames of the gap are discarded. -/
  | reseqGapTimeout (p : Fin 64) (mc : Bool) (src : Fin 64) (c : Fin 8)
  /-- FRAME_START_DECISION (R165): The egress MAC chooses a frame to start under the gates, fit test and shapers. -/
  | frameStartDecision (p : Fin 64)
  /-- TX_END (R165): A transmission or fragment ends and the next decision is made. -/
  | txEnd (p : Fin 64)
  /-- CT_UNDERRUN (R97): A cut-through frame whose next byte has not arrived is ended with an inverted FCS. -/
  | ctUnderrun (p : Fin 64)
  /-- MM_VERIFY_TIMEOUT (R177): A preemption verify time runs out and a further attempt is made or verification fails. -/
  | mmVerifyTimeout (p : Fin 64)
  /-- LINK_DOWN (R107): A port goes down; frames in flight are lost and queues are flushed or held. -/
  | linkDown (p : Fin 64) (rx : Bool)
  /-- LINK_UP (R102): A port comes up; pause timers clear, XOFF is re-evaluated and held frames launch. -/
  | linkUp (p : Fin 64) (k : LinkKind) (deskew : Nat)
  /-- LANE_MODE_TRY (R381): Under ROM defaults a lane moves to its next mode after 1 s without link. -/
  | laneModeTry (p : Fin 64)
  /-- AGE_SCAN (R108): Every 1 ms held frames of down ports that exceed their age limit are discarded. -/
  | ageScan
  /-- RAW_TABLE_WRITE (R135): A raw write to an active stream table acts on the next frame and sets ST_STAT.RAW. -/
  | rawTableWrite (a : Nat) (v : Word)
  /-- HOST_LAUNCH_ARM (R174): A write of word 1 with ARM = 1 arms a disarmed host launch slot. -/
  | hostLaunchArm (p : Fin 64) (k : Fin 4) (v : Word)
  /-- HOST_LAUNCH_DISARM (R174): A write of word 1 with ARM = 0 disarms the slot. -/
  | hostLaunchDisarm (p : Fin 64) (k : Fin 4) (v : Word)
  /-- HOST_LAUNCH_FIRE (R175): At its time the slot makes the head frame due and sets DONE. -/
  | hostLaunchFire (p : Fin 64) (k : Fin 4)
  /-- DOM_RATE_LO_WRITE (R193): A write of DOM_RATE_LO is held. -/
  | domRateLoWrite (d : Fin 8) (v : Word)
  /-- DOM_RATE_HI_WRITE (R193): A write of DOM_RATE_HI applies the whole rate word at the next TIME edge. -/
  | domRateHiWrite (d : Fin 8) (v : Word)
  /-- DOM_STEPREQ_GO (R215): Writing GO submits the register δ to R195 while the loop is open. -/
  | domStepreqGo (d : Fin 8) (v : Word)
  /-- SLEW_END (R196): The slew remainder reaches 0 and the slew ends. -/
  | slewEnd (d : Fin 8)
  /-- TB_SNAP_REQUEST (R202): Writing TB_SNAP.SNAP requests a snapshot of all domains. -/
  | tbSnapRequest
  /-- TB_SNAP_LATCH (R202): The snapshot latches at one TIME edge and DONE is set. -/
  | tbSnapLatch
  /-- TRIGGER_ARM (R204): A write of word 1 with ARM = 1 arms a disarmed trigger slot. -/
  | triggerArm (k : Fin 16) (v : Word)
  /-- TRIGGER_DISARM (R204): A write of word 1 with ARM = 0 disarms the trigger slot. -/
  | triggerDisarm (k : Fin 16) (v : Word)
  /-- TRIGGER_FIRE (R203): An armed trigger fires at its time, drives its pin and sets DONE. -/
  | triggerFire (k : Fin 16)
  /-- TOUT_GENERATOR_EDGE (R205): A PPS, FREQ or ORBIT generator raises its pin. -/
  | toutGeneratorEdge (p : Fin 8)
  /-- TOUT_PULSE_END (R207): A pulse's high time ends on the step-free count. -/
  | toutPulseEnd (p : Fin 8)
  /-- TIN_EDGE (R212): A selected edge on a TIN pin is timestamped and queued. -/
  | tinEdge (p : Fin 8) (rise : Bool) (code : BitVec 12)
  /-- TIN_TRANSITION_SUPPRESSED (R254): A transition during the hold-off is ignored and counted. -/
  | tinTransitionSuppressed (p : Fin 8) (rise : Bool)
  /-- TIN_HOLDOFF_END (R254): The hold-off ends and the pin is armed again. -/
  | tinHoldoffEnd (p : Fin 8)
  /-- TIN_HEAD_POP (R212): Reading TIN_HEAD word 3 removes the head record. -/
  | tinHeadPop (p : Fin 8)
  /-- IVL_RES_READ (R273): Reading IVL_RES_LO latches the result and clears NEW. -/
  | ivlResRead (u : Fin 4)
  /-- IVL_CFG_WRITE (R273): Clearing IVL_CFG.EN drops unpaired edges. -/
  | ivlCfgWrite (u : Fin 4) (v : Word)
  /-- TDC_SCALE_PAIR (R251): A channel completes a one-period and two-period scaling pair. -/
  | tdcScalePair (c : Fin 84) (c1 : BitVec 12) (c2 : BitVec 12)
  /-- TRACKER_SAMPLE (R228): The link phase tracker measures every 1024th recovered-clock edge and refits. -/
  | trackerSample (p : Fin 64) (code : BitVec 12)
  /-- CAL_PENDING (R261): A channel becomes pending by temperature drift, BOOT grade or restore. -/
  | calPending (c : Fin 84) (t : Int)
  /-- CAL_RUN_START (R262): A calibration run starts on a group once the arbiter grants its burst. -/
  | calRunStart (g : Fin 10) (own : BitVec 8)
  /-- CAL_SHADOW_END (R264): The shadow phase ends, Δ is formed and the spare takes over. -/
  | calShadowEnd (g : Fin 10) (delta : BitVec 16)
  /-- CAL_COLLECT_END (R258): The collection of 2²⁰ samples ends. -/
  | calCollectEnd (g : Fin 10) (counts : List Nat) (moved : Bool)
  /-- CAL_COMPUTE_END (R260): The new table is formed and tested. -/
  | calComputeEnd (g : Fin 10) (own : BitVec 8)
  /-- CAL_VERIFY_END (R266): The verify phase ends; the table is accepted or rejected and the channel handed back. -/
  | calVerifyEnd (g : Fin 10) (mean : Int) (rms : Nat)
  /-- CAL_INPLACE_END (R267): An in-place collection ends and its table takes effect if it passes. -/
  | calInplaceEnd (g : Fin 10) (counts : List Nat) (moved : Bool)
  /-- PTP_FRAME_RECEIVE (R221): A PTP frame on a PTP port passes the claim filter, authentication and disposition. -/
  | ptpFrameReceive (p : Fin 64) (r : RxFrame) (ovf : Bool)
  /-- TC_ENTRY_EXPIRE (R236): A held two-step correction is discarded after 1 s. -/
  | tcEntryExpire (p : Fin 64)
  /-- PTP_MESSAGE_SEND (R222): The firmware originates a PTP message at its message interval. -/
  | ptpMessageSend (p : Fin 64) (d : Fin 8) (ty : BitVec 4)
  /-- PD_SETTLE_END (R238): SETTLE ends; the asymmetry is latched or an alarm raised and the gate released. -/
  | pdSettleEnd (p : Fin 64)
  /-- TSQ_HEAD_POP (R246): Reading word 4 of the transmit timestamp queue head removes the entry. -/
  | tsqHeadPop (p : Fin 64)
  /-- CANDIDATE_SIGNAL_LOST (R279): A candidate's signal is lost and it goes to NOSIGNAL. -/
  | candidateSignalLost (d : Fin 8) (k : Fin 16)
  /-- CANDIDATE_WTR_EXPIRE (R279): The wait-to-restore time runs out and the candidate becomes QUALIFIED. -/
  | candidateWtrExpire (d : Fin 8) (k : Fin 16)
  /-- REF_SELECT (R284): The firmware evaluates the selection events and selects a candidate. -/
  | refSelect (d : Fin 8) (ms : List RefMeas)
  /-- LOCK_ACHIEVED (R288): The lock criteria hold for LOCK_T and the domain enters LOCKED. -/
  | lockAchieved (d : Fin 8)
  /-- LOCK_LOST (R288): θ exceeds 4 × LOCK_PH for LOCK_T and the domain returns to ACQUIRE. -/
  | lockLost (d : Fin 8)
  /-- HISTORY_SAMPLE (R290): Every 4 s the mean rate word is recorded in the holdover history. -/
  | historySample
  /-- HO_SPEC_EXPIRE (R293): HO_SPEC runs out and the advertised class degrades. -/
  | hoSpecExpire (d : Fin 8)
  /-- REFCLK_OUT_OF_RANGE (R292): REFCLK leaves its limits against the selected candidate. -/
  | refclkOutOfRange
  /-- REFCLK_RANGE_RESTORE (R292): REFCLK has been within limits for DWIN and RANGE_NOW returns to 0. -/
  | refclkRangeRestore
  /-- TWIN_RECORD_RECEIVE (R311): A twin link record arrives. -/
  | twinRecordReceive (l : Fin 2) (code : BitVec 12) (r : TwinRec)
  /-- CLAIM_FRAME_RECEIVE (R312): A claim-pin frame arrives. -/
  | claimFrameReceive (b : BitVec 40)
  /-- CLAIM_PIN_LOSS (R37): No transition for 4 µs reports loss of the claim pins. -/
  | claimPinLoss
  /-- TWIN_JUDGE (R313): At offset 28 µs the unit judges whether its twin was heard. -/
  | twinJudge
  /-- TWIN_JOIN_TIMEOUT (R308): The join wait runs out and the unit becomes ACTIVE or an orphan Moon. -/
  | twinJoinTimeout (tie : Option Bool)
  /-- REVERT_HOLD_EXPIRE (R324): The revert hold runs out and the revert takes effect at the next Orbit start. -/
  | revertHoldExpire
  /-- ORPHAN_HOLD_EXPIRE (R327): An orphan Moon with no higher echo for ORPHAN_HOLD raises its claim. -/
  | orphanHoldExpire
  /-- TWIN_SLOT_EXPIRE (R316): The twin slot empties after CWIN without a claim. -/
  | twinSlotExpire
  /-- CLF_SLOT_EXPIRE (R315): A claim filter slot empties after WIN without refresh. -/
  | clfSlotExpire (g : Fin 8) (prv : Bool)
  /-- SEQ_RESET_TIMEOUT (R304): No frame accepted for RESET ms sets TAKEANY and counts RESETS. -/
  | seqResetTimeout (f : Fin 4096)
  /-- PROVING_SCHEDULE_DUE (R329): The scheduled proving run comes due at SOD. -/
  | provingScheduleDue
  /-- PROVING_SKIPPED (R329): A scheduled run that cannot start within 3600 s is skipped and logged. -/
  | provingSkipped
  /-- PROVING_STEP_END (R328): A proving step ends and is judged; the run moves on or ends. -/
  | provingStepEnd
  /-- CLAIM_STEP_TIMEOUT (R328): The CLAIM step waits 10 s for the twin's PROVING flag and fails. -/
  | claimStepTimeout
  /-- OCTET_P1_ENTER (R349): An idle octet enters P1. -/
  | octetP1Enter (o : Fin 8)
  /-- OCTET_P1_EXIT (R349): An octet leaves P1 on a frame, launch or tolerance change. -/
  | octetP1Exit (o : Fin 8)
  /-- P3_WAKE (R352): A wake event takes the device out of P3. -/
  | p3Wake (k : Fin 7)
  /-- POWER_EXIT_COMPLETE (R345): An exit from P1, P2 or P3 completes its latency. -/
  | powerExitComplete (o : Option (Fin 8))
  /-- ARBITER_GRANT (R354): The power arbiter grants a waiting burst that fits the cap. -/
  | arbiterGrant
  /-- LANE_TRAINING_FAIL (R354): A lane's training fails and its burst grant ends. -/
  | laneTrainingFail (l : Fin 64)
  /-- CLOCK_GATE_FORCE (R344): A block gives no acknowledgement within 256 MBUS cycles and its gate is forced. -/
  | clockGateForce (q : Fin 6) (a : Nat) (write : Bool)
  /-- LVF_CTRL_WRITE (R341): A write of LVF_CTRL EN or POINT starts an operating-point change, or is refused. -/
  | lvfCtrlWrite (v : Word)
  /-- LVF_ACK (R341): Writing LVF_ACK.ACK confirms the voltage and the frequency change proceeds. -/
  | lvfAck (v : Word)
  /-- CLKOBS_CFG_WRITE (R346): A change of CLKOBS_CFG holds the pin low before the new source appears. -/
  | clkobsCfgWrite (v : Word)
  /-- COUNTER_LOW_READ (R394): Reading a counter's lowest word latches its higher word and sticky bit. -/
  | counterLowRead (q : Fin 6) (a : Nat)
  /-- COUNTER_HIGH_WRITE (R395): A write of a counter's higher word is held. -/
  | counterHighWrite (a : Nat) (v : Word)
  /-- COUNTER_LOW_WRITE (R395): A write of a counter's lowest word sets the whole counter. -/
  | counterLowWrite (a : Nat) (v : Word)
  /-- HUB_DUMP_WRITE (R398): A latched dump is written into the host ring. -/
  | hubDumpWrite (ok : Bool)
  /-- SMP_ENABLE (R403): Setting SMP_CFG.EN enables sampling and seeds the registers. -/
  | smpEnable (v : Word)
  /-- GLB_IREARM_WRITE (R418): Writing GLB_IREARM resends the message of a vector whose line is 1. -/
  | glbIrearmWrite (hi : Bool) (v : Word)
  /-- MSIX_MASK_CHANGE (R419): Unmasking a vector or enabling bus mastering sends its pending message. -/
  | msixMaskChange (o : MsixOp)
  /-- PCI_POWER_STATE_CHANGE (R408): The function enters D3hot or returns to D0. -/
  | pciPowerStateChange (d3 : Bool)
  /-- MBE_CLR_WRITE (R416): Writing MBE_CLR.CLR empties the MBUS error log. -/
  | mbeClrWrite (v : Word)
  /-- GLB_RCV_READ (R71): Reading GLB_RCV clears BADKEY. -/
  | glbRcvRead
  /-- ENG_MAXCYC_READ (R163): Reading ENG_MAXCYC returns and clears the largest run cycle count. -/
  | engMaxcycRead (e : Fin 9)
  /-- PRV_LOGPTR_READ (R334): Reading PRV_LOGPTR returns and clears the lost sink-log count. -/
  | prvLogptrRead
  /-- LATCHING_READ (R214): Reading the first word of a multi-word time or count latches its other words. -/
  | latchingRead (a : Nat)
  /-- REGISTER_WRITE (R13): A write to a register field that has no row of its own. -/
  | registerWrite (q : Fin 8) (a : Nat) (be : BitVec 4) (v : Word)
  /-- PERST_N_RELEASE (R39): PERST_N rises, the PCIe endpoint leaves reset and link training starts at the later of this release and the end of STRAP. -/
  | perstNRelease
  /-- TAP_INSTRUCTION (R39): A JTAG TAP instruction (boundary scan, BYPASS, IDCODE, or a debug instruction that acts only in OPEN) is shifted in and executed. -/
  | tapInstruction (ir : TapIr)
  /-- MBUS_READ (R416): A read of a gated memory window, of a region outside the global block during BOOT, or of a word with an uncorrectable ECC error gets the error response 0xFFFF_FFFF and is logged as an MBUS error. -/
  | mbusRead (q : Fin 8) (a : Nat) (ecc : Bool)
  /-- RELAY_RESPONSE (R380): The response to a relayed message comes back over the twin link and is placed in the sender's response buffer. -/
  | relayResponse (p : Fin 4) (words : List Word)
  /-- CORE_CLOCK_RESTART (R341): The core PLL, changed to a new operating point, restarts the CORE clock tree within 20 µs, and LVF_STAT.CUR takes the new point. -/
  | coreClockRestart
  /-- TIMING_EXCHANGE_SEND (R311): The unit sends a twin-link timing exchange record with its transmit and receive timestamps, 64 times per second. -/
  | timingExchangeSend
  deriving DecidableEq, Repr

end Sys2Proof
end

