-- ==== Sys2Proof/Decode.lean ====
section
/-! DEFINITION. Words that spell commands. No row of spec/opcode_table.json gives bits, so no table word spells a command; the orbit engines' own 64-bit words (R156, Tables 5-7, 5-9 to 5-11) are decoded and encoded here. -/

namespace Sys2Proof

/-- The command that a word spells by the table's bits: none, since no row of the table gives bits. -/
def decodeTableWord (_nbits _w : Nat) : Option Instr := none

/-! ## The words of the orbit engines -/

/-- Bits [lo + n − 1 : lo] of an instruction word. -/
abbrev bitsAt (w : BitVec 64) (lo n : Nat) : BitVec n := w.extractLsb' lo n

/-- One bit of an instruction word. -/
abbrev bitAt (w : BitVec 64) (k : Nat) : Bool := w.getLsbD k

def decodePlain (w : BitVec 64) : PlainArgs := { rsv := bitsAt w 0 58 }
def decodeAluArgs (w : BitVec 64) : AluArgs :=
  { gd := bitsAt w 50 4, ga := bitsAt w 46 4, gb := bitsAt w 42 4, i := bitAt w 41, rsv := bitsAt w 32 9, imm := bitsAt w 0 32 }
def decodeBrArgs (w : BitVec 64) : BrArgs :=
  { ga := bitsAt w 50 4, gb := bitsAt w 46 4, i := bitAt w 45, rsv := bitsAt w 44 1, tgt := bitsAt w 32 12, imm := bitsAt w 0 32 }
def decodeMoviArgs (w : BitVec 64) : MoviArgs :=
  { rsv1 := bitsAt w 54 4, gd := bitsAt w 50 4, rsv2 := bitsAt w 32 18, imm := bitsAt w 0 32 }
def decodeDbnzArgs (w : BitVec 64) : DbnzArgs :=
  { rsv1 := bitsAt w 54 4, ga := bitsAt w 50 4, rsv2 := bitsAt w 44 6, tgt := bitsAt w 32 12, rsv3 := bitsAt w 0 32 }
def decodeCallArgs (w : BitVec 64) : CallArgs := { rsv1 := bitsAt w 44 14, tgt := bitsAt w 32 12, rsv2 := bitsAt w 0 32 }
def decodeLdArgs (w : BitVec 64) : LdArgs :=
  { rsv1 := bitsAt w 54 4, gd := bitsAt w 50 4, ga := bitsAt w 46 4, rsv2 := bitsAt w 12 33, disp := bitsAt w 0 12 }
def decodeGetArgs (w : BitVec 64) : GetArgs :=
  { rsv1 := bitsAt w 54 4, gd := bitsAt w 50 4, rsv2 := bitsAt w 8 42, sel := bitsAt w 0 8 }
def decodePutArgs (w : BitVec 64) : PutArgs :=
  { rsv1 := bitsAt w 54 4, ga := bitsAt w 50 4, rsv2 := bitsAt w 2 48, sel := bitsAt w 0 2 }
def decodeEvtArgs (w : BitVec 64) : EvtArgs := { rsv := bitsAt w 17 41, int := bitAt w 16, code := bitsAt w 0 16 }
def decodeGateArgs (w : BitVec 64) : GateArgs :=
  { go := bitsAt w 54 4, orr := bitAt w 53, off := bitsAt w 0 30, port := bitsAt w 47 6, state := bitsAt w 39 8, hold := bitsAt w 37 2, rsv := bitsAt w 30 7 }
def decodeSgateArgs (w : BitVec 64) : SgateArgs :=
  { go := bitsAt w 54 4, orr := bitAt w 53, off := bitsAt w 0 30, handle := bitsAt w 45 8, opn := bitAt w 44, rsv := bitsAt w 30 14 }
def decodeLaunchArgs (w : BitVec 64) : LaunchArgs :=
  { go := bitsAt w 54 4, orr := bitAt w 53, off := bitsAt w 0 30, port := bitsAt w 47 6, cls := bitsAt w 44 3, rsv := bitsAt w 30 14 }
def decodeInjArgs (w : BitVec 64) : InjArgs :=
  { go := bitsAt w 54 4, orr := bitAt w 53, off := bitsAt w 0 30, port := bitsAt w 47 6, tmpl := bitsAt w 39 8, rsv := bitsAt w 30 9 }
def decodeToutArgs (w : BitVec 64) : ToutArgs :=
  { go := bitsAt w 54 4, orr := bitAt w 53, off := bitsAt w 0 30, pin := bitsAt w 50 3, lvl := bitAt w 49, fine := bitsAt w 43 6, fr := bitAt w 42, rsv := bitsAt w 30 12 }
def decodeCaptArgs (w : BitVec 64) : CaptArgs :=
  { go := bitsAt w 54 4, orr := bitAt w 53, off := bitsAt w 0 30, dom := bitsAt w 50 3, slot := bitsAt w 47 3, rsv := bitsAt w 30 17 }
def decodeMarkArgs (w : BitVec 64) : MarkArgs :=
  { go := bitsAt w 54 4, orr := bitAt w 53, off := bitsAt w 0 30, group := bitsAt w 45 8, rsv := bitsAt w 30 15 }
def decodeRswapArgs (w : BitVec 64) : RswapArgs :=
  { go := bitsAt w 54 4, orr := bitAt w 53, off := bitsAt w 0 30, rsv := bitsAt w 30 23 }

/-- An ALU word by its function (Table 5-9); the other functions are illegal, which faults with code 2. -/
def decodeAlu (e : Fin 9) (w : BitVec 64) : Except Nat Instr :=
  match (bitsAt w 54 4).toNat with
  | 0 => .ok (.add e (decodeAluArgs w))
  | 1 => .ok (.sub e (decodeAluArgs w))
  | 2 => .ok (.andOp e (decodeAluArgs w))
  | 3 => .ok (.orOp e (decodeAluArgs w))
  | 4 => .ok (.xorOp e (decodeAluArgs w))
  | 5 => .ok (.shl e (decodeAluArgs w))
  | 6 => .ok (.shr e (decodeAluArgs w))
  | 7 => .ok (.sar e (decodeAluArgs w))
  | 8 => .ok (.mul e (decodeAluArgs w))
  | 9 => .ok (.minu e (decodeAluArgs w))
  | 10 => .ok (.maxu e (decodeAluArgs w))
  | _ => .error 2

/-- A BR word by its condition (Table 5-10); the other conditions are illegal. -/
def decodeBr (e : Fin 9) (w : BitVec 64) : Except Nat Instr :=
  match (bitsAt w 54 4).toNat with
  | 0 => .ok (.jmp e (decodeBrArgs w))
  | 1 => .ok (.beq e (decodeBrArgs w))
  | 2 => .ok (.bne e (decodeBrArgs w))
  | 3 => .ok (.bltu e (decodeBrArgs w))
  | 4 => .ok (.bgeu e (decodeBrArgs w))
  | 5 => .ok (.blts e (decodeBrArgs w))
  | 6 => .ok (.bges e (decodeBrArgs w))
  | 7 => .ok (.bany e (decodeBrArgs w))
  | 8 => .ok (.bnone e (decodeBrArgs w))
  | _ => .error 2

/-- What engine e reads from an instruction word (R156): the instruction, whose reserved bits its meaning judges, or the fault code of a word that is none (Table 5-13). -/
def decodeEngine (e : Fin 9) (w : BitVec 64) : Except Nat Instr :=
  match (bitsAt w 58 6).toNat with
  | 0x00 => .ok (.nop e (decodePlain w))
  | 0x01 => .ok (.endRun e (decodePlain w))
  | 0x04 => decodeAlu e w
  | 0x05 => .ok (.movi e (decodeMoviArgs w))
  | 0x08 => decodeBr e w
  | 0x09 => .ok (.dbnz e (decodeDbnzArgs w))
  | 0x0A => .ok (.call e (decodeCallArgs w))
  | 0x0B => .ok (.ret e (decodePlain w))
  | 0x0C => .ok (if bitAt w 45 then .ldH e (decodeLdArgs w) else .ldL e (decodeLdArgs w))
  | 0x10 => .ok (.get e (decodeGetArgs w))
  | 0x11 => .ok (.put e (decodePutArgs w))
  | 0x12 => .ok (.evt e (decodeEvtArgs w))
  | 0x20 => .ok (.gate e (decodeGateArgs w))
  | 0x21 => .ok (.sgate e (decodeSgateArgs w))
  | 0x22 => .ok (.launch e (decodeLaunchArgs w))
  | 0x23 => .ok (.inj e (decodeInjArgs w))
  | 0x24 => .ok (.tout e (decodeToutArgs w))
  | 0x25 => .ok (.capt e (decodeCaptArgs w))
  | 0x26 => .ok (.mark e (decodeMarkArgs w))
  | 0x27 => .ok (.rswap e (decodeRswapArgs w))
  | _ => .error 1

def encodePlain (op : BitVec 6) (a : PlainArgs) : BitVec 64 := op ++ a.rsv
def encodeAlu (fn : BitVec 4) (a : AluArgs) : BitVec 64 :=
  4#6 ++ fn ++ a.gd ++ a.ga ++ a.gb ++ BitVec.ofBool a.i ++ a.rsv ++ a.imm
def encodeBr (cc : BitVec 4) (a : BrArgs) : BitVec 64 :=
  8#6 ++ cc ++ a.ga ++ a.gb ++ BitVec.ofBool a.i ++ a.rsv ++ a.tgt ++ a.imm
def encodeLd (h : Bool) (a : LdArgs) : BitVec 64 :=
  0x0C#6 ++ a.rsv1 ++ a.gd ++ a.ga ++ BitVec.ofBool h ++ a.rsv2 ++ a.disp
/-- The Action format: OP, GO, OR, PARAM, OFF. -/
def encodeAct (op : BitVec 6) (go : BitVec 4) (orr : Bool) (param : BitVec 23) (off : BitVec 30) : BitVec 64 :=
  op ++ go ++ BitVec.ofBool orr ++ param ++ off

/-- The engine and the word of an engine instruction (R156); no other command has a word. -/
def encodeEngine : Instr → Option (Fin 9 × BitVec 64)
  | .nop e a => some (e, encodePlain 0 a)
  | .endRun e a => some (e, encodePlain 1 a)
  | .ret e a => some (e, encodePlain 0x0B a)
  | .add e a => some (e, encodeAlu 0 a)
  | .sub e a => some (e, encodeAlu 1 a)
  | .andOp e a => some (e, encodeAlu 2 a)
  | .orOp e a => some (e, encodeAlu 3 a)
  | .xorOp e a => some (e, encodeAlu 4 a)
  | .shl e a => some (e, encodeAlu 5 a)
  | .shr e a => some (e, encodeAlu 6 a)
  | .sar e a => some (e, encodeAlu 7 a)
  | .mul e a => some (e, encodeAlu 8 a)
  | .minu e a => some (e, encodeAlu 9 a)
  | .maxu e a => some (e, encodeAlu 10 a)
  | .jmp e a => some (e, encodeBr 0 a)
  | .beq e a => some (e, encodeBr 1 a)
  | .bne e a => some (e, encodeBr 2 a)
  | .bltu e a => some (e, encodeBr 3 a)
  | .bgeu e a => some (e, encodeBr 4 a)
  | .blts e a => some (e, encodeBr 5 a)
  | .bges e a => some (e, encodeBr 6 a)
  | .bany e a => some (e, encodeBr 7 a)
  | .bnone e a => some (e, encodeBr 8 a)
  | .movi e a => some (e, 5#6 ++ a.rsv1 ++ a.gd ++ a.rsv2 ++ a.imm)
  | .dbnz e a => some (e, 9#6 ++ a.rsv1 ++ a.ga ++ a.rsv2 ++ a.tgt ++ a.rsv3)
  | .call e a => some (e, 0x0A#6 ++ a.rsv1 ++ a.tgt ++ a.rsv2)
  | .ldL e a => some (e, encodeLd false a)
  | .ldH e a => some (e, encodeLd true a)
  | .get e a => some (e, 0x10#6 ++ a.rsv1 ++ a.gd ++ a.rsv2 ++ a.sel)
  | .put e a => some (e, 0x11#6 ++ a.rsv1 ++ a.ga ++ a.rsv2 ++ a.sel)
  | .evt e a => some (e, 0x12#6 ++ a.rsv ++ BitVec.ofBool a.int ++ a.code)
  | .gate e a => some (e, encodeAct 0x20 a.go a.orr (a.port ++ a.state ++ a.hold ++ a.rsv) a.off)
  | .sgate e a => some (e, encodeAct 0x21 a.go a.orr (a.handle ++ BitVec.ofBool a.opn ++ a.rsv) a.off)
  | .launch e a => some (e, encodeAct 0x22 a.go a.orr (a.port ++ a.cls ++ a.rsv) a.off)
  | .inj e a => some (e, encodeAct 0x23 a.go a.orr (a.port ++ a.tmpl ++ a.rsv) a.off)
  | .tout e a => some (e, encodeAct 0x24 a.go a.orr (a.pin ++ BitVec.ofBool a.lvl ++ a.fine ++ BitVec.ofBool a.fr ++ a.rsv) a.off)
  | .capt e a => some (e, encodeAct 0x25 a.go a.orr (a.dom ++ a.slot ++ a.rsv) a.off)
  | .mark e a => some (e, encodeAct 0x26 a.go a.orr (a.group ++ a.rsv) a.off)
  | .rswap e a => some (e, encodeAct 0x27 a.go a.orr (a.rsv) a.off)
  | .powerOn _ _ => none
  | .resetN _ _ _ => none
  | .refclkExcursion => none
  | .refclkQualified => none
  | .bootComplete _ => none
  | .glbResetWrite _ => none
  | .warmReset _ => none
  | .perstN => none
  | .brownOutTrip _ => none
  | .brownOutRelease => none
  | .refwarmChange _ => none
  | .refclkLost => none
  | .refclkReturn => none
  | .thermalAlarm _ _ => none
  | .thermalAlarmClear _ => none
  | .thermalTrip _ _ => none
  | .watchdogExpiry => none
  | .eccError _ => none
  | .recoveryComplete _ => none
  | .recoverTimeout => none
  | .pllUnlock _ => none
  | .pllRelock _ => none
  | .mbDoorbell _ _ => none
  | .mbRspAck _ _ => none
  | .i2cResetWord _ => none
  | .agentFrame _ _ _ _ => none
  | .relayMessage _ => none
  | .relayTimeout _ => none
  | .transactionApply => none
  | .status _ => none
  | .eventRead _ => none
  | .journalRead _ => none
  | .ptpStatus _ => none
  | .attest _ => none
  | .tokenGive _ => none
  | .tokenRelease _ => none
  | .tokenTake _ => none
  | .startCmd _ => none
  | .dockCmd _ => none
  | .resetCmd _ => none
  | .haltCmd _ => none
  | .prove _ => none
  | .proveAbort _ => none
  | .openDebug _ => none
  | .openEraseComplete => none
  | .calRun _ => none
  | .refForce _ => none
  | .refForceRelease _ => none
  | .refClear _ => none
  | .powerSet _ => none
  | .powerSetWake _ => none
  | .counterSet _ => none
  | .repairRestore _ => none
  | .calRestore _ => none
  | .keyLoad _ => none
  | .keyErase _ => none
  | .keyBind _ => none
  | .keyUnbind _ => none
  | .agentSet _ => none
  | .fabricSet _ => none
  | .shaperSet _ => none
  | .streamEditWrite _ => none
  | .streamEditDelete _ => none
  | .streamCommit _ => none
  | .orbitSet _ => none
  | .orbitLoad _ => none
  | .orbitSwap _ => none
  | .gateListSet _ => none
  | .gateListLoad => none
  | .ptpSet _ => none
  | .refSet _ => none
  | .domainAdjustOffset _ => none
  | .domainAdjustSetTime _ => none
  | .domainAdjustRate _ => none
  | .domainLoopOpen _ => none
  | .domainLoopClose _ => none
  | .timepinSet _ => none
  | .twinSet _ => none
  | .proveSet _ => none
  | .orbitStart => none
  | .listSeal => none
  | .runOverrun _ => none
  | .engSwapReq _ => none
  | .engFaultClear _ => none
  | .gateEffect _ => none
  | .launchEffect _ => none
  | .injEffect _ => none
  | .sgateEffect _ => none
  | .toutEffect _ => none
  | .captEffect _ => none
  | .markEffect _ => none
  | .rswapEffect _ => none
  | .fabricSlot _ => none
  | .fullBitBroadcast => none
  | .rsvSwapRequest => none
  | .rsvBankSwap => none
  | .frameReceive _ _ _ _ => none
  | .pfcRepeat _ _ => none
  | .pfcReceive _ _ _ _ => none
  | .pfcTimerExpire _ _ => none
  | .cellArrive _ _ => none
  | .reseqGapTimeout _ _ _ _ => none
  | .frameStartDecision _ => none
  | .txEnd _ => none
  | .ctUnderrun _ => none
  | .mmVerifyTimeout _ => none
  | .linkDown _ _ => none
  | .linkUp _ _ _ => none
  | .laneModeTry _ => none
  | .ageScan => none
  | .rawTableWrite _ _ => none
  | .hostLaunchArm _ _ _ => none
  | .hostLaunchDisarm _ _ _ => none
  | .hostLaunchFire _ _ => none
  | .domRateLoWrite _ _ => none
  | .domRateHiWrite _ _ => none
  | .domStepreqGo _ _ => none
  | .slewEnd _ => none
  | .tbSnapRequest => none
  | .tbSnapLatch => none
  | .triggerArm _ _ => none
  | .triggerDisarm _ _ => none
  | .triggerFire _ => none
  | .toutGeneratorEdge _ => none
  | .toutPulseEnd _ => none
  | .tinEdge _ _ _ => none
  | .tinTransitionSuppressed _ _ => none
  | .tinHoldoffEnd _ => none
  | .tinHeadPop _ => none
  | .ivlResRead _ => none
  | .ivlCfgWrite _ _ => none
  | .tdcScalePair _ _ _ => none
  | .trackerSample _ _ => none
  | .calPending _ _ => none
  | .calRunStart _ _ => none
  | .calShadowEnd _ _ => none
  | .calCollectEnd _ _ _ => none
  | .calComputeEnd _ _ => none
  | .calVerifyEnd _ _ _ => none
  | .calInplaceEnd _ _ _ => none
  | .ptpFrameReceive _ _ _ => none
  | .tcEntryExpire _ => none
  | .ptpMessageSend _ _ _ => none
  | .pdSettleEnd _ => none
  | .tsqHeadPop _ => none
  | .candidateSignalLost _ _ => none
  | .candidateWtrExpire _ _ => none
  | .refSelect _ _ => none
  | .lockAchieved _ => none
  | .lockLost _ => none
  | .historySample => none
  | .hoSpecExpire _ => none
  | .refclkOutOfRange => none
  | .refclkRangeRestore => none
  | .twinRecordReceive _ _ _ => none
  | .claimFrameReceive _ => none
  | .claimPinLoss => none
  | .twinJudge => none
  | .twinJoinTimeout _ => none
  | .revertHoldExpire => none
  | .orphanHoldExpire => none
  | .twinSlotExpire => none
  | .clfSlotExpire _ _ => none
  | .seqResetTimeout _ => none
  | .provingScheduleDue => none
  | .provingSkipped => none
  | .provingStepEnd => none
  | .claimStepTimeout => none
  | .octetP1Enter _ => none
  | .octetP1Exit _ => none
  | .p3Wake _ => none
  | .powerExitComplete _ => none
  | .arbiterGrant => none
  | .laneTrainingFail _ => none
  | .clockGateForce _ _ _ => none
  | .lvfCtrlWrite _ => none
  | .lvfAck _ => none
  | .clkobsCfgWrite _ => none
  | .counterLowRead _ _ => none
  | .counterHighWrite _ _ => none
  | .counterLowWrite _ _ => none
  | .hubDumpWrite _ => none
  | .smpEnable _ => none
  | .glbIrearmWrite _ _ => none
  | .msixMaskChange _ => none
  | .pciPowerStateChange _ => none
  | .mbeClrWrite _ => none
  | .glbRcvRead => none
  | .engMaxcycRead _ => none
  | .prvLogptrRead => none
  | .latchingRead _ => none
  | .registerWrite _ _ _ _ => none
  | .perstNRelease => none
  | .tapInstruction _ => none
  | .mbusRead _ _ _ => none
  | .relayResponse _ _ => none
  | .coreClockRestart => none
  | .timingExchangeSend => none

end Sys2Proof
end

