-- ==== Sys2Proof/Machine/Crc.lean ====
section
/-! DEFINITION. The CRC forms of Table 0-7 (R420), over bytes as numbers. -/

namespace Sys2Proof.Machine

/-- The low `n` bits of a number in reverse order. -/
def reflectBits : Nat → Nat → Nat
  | 0, _ => 0
  | n + 1, v => v % 2 * 2 ^ n + reflectBits n (v / 2)

/-- `k` shifts of an unreflected register of `w` bits with polynomial `poly`. -/
def crcShift (w poly : Nat) : Nat → Nat → Nat
  | 0, r => r
  | k + 1, r =>
    let r2 := 2 * r % 2 ^ w
    crcShift w poly k (if r.testBit (w - 1) then r2 ^^^ poly else r2)

/-- An unreflected CRC of `w` bits: each byte enters most significant bit first. -/
def crcPlain (w poly : Nat) : Nat → List Nat → Nat
  | r, [] => r
  | r, b :: t => crcPlain w poly (crcShift w poly 8 (r ^^^ (b % 256 * 2 ^ (w - 8)))) t

/-- CRC-8: polynomial 0x07, initial 0. -/
def crc8 (bs : List Nat) : Nat := crcPlain 8 0x07 0 bs

/-- CRC-16: polynomial 0x1021, initial 0xFFFF. -/
def crc16 (bs : List Nat) : Nat := crcPlain 16 0x1021 0xFFFF bs

/-- A reflected 32-bit CRC: bytes enter least significant bit first, the result is reflected and inverted. -/
def crcRefl32 (poly : Nat) (bs : List Nat) : Nat :=
  reflectBits 32 (crcPlain 32 poly 0xFFFFFFFF (bs.map (reflectBits 8))) ^^^ 0xFFFFFFFF

/-- CRC-32C. -/
def crc32c (bs : List Nat) : Nat := crcRefl32 0x1EDC6F41 bs

/-- CRC-32. -/
def crc32 (bs : List Nat) : Nat := crcRefl32 0x04C11DB7 bs

/-- The four bytes of a word, little-endian (R12). -/
def wordBytes (w : Word) : List Nat :=
  [w.toNat % 256, w.toNat / 256 % 256, w.toNat / 65536 % 256, w.toNat / 16777216]

end Sys2Proof.Machine
end

