-- ==== Sys2Proof/Config.lean ====
section
/-! DEFINITION. What a part fixes (fuses) and what the spec leaves open (free values): constants without a body, so that no proof rests on a choice. -/

namespace Sys2Proof

/-- The fused die identity, `REPAIR_DIE.TAG` (Table 2-7). -/
opaque Config.dieTag : Word

/-- The fused DEBUG_LOCK (Table 13-12). -/
opaque Config.debugLock : Bool

/-- The fused base MAC address (R381). -/
opaque Config.baseMac : BitVec 48

/-- The fused device key as 32 bytes, byte k by k (R383). -/
opaque Config.deviceKey : Nat → Byte

/-- Severity of each firmware event (Table 13-13 `SEV`): the spec gives the field and not the events' values. -/
opaque Config.eventSev : Nat → BitVec 2

/-- Parameters P0 and P1 of the entry that an EVT instruction writes, by event index: the spec gives the entry a code, an engine and an Orbit and does not state these words (Tables 5-8 and 13-13). -/
opaque Config.evtParam : Nat → Nat → Word

/-- What decides count n[k] of the collection that BOOT makes for channel c (R269), within what the 2^16 samples and R260 leave, by the number of free values taken before: the channel's delay line. -/
opaque Config.bootCount : Nat → Nat → Nat → Nat

/-- Where within the variation of Table 6-2 a frame's start lies, by the number of free values taken before (R173); and of a record of the twin link, from its sending to its timestamp point in 2^-48 ns. -/
opaque Config.txPoint : Nat → Nat

/-- Where between two updates of a domain's PLL its integrator takes the phase input, by the number of free values taken before: the loop of R289 is given by its type, damping and bandwidth and not by the arithmetic of an update. -/
opaque Config.servoPoint : Nat → Nat

/-- The old slot that event 0x0008 gives where none was selected: Table 13-14 states none. -/
opaque Config.noSlot : Nat

/-- Bytes of a PTP message that the firmware composes, up to its ICV, by the number of free values taken before: the spec gives the messages by reference to IEEE 1588-2019. -/
opaque Config.ptpBytes : Nat → List Byte

/-- Cycles that a run of a compiled program takes, by the number of free values taken before: the firmware's code is not given (R183). -/
opaque Config.compiledCyc : Nat → Nat

/-- The parameters of event 0x000C for a frame of the in-band agent whose ICV fails (0, 1) or whose nonce is not greater (2, 3): Table 13-14 numbers no agent event. -/
opaque Config.agentEvent : Nat → Word

/-- What CAL_RESTORE reports for a channel whose saved table it ignores or was not given: R271 gives values for applied, kept and rejected only. -/
opaque Config.calIgnored : Nat → BitVec 2

/-- What a boundary scan shifts out, by the number of free values taken before: the spec names the standard and not the register's cells (R39). -/
opaque Config.boundaryScan : Nat → Word

/-- The cause and detail that event 0x0001 gives for the entry to STRAP: R63 records every change of mode and Table 2-9a has no code for this one. -/
opaque Config.strapCause : BitVec 16

/-- Whether a frame is in reception on port p at a moment at which a mode change disables the port, by the number of free values taken before: the wire decides it (R107). -/
opaque Config.rxUnderWay : Nat → Nat → Bool

/-- A dword of PCIe configuration space that Table 15-1 does not give: R406 leaves it to PCI Express Base 4.0. -/
opaque Config.pcieCfg : Nat → Word

/-- Where the capabilities of Table 15-1 stand in configuration space: power management, PCI Express, MSI-X, and the extended ones, Advanced Error Reporting and Device Serial Number. R406 names them and places none. -/
opaque Config.pciePmAt : Nat
opaque Config.pcieCapAt : Nat
opaque Config.pcieMsixAt : Nat
opaque Config.pcieAerAt : Nat
opaque Config.pcieSerialAt : Nat

end Sys2Proof
end

