-- ==== Sys2Proof/Machine/Store.lean ====
section
/-! DEFINITION. The one container of the state for anything indexed by a number: a list of (key, value) pairs in canonical form, keys strictly rising and no entry equal to what an unlisted key reads as. Registers, buffers, ports, engines and tables are all held so, so that equal contents are equal data. -/

namespace Sys2Proof.Machine

/-- Keyed contents; what an unlisted key reads as is given to each operation. -/
abbrev Store (α : Type) : Type := List (Nat × α)

/-- The value at key `k`; an unlisted key reads as `d k`. -/
def storeGet {α : Type} (d : Nat → α) : Store α → Nat → α
  | [], k => d k
  | (a, v) :: t, k => if a = k then v else if k < a then d k else storeGet d t k

/-- The contents with key `k` listed as `v`, whatever `v` is. -/
def storeIns {α : Type} : Store α → Nat → α → Store α
  | [], k, v => [(k, v)]
  | (a, w) :: t, k, v =>
    if k < a then (k, v) :: (a, w) :: t
    else if k = a then (k, v) :: t
    else (a, w) :: storeIns t k v

/-- The entries from the first key above `k` on: in canonical contents whose keys all lie above `k`, all of them. -/
def storeAbove {α : Type} : Store α → Nat → Store α
  | [], _ => []
  | (a, w) :: t, k => if a ≤ k then storeAbove t k else (a, w) :: t

/-- The contents with key `k` unlisted. -/
def storeDel {α : Type} : Store α → Nat → Store α
  | [], _ => []
  | (a, w) :: t, k => if a = k then storeAbove t k else if k < a then (a, w) :: t else (a, w) :: storeDel t k

/-- The contents with key `k` holding `v`, canonical form kept: the default value is unlisted. -/
def storeSet {α : Type} [DecidableEq α] (d : Nat → α) (m : Store α) (k : Nat) (v : α) : Store α :=
  if v = d k then storeDel m k else storeIns m k v

/-- Every key of `m` lies above `lo` and the keys rise strictly; no entry equals its default. -/
def storeWfFrom {α : Type} [DecidableEq α] (d : Nat → α) : Nat → Store α → Bool
  | _, [] => true
  | lo, (a, v) :: t => decide (lo ≤ a) && decide (v ≠ d a) && storeWfFrom d (a + 1) t

/-- The canonical form: keys strictly rising, no entry equal to what an unlisted key reads as. -/
def storeWf {α : Type} [DecidableEq α] (d : Nat → α) (m : Store α) : Bool := storeWfFrom d 0 m

/-- The same contents with every value passed through `f`, and entries that reach the default unlisted. -/
def storeMap {α : Type} [DecidableEq α] (d : Nat → α) (f : Nat → α → α) : Store α → Store α
  | [] => []
  | (a, v) :: t => if f a v = d a then storeMap d f t else (a, f a v) :: storeMap d f t

end Sys2Proof.Machine
end

