-- ==== Sys2Proof/Machine/RegMap.lean ====
section
/-! DEFINITION. The register map: every register of the tables of spec/ at its address (R411, R163, R214, R393, ...), each field as a bit range of its word, and for each register the writable, write-one-to-clear and kept masks and the reset word of its table (R13). Fields that one row of a table lists together ("`A`, `B`" with one range of as many bits) take the bits in the order listed, the first the lowest (DEDUCED, log entry 7). -/

namespace Sys2Proof.Machine

/-- A field: the word's BAR0 offset, its lowest bit and its width (R11). BAR4 registers stand at 0x0800_0000 + their offset, above BAR0's 128 MiB (R407). -/
structure Fld where
  addr  : Nat
  lo    : Nat
  width : Nat
  deriving DecidableEq, Repr

/-- One register or array of registers: base, (count, stride) per index, the RW mask, the W1C mask, the mask kept through warm reset (the S suffix, R13, and the kept tables of R44), and the reset word. -/
structure RegDesc where
  base  : Nat
  dims  : List (Nat × Nat)
  rw    : Nat
  w1c   : Nat
  keep  : Nat
  reset : Nat
  deriving DecidableEq, Repr

/-- The register block of port p: octet p / 8, block p mod 8 (R4, R410). -/
def portOff (p : Nat) : Nat := 0x100000 * (p / 8) + 0x100 * (p % 8)

/-- GLB_ID: spec/00_scope.md R2. -/
def A.GLB_ID : Nat := 0x0
def R.GLB_ID_DEVICE : Fld := ⟨0x0, 0, 16⟩
def R.GLB_ID_VENDOR : Fld := ⟨0x0, 16, 16⟩

/-- GLB_REV: spec/00_scope.md R2. -/
def A.GLB_REV : Nat := 0x4
def R.GLB_REV_METAL : Fld := ⟨0x4, 0, 4⟩
def R.GLB_REV_STEP : Fld := ⟨0x4, 4, 4⟩

/-- GLB_FW: spec/00_scope.md R2. -/
def A.GLB_FW : Nat := 0x8
def R.GLB_FW_MINOR : Fld := ⟨0x8, 0, 8⟩
def R.GLB_FW_MAJOR : Fld := ⟨0x8, 8, 8⟩
def R.GLB_FW_VALID : Fld := ⟨0x8, 16, 1⟩

/-- GLB_STRAP: spec/01_package_and_signals.md R26. -/
def A.GLB_STRAP : Nat := 0xC
def R.GLB_STRAP_CFG : Fld := ⟨0xC, 0, 11⟩
def R.GLB_STRAP_ERR : Fld := ⟨0xC, 16, 1⟩

/-- GLB_RESET: spec/02_start_up_and_modes.md R47. -/
def A.GLB_RESET : Nat := 0x14
def R.GLB_RESET_WARM : Fld := ⟨0x14, 0, 1⟩
def R.GLB_RESET_KEY : Fld := ⟨0x14, 8, 8⟩

/-- GLB_BOOT: spec/02_start_up_and_modes.md R55. -/
def A.GLB_BOOT : Nat := 0x18
def R.GLB_BOOT_DONE : Fld := ⟨0x18, 0, 1⟩
def R.GLB_BOOT_RESULT : Fld := ⟨0x18, 1, 2⟩
def R.GLB_BOOT_FIELD_NEW : Fld := ⟨0x18, 3, 1⟩
def R.GLB_BOOT_TDC_FAIL : Fld := ⟨0x18, 4, 1⟩
def R.GLB_BOOT_OCTET_OFF : Fld := ⟨0x18, 8, 8⟩
def R.GLB_BOOT_REDUCED : Fld := ⟨0x18, 16, 8⟩

/-- REPAIR_MAP: spec/02_start_up_and_modes.md R56. -/
def A.REPAIR_MAP (p : Nat) : Nat := 0x400 + 0x4 * p
def R.REPAIR_MAP_SPARE (p : Nat) : Fld := ⟨0x400 + 0x4 * p, 0, 8⟩
def R.REPAIR_MAP_INDEX (p : Nat) : Fld := ⟨0x400 + 0x4 * p, 8, 12⟩
def R.REPAIR_MAP_UNIT (p : Nat) : Fld := ⟨0x400 + 0x4 * p, 20, 4⟩
def R.REPAIR_MAP_KIND (p : Nat) : Fld := ⟨0x400 + 0x4 * p, 24, 4⟩
def R.REPAIR_MAP_ORIGIN (p : Nat) : Fld := ⟨0x400 + 0x4 * p, 30, 1⟩
def R.REPAIR_MAP_VALID (p : Nat) : Fld := ⟨0x400 + 0x4 * p, 31, 1⟩

/-- REPAIR_STAT: spec/02_start_up_and_modes.md R56. -/
def A.REPAIR_STAT : Nat := 0x20
def R.REPAIR_STAT_COUNT : Fld := ⟨0x20, 0, 8⟩
def R.REPAIR_STAT_FACTORY : Fld := ⟨0x20, 8, 8⟩
def R.REPAIR_STAT_CHECK : Fld := ⟨0x20, 16, 16⟩

/-- REPAIR_DIE: spec/02_start_up_and_modes.md R56. -/
def A.REPAIR_DIE : Nat := 0x24
def R.REPAIR_DIE_TAG : Fld := ⟨0x24, 0, 32⟩

/-- GLB_MODE: spec/02_start_up_and_modes.md R60. -/
def A.GLB_MODE : Nat := 0x10
def R.GLB_MODE_MODE : Fld := ⟨0x10, 0, 4⟩
def R.GLB_MODE_TSTATE : Fld := ⟨0x10, 4, 3⟩
def R.GLB_MODE_UNQUAL : Fld := ⟨0x10, 7, 1⟩
def R.GLB_MODE_ROLE : Fld := ⟨0x10, 8, 2⟩
def R.GLB_MODE_HOSTLOOP : Fld := ⟨0x10, 10, 1⟩
def R.GLB_MODE_HALT_CAUSE : Fld := ⟨0x10, 12, 4⟩
def R.GLB_MODE_STRAP_WAIT : Fld := ⟨0x10, 16, 1⟩
def R.GLB_MODE_LAST_RESET : Fld := ⟨0x10, 17, 3⟩

/-- GLB_RCV: spec/02_start_up_and_modes.md R71. -/
def A.GLB_RCV : Nat := 0x1C
def R.GLB_RCV_COUNT : Fld := ⟨0x1C, 0, 8⟩
def R.GLB_RCV_LAST : Fld := ⟨0x1C, 8, 4⟩
def R.GLB_RCV_BADKEY : Fld := ⟨0x1C, 12, 4⟩
def R.GLB_RCV_SEQ : Fld := ⟨0x1C, 16, 16⟩

/-- FAB_CTRL: spec/03_fabric.md R109. -/
def A.FAB_CTRL : Nat := 0x2000000
def R.FAB_CTRL_RSV_SWAP : Fld := ⟨0x2000000, 0, 1⟩
def R.FAB_CTRL_RSV_ACTIVE : Fld := ⟨0x2000000, 1, 1⟩
def R.FAB_CTRL_RSV_PENDING : Fld := ⟨0x2000000, 2, 1⟩

/-- FAB_STAT: spec/03_fabric.md R109. -/
def A.FAB_STAT : Nat := 0x2000004
def R.FAB_STAT_SPARE_USED : Fld := ⟨0x2000004, 0, 1⟩
def R.FAB_STAT_SPARE_FOR : Fld := ⟨0x2000004, 1, 6⟩
def R.FAB_STAT_RSV_CONFLICT : Fld := ⟨0x2000004, 8, 1⟩

/-- FAB_TRANSIT: spec/03_fabric.md R109. -/
def A.FAB_TRANSIT : Nat := 0x2000008
def R.FAB_TRANSIT_BETA : Fld := ⟨0x2000008, 0, 3⟩
def R.FAB_TRANSIT_TMIN : Fld := ⟨0x2000008, 8, 8⟩

/-- FAB_SLOT: spec/03_fabric.md R109. -/
def A.FAB_SLOT : Nat := 0x200000C
def R.FAB_SLOT_SLOT : Fld := ⟨0x200000C, 0, 6⟩
def R.FAB_SLOT_ROUND : Fld := ⟨0x200000C, 6, 26⟩

/-- FAB_ORBIT_SLOT: spec/03_fabric.md R109. -/
def A.FAB_ORBIT_SLOT : Nat := 0x2000010
def R.FAB_ORBIT_SLOT_SLOT : Fld := ⟨0x2000010, 0, 6⟩
def R.FAB_ORBIT_SLOT_CYCLE : Fld := ⟨0x2000010, 6, 5⟩

/-- FAB_CLASS: spec/03_fabric.md R109. -/
def A.FAB_CLASS (p : Nat) : Nat := 0x2000100 + 0x4 * p
def R.FAB_CLASS_SCHED (p : Nat) : Fld := ⟨0x2000100 + 0x4 * p, 0, 1⟩
def R.FAB_CLASS_MTU (p : Nat) : Fld := ⟨0x2000100 + 0x4 * p, 16, 14⟩

/-- FAB_AGE: spec/03_fabric.md R109. -/
def A.FAB_AGE (p : Nat) : Nat := 0x2000120 + 0x4 * p
def R.FAB_AGE_LIMIT (p : Nat) : Fld := ⟨0x2000120 + 0x4 * p, 0, 31⟩

/-- FAB_RSV: spec/03_fabric.md R109. -/
def A.FAB_RSV (p q : Nat) : Nat := 0x2001000 + 0x4000 * p + 0x4 * q
def R.FAB_RSV_OUT (p q : Nat) : Fld := ⟨0x2001000 + 0x4000 * p + 0x4 * q, 0, 6⟩
def R.FAB_RSV_CLASS (p q : Nat) : Fld := ⟨0x2001000 + 0x4000 * p + 0x4 * q, 8, 3⟩
def R.FAB_RSV_VALID (p q : Nat) : Fld := ⟨0x2001000 + 0x4000 * p + 0x4 * q, 31, 1⟩

/-- PORT_FWD: spec/03_fabric.md R109. -/
def A.PORT_FWD (p : Nat) : Nat := 0x1002000 + portOff p
def R.PORT_FWD_CT (p : Nat) : Fld := ⟨0x1002000 + portOff p, 0, 8⟩
def R.PORT_FWD_PFC_TX (p : Nat) : Fld := ⟨0x1002000 + portOff p, 8, 8⟩
def R.PORT_FWD_PFC_RX (p : Nat) : Fld := ⟨0x1002000 + portOff p, 16, 8⟩
def R.PORT_FWD_PAUSE_TX (p : Nat) : Fld := ⟨0x1002000 + portOff p, 24, 1⟩
def R.PORT_FWD_PAUSE_RX (p : Nat) : Fld := ⟨0x1002000 + portOff p, 25, 1⟩

/-- PORT_EGR: spec/03_fabric.md R109. -/
def A.PORT_EGR (p : Nat) : Nat := 0x1002004 + portOff p
def R.PORT_EGR_CT_START (p : Nat) : Fld := ⟨0x1002004 + portOff p, 0, 4⟩
def R.PORT_EGR_QMAX (p : Nat) : Fld := ⟨0x1002004 + portOff p, 16, 12⟩

/-- PORT_PFC: spec/03_fabric.md R109. -/
def A.PORT_PFC (p : Nat) : Nat := 0x1002008 + portOff p
def R.PORT_PFC_QUANTA (p : Nat) : Fld := ⟨0x1002008 + portOff p, 0, 16⟩

/-- ADM_RSV: spec/03_fabric.md R109. -/
def A.ADM_RSV (p q : Nat) : Nat := 0x1002040 + portOff p + 0x10 * q
def R.ADM_RSV_MIN (p q : Nat) : Fld := ⟨0x1002040 + portOff p + 0x10 * q, 0, 13⟩
def R.ADM_RSV_HDRM (p q : Nat) : Fld := ⟨0x1002040 + portOff p + 0x10 * q, 16, 13⟩

/-- ADM_SHR: spec/03_fabric.md R109. -/
def A.ADM_SHR (p q : Nat) : Nat := 0x1002044 + portOff p + 0x10 * q
def R.ADM_SHR_ALPHA (p q : Nat) : Fld := ⟨0x1002044 + portOff p + 0x10 * q, 0, 4⟩
def R.ADM_SHR_XON_GAP (p q : Nat) : Fld := ⟨0x1002044 + portOff p + 0x10 * q, 16, 12⟩

/-- ADM_USE: spec/03_fabric.md R109. -/
def A.ADM_USE (p q : Nat) : Nat := 0x1002048 + portOff p + 0x10 * q
def R.ADM_USE_USED (p q : Nat) : Fld := ⟨0x1002048 + portOff p + 0x10 * q, 0, 16⟩
def R.ADM_USE_HDRM_USED (p q : Nat) : Fld := ⟨0x1002048 + portOff p + 0x10 * q, 16, 13⟩
def R.ADM_USE_XOFF (p q : Nat) : Fld := ⟨0x1002048 + portOff p + 0x10 * q, 31, 1⟩

/-- POOL_STAT: spec/03_fabric.md R109. -/
def A.POOL_STAT (p : Nat) : Nat := 0x1002800 + 0x100000 * p
def R.POOL_STAT_CAP (p : Nat) : Fld := ⟨0x1002800 + 0x100000 * p, 0, 16⟩
def R.POOL_STAT_FREE (p : Nat) : Fld := ⟨0x1002800 + 0x100000 * p, 16, 16⟩

/-- POOL_SHR: spec/03_fabric.md R109. -/
def A.POOL_SHR (p : Nat) : Nat := 0x1002804 + 0x100000 * p
def R.POOL_SHR_SHARED_FREE (p : Nat) : Fld := ⟨0x1002804 + 0x100000 * p, 0, 16⟩
def R.POOL_SHR_RESERVED (p : Nat) : Fld := ⟨0x1002804 + 0x100000 * p, 16, 15⟩
def R.POOL_SHR_OVERCOMMIT (p : Nat) : Fld := ⟨0x1002804 + 0x100000 * p, 31, 1⟩

/-- SID_ENT0: spec/04_streams_and_policing.md R136. -/
def A.SID_ENT0 (p : Nat) : Nat := 0x2200000 + 0x20 * p
def R.SID_ENT0_KIND (p : Nat) : Fld := ⟨0x2200000 + 0x20 * p, 0, 3⟩
def R.SID_ENT0_PORTKEY (p : Nat) : Fld := ⟨0x2200000 + 0x20 * p, 3, 1⟩
def R.SID_ENT0_PORT (p : Nat) : Fld := ⟨0x2200000 + 0x20 * p, 4, 6⟩
def R.SID_ENT0_CTX (p : Nat) : Fld := ⟨0x2200000 + 0x20 * p, 16, 13⟩
def R.SID_ENT0_VALID (p : Nat) : Fld := ⟨0x2200000 + 0x20 * p, 31, 1⟩

/-- PORT_SID: spec/04_streams_and_policing.md R136. -/
def A.PORT_SID (p : Nat) : Nat := 0x10020C0 + portOff p
def R.PORT_SID_ORDER (p : Nat) : Fld := ⟨0x10020C0 + portOff p, 0, 3⟩
def R.PORT_SID_CLSRC (p : Nat) : Fld := ⟨0x10020C0 + portOff p, 3, 1⟩
def R.PORT_SID_DEF_TC (p : Nat) : Fld := ⟨0x10020C0 + portOff p, 4, 3⟩
def R.PORT_SID_PVID (p : Nat) : Fld := ⟨0x10020C0 + portOff p, 8, 12⟩
def R.PORT_SID_MISS (p : Nat) : Fld := ⟨0x10020C0 + portOff p, 20, 2⟩

/-- PORT_PCP: spec/04_streams_and_policing.md R136. -/
def A.PORT_PCP (p : Nat) : Nat := 0x10020C4 + portOff p
def R.PORT_PCP_MAP0 (p : Nat) : Fld := ⟨0x10020C4 + portOff p, 0, 3⟩
def R.PORT_PCP_MAP1 (p : Nat) : Fld := ⟨0x10020C4 + portOff p, 3, 3⟩
def R.PORT_PCP_MAP2 (p : Nat) : Fld := ⟨0x10020C4 + portOff p, 6, 3⟩
def R.PORT_PCP_MAP3 (p : Nat) : Fld := ⟨0x10020C4 + portOff p, 9, 3⟩
def R.PORT_PCP_MAP4 (p : Nat) : Fld := ⟨0x10020C4 + portOff p, 12, 3⟩
def R.PORT_PCP_MAP5 (p : Nat) : Fld := ⟨0x10020C4 + portOff p, 15, 3⟩
def R.PORT_PCP_MAP6 (p : Nat) : Fld := ⟨0x10020C4 + portOff p, 18, 3⟩
def R.PORT_PCP_MAP7 (p : Nat) : Fld := ⟨0x10020C4 + portOff p, 21, 3⟩

/-- PORT_DSCP: spec/04_streams_and_policing.md R136. -/
def A.PORT_DSCP (p q : Nat) : Nat := 0x10020C8 + portOff p + 0x4 * q
def R.PORT_DSCP_MAPS (p q : Nat) : Fld := ⟨0x10020C8 + portOff p + 0x4 * q, 0, 30⟩

/-- PORT_MISS: spec/04_streams_and_policing.md R136. -/
def A.PORT_MISS (p : Nat) : Nat := 0x10020E4 + portOff p
def R.PORT_MISS_DST (p : Nat) : Fld := ⟨0x10020E4 + portOff p, 0, 12⟩

/-- PORT_SCHED: spec/04_streams_and_policing.md R136. -/
def A.PORT_SCHED (p : Nat) : Nat := 0x10020E8 + portOff p
def R.PORT_SCHED_OVH (p : Nat) : Fld := ⟨0x10020E8 + portOff p, 0, 7⟩
def R.PORT_SCHED_DWRR (p : Nat) : Fld := ⟨0x10020E8 + portOff p, 8, 8⟩

/-- CTX0: spec/04_streams_and_policing.md R136. -/
def A.CTX0 (p : Nat) : Nat := 0x2280000 + 0x20 * p
def R.CTX0_DKIND (p : Nat) : Fld := ⟨0x2280000 + 0x20 * p, 0, 2⟩
def R.CTX0_DEST (p : Nat) : Fld := ⟨0x2280000 + 0x20 * p, 2, 12⟩
def R.CTX0_CLS (p : Nat) : Fld := ⟨0x2280000 + 0x20 * p, 14, 3⟩
def R.CTX0_CLSV (p : Nat) : Fld := ⟨0x2280000 + 0x20 * p, 17, 1⟩
def R.CTX0_GATE (p : Nat) : Fld := ⟨0x2280000 + 0x20 * p, 18, 8⟩
def R.CTX0_MARK (p : Nat) : Fld := ⟨0x2280000 + 0x20 * p, 26, 1⟩
def R.CTX0_YDROP (p : Nat) : Fld := ⟨0x2280000 + 0x20 * p, 27, 1⟩
def R.CTX0_CAWARE (p : Nat) : Fld := ⟨0x2280000 + 0x20 * p, 28, 1⟩
def R.CTX0_POL (p : Nat) : Fld := ⟨0x2280000 + 0x20 * p, 29, 1⟩
def R.CTX0_VALID (p : Nat) : Fld := ⟨0x2280000 + 0x20 * p, 31, 1⟩

/-- CTX1: spec/04_streams_and_policing.md R136. -/
def A.CTX1 (p : Nat) : Nat := 0x2280004 + 0x20 * p
def R.CTX1_MAXSDU (p : Nat) : Fld := ⟨0x2280004 + 0x20 * p, 0, 14⟩
def R.CTX1_TAGFMT (p : Nat) : Fld := ⟨0x2280004 + 0x20 * p, 16, 2⟩
def R.CTX1_SGENV (p : Nat) : Fld := ⟨0x2280004 + 0x20 * p, 18, 1⟩
def R.CTX1_SRECV (p : Nat) : Fld := ⟨0x2280004 + 0x20 * p, 19, 1⟩

/-- CTX2: spec/04_streams_and_policing.md R136. -/
def A.CTX2 (p : Nat) : Nat := 0x2280008 + 0x20 * p
def R.CTX2_SGEN (p : Nat) : Fld := ⟨0x2280008 + 0x20 * p, 0, 12⟩
def R.CTX2_SREC (p : Nat) : Fld := ⟨0x2280008 + 0x20 * p, 16, 12⟩

/-- CTX3: spec/04_streams_and_policing.md R136. -/
def A.CTX3 (p : Nat) : Nat := 0x228000C + 0x20 * p
def R.CTX3_CIR (p : Nat) : Fld := ⟨0x228000C + 0x20 * p, 0, 27⟩

/-- CTX4: spec/04_streams_and_policing.md R136. -/
def A.CTX4 (p : Nat) : Nat := 0x2280010 + 0x20 * p
def R.CTX4_PIR (p : Nat) : Fld := ⟨0x2280010 + 0x20 * p, 0, 27⟩

/-- CTX5: spec/04_streams_and_policing.md R136. -/
def A.CTX5 (p : Nat) : Nat := 0x2280014 + 0x20 * p
def R.CTX5_CBS (p : Nat) : Fld := ⟨0x2280014 + 0x20 * p, 0, 24⟩

/-- CTX6: spec/04_streams_and_policing.md R136. -/
def A.CTX6 (p : Nat) : Nat := 0x2280018 + 0x20 * p
def R.CTX6_PBS (p : Nat) : Fld := ⟨0x2280018 + 0x20 * p, 0, 24⟩

/-- CTX7: spec/04_streams_and_policing.md R136. -/
def A.CTX7 (p : Nat) : Nat := 0x228001C + 0x20 * p

/-- POLST0: spec/04_streams_and_policing.md R136. -/
def A.POLST0 (p : Nat) : Nat := 0x22C0000 + 0x10 * p
def R.POLST0_CFILL (p : Nat) : Fld := ⟨0x22C0000 + 0x10 * p, 0, 24⟩

/-- POLST1: spec/04_streams_and_policing.md R136. -/
def A.POLST1 (p : Nat) : Nat := 0x22C0004 + 0x10 * p
def R.POLST1_PFILL (p : Nat) : Fld := ⟨0x22C0004 + 0x10 * p, 0, 24⟩

/-- CTXC9: spec/04_streams_and_policing.md R136. -/
def A.CTXC9 (p : Nat) : Nat := 0x2300024 + 0x40 * p
def R.CTXC9_STICKY (p : Nat) : Fld := ⟨0x2300024 + 0x40 * p, 0, 6⟩

/-- SG_STATE: spec/04_streams_and_policing.md R136. -/
def A.SG_STATE (p : Nat) : Nat := 0x2390000 + 0x4 * p
def R.SG_STATE_OPEN (p : Nat) : Fld := ⟨0x2390000 + 0x4 * p, 0, 32⟩

/-- ST_STAT: spec/04_streams_and_policing.md R136. -/
def A.ST_STAT : Nat := 0x23A0000
def R.ST_STAT_SID_USED : Fld := ⟨0x23A0000, 0, 15⟩
def R.ST_STAT_COMMIT_PEND : Fld := ⟨0x23A0000, 16, 1⟩
def R.ST_STAT_RAW : Fld := ⟨0x23A0000, 17, 1⟩

/-- SHP_CIR: spec/04_streams_and_policing.md R136. -/
def A.SHP_CIR (p q : Nat) : Nat := 0x1003000 + portOff p + 0x20 * q
def R.SHP_CIR_RATE (p q : Nat) : Fld := ⟨0x1003000 + portOff p + 0x20 * q, 0, 27⟩

/-- SHP_PIR: spec/04_streams_and_policing.md R136. -/
def A.SHP_PIR (p q : Nat) : Nat := 0x1003004 + portOff p + 0x20 * q
def R.SHP_PIR_RATE (p q : Nat) : Fld := ⟨0x1003004 + portOff p + 0x20 * q, 0, 27⟩

/-- SHP_CBS: spec/04_streams_and_policing.md R136. -/
def A.SHP_CBS (p q : Nat) : Nat := 0x1003008 + portOff p + 0x20 * q
def R.SHP_CBS_BURST (p q : Nat) : Fld := ⟨0x1003008 + portOff p + 0x20 * q, 0, 24⟩

/-- SHP_PBS: spec/04_streams_and_policing.md R136. -/
def A.SHP_PBS (p q : Nat) : Nat := 0x100300C + portOff p + 0x20 * q
def R.SHP_PBS_BURST (p q : Nat) : Fld := ⟨0x100300C + portOff p + 0x20 * q, 0, 24⟩

/-- SHP_QUANT: spec/04_streams_and_policing.md R136. -/
def A.SHP_QUANT (p q : Nat) : Nat := 0x1003010 + portOff p + 0x20 * q
def R.SHP_QUANT_QUANTUM (p q : Nat) : Fld := ⟨0x1003010 + portOff p + 0x20 * q, 0, 14⟩

/-- SHP_CCRED: spec/04_streams_and_policing.md R136. -/
def A.SHP_CCRED (p q : Nat) : Nat := 0x1003014 + portOff p + 0x20 * q
def R.SHP_CCRED_CREDIT (p q : Nat) : Fld := ⟨0x1003014 + portOff p + 0x20 * q, 0, 32⟩

/-- SHP_PCRED: spec/04_streams_and_policing.md R136. -/
def A.SHP_PCRED (p q : Nat) : Nat := 0x1003018 + portOff p + 0x20 * q
def R.SHP_PCRED_CREDIT (p q : Nat) : Fld := ⟨0x1003018 + portOff p + 0x20 * q, 0, 32⟩

/-- ORB_CFG: spec/05_orbit_engine.md R163. -/
def A.ORB_CFG : Nat := 0x5000000
def R.ORB_CFG_DOM : Fld := ⟨0x5000000, 0, 3⟩

/-- ORB_PERIOD_NS: spec/05_orbit_engine.md R163. -/
def A.ORB_PERIOD_NS : Nat := 0x5000004
def R.ORB_PERIOD_NS_NS : Fld := ⟨0x5000004, 0, 30⟩

/-- ORB_PERIOD_FRAC: spec/05_orbit_engine.md R163. -/
def A.ORB_PERIOD_FRAC : Nat := 0x5000008
def R.ORB_PERIOD_FRAC_FRAC : Fld := ⟨0x5000008, 0, 32⟩

/-- ORB_ALIGN_SEC_LO: spec/05_orbit_engine.md R163. -/
def A.ORB_ALIGN_SEC_LO : Nat := 0x500000C
def R.ORB_ALIGN_SEC_LO_SEC : Fld := ⟨0x500000C, 0, 32⟩

/-- ORB_ALIGN_SEC_HI: spec/05_orbit_engine.md R163. -/
def A.ORB_ALIGN_SEC_HI : Nat := 0x5000010
def R.ORB_ALIGN_SEC_HI_SEC : Fld := ⟨0x5000010, 0, 16⟩

/-- ORB_ALIGN_NS: spec/05_orbit_engine.md R163. -/
def A.ORB_ALIGN_NS : Nat := 0x5000014
def R.ORB_ALIGN_NS_NS : Fld := ⟨0x5000014, 0, 30⟩

/-- ORB_ALIGN_FRAC: spec/05_orbit_engine.md R163. -/
def A.ORB_ALIGN_FRAC : Nat := 0x5000018
def R.ORB_ALIGN_FRAC_FRAC : Fld := ⟨0x5000018, 0, 32⟩

/-- ORB_NUM_LO: spec/05_orbit_engine.md R163. -/
def A.ORB_NUM_LO : Nat := 0x5000020
def R.ORB_NUM_LO_NUM : Fld := ⟨0x5000020, 0, 32⟩

/-- ORB_NUM_HI: spec/05_orbit_engine.md R163. -/
def A.ORB_NUM_HI : Nat := 0x5000024
def R.ORB_NUM_HI_NUM : Fld := ⟨0x5000024, 0, 32⟩

/-- ORB_EPOCH_SEC_LO: spec/05_orbit_engine.md R163. -/
def A.ORB_EPOCH_SEC_LO : Nat := 0x5000028
def R.ORB_EPOCH_SEC_LO_SEC : Fld := ⟨0x5000028, 0, 32⟩

/-- ORB_EPOCH_SEC_HI: spec/05_orbit_engine.md R163. -/
def A.ORB_EPOCH_SEC_HI : Nat := 0x500002C
def R.ORB_EPOCH_SEC_HI_SEC : Fld := ⟨0x500002C, 0, 16⟩

/-- ORB_EPOCH_NS: spec/05_orbit_engine.md R163. -/
def A.ORB_EPOCH_NS : Nat := 0x5000030
def R.ORB_EPOCH_NS_NS : Fld := ⟨0x5000030, 0, 30⟩

/-- ORB_EPOCH_FRAC: spec/05_orbit_engine.md R163. -/
def A.ORB_EPOCH_FRAC : Nat := 0x5000034
def R.ORB_EPOCH_FRAC_FRAC : Fld := ⟨0x5000034, 0, 32⟩

/-- ORB_STAT: spec/05_orbit_engine.md R163. -/
def A.ORB_STAT : Nat := 0x5000038
def R.ORB_STAT_STRETCH : Fld := ⟨0x5000038, 0, 1⟩
def R.ORB_STAT_WIGN : Fld := ⟨0x5000038, 1, 1⟩

/-- ENG_SWAP: spec/05_orbit_engine.md R163. -/
def A.ENG_SWAP : Nat := 0x5000040
def R.ENG_SWAP_REQ : Fld := ⟨0x5000040, 0, 9⟩
def R.ENG_SWAP_PEND : Fld := ⟨0x5000040, 16, 9⟩

/-- ENG_CTRL: spec/05_orbit_engine.md R163. -/
def A.ENG_CTRL (p : Nat) : Nat := 0x5001000 + 0x100 * p
def R.ENG_CTRL_EN (p : Nat) : Fld := ⟨0x5001000 + 0x100 * p, 0, 1⟩
def R.ENG_CTRL_FAULT_RESTART (p : Nat) : Fld := ⟨0x5001000 + 0x100 * p, 1, 1⟩

/-- ENG_STAT: spec/05_orbit_engine.md R163. -/
def A.ENG_STAT (p : Nat) : Nat := 0x5001004 + 0x100 * p
def R.ENG_STAT_BANK (p : Nat) : Fld := ⟨0x5001004 + 0x100 * p, 0, 1⟩
def R.ENG_STAT_RUN (p : Nat) : Fld := ⟨0x5001004 + 0x100 * p, 1, 1⟩
def R.ENG_STAT_FAULT (p : Nat) : Fld := ⟨0x5001004 + 0x100 * p, 2, 1⟩
def R.ENG_STAT_OVR (p : Nat) : Fld := ⟨0x5001004 + 0x100 * p, 3, 1⟩
def R.ENG_STAT_FCODE (p : Nat) : Fld := ⟨0x5001004 + 0x100 * p, 4, 4⟩
def R.ENG_STAT_FIRST (p : Nat) : Fld := ⟨0x5001004 + 0x100 * p, 8, 1⟩
def R.ENG_STAT_FPC (p : Nat) : Fld := ⟨0x5001004 + 0x100 * p, 16, 12⟩

/-- ENG_MAXCYC: spec/05_orbit_engine.md R163. -/
def A.ENG_MAXCYC (p : Nat) : Nat := 0x5001008 + 0x100 * p
def R.ENG_MAXCYC_CYC (p : Nat) : Fld := ⟨0x5001008 + 0x100 * p, 0, 30⟩

/-- ENG_BUDGET: spec/05_orbit_engine.md R163. -/
def A.ENG_BUDGET (p : Nat) : Nat := 0x500100C + 0x100 * p
def R.ENG_BUDGET_CYC (p : Nat) : Fld := ⟨0x500100C + 0x100 * p, 0, 30⟩

/-- ENG_HOSTIN: spec/05_orbit_engine.md R163. -/
def A.ENG_HOSTIN (p q : Nat) : Nat := 0x5001010 + 0x100 * p + 0x4 * q
def R.ENG_HOSTIN_VAL (p q : Nat) : Fld := ⟨0x5001010 + 0x100 * p + 0x4 * q, 0, 32⟩

/-- ENG_OUT: spec/05_orbit_engine.md R163. -/
def A.ENG_OUT (p q : Nat) : Nat := 0x5001030 + 0x100 * p + 0x4 * q
def R.ENG_OUT_VAL (p q : Nat) : Fld := ⟨0x5001030 + 0x100 * p + 0x4 * q, 0, 32⟩

/-- ENG_CAPT0: spec/05_orbit_engine.md R163. -/
def A.ENG_CAPT0 (p q : Nat) : Nat := 0x5001040 + 0x100 * p + 0x10 * q
def R.ENG_CAPT0_SEC (p q : Nat) : Fld := ⟨0x5001040 + 0x100 * p + 0x10 * q, 0, 32⟩

/-- ENG_CAPT1: spec/05_orbit_engine.md R163. -/
def A.ENG_CAPT1 (p q : Nat) : Nat := 0x5001044 + 0x100 * p + 0x10 * q
def R.ENG_CAPT1_SEC (p q : Nat) : Fld := ⟨0x5001044 + 0x100 * p + 0x10 * q, 0, 16⟩
def R.ENG_CAPT1_DOM (p q : Nat) : Fld := ⟨0x5001044 + 0x100 * p + 0x10 * q, 16, 3⟩
def R.ENG_CAPT1_VALID (p q : Nat) : Fld := ⟨0x5001044 + 0x100 * p + 0x10 * q, 31, 1⟩

/-- ENG_CAPT2: spec/05_orbit_engine.md R163. -/
def A.ENG_CAPT2 (p q : Nat) : Nat := 0x5001048 + 0x100 * p + 0x10 * q
def R.ENG_CAPT2_NS (p q : Nat) : Fld := ⟨0x5001048 + 0x100 * p + 0x10 * q, 0, 30⟩

/-- ENG_CAPT3: spec/05_orbit_engine.md R163. -/
def A.ENG_CAPT3 (p q : Nat) : Nat := 0x500104C + 0x100 * p + 0x10 * q
def R.ENG_CAPT3_FRAC (p q : Nat) : Fld := ⟨0x500104C + 0x100 * p + 0x10 * q, 0, 16⟩
def R.ENG_CAPT3_ORB (p q : Nat) : Fld := ⟨0x500104C + 0x100 * p + 0x10 * q, 16, 16⟩

/-- PORT_GCTL: spec/06_gate_windows_and_launch.md R186. -/
def A.PORT_GCTL (p : Nat) : Nat := 0x100200C + portOff p
def R.PORT_GCTL_MARGIN (p : Nat) : Fld := ⟨0x100200C + portOff p, 20, 8⟩

/-- PORT_PREEMPT: spec/06_gate_windows_and_launch.md R186. -/
def A.PORT_PREEMPT (p : Nat) : Nat := 0x1002010 + portOff p
def R.PORT_PREEMPT_PMAC (p : Nat) : Fld := ⟨0x1002010 + portOff p, 0, 8⟩
def R.PORT_PREEMPT_EN (p : Nat) : Fld := ⟨0x1002010 + portOff p, 8, 1⟩
def R.PORT_PREEMPT_VERIFY_DIS (p : Nat) : Fld := ⟨0x1002010 + portOff p, 9, 1⟩
def R.PORT_PREEMPT_ADDFRAG (p : Nat) : Fld := ⟨0x1002010 + portOff p, 10, 2⟩
def R.PORT_PREEMPT_VTIME (p : Nat) : Fld := ⟨0x1002010 + portOff p, 16, 8⟩
def R.PORT_PREEMPT_STATUS (p : Nat) : Fld := ⟨0x1002010 + portOff p, 24, 3⟩
def R.PORT_PREEMPT_ACTIVE (p : Nat) : Fld := ⟨0x1002010 + portOff p, 27, 1⟩

/-- PORT_GSTAT: spec/06_gate_windows_and_launch.md R186. -/
def A.PORT_GSTAT (p : Nat) : Nat := 0x1002014 + portOff p
def R.PORT_GSTAT_STATE (p : Nat) : Fld := ⟨0x1002014 + portOff p, 0, 8⟩
def R.PORT_GSTAT_HOLD (p : Nat) : Fld := ⟨0x1002014 + portOff p, 8, 1⟩
def R.PORT_GSTAT_SUSP (p : Nat) : Fld := ⟨0x1002014 + portOff p, 9, 1⟩

/-- PORT_GLIST: spec/06_gate_windows_and_launch.md R186. -/
def A.PORT_GLIST (p : Nat) : Nat := 0x1002018 + portOff p
def R.PORT_GLIST_PEND (p : Nat) : Fld := ⟨0x1002018 + portOff p, 0, 1⟩
def R.PORT_GLIST_PAST (p : Nat) : Fld := ⟨0x1002018 + portOff p, 1, 1⟩
def R.PORT_GLIST_COMPILED (p : Nat) : Fld := ⟨0x1002018 + portOff p, 2, 1⟩

/-- PORT_GL_START_SEC_LO: spec/06_gate_windows_and_launch.md R186. -/
def A.PORT_GL_START_SEC_LO (p : Nat) : Nat := 0x100201C + portOff p
def R.PORT_GL_START_SEC_LO_SEC (p : Nat) : Fld := ⟨0x100201C + portOff p, 0, 32⟩

/-- PORT_GL_START_SEC_HI: spec/06_gate_windows_and_launch.md R186. -/
def A.PORT_GL_START_SEC_HI (p : Nat) : Nat := 0x1002020 + portOff p
def R.PORT_GL_START_SEC_HI_SEC (p : Nat) : Fld := ⟨0x1002020 + portOff p, 0, 16⟩

/-- PORT_GL_START_NS: spec/06_gate_windows_and_launch.md R186. -/
def A.PORT_GL_START_NS (p : Nat) : Nat := 0x1002024 + portOff p
def R.PORT_GL_START_NS_NS (p : Nat) : Fld := ⟨0x1002024 + portOff p, 0, 30⟩

/-- PORT_GCARRY: spec/06_gate_windows_and_launch.md R186. -/
def A.PORT_GCARRY (p : Nat) : Nat := 0x1002028 + portOff p
def R.PORT_GCARRY_CARRY (p : Nat) : Fld := ⟨0x1002028 + portOff p, 0, 30⟩

/-- HLS0: spec/06_gate_windows_and_launch.md R186. -/
def A.HLS0 (p k : Nat) : Nat := 0x1004000 + 0x100000 * (p / 8) + 0x40 * (p % 8) + 0x10 * k
def R.HLS0_SEC (p k : Nat) : Fld := ⟨0x1004000 + 0x100000 * (p / 8) + 0x40 * (p % 8) + 0x10 * k, 0, 32⟩

/-- HLS1: spec/06_gate_windows_and_launch.md R186. -/
def A.HLS1 (p k : Nat) : Nat := 0x1004004 + 0x100000 * (p / 8) + 0x40 * (p % 8) + 0x10 * k
def R.HLS1_SEC (p k : Nat) : Fld := ⟨0x1004004 + 0x100000 * (p / 8) + 0x40 * (p % 8) + 0x10 * k, 0, 16⟩
def R.HLS1_DOM (p k : Nat) : Fld := ⟨0x1004004 + 0x100000 * (p / 8) + 0x40 * (p % 8) + 0x10 * k, 16, 3⟩
def R.HLS1_CLASS (p k : Nat) : Fld := ⟨0x1004004 + 0x100000 * (p / 8) + 0x40 * (p % 8) + 0x10 * k, 20, 3⟩
def R.HLS1_ARM (p k : Nat) : Fld := ⟨0x1004004 + 0x100000 * (p / 8) + 0x40 * (p % 8) + 0x10 * k, 31, 1⟩

/-- HLS2: spec/06_gate_windows_and_launch.md R186. -/
def A.HLS2 (p k : Nat) : Nat := 0x1004008 + 0x100000 * (p / 8) + 0x40 * (p % 8) + 0x10 * k
def R.HLS2_NS (p k : Nat) : Fld := ⟨0x1004008 + 0x100000 * (p / 8) + 0x40 * (p % 8) + 0x10 * k, 0, 30⟩

/-- HLS3: spec/06_gate_windows_and_launch.md R186. -/
def A.HLS3 (p k : Nat) : Nat := 0x100400C + 0x100000 * (p / 8) + 0x40 * (p % 8) + 0x10 * k
def R.HLS3_DONE (p k : Nat) : Fld := ⟨0x100400C + 0x100000 * (p / 8) + 0x40 * (p % 8) + 0x10 * k, 0, 1⟩
def R.HLS3_LATE (p k : Nat) : Fld := ⟨0x100400C + 0x100000 * (p / 8) + 0x40 * (p % 8) + 0x10 * k, 1, 1⟩
def R.HLS3_MISS (p k : Nat) : Fld := ⟨0x100400C + 0x100000 * (p / 8) + 0x40 * (p % 8) + 0x10 * k, 2, 1⟩
def R.HLS3_LAPSE (p k : Nat) : Fld := ⟨0x100400C + 0x100000 * (p / 8) + 0x40 * (p % 8) + 0x10 * k, 3, 1⟩
def R.HLS3_TSQ (p k : Nat) : Fld := ⟨0x100400C + 0x100000 * (p / 8) + 0x40 * (p % 8) + 0x10 * k, 4, 1⟩
def R.HLS3_TSID (p k : Nat) : Fld := ⟨0x100400C + 0x100000 * (p / 8) + 0x40 * (p % 8) + 0x10 * k, 16, 16⟩

/-- DOM_TIME_SEC_LO: spec/07_time_domains.md R214. -/
def A.DOM_TIME_SEC_LO (p : Nat) : Nat := 0x2800000 + 0x100 * p
def R.DOM_TIME_SEC_LO_SEC (p : Nat) : Fld := ⟨0x2800000 + 0x100 * p, 0, 32⟩

/-- DOM_TIME_SEC_HI: spec/07_time_domains.md R214. -/
def A.DOM_TIME_SEC_HI (p : Nat) : Nat := 0x2800004 + 0x100 * p
def R.DOM_TIME_SEC_HI_SEC (p : Nat) : Fld := ⟨0x2800004 + 0x100 * p, 0, 16⟩

/-- DOM_TIME_NS: spec/07_time_domains.md R214. -/
def A.DOM_TIME_NS (p : Nat) : Nat := 0x2800008 + 0x100 * p
def R.DOM_TIME_NS_NS (p : Nat) : Fld := ⟨0x2800008 + 0x100 * p, 0, 30⟩

/-- DOM_TIME_FRAC: spec/07_time_domains.md R214. -/
def A.DOM_TIME_FRAC (p : Nat) : Nat := 0x280000C + 0x100 * p
def R.DOM_TIME_FRAC_FRAC (p : Nat) : Fld := ⟨0x280000C + 0x100 * p, 0, 16⟩

/-- DOM_SF_LO: spec/07_time_domains.md R214. -/
def A.DOM_SF_LO (p : Nat) : Nat := 0x2800010 + 0x100 * p
def R.DOM_SF_LO_NS (p : Nat) : Fld := ⟨0x2800010 + 0x100 * p, 0, 32⟩

/-- DOM_SF_HI: spec/07_time_domains.md R214. -/
def A.DOM_SF_HI (p : Nat) : Nat := 0x2800014 + 0x100 * p
def R.DOM_SF_HI_NS (p : Nat) : Fld := ⟨0x2800014 + 0x100 * p, 0, 32⟩

/-- DOM_EPOCHCNT: spec/07_time_domains.md R214. -/
def A.DOM_EPOCHCNT (p : Nat) : Nat := 0x2800018 + 0x100 * p
def R.DOM_EPOCHCNT_COUNT (p : Nat) : Fld := ⟨0x2800018 + 0x100 * p, 0, 32⟩

/-- DOM_RATE_LO: spec/07_time_domains.md R214. -/
def A.DOM_RATE_LO (p : Nat) : Nat := 0x2800020 + 0x100 * p
def R.DOM_RATE_LO_RATE (p : Nat) : Fld := ⟨0x2800020 + 0x100 * p, 0, 32⟩

/-- DOM_RATE_HI: spec/07_time_domains.md R214. -/
def A.DOM_RATE_HI (p : Nat) : Nat := 0x2800024 + 0x100 * p
def R.DOM_RATE_HI_RATE (p : Nat) : Fld := ⟨0x2800024 + 0x100 * p, 0, 16⟩

/-- DOM_SLEW: spec/07_time_domains.md R214. -/
def A.DOM_SLEW (p : Nat) : Nat := 0x2800028 + 0x100 * p
def R.DOM_SLEW_THRESH (p : Nat) : Fld := ⟨0x2800028 + 0x100 * p, 0, 20⟩
def R.DOM_SLEW_SLEW_PPM (p : Nat) : Fld := ⟨0x2800028 + 0x100 * p, 20, 8⟩

/-- DOM_CTRL: spec/07_time_domains.md R214. -/
def A.DOM_CTRL (p : Nat) : Nat := 0x280002C + 0x100 * p
def R.DOM_CTRL_STEP_EN (p : Nat) : Fld := ⟨0x280002C + 0x100 * p, 0, 1⟩
def R.DOM_CTRL_STEP_FIRST (p : Nat) : Fld := ⟨0x280002C + 0x100 * p, 1, 1⟩
def R.DOM_CTRL_HOSTLOOP (p : Nat) : Fld := ⟨0x280002C + 0x100 * p, 2, 1⟩

/-- DOM_STAT: spec/07_time_domains.md R214. -/
def A.DOM_STAT (p : Nat) : Nat := 0x2800030 + 0x100 * p
def R.DOM_STAT_STEP_PEND (p : Nat) : Fld := ⟨0x2800030 + 0x100 * p, 0, 1⟩
def R.DOM_STAT_SLEWING (p : Nat) : Fld := ⟨0x2800030 + 0x100 * p, 1, 1⟩
def R.DOM_STAT_LOCKED_SEEN (p : Nat) : Fld := ⟨0x2800030 + 0x100 * p, 2, 1⟩
def R.DOM_STAT_STEP_REFUSED (p : Nat) : Fld := ⟨0x2800030 + 0x100 * p, 3, 1⟩
def R.DOM_STAT_STEP_RANGE (p : Nat) : Fld := ⟨0x2800030 + 0x100 * p, 4, 1⟩
def R.DOM_STAT_RATE_CLAMP (p : Nat) : Fld := ⟨0x2800030 + 0x100 * p, 5, 1⟩
def R.DOM_STAT_WIGN (p : Nat) : Fld := ⟨0x2800030 + 0x100 * p, 6, 1⟩

/-- DOM_SLEW_REM: spec/07_time_domains.md R214. -/
def A.DOM_SLEW_REM (p : Nat) : Nat := 0x2800034 + 0x100 * p
def R.DOM_SLEW_REM_NS (p : Nat) : Fld := ⟨0x2800034 + 0x100 * p, 0, 32⟩

/-- DOM_STEPREQ_SEC_LO: spec/07_time_domains.md R214. -/
def A.DOM_STEPREQ_SEC_LO (p : Nat) : Nat := 0x2800040 + 0x100 * p
def R.DOM_STEPREQ_SEC_LO_SEC (p : Nat) : Fld := ⟨0x2800040 + 0x100 * p, 0, 32⟩

/-- DOM_STEPREQ_SEC_HI: spec/07_time_domains.md R214. -/
def A.DOM_STEPREQ_SEC_HI (p : Nat) : Nat := 0x2800044 + 0x100 * p
def R.DOM_STEPREQ_SEC_HI_SEC (p : Nat) : Fld := ⟨0x2800044 + 0x100 * p, 0, 16⟩
def R.DOM_STEPREQ_SEC_HI_NEG (p : Nat) : Fld := ⟨0x2800044 + 0x100 * p, 30, 1⟩
def R.DOM_STEPREQ_SEC_HI_GO (p : Nat) : Fld := ⟨0x2800044 + 0x100 * p, 31, 1⟩

/-- DOM_STEPREQ_NS: spec/07_time_domains.md R214. -/
def A.DOM_STEPREQ_NS (p : Nat) : Nat := 0x2800048 + 0x100 * p
def R.DOM_STEPREQ_NS_NS (p : Nat) : Fld := ⟨0x2800048 + 0x100 * p, 0, 30⟩

/-- TB_CYC_LO: spec/07_time_domains.md R215. -/
def A.TB_CYC_LO : Nat := 0x2801000
def R.TB_CYC_LO_CYC : Fld := ⟨0x2801000, 0, 32⟩

/-- TB_CYC_HI: spec/07_time_domains.md R215. -/
def A.TB_CYC_HI : Nat := 0x2801004
def R.TB_CYC_HI_CYC : Fld := ⟨0x2801004, 0, 32⟩

/-- TB_SNAP: spec/07_time_domains.md R215. -/
def A.TB_SNAP : Nat := 0x2801008
def R.TB_SNAP_SNAP : Fld := ⟨0x2801008, 0, 1⟩
def R.TB_SNAP_DONE : Fld := ⟨0x2801008, 1, 1⟩

/-- TB_SNAPCYC_LO: spec/07_time_domains.md R215. -/
def A.TB_SNAPCYC_LO : Nat := 0x2801180
def R.TB_SNAPCYC_LO_CYC : Fld := ⟨0x2801180, 0, 32⟩

/-- TB_SNAPCYC_HI: spec/07_time_domains.md R215. -/
def A.TB_SNAPCYC_HI : Nat := 0x2801184
def R.TB_SNAPCYC_HI_CYC : Fld := ⟨0x2801184, 0, 32⟩

/-- TOUT_CFG: spec/07_time_domains.md R215. -/
def A.TOUT_CFG (p : Nat) : Nat := 0x2810000 + 0x40 * p
def R.TOUT_CFG_MODE (p : Nat) : Fld := ⟨0x2810000 + 0x40 * p, 0, 3⟩
def R.TOUT_CFG_DOM (p : Nat) : Fld := ⟨0x2810000 + 0x40 * p, 4, 3⟩
def R.TOUT_CFG_LEVEL (p : Nat) : Fld := ⟨0x2810000 + 0x40 * p, 7, 1⟩
def R.TOUT_CFG_DRIVE (p : Nat) : Fld := ⟨0x2810000 + 0x40 * p, 8, 2⟩
def R.TOUT_CFG_QUAL (p : Nat) : Fld := ⟨0x2810000 + 0x40 * p, 10, 1⟩
def R.TOUT_CFG_CLAIM (p : Nat) : Fld := ⟨0x2810000 + 0x40 * p, 11, 1⟩
def R.TOUT_CFG_INV (p : Nat) : Fld := ⟨0x2810000 + 0x40 * p, 12, 1⟩
def R.TOUT_CFG_FINE (p : Nat) : Fld := ⟨0x2810000 + 0x40 * p, 16, 6⟩

/-- TOUT_PER_NUM: spec/07_time_domains.md R215. -/
def A.TOUT_PER_NUM (p : Nat) : Nat := 0x2810004 + 0x40 * p
def R.TOUT_PER_NUM_NUM (p : Nat) : Fld := ⟨0x2810004 + 0x40 * p, 0, 30⟩

/-- TOUT_PER_DEN: spec/07_time_domains.md R215. -/
def A.TOUT_PER_DEN (p : Nat) : Nat := 0x2810008 + 0x40 * p
def R.TOUT_PER_DEN_DEN (p : Nat) : Fld := ⟨0x2810008 + 0x40 * p, 0, 16⟩

/-- TOUT_PHASE: spec/07_time_domains.md R215. -/
def A.TOUT_PHASE (p : Nat) : Nat := 0x281000C + 0x40 * p
def R.TOUT_PHASE_NS (p : Nat) : Fld := ⟨0x281000C + 0x40 * p, 0, 30⟩

/-- TOUT_WIDTH: spec/07_time_domains.md R215. -/
def A.TOUT_WIDTH (p : Nat) : Nat := 0x2810010 + 0x40 * p
def R.TOUT_WIDTH_WIDTH (p : Nat) : Fld := ⟨0x2810010 + 0x40 * p, 0, 30⟩

/-- TOUT_STAT: spec/07_time_domains.md R215. -/
def A.TOUT_STAT (p : Nat) : Nat := 0x2810014 + 0x40 * p
def R.TOUT_STAT_LVL (p : Nat) : Fld := ⟨0x2810014 + 0x40 * p, 0, 1⟩
def R.TOUT_STAT_MUTED (p : Nat) : Fld := ⟨0x2810014 + 0x40 * p, 1, 1⟩
def R.TOUT_STAT_DROP (p : Nat) : Fld := ⟨0x2810014 + 0x40 * p, 2, 1⟩
def R.TOUT_STAT_BADCFG (p : Nat) : Fld := ⟨0x2810014 + 0x40 * p, 3, 1⟩

/-- TIN_CFG: spec/07_time_domains.md R215. -/
def A.TIN_CFG (p : Nat) : Nat := 0x2820000 + 0x40 * p
def R.TIN_CFG_EN (p : Nat) : Fld := ⟨0x2820000 + 0x40 * p, 0, 1⟩
def R.TIN_CFG_EDGE (p : Nat) : Fld := ⟨0x2820000 + 0x40 * p, 1, 2⟩
def R.TIN_CFG_DOM (p : Nat) : Fld := ⟨0x2820000 + 0x40 * p, 4, 3⟩
def R.TIN_CFG_IRQ_LVL (p : Nat) : Fld := ⟨0x2820000 + 0x40 * p, 8, 7⟩

/-- TIN_STAT: spec/07_time_domains.md R215. -/
def A.TIN_STAT (p : Nat) : Nat := 0x2820004 + 0x40 * p
def R.TIN_STAT_COUNT (p : Nat) : Fld := ⟨0x2820004 + 0x40 * p, 0, 7⟩
def R.TIN_STAT_OVF (p : Nat) : Fld := ⟨0x2820004 + 0x40 * p, 8, 1⟩
def R.TIN_STAT_PIN (p : Nat) : Fld := ⟨0x2820004 + 0x40 * p, 9, 1⟩
def R.TIN_STAT_STICKY (p : Nat) : Fld := ⟨0x2820004 + 0x40 * p, 10, 1⟩

/-- TIN_LOST: spec/07_time_domains.md R215. -/
def A.TIN_LOST (p : Nat) : Nat := 0x2820008 + 0x40 * p
def R.TIN_LOST_COUNT (p : Nat) : Fld := ⟨0x2820008 + 0x40 * p, 0, 32⟩

/-- TIN_HEAD0: spec/07_time_domains.md R215. -/
def A.TIN_HEAD0 (p : Nat) : Nat := 0x2820010 + 0x40 * p
def R.TIN_HEAD0_SEC (p : Nat) : Fld := ⟨0x2820010 + 0x40 * p, 0, 32⟩

/-- TIN_HEAD1: spec/07_time_domains.md R215. -/
def A.TIN_HEAD1 (p : Nat) : Nat := 0x2820014 + 0x40 * p
def R.TIN_HEAD1_SEC (p : Nat) : Fld := ⟨0x2820014 + 0x40 * p, 0, 16⟩
def R.TIN_HEAD1_RISE (p : Nat) : Fld := ⟨0x2820014 + 0x40 * p, 16, 1⟩
def R.TIN_HEAD1_COARSE (p : Nat) : Fld := ⟨0x2820014 + 0x40 * p, 17, 1⟩
def R.TIN_HEAD1_VALID (p : Nat) : Fld := ⟨0x2820014 + 0x40 * p, 18, 1⟩
def R.TIN_HEAD1_EPOCH (p : Nat) : Fld := ⟨0x2820014 + 0x40 * p, 24, 8⟩

/-- TIN_HEAD2: spec/07_time_domains.md R215. -/
def A.TIN_HEAD2 (p : Nat) : Nat := 0x2820018 + 0x40 * p
def R.TIN_HEAD2_NS (p : Nat) : Fld := ⟨0x2820018 + 0x40 * p, 0, 30⟩

/-- TIN_HEAD3: spec/07_time_domains.md R215. -/
def A.TIN_HEAD3 (p : Nat) : Nat := 0x282001C + 0x40 * p
def R.TIN_HEAD3_FRAC (p : Nat) : Fld := ⟨0x282001C + 0x40 * p, 0, 16⟩

/-- TRG0: spec/07_time_domains.md R215. -/
def A.TRG0 (p : Nat) : Nat := 0x2830000 + 0x10 * p
def R.TRG0_SEC (p : Nat) : Fld := ⟨0x2830000 + 0x10 * p, 0, 32⟩

/-- TRG1: spec/07_time_domains.md R215. -/
def A.TRG1 (p : Nat) : Nat := 0x2830004 + 0x10 * p
def R.TRG1_SEC (p : Nat) : Fld := ⟨0x2830004 + 0x10 * p, 0, 16⟩
def R.TRG1_DOM (p : Nat) : Fld := ⟨0x2830004 + 0x10 * p, 16, 3⟩
def R.TRG1_PIN (p : Nat) : Fld := ⟨0x2830004 + 0x10 * p, 20, 3⟩
def R.TRG1_LVL (p : Nat) : Fld := ⟨0x2830004 + 0x10 * p, 23, 1⟩
def R.TRG1_PINA (p : Nat) : Fld := ⟨0x2830004 + 0x10 * p, 24, 1⟩
def R.TRG1_INT (p : Nat) : Fld := ⟨0x2830004 + 0x10 * p, 25, 1⟩
def R.TRG1_ARM (p : Nat) : Fld := ⟨0x2830004 + 0x10 * p, 31, 1⟩

/-- TRG2: spec/07_time_domains.md R215. -/
def A.TRG2 (p : Nat) : Nat := 0x2830008 + 0x10 * p
def R.TRG2_NS (p : Nat) : Fld := ⟨0x2830008 + 0x10 * p, 0, 30⟩

/-- TRG3: spec/07_time_domains.md R215. -/
def A.TRG3 (p : Nat) : Nat := 0x283000C + 0x10 * p
def R.TRG3_DONE (p : Nat) : Fld := ⟨0x283000C + 0x10 * p, 0, 1⟩
def R.TRG3_LATE (p : Nat) : Fld := ⟨0x283000C + 0x10 * p, 1, 1⟩
def R.TRG3_PINERR (p : Nat) : Fld := ⟨0x283000C + 0x10 * p, 2, 1⟩
def R.TRG3_FINE (p : Nat) : Fld := ⟨0x283000C + 0x10 * p, 8, 6⟩

/-- PTP_INST: spec/08_ptp_and_fibre_timing.md R246. -/
def A.PTP_INST (p : Nat) : Nat := 0x2840000 + 0x100 * p
def R.PTP_INST_EN (p : Nat) : Fld := ⟨0x2840000 + 0x100 * p, 0, 1⟩
def R.PTP_INST_TYPE (p : Nat) : Fld := ⟨0x2840000 + 0x100 * p, 1, 2⟩
def R.PTP_INST_PROFILE (p : Nat) : Fld := ⟨0x2840000 + 0x100 * p, 4, 3⟩
def R.PTP_INST_DOMNUM (p : Nat) : Fld := ⟨0x2840000 + 0x100 * p, 8, 8⟩
def R.PTP_INST_SDOID (p : Nat) : Fld := ⟨0x2840000 + 0x100 * p, 16, 12⟩
def R.PTP_INST_AUTH (p : Nat) : Fld := ⟨0x2840000 + 0x100 * p, 28, 1⟩

/-- PTP_INST_AUX: spec/08_ptp_and_fibre_timing.md R246. -/
def A.PTP_INST_AUX (p : Nat) : Nat := 0x2840004 + 0x100 * p
def R.PTP_INST_AUX_TCLASS (p : Nat) : Fld := ⟨0x2840004 + 0x100 * p, 0, 3⟩
def R.PTP_INST_AUX_TC_SYNC_PORT (p : Nat) : Fld := ⟨0x2840004 + 0x100 * p, 8, 6⟩
def R.PTP_INST_AUX_TC_SYNT (p : Nat) : Fld := ⟨0x2840004 + 0x100 * p, 14, 1⟩
def R.PTP_INST_AUX_SPP (p : Nat) : Fld := ⟨0x2840004 + 0x100 * p, 16, 8⟩

/-- PTP_FW_OVF: spec/08_ptp_and_fibre_timing.md R246. -/
def A.PTP_FW_OVF (p : Nat) : Nat := 0x2840008 + 0x100 * p
def R.PTP_FW_OVF_COUNT (p : Nat) : Fld := ⟨0x2840008 + 0x100 * p, 0, 32⟩

/-- PTP_INST_STICKY: spec/08_ptp_and_fibre_timing.md R246. -/
def A.PTP_INST_STICKY (p : Nat) : Nat := 0x284000C + 0x100 * p
def R.PTP_INST_STICKY_STICKY (p : Nat) : Fld := ⟨0x284000C + 0x100 * p, 0, 1⟩

/-- PTP_PORT: spec/08_ptp_and_fibre_timing.md R246. -/
def A.PTP_PORT (p : Nat) : Nat := 0x1005000 + portOff p
def R.PTP_PORT_INST (p : Nat) : Fld := ⟨0x1005000 + portOff p, 0, 8⟩
def R.PTP_PORT_DELAY (p : Nat) : Fld := ⟨0x1005000 + portOff p, 8, 2⟩
def R.PTP_PORT_ONESTEP (p : Nat) : Fld := ⟨0x1005000 + portOff p, 10, 1⟩
def R.PTP_PORT_TRANSPORT (p : Nat) : Fld := ⟨0x1005000 + portOff p, 11, 3⟩
def R.PTP_PORT_FINE (p : Nat) : Fld := ⟨0x1005000 + portOff p, 14, 1⟩
def R.PTP_PORT_TWIN (p : Nat) : Fld := ⟨0x1005000 + portOff p, 15, 1⟩
def R.PTP_PORT_TSQ_FWD (p : Nat) : Fld := ⟨0x1005000 + portOff p, 16, 1⟩
def R.PTP_PORT_TXSYN (p : Nat) : Fld := ⟨0x1005000 + portOff p, 17, 1⟩
def R.PTP_PORT_TXDOM (p : Nat) : Fld := ⟨0x1005000 + portOff p, 18, 3⟩
def R.PTP_PORT_LINKDLY (p : Nat) : Fld := ⟨0x1005000 + portOff p, 21, 1⟩

/-- PTP_ASYM_COEF: spec/08_ptp_and_fibre_timing.md R246. -/
def A.PTP_ASYM_COEF (p : Nat) : Nat := 0x1005004 + portOff p
def R.PTP_ASYM_COEF_COEF (p : Nat) : Fld := ⟨0x1005004 + portOff p, 0, 32⟩

/-- PTP_ASYM_CONST: spec/08_ptp_and_fibre_timing.md R246. -/
def A.PTP_ASYM_CONST (p : Nat) : Nat := 0x1005008 + portOff p
def R.PTP_ASYM_CONST_PS (p : Nat) : Fld := ⟨0x1005008 + portOff p, 0, 32⟩

/-- PTP_ASYM_LATCH: spec/08_ptp_and_fibre_timing.md R246. -/
def A.PTP_ASYM_LATCH (p : Nat) : Nat := 0x100500C + portOff p
def R.PTP_ASYM_LATCH_PS (p : Nat) : Fld := ⟨0x100500C + portOff p, 0, 32⟩

/-- PTP_BOARD_LAT: spec/08_ptp_and_fibre_timing.md R246. -/
def A.PTP_BOARD_LAT (p : Nat) : Nat := 0x1005010 + portOff p
def R.PTP_BOARD_LAT_ING (p : Nat) : Fld := ⟨0x1005010 + portOff p, 0, 16⟩
def R.PTP_BOARD_LAT_EGR (p : Nat) : Fld := ⟨0x1005010 + portOff p, 16, 16⟩

/-- PTP_LAT_RX: spec/08_ptp_and_fibre_timing.md R246. -/
def A.PTP_LAT_RX (p : Nat) : Nat := 0x1005014 + portOff p
def R.PTP_LAT_RX_PS (p : Nat) : Fld := ⟨0x1005014 + portOff p, 0, 32⟩

/-- PTP_LAT_TX: spec/08_ptp_and_fibre_timing.md R246. -/
def A.PTP_LAT_TX (p : Nat) : Nat := 0x1005018 + portOff p
def R.PTP_LAT_TX_PS (p : Nat) : Fld := ⟨0x1005018 + portOff p, 0, 32⟩

/-- PTP_MPD_NS: spec/08_ptp_and_fibre_timing.md R246. -/
def A.PTP_MPD_NS (p : Nat) : Nat := 0x100501C + portOff p
def R.PTP_MPD_NS_NS (p : Nat) : Fld := ⟨0x100501C + portOff p, 0, 32⟩

/-- PTP_MPD_FRAC: spec/08_ptp_and_fibre_timing.md R246. -/
def A.PTP_MPD_FRAC (p : Nat) : Nat := 0x1005020 + portOff p
def R.PTP_MPD_FRAC_FRAC (p : Nat) : Fld := ⟨0x1005020 + portOff p, 0, 16⟩

/-- PTP_PDCFG: spec/08_ptp_and_fibre_timing.md R246. -/
def A.PTP_PDCFG (p : Nat) : Nat := 0x1005024 + portOff p
def R.PTP_PDCFG_PDSTEP (p : Nat) : Fld := ⟨0x1005024 + portOff p, 0, 16⟩
def R.PTP_PDCFG_PDTOL (p : Nat) : Fld := ⟨0x1005024 + portOff p, 16, 8⟩
def R.PTP_PDCFG_SETTLE (p : Nat) : Fld := ⟨0x1005024 + portOff p, 24, 8⟩

/-- PTP_PSTAT: spec/08_ptp_and_fibre_timing.md R246. -/
def A.PTP_PSTAT (p : Nat) : Nat := 0x1005028 + portOff p
def R.PTP_PSTAT_FINE_LOCK (p : Nat) : Fld := ⟨0x1005028 + portOff p, 0, 1⟩
def R.PTP_PSTAT_PD_GATED (p : Nat) : Fld := ⟨0x1005028 + portOff p, 1, 1⟩
def R.PTP_PSTAT_ASYM_LATCHED (p : Nat) : Fld := ⟨0x1005028 + portOff p, 2, 1⟩
def R.PTP_PSTAT_PD_ALARM (p : Nat) : Fld := ⟨0x1005028 + portOff p, 3, 1⟩
def R.PTP_PSTAT_TX_CLAMP (p : Nat) : Fld := ⟨0x1005028 + portOff p, 4, 1⟩
def R.PTP_PSTAT_COARSE (p : Nat) : Fld := ⟨0x1005028 + portOff p, 5, 1⟩
def R.PTP_PSTAT_ECHO_V (p : Nat) : Fld := ⟨0x1005028 + portOff p, 6, 1⟩
def R.PTP_PSTAT_ECHO (p : Nat) : Fld := ⟨0x1005028 + portOff p, 16, 16⟩

/-- TSQ_STAT: spec/08_ptp_and_fibre_timing.md R246. -/
def A.TSQ_STAT (p : Nat) : Nat := 0x100502C + portOff p
def R.TSQ_STAT_COUNT (p : Nat) : Fld := ⟨0x100502C + portOff p, 0, 7⟩
def R.TSQ_STAT_OVF (p : Nat) : Fld := ⟨0x100502C + portOff p, 8, 1⟩
def R.TSQ_STAT_DOM (p : Nat) : Fld := ⟨0x100502C + portOff p, 12, 3⟩
def R.TSQ_STAT_IRQ_LVL (p : Nat) : Fld := ⟨0x100502C + portOff p, 16, 7⟩

/-- TSQ0: spec/08_ptp_and_fibre_timing.md R246. -/
def A.TSQ0 (p : Nat) : Nat := 0x1005030 + portOff p
def R.TSQ0_SEC (p : Nat) : Fld := ⟨0x1005030 + portOff p, 0, 32⟩

/-- TSQ1: spec/08_ptp_and_fibre_timing.md R246. -/
def A.TSQ1 (p : Nat) : Nat := 0x1005034 + portOff p
def R.TSQ1_SEC (p : Nat) : Fld := ⟨0x1005034 + portOff p, 0, 16⟩
def R.TSQ1_DOM (p : Nat) : Fld := ⟨0x1005034 + portOff p, 16, 3⟩
def R.TSQ1_SRC (p : Nat) : Fld := ⟨0x1005034 + portOff p, 19, 1⟩
def R.TSQ1_MSGTYPE (p : Nat) : Fld := ⟨0x1005034 + portOff p, 20, 4⟩
def R.TSQ1_VALID (p : Nat) : Fld := ⟨0x1005034 + portOff p, 24, 1⟩

/-- TSQ2: spec/08_ptp_and_fibre_timing.md R246. -/
def A.TSQ2 (p : Nat) : Nat := 0x1005038 + portOff p
def R.TSQ2_NS (p : Nat) : Fld := ⟨0x1005038 + portOff p, 0, 30⟩

/-- TSQ3: spec/08_ptp_and_fibre_timing.md R246. -/
def A.TSQ3 (p : Nat) : Nat := 0x100503C + portOff p
def R.TSQ3_FRAC (p : Nat) : Fld := ⟨0x100503C + portOff p, 0, 16⟩
def R.TSQ3_TSID (p : Nat) : Fld := ⟨0x100503C + portOff p, 16, 16⟩

/-- TSQ4: spec/08_ptp_and_fibre_timing.md R246. -/
def A.TSQ4 (p : Nat) : Nat := 0x1005040 + portOff p
def R.TSQ4_SEQID (p : Nat) : Fld := ⟨0x1005040 + portOff p, 0, 16⟩
def R.TSQ4_DOMNUM (p : Nat) : Fld := ⟨0x1005040 + portOff p, 16, 8⟩

/-- TDC_CALCFG: spec/09_edge_measurement_and_calibration.md R273. -/
def A.TDC_CALCFG : Nat := 0x3000000
def R.TDC_CALCFG_CAL_DT : Fld := ⟨0x3000000, 0, 4⟩
def R.TDC_CALCFG_MONSRC : Fld := ⟨0x3000000, 4, 1⟩

/-- TDC_CALSTAT: spec/09_edge_measurement_and_calibration.md R273. -/
def A.TDC_CALSTAT : Nat := 0x3000004
def R.TDC_CALSTAT_BUSY : Fld := ⟨0x3000004, 0, 10⟩

/-- TDC_TINCFG: spec/09_edge_measurement_and_calibration.md R273. -/
def A.TDC_TINCFG (p : Nat) : Nat := 0x3000C00 + 0x10 * p
def R.TDC_TINCFG_HOLDOFF (p : Nat) : Fld := ⟨0x3000C00 + 0x10 * p, 0, 10⟩

/-- TDC_SUPPRESS: spec/09_edge_measurement_and_calibration.md R273. -/
def A.TDC_SUPPRESS (p : Nat) : Nat := 0x3000C04 + 0x10 * p
def R.TDC_SUPPRESS_COUNT (p : Nat) : Fld := ⟨0x3000C04 + 0x10 * p, 0, 32⟩

/-- TDC_BUSY: spec/09_edge_measurement_and_calibration.md R273. -/
def A.TDC_BUSY (p : Nat) : Nat := 0x3000C08 + 0x10 * p
def R.TDC_BUSY_COUNT (p : Nat) : Fld := ⟨0x3000C08 + 0x10 * p, 0, 32⟩

/-- TDC_TINSTICKY: spec/09_edge_measurement_and_calibration.md R273. -/
def A.TDC_TINSTICKY (p : Nat) : Nat := 0x3000C0C + 0x10 * p
def R.TDC_TINSTICKY_STICKY (p : Nat) : Fld := ⟨0x3000C0C + 0x10 * p, 0, 2⟩

/-- IVL_CFG: spec/09_edge_measurement_and_calibration.md R273. -/
def A.IVL_CFG (p : Nat) : Nat := 0x3000E00 + 0x20 * p
def R.IVL_CFG_EN (p : Nat) : Fld := ⟨0x3000E00 + 0x20 * p, 0, 1⟩
def R.IVL_CFG_START (p : Nat) : Fld := ⟨0x3000E00 + 0x20 * p, 1, 3⟩
def R.IVL_CFG_SEDGE (p : Nat) : Fld := ⟨0x3000E00 + 0x20 * p, 4, 1⟩
def R.IVL_CFG_STOP (p : Nat) : Fld := ⟨0x3000E00 + 0x20 * p, 5, 3⟩
def R.IVL_CFG_PEDGE (p : Nat) : Fld := ⟨0x3000E00 + 0x20 * p, 8, 1⟩
def R.IVL_CFG_DOM (p : Nat) : Fld := ⟨0x3000E00 + 0x20 * p, 9, 3⟩

/-- IVL_WIN: spec/09_edge_measurement_and_calibration.md R273. -/
def A.IVL_WIN (p : Nat) : Nat := 0x3000E04 + 0x20 * p
def R.IVL_WIN_WIN (p : Nat) : Fld := ⟨0x3000E04 + 0x20 * p, 0, 30⟩

/-- IVL_RES_LO: spec/09_edge_measurement_and_calibration.md R273. -/
def A.IVL_RES_LO (p : Nat) : Nat := 0x3000E08 + 0x20 * p
def R.IVL_RES_LO_VAL (p : Nat) : Fld := ⟨0x3000E08 + 0x20 * p, 0, 32⟩

/-- IVL_RES_HI: spec/09_edge_measurement_and_calibration.md R273. -/
def A.IVL_RES_HI (p : Nat) : Nat := 0x3000E0C + 0x20 * p
def R.IVL_RES_HI_VAL (p : Nat) : Fld := ⟨0x3000E0C + 0x20 * p, 0, 32⟩

/-- IVL_STAT: spec/09_edge_measurement_and_calibration.md R273. -/
def A.IVL_STAT (p : Nat) : Nat := 0x3000E10 + 0x20 * p
def R.IVL_STAT_NEW (p : Nat) : Fld := ⟨0x3000E10 + 0x20 * p, 0, 1⟩
def R.IVL_STAT_BELOW (p : Nat) : Fld := ⟨0x3000E10 + 0x20 * p, 1, 1⟩
def R.IVL_STAT_ORDER (p : Nat) : Fld := ⟨0x3000E10 + 0x20 * p, 2, 1⟩
def R.IVL_STAT_COARSE (p : Nat) : Fld := ⟨0x3000E10 + 0x20 * p, 3, 1⟩
def R.IVL_STAT_OVF (p : Nat) : Fld := ⟨0x3000E10 + 0x20 * p, 4, 1⟩

/-- TDC_CHSTAT: spec/09_edge_measurement_and_calibration.md R273. -/
def A.TDC_CHSTAT (p : Nat) : Nat := 0x3001000 + 0x20 * p
def R.TDC_CHSTAT_STATE (p : Nat) : Fld := ⟨0x3001000 + 0x20 * p, 0, 3⟩
def R.TDC_CHSTAT_GRADE (p : Nat) : Fld := ⟨0x3001000 + 0x20 * p, 3, 2⟩
def R.TDC_CHSTAT_PEND (p : Nat) : Fld := ⟨0x3001000 + 0x20 * p, 5, 1⟩
def R.TDC_CHSTAT_RUN (p : Nat) : Fld := ⟨0x3001000 + 0x20 * p, 6, 1⟩
def R.TDC_CHSTAT_STALE (p : Nat) : Fld := ⟨0x3001000 + 0x20 * p, 7, 1⟩
def R.TDC_CHSTAT_CAL_BAD (p : Nat) : Fld := ⟨0x3001000 + 0x20 * p, 8, 1⟩
def R.TDC_CHSTAT_SUBST (p : Nat) : Fld := ⟨0x3001000 + 0x20 * p, 9, 7⟩
def R.TDC_CHSTAT_TCAL (p : Nat) : Fld := ⟨0x3001000 + 0x20 * p, 16, 10⟩
def R.TDC_CHSTAT_SRC (p : Nat) : Fld := ⟨0x3001000 + 0x20 * p, 26, 1⟩

/-- TDC_CHLSB: spec/09_edge_measurement_and_calibration.md R273. -/
def A.TDC_CHLSB (p : Nat) : Nat := 0x3001004 + 0x20 * p
def R.TDC_CHLSB_LSB (p : Nat) : Fld := ⟨0x3001004 + 0x20 * p, 0, 18⟩

/-- TDC_CHCRC: spec/09_edge_measurement_and_calibration.md R273. -/
def A.TDC_CHCRC (p : Nat) : Nat := 0x3001008 + 0x20 * p
def R.TDC_CHCRC_CRC (p : Nat) : Fld := ⟨0x3001008 + 0x20 * p, 0, 16⟩

/-- TDC_CHDELTA: spec/09_edge_measurement_and_calibration.md R273. -/
def A.TDC_CHDELTA (p : Nat) : Nat := 0x300100C + 0x20 * p
def R.TDC_CHDELTA_DELTA (p : Nat) : Fld := ⟨0x300100C + 0x20 * p, 0, 16⟩

/-- CAL_RUNS: spec/09_edge_measurement_and_calibration.md R273. -/
def A.CAL_RUNS (p : Nat) : Nat := 0x3001010 + 0x20 * p
def R.CAL_RUNS_COUNT (p : Nat) : Fld := ⟨0x3001010 + 0x20 * p, 0, 32⟩

/-- CAL_REJECT: spec/09_edge_measurement_and_calibration.md R273. -/
def A.CAL_REJECT (p : Nat) : Nat := 0x3001014 + 0x20 * p
def R.CAL_REJECT_COUNT (p : Nat) : Fld := ⟨0x3001014 + 0x20 * p, 0, 32⟩

/-- TDC_INVALID: spec/09_edge_measurement_and_calibration.md R273. -/
def A.TDC_INVALID (p : Nat) : Nat := 0x3001018 + 0x20 * p
def R.TDC_INVALID_COUNT (p : Nat) : Fld := ⟨0x3001018 + 0x20 * p, 0, 32⟩

/-- TDC_CHSTICKY: spec/09_edge_measurement_and_calibration.md R273. -/
def A.TDC_CHSTICKY (p : Nat) : Nat := 0x300101C + 0x20 * p
def R.TDC_CHSTICKY_STICKY (p : Nat) : Fld := ⟨0x300101C + 0x20 * p, 0, 3⟩

/-- TDC_BIN: spec/09_edge_measurement_and_calibration.md R273. -/
def A.TDC_BIN (p q : Nat) : Nat := 0x3010000 + 0x800 * p + 0x4 * q
def R.TDC_BIN_B (p q : Nat) : Fld := ⟨0x3010000 + 0x800 * p + 0x4 * q, 0, 16⟩

/-- REF_GLB: spec/10_reference_selection.md R298. -/
def A.REF_GLB : Nat := 0x3800000
def R.REF_GLB_HQUAL : Fld := ⟨0x3800000, 0, 1⟩
def R.REF_GLB_LIMSET : Fld := ⟨0x3800000, 1, 2⟩
def R.REF_GLB_RANGE_NOW : Fld := ⟨0x3800000, 3, 1⟩
def R.REF_GLB_RANGE : Fld := ⟨0x3800000, 4, 1⟩
def R.REF_GLB_RANGE_IEN : Fld := ⟨0x3800000, 5, 1⟩

/-- REF_REFCLK_OFF: spec/10_reference_selection.md R298. -/
def A.REF_REFCLK_OFF : Nat := 0x3800004
def R.REF_REFCLK_OFF_OFF : Fld := ⟨0x3800004, 0, 32⟩

/-- REF_DCFG: spec/10_reference_selection.md R298. -/
def A.REF_DCFG (p : Nat) : Nat := 0x3801000 + 0x400 * p
def R.REF_DCFG_BW (p : Nat) : Fld := ⟨0x3801000 + 0x400 * p, 0, 5⟩
def R.REF_DCFG_ACQ_BW (p : Nat) : Fld := ⟨0x3801000 + 0x400 * p, 8, 5⟩
def R.REF_DCFG_EXTCFG (p : Nat) : Fld := ⟨0x3801000 + 0x400 * p, 16, 1⟩
def R.REF_DCFG_NONREV (p : Nat) : Fld := ⟨0x3801000 + 0x400 * p, 17, 1⟩

/-- REF_DLIM: spec/10_reference_selection.md R298. -/
def A.REF_DLIM (p : Nat) : Nat := 0x3801004 + 0x400 * p
def R.REF_DLIM_SOFT (p : Nat) : Fld := ⟨0x3801004 + 0x400 * p, 0, 12⟩
def R.REF_DLIM_HARD (p : Nat) : Fld := ⟨0x3801004 + 0x400 * p, 16, 12⟩

/-- REF_DLIMR: spec/10_reference_selection.md R298. -/
def A.REF_DLIMR (p : Nat) : Nat := 0x3801008 + 0x400 * p
def R.REF_DLIMR_SOFT_R (p : Nat) : Fld := ⟨0x3801008 + 0x400 * p, 0, 12⟩
def R.REF_DLIMR_HARD_R (p : Nat) : Fld := ⟨0x3801008 + 0x400 * p, 16, 12⟩

/-- REF_DTIME: spec/10_reference_selection.md R298. -/
def A.REF_DTIME (p : Nat) : Nat := 0x380100C + 0x400 * p
def R.REF_DTIME_WTR (p : Nat) : Fld := ⟨0x380100C + 0x400 * p, 0, 8⟩
def R.REF_DTIME_DWIN (p : Nat) : Fld := ⟨0x380100C + 0x400 * p, 8, 12⟩
def R.REF_DTIME_LOCK_T (p : Nat) : Fld := ⟨0x380100C + 0x400 * p, 20, 8⟩

/-- REF_DLOCK: spec/10_reference_selection.md R298. -/
def A.REF_DLOCK (p : Nat) : Nat := 0x3801010 + 0x400 * p
def R.REF_DLOCK_LOCK_PH (p : Nat) : Fld := ⟨0x3801010 + 0x400 * p, 0, 16⟩
def R.REF_DLOCK_LOCK_FR (p : Nat) : Fld := ⟨0x3801010 + 0x400 * p, 16, 12⟩

/-- REF_DHOLD: spec/10_reference_selection.md R298. -/
def A.REF_DHOLD (p : Nat) : Nat := 0x3801014 + 0x400 * p
def R.REF_DHOLD_EXCLUDE (p : Nat) : Fld := ⟨0x3801014 + 0x400 * p, 0, 16⟩
def R.REF_DHOLD_AVG (p : Nat) : Fld := ⟨0x3801014 + 0x400 * p, 16, 16⟩

/-- REF_DHOLD2: spec/10_reference_selection.md R298. -/
def A.REF_DHOLD2 (p : Nat) : Nat := 0x3801018 + 0x400 * p
def R.REF_DHOLD2_HOLD_MIN (p : Nat) : Fld := ⟨0x3801018 + 0x400 * p, 0, 16⟩
def R.REF_DHOLD2_HO_SPEC (p : Nat) : Fld := ⟨0x3801018 + 0x400 * p, 16, 16⟩

/-- REF_DQUAL: spec/10_reference_selection.md R298. -/
def A.REF_DQUAL (p : Nat) : Nat := 0x380101C + 0x400 * p
def R.REF_DQUAL_HO_CLASS (p : Nat) : Fld := ⟨0x380101C + 0x400 * p, 0, 8⟩
def R.REF_DQUAL_DEG_CLASS (p : Nat) : Fld := ⟨0x380101C + 0x400 * p, 8, 8⟩
def R.REF_DQUAL_FREE_CLASS (p : Nat) : Fld := ⟨0x380101C + 0x400 * p, 16, 8⟩
def R.REF_DQUAL_BO_RATE (p : Nat) : Fld := ⟨0x380101C + 0x400 * p, 24, 8⟩

/-- REF_DSTAT: spec/10_reference_selection.md R298. -/
def A.REF_DSTAT (p : Nat) : Nat := 0x3801020 + 0x400 * p
def R.REF_DSTAT_STATE (p : Nat) : Fld := ⟨0x3801020 + 0x400 * p, 0, 3⟩
def R.REF_DSTAT_UNQUAL (p : Nat) : Fld := ⟨0x3801020 + 0x400 * p, 3, 1⟩
def R.REF_DSTAT_SEL (p : Nat) : Fld := ⟨0x3801020 + 0x400 * p, 4, 4⟩
def R.REF_DSTAT_SELV (p : Nat) : Fld := ⟨0x3801020 + 0x400 * p, 8, 1⟩
def R.REF_DSTAT_DISAGREE (p : Nat) : Fld := ⟨0x3801020 + 0x400 * p, 9, 1⟩
def R.REF_DSTAT_GATED (p : Nat) : Fld := ⟨0x3801020 + 0x400 * p, 10, 1⟩
def R.REF_DSTAT_FORCED (p : Nat) : Fld := ⟨0x3801020 + 0x400 * p, 11, 1⟩
def R.REF_DSTAT_BW_EFF (p : Nat) : Fld := ⟨0x3801020 + 0x400 * p, 16, 5⟩

/-- REF_DHIST: spec/10_reference_selection.md R298. -/
def A.REF_DHIST (p : Nat) : Nat := 0x3801024 + 0x400 * p
def R.REF_DHIST_SWITCH (p : Nat) : Fld := ⟨0x3801024 + 0x400 * p, 0, 1⟩
def R.REF_DHIST_HOLD (p : Nat) : Fld := ⟨0x3801024 + 0x400 * p, 1, 1⟩
def R.REF_DHIST_UNQ (p : Nat) : Fld := ⟨0x3801024 + 0x400 * p, 2, 1⟩
def R.REF_DHIST_DISAGREE (p : Nat) : Fld := ⟨0x3801024 + 0x400 * p, 3, 1⟩
def R.REF_DHIST_NOCAND (p : Nat) : Fld := ⟨0x3801024 + 0x400 * p, 4, 1⟩
def R.REF_DHIST_LOCK_LOST (p : Nat) : Fld := ⟨0x3801024 + 0x400 * p, 5, 1⟩
def R.REF_DHIST_CAND_FAIL (p : Nat) : Fld := ⟨0x3801024 + 0x400 * p, 6, 1⟩

/-- REF_DIEN: spec/10_reference_selection.md R298. -/
def A.REF_DIEN (p : Nat) : Nat := 0x3801028 + 0x400 * p
def R.REF_DIEN_IEN (p : Nat) : Fld := ⟨0x3801028 + 0x400 * p, 0, 7⟩

/-- REF_DHRATE_LO: spec/10_reference_selection.md R298. -/
def A.REF_DHRATE_LO (p : Nat) : Nat := 0x380102C + 0x400 * p
def R.REF_DHRATE_LO_RATE (p : Nat) : Fld := ⟨0x380102C + 0x400 * p, 0, 32⟩

/-- REF_DHRATE_HI: spec/10_reference_selection.md R298. -/
def A.REF_DHRATE_HI (p : Nat) : Nat := 0x3801030 + 0x400 * p
def R.REF_DHRATE_HI_RATE (p : Nat) : Fld := ⟨0x3801030 + 0x400 * p, 0, 16⟩

/-- REF_DHVALID: spec/10_reference_selection.md R298. -/
def A.REF_DHVALID (p : Nat) : Nat := 0x3801034 + 0x400 * p
def R.REF_DHVALID_SEC (p : Nat) : Fld := ⟨0x3801034 + 0x400 * p, 0, 16⟩

/-- REF_DBO: spec/10_reference_selection.md R298. -/
def A.REF_DBO (p : Nat) : Nat := 0x3801038 + 0x400 * p
def R.REF_DBO_NS (p : Nat) : Fld := ⟨0x3801038 + 0x400 * p, 0, 32⟩

/-- REF_DADV: spec/10_reference_selection.md R298. -/
def A.REF_DADV (p : Nat) : Nat := 0x380103C + 0x400 * p
def R.REF_DADV_CLASS (p : Nat) : Fld := ⟨0x380103C + 0x400 * p, 0, 8⟩
def R.REF_DADV_ACC (p : Nat) : Fld := ⟨0x380103C + 0x400 * p, 8, 8⟩
def R.REF_DADV_VAR (p : Nat) : Fld := ⟨0x380103C + 0x400 * p, 16, 16⟩

/-- REF_SWITCHES: spec/10_reference_selection.md R298. -/
def A.REF_SWITCHES (p : Nat) : Nat := 0x3801040 + 0x400 * p
def R.REF_SWITCHES_COUNT (p : Nat) : Fld := ⟨0x3801040 + 0x400 * p, 0, 32⟩

/-- REF_DSTICKY: spec/10_reference_selection.md R298. -/
def A.REF_DSTICKY (p : Nat) : Nat := 0x3801044 + 0x400 * p
def R.REF_DSTICKY_STICKY (p : Nat) : Fld := ⟨0x3801044 + 0x400 * p, 0, 1⟩

/-- REF_CCFG: spec/10_reference_selection.md R298. -/
def A.REF_CCFG (p q : Nat) : Nat := 0x3801100 + 0x400 * p + 0x20 * q
def R.REF_CCFG_EN (p q : Nat) : Fld := ⟨0x3801100 + 0x400 * p + 0x20 * q, 0, 1⟩
def R.REF_CCFG_KIND (p q : Nat) : Fld := ⟨0x3801100 + 0x400 * p + 0x20 * q, 1, 2⟩
def R.REF_CCFG_SRC (p q : Nat) : Fld := ⟨0x3801100 + 0x400 * p + 0x20 * q, 4, 6⟩
def R.REF_CCFG_PRIO (p q : Nat) : Fld := ⟨0x3801100 + 0x400 * p + 0x20 * q, 16, 8⟩
def R.REF_CCFG_MON (p q : Nat) : Fld := ⟨0x3801100 + 0x400 * p + 0x20 * q, 24, 1⟩

/-- REF_CQUAL: spec/10_reference_selection.md R298. -/
def A.REF_CQUAL (p q : Nat) : Nat := 0x3801104 + 0x400 * p + 0x20 * q
def R.REF_CQUAL_CLASS (p q : Nat) : Fld := ⟨0x3801104 + 0x400 * p + 0x20 * q, 0, 8⟩
def R.REF_CQUAL_ACC (p q : Nat) : Fld := ⟨0x3801104 + 0x400 * p + 0x20 * q, 8, 8⟩
def R.REF_CQUAL_VAR (p q : Nat) : Fld := ⟨0x3801104 + 0x400 * p + 0x20 * q, 16, 16⟩

/-- REF_CTIN: spec/10_reference_selection.md R298. -/
def A.REF_CTIN (p q : Nat) : Nat := 0x3801108 + 0x400 * p + 0x20 * q
def R.REF_CTIN_TPER (p q : Nat) : Fld := ⟨0x3801108 + 0x400 * p + 0x20 * q, 0, 30⟩

/-- REF_CSTAT: spec/10_reference_selection.md R298. -/
def A.REF_CSTAT (p q : Nat) : Nat := 0x380110C + 0x400 * p + 0x20 * q
def R.REF_CSTAT_STATE (p q : Nat) : Fld := ⟨0x380110C + 0x400 * p + 0x20 * q, 0, 3⟩
def R.REF_CSTAT_OUTVOTED (p q : Nat) : Fld := ⟨0x380110C + 0x400 * p + 0x20 * q, 3, 1⟩
def R.REF_CSTAT_UNCORR (p q : Nat) : Fld := ⟨0x380110C + 0x400 * p + 0x20 * q, 4, 1⟩
def R.REF_CSTAT_SUSPECT (p q : Nat) : Fld := ⟨0x380110C + 0x400 * p + 0x20 * q, 5, 1⟩
def R.REF_CSTAT_COARSE (p q : Nat) : Fld := ⟨0x380110C + 0x400 * p + 0x20 * q, 6, 1⟩
def R.REF_CSTAT_FONLY (p q : Nat) : Fld := ⟨0x380110C + 0x400 * p + 0x20 * q, 7, 1⟩
def R.REF_CSTAT_RCLASS (p q : Nat) : Fld := ⟨0x380110C + 0x400 * p + 0x20 * q, 8, 8⟩
def R.REF_CSTAT_RACC (p q : Nat) : Fld := ⟨0x380110C + 0x400 * p + 0x20 * q, 16, 8⟩

/-- REF_CHIST: spec/10_reference_selection.md R298. -/
def A.REF_CHIST (p q : Nat) : Nat := 0x3801110 + 0x400 * p + 0x20 * q
def R.REF_CHIST_LOS (p q : Nat) : Fld := ⟨0x3801110 + 0x400 * p + 0x20 * q, 0, 1⟩
def R.REF_CHIST_SOFT (p q : Nat) : Fld := ⟨0x3801110 + 0x400 * p + 0x20 * q, 1, 1⟩
def R.REF_CHIST_HARD (p q : Nat) : Fld := ⟨0x3801110 + 0x400 * p + 0x20 * q, 2, 1⟩
def R.REF_CHIST_OUTVOTED (p q : Nat) : Fld := ⟨0x3801110 + 0x400 * p + 0x20 * q, 3, 1⟩
def R.REF_CHIST_DISQ (p q : Nat) : Fld := ⟨0x3801110 + 0x400 * p + 0x20 * q, 4, 1⟩
def R.REF_CHIST_SELECTED (p q : Nat) : Fld := ⟨0x3801110 + 0x400 * p + 0x20 * q, 5, 1⟩
def R.REF_CHIST_SUSPECT (p q : Nat) : Fld := ⟨0x3801110 + 0x400 * p + 0x20 * q, 6, 1⟩

/-- REF_CFOFF: spec/10_reference_selection.md R298. -/
def A.REF_CFOFF (p q : Nat) : Nat := 0x3801114 + 0x400 * p + 0x20 * q
def R.REF_CFOFF_F (p q : Nat) : Fld := ⟨0x3801114 + 0x400 * p + 0x20 * q, 0, 32⟩

/-- REF_CPOFF_NS: spec/10_reference_selection.md R298. -/
def A.REF_CPOFF_NS (p q : Nat) : Nat := 0x3801118 + 0x400 * p + 0x20 * q
def R.REF_CPOFF_NS_NS (p q : Nat) : Fld := ⟨0x3801118 + 0x400 * p + 0x20 * q, 0, 32⟩

/-- REF_CPOFF_FRAC: spec/10_reference_selection.md R298. -/
def A.REF_CPOFF_FRAC (p q : Nat) : Nat := 0x380111C + 0x400 * p + 0x20 * q
def R.REF_CPOFF_FRAC_FRAC (p q : Nat) : Fld := ⟨0x380111C + 0x400 * p + 0x20 * q, 0, 16⟩

/-- SGEN0: spec/11_redundancy_and_twin.md R334. -/
def A.SGEN0 (p : Nat) : Nat := 0x23C0000 + 0x10 * p
def R.SGEN0_TAGOP (p : Nat) : Fld := ⟨0x23C0000 + 0x10 * p, 0, 2⟩
def R.SGEN0_PATH (p : Nat) : Fld := ⟨0x23C0000 + 0x10 * p, 2, 4⟩
def R.SGEN0_COMET (p : Nat) : Fld := ⟨0x23C0000 + 0x10 * p, 6, 1⟩
def R.SGEN0_VALID (p : Nat) : Fld := ⟨0x23C0000 + 0x10 * p, 31, 1⟩

/-- SGEN1: spec/11_redundancy_and_twin.md R334. -/
def A.SGEN1 (p : Nat) : Nat := 0x23C0004 + 0x10 * p
def R.SGEN1_SEQ (p : Nat) : Fld := ⟨0x23C0004 + 0x10 * p, 0, 16⟩

/-- SGEN2: spec/11_redundancy_and_twin.md R334. -/
def A.SGEN2 (p : Nat) : Nat := 0x23C0008 + 0x10 * p
def R.SGEN2_HELD (p : Nat) : Fld := ⟨0x23C0008 + 0x10 * p, 0, 32⟩

/-- SGEN3: spec/11_redundancy_and_twin.md R334. -/
def A.SGEN3 (p : Nat) : Nat := 0x23C000C + 0x10 * p
def R.SGEN3_STICKY (p : Nat) : Fld := ⟨0x23C000C + 0x10 * p, 0, 1⟩

/-- SREC0: spec/11_redundancy_and_twin.md R334. -/
def A.SREC0 (p : Nat) : Nat := 0x2400000 + 0x10 * p
def R.SREC0_ALG (p : Nat) : Fld := ⟨0x2400000 + 0x10 * p, 0, 2⟩
def R.SREC0_HIST (p : Nat) : Fld := ⟨0x2400000 + 0x10 * p, 2, 6⟩
def R.SREC0_POP (p : Nat) : Fld := ⟨0x2400000 + 0x10 * p, 8, 1⟩
def R.SREC0_CLAIM (p : Nat) : Fld := ⟨0x2400000 + 0x10 * p, 9, 1⟩
def R.SREC0_CLFG (p : Nat) : Fld := ⟨0x2400000 + 0x10 * p, 10, 3⟩
def R.SREC0_RESET (p : Nat) : Fld := ⟨0x2400000 + 0x10 * p, 16, 12⟩
def R.SREC0_VALID (p : Nat) : Fld := ⟨0x2400000 + 0x10 * p, 31, 1⟩

/-- SREC1: spec/11_redundancy_and_twin.md R334. -/
def A.SREC1 (p : Nat) : Nat := 0x2400004 + 0x10 * p
def R.SREC1_RECOV (p : Nat) : Fld := ⟨0x2400004 + 0x10 * p, 0, 16⟩
def R.SREC1_TAKEANY (p : Nat) : Fld := ⟨0x2400004 + 0x10 * p, 16, 1⟩

/-- SRECC10: spec/11_redundancy_and_twin.md R334. -/
def A.SRECC10 (p : Nat) : Nat := 0x2480028 + 0x40 * p
def R.SRECC10_STICKY (p : Nat) : Fld := ⟨0x2480028 + 0x40 * p, 0, 8⟩

/-- TW_CFG: spec/11_redundancy_and_twin.md R334. -/
def A.TW_CFG : Nat := 0x4000000
def R.TW_CFG_EN : Fld := ⟨0x4000000, 0, 1⟩
def R.TW_CFG_PRIMARY : Fld := ⟨0x4000000, 1, 1⟩
def R.TW_CFG_REVERT : Fld := ⟨0x4000000, 2, 1⟩
def R.TW_CFG_FOLLOW : Fld := ⟨0x4000000, 8, 8⟩
def R.TW_CFG_FBW : Fld := ⟨0x4000000, 16, 5⟩
def R.TW_CFG_CWIN : Fld := ⟨0x4000000, 24, 8⟩

/-- TW_STAT: spec/11_redundancy_and_twin.md R334. -/
def A.TW_STAT : Nat := 0x4000004
def R.TW_STAT_ROLE : Fld := ⟨0x4000004, 0, 2⟩
def R.TW_STAT_ORPHAN : Fld := ⟨0x4000004, 2, 1⟩
def R.TW_STAT_HOLDS : Fld := ⟨0x4000004, 3, 1⟩
def R.TW_STAT_LINK : Fld := ⟨0x4000004, 4, 2⟩
def R.TW_STAT_PINS : Fld := ⟨0x4000004, 6, 1⟩
def R.TW_STAT_HEARD : Fld := ⟨0x4000004, 7, 1⟩
def R.TW_STAT_ALIGNED : Fld := ⟨0x4000004, 8, 1⟩
def R.TW_STAT_VERMIS : Fld := ⟨0x4000004, 9, 1⟩
def R.TW_STAT_GRIDMIS : Fld := ⟨0x4000004, 10, 1⟩
def R.TW_STAT_PROVED : Fld := ⟨0x4000004, 11, 1⟩
def R.TW_STAT_REVPEND : Fld := ⟨0x4000004, 12, 1⟩
def R.TW_STAT_FOLLOWING : Fld := ⟨0x4000004, 16, 8⟩
def R.TW_STAT_DIVK : Fld := ⟨0x4000004, 24, 4⟩

/-- TW_CLAIM: spec/11_redundancy_and_twin.md R334. -/
def A.TW_CLAIM : Nat := 0x4000008
def R.TW_CLAIM_OWN : Fld := ⟨0x4000008, 0, 16⟩
def R.TW_CLAIM_TWIN : Fld := ⟨0x4000008, 16, 16⟩

/-- TW_TOL: spec/11_redundancy_and_twin.md R334. -/
def A.TW_TOL : Nat := 0x400000C
def R.TW_TOL_TIME_NS : Fld := ⟨0x400000C, 0, 12⟩
def R.TW_TOL_TOUT : Fld := ⟨0x400000C, 12, 12⟩
def R.TW_TOL_CTOL : Fld := ⟨0x400000C, 24, 4⟩
def R.TW_TOL_K : Fld := ⟨0x400000C, 28, 4⟩

/-- TW_TIME: spec/11_redundancy_and_twin.md R334. -/
def A.TW_TIME : Nat := 0x4000010
def R.TW_TIME_JOIN : Fld := ⟨0x4000010, 0, 8⟩
def R.TW_TIME_REVERT_HOLD : Fld := ⟨0x4000010, 8, 12⟩
def R.TW_TIME_ORPHAN_HOLD : Fld := ⟨0x4000010, 20, 8⟩

/-- TW_ASYM: spec/11_redundancy_and_twin.md R334. -/
def A.TW_ASYM : Nat := 0x4000024
def R.TW_ASYM_PS : Fld := ⟨0x4000024, 0, 32⟩

/-- TW_HIST: spec/11_redundancy_and_twin.md R334. -/
def A.TW_HIST : Nat := 0x4000014
def R.TW_HIST_ECLIPSE : Fld := ⟨0x4000014, 0, 1⟩
def R.TW_HIST_DEMOTED : Fld := ⟨0x4000014, 1, 1⟩
def R.TW_HIST_LOSS : Fld := ⟨0x4000014, 2, 1⟩
def R.TW_HIST_TWLINK : Fld := ⟨0x4000014, 3, 1⟩
def R.TW_HIST_PINLOSS : Fld := ⟨0x4000014, 4, 1⟩
def R.TW_HIST_DIVERGE : Fld := ⟨0x4000014, 5, 1⟩
def R.TW_HIST_ORPHAN : Fld := ⟨0x4000014, 6, 1⟩
def R.TW_HIST_REVERT : Fld := ⟨0x4000014, 7, 1⟩
def R.TW_HIST_CFGERR : Fld := ⟨0x4000014, 8, 1⟩
def R.TW_HIST_PRV_FAIL : Fld := ⟨0x4000014, 9, 1⟩

/-- TW_IEN: spec/11_redundancy_and_twin.md R334. -/
def A.TW_IEN : Nat := 0x4000018
def R.TW_IEN_IEN : Fld := ⟨0x4000018, 0, 10⟩

/-- TW_ECLIPSES: spec/11_redundancy_and_twin.md R334. -/
def A.TW_ECLIPSES : Nat := 0x400001C
def R.TW_ECLIPSES_COUNT : Fld := ⟨0x400001C, 0, 32⟩

/-- TW_STICKY: spec/11_redundancy_and_twin.md R334. -/
def A.TW_STICKY : Nat := 0x4000020
def R.TW_STICKY_STICKY : Fld := ⟨0x4000020, 0, 1⟩

/-- TW_DIV: spec/11_redundancy_and_twin.md R334. -/
def A.TW_DIV : Nat := 0x4000028
def R.TW_DIV_KIND : Fld := ⟨0x4000028, 0, 4⟩

/-- CLF_PMAP: spec/11_redundancy_and_twin.md R334. -/
def A.CLF_PMAP (p : Nat) : Nat := 0x4000040 + 0x4 * p
def R.CLF_PMAP_GRP0 (p : Nat) : Fld := ⟨0x4000040 + 0x4 * p, 0, 3⟩
def R.CLF_PMAP_GRP1 (p : Nat) : Fld := ⟨0x4000040 + 0x4 * p, 4, 3⟩
def R.CLF_PMAP_GRP2 (p : Nat) : Fld := ⟨0x4000040 + 0x4 * p, 8, 3⟩
def R.CLF_PMAP_GRP3 (p : Nat) : Fld := ⟨0x4000040 + 0x4 * p, 12, 3⟩
def R.CLF_PMAP_GRP4 (p : Nat) : Fld := ⟨0x4000040 + 0x4 * p, 16, 3⟩
def R.CLF_PMAP_GRP5 (p : Nat) : Fld := ⟨0x4000040 + 0x4 * p, 20, 3⟩
def R.CLF_PMAP_GRP6 (p : Nat) : Fld := ⟨0x4000040 + 0x4 * p, 24, 3⟩
def R.CLF_PMAP_GRP7 (p : Nat) : Fld := ⟨0x4000040 + 0x4 * p, 28, 3⟩

/-- CLF_CFG: spec/11_redundancy_and_twin.md R334. -/
def A.CLF_CFG (p : Nat) : Nat := 0x4000100 + 0x10 * p
def R.CLF_CFG_WIN (p : Nat) : Fld := ⟨0x4000100 + 0x10 * p, 0, 14⟩

/-- CLF_HI: spec/11_redundancy_and_twin.md R334. -/
def A.CLF_HI (p : Nat) : Nat := 0x4000104 + 0x10 * p
def R.CLF_HI_CLAIM (p : Nat) : Fld := ⟨0x4000104 + 0x10 * p, 0, 16⟩
def R.CLF_HI_VALID (p : Nat) : Fld := ⟨0x4000104 + 0x10 * p, 16, 1⟩
def R.CLF_HI_AGE (p : Nat) : Fld := ⟨0x4000104 + 0x10 * p, 17, 15⟩

/-- CLF_PHI: spec/11_redundancy_and_twin.md R334. -/
def A.CLF_PHI (p : Nat) : Nat := 0x4000108 + 0x10 * p
def R.CLF_PHI_CLAIM (p : Nat) : Fld := ⟨0x4000108 + 0x10 * p, 0, 16⟩
def R.CLF_PHI_VALID (p : Nat) : Fld := ⟨0x4000108 + 0x10 * p, 16, 1⟩
def R.CLF_PHI_AGE (p : Nat) : Fld := ⟨0x4000108 + 0x10 * p, 17, 15⟩

/-- PRV_CFG: spec/11_redundancy_and_twin.md R334. -/
def A.PRV_CFG : Nat := 0x4001000
def R.PRV_CFG_PLAN : Fld := ⟨0x4001000, 0, 4⟩
def R.PRV_CFG_PATH_T : Fld := ⟨0x4001000, 4, 8⟩
def R.PRV_CFG_TIMING_T : Fld := ⟨0x4001000, 12, 8⟩
def R.PRV_CFG_TOL_NS : Fld := ⟨0x4001000, 20, 8⟩
def R.PRV_CFG_LOOP : Fld := ⟨0x4001000, 28, 4⟩

/-- PRV_STAT: spec/11_redundancy_and_twin.md R334. -/
def A.PRV_STAT : Nat := 0x4001004
def R.PRV_STAT_RESULT : Fld := ⟨0x4001004, 0, 2⟩
def R.PRV_STAT_STEPS : Fld := ⟨0x4001004, 2, 4⟩
def R.PRV_STAT_RUN : Fld := ⟨0x4001004, 6, 1⟩
def R.PRV_STAT_SKIPPED : Fld := ⟨0x4001004, 7, 1⟩

/-- PRV_SCHED: spec/11_redundancy_and_twin.md R334. -/
def A.PRV_SCHED : Nat := 0x4001008
def R.PRV_SCHED_SOD : Fld := ⟨0x4001008, 0, 17⟩
def R.PRV_SCHED_EN : Fld := ⟨0x4001008, 31, 1⟩

/-- PRV_EDGE_LO: spec/11_redundancy_and_twin.md R334. -/
def A.PRV_EDGE_LO : Nat := 0x400100C
def R.PRV_EDGE_LO_EDGE : Fld := ⟨0x400100C, 0, 32⟩

/-- PRV_EDGE_HI: spec/11_redundancy_and_twin.md R334. -/
def A.PRV_EDGE_HI : Nat := 0x4001010
def R.PRV_EDGE_HI_EDGE : Fld := ⟨0x4001010, 0, 32⟩

/-- PRV_LOGPTR: spec/11_redundancy_and_twin.md R334. -/
def A.PRV_LOGPTR : Nat := 0x4001014
def R.PRV_LOGPTR_NEXT : Fld := ⟨0x4001014, 0, 10⟩
def R.PRV_LOGPTR_LOST : Fld := ⟨0x4001014, 16, 16⟩

/-- PRV_EXPECT: spec/11_redundancy_and_twin.md R334. -/
def A.PRV_EXPECT (p : Nat) : Nat := 0x4001100 + 0x4 * p
def R.PRV_EXPECT_TMPL (p : Nat) : Fld := ⟨0x4001100 + 0x4 * p, 0, 8⟩
def R.PRV_EXPECT_COPIES (p : Nat) : Fld := ⟨0x4001100 + 0x4 * p, 8, 2⟩
def R.PRV_EXPECT_MAXLAT (p : Nat) : Fld := ⟨0x4001100 + 0x4 * p, 16, 15⟩
def R.PRV_EXPECT_VALID (p : Nat) : Fld := ⟨0x4001100 + 0x4 * p, 31, 1⟩

/-- SINK0: spec/11_redundancy_and_twin.md R334. -/
def A.SINK0 (p : Nat) : Nat := 0x4002000 + 0x20 * p
def R.SINK0_SEQ (p : Nat) : Fld := ⟨0x4002000 + 0x20 * p, 0, 16⟩
def R.SINK0_TMPL (p : Nat) : Fld := ⟨0x4002000 + 0x20 * p, 16, 8⟩
def R.SINK0_UNIT (p : Nat) : Fld := ⟨0x4002000 + 0x20 * p, 24, 1⟩
def R.SINK0_IN (p : Nat) : Fld := ⟨0x4002000 + 0x20 * p, 25, 6⟩
def R.SINK0_VALID (p : Nat) : Fld := ⟨0x4002000 + 0x20 * p, 31, 1⟩

/-- SINK1: spec/11_redundancy_and_twin.md R334. -/
def A.SINK1 (p : Nat) : Nat := 0x4002004 + 0x20 * p
def R.SINK1_EGR (p : Nat) : Fld := ⟨0x4002004 + 0x20 * p, 0, 6⟩
def R.SINK1_CLAIM (p : Nat) : Fld := ⟨0x4002004 + 0x20 * p, 16, 16⟩

/-- TMPL0: spec/11_redundancy_and_twin.md R334. -/
def A.TMPL0 (p : Nat) : Nat := 0x4100000 + 0x200 * p
def R.TMPL0_LEN (p : Nat) : Fld := ⟨0x4100000 + 0x200 * p, 0, 14⟩
def R.TMPL0_RTAG (p : Nat) : Fld := ⟨0x4100000 + 0x200 * p, 14, 1⟩
def R.TMPL0_PCLAIM (p : Nat) : Fld := ⟨0x4100000 + 0x200 * p, 15, 1⟩
def R.TMPL0_RTOFF (p : Nat) : Fld := ⟨0x4100000 + 0x200 * p, 16, 8⟩
def R.TMPL0_VALID (p : Nat) : Fld := ⟨0x4100000 + 0x200 * p, 31, 1⟩

/-- TMPL1: spec/11_redundancy_and_twin.md R334. -/
def A.TMPL1 (p : Nat) : Nat := 0x4100004 + 0x200 * p
def R.TMPL1_SEQ (p : Nat) : Fld := ⟨0x4100004 + 0x200 * p, 0, 16⟩

/-- CLK_CFG: spec/12_clocks_and_power.md R357. -/
def A.CLK_CFG : Nat := 0x7000000
def R.CLK_CFG_ENG_DIV : Fld := ⟨0x7000000, 0, 7⟩
def R.CLK_CFG_MBUS_DIV : Fld := ⟨0x7000000, 8, 8⟩

/-- CLK_STAT: spec/12_clocks_and_power.md R357. -/
def A.CLK_STAT : Nat := 0x7000004
def R.CLK_STAT_LOCK : Fld := ⟨0x7000004, 0, 11⟩
def R.CLK_STAT_UNLOCK : Fld := ⟨0x7000004, 16, 11⟩
def R.CLK_STAT_TW_LOCK : Fld := ⟨0x7000004, 27, 1⟩
def R.CLK_STAT_TW_UNLOCK : Fld := ⟨0x7000004, 28, 1⟩

/-- CLKOBS_CFG: spec/12_clocks_and_power.md R357. -/
def A.CLKOBS_CFG : Nat := 0x7000008
def R.CLKOBS_CFG_SRC : Fld := ⟨0x7000008, 0, 4⟩
def R.CLKOBS_CFG_SEL : Fld := ⟨0x7000008, 4, 6⟩
def R.CLKOBS_CFG_BAD : Fld := ⟨0x7000008, 10, 1⟩
def R.CLKOBS_CFG_DIV : Fld := ⟨0x7000008, 16, 16⟩

/-- PWR_LTR_OCT: spec/12_clocks_and_power.md R357. -/
def A.PWR_LTR_OCT (p : Nat) : Nat := 0x7000100 + 0x4 * p
def R.PWR_LTR_OCT_LTR (p : Nat) : Fld := ⟨0x7000100 + 0x4 * p, 0, 16⟩

/-- PWR_LTR_DEV: spec/12_clocks_and_power.md R357. -/
def A.PWR_LTR_DEV : Nat := 0x7000120
def R.PWR_LTR_DEV_LTR : Fld := ⟨0x7000120, 0, 16⟩

/-- PWR_TPORT_LO: spec/12_clocks_and_power.md R357. -/
def A.PWR_TPORT_LO : Nat := 0x7000124
def R.PWR_TPORT_LO_PORT : Fld := ⟨0x7000124, 0, 32⟩

/-- PWR_TPORT_HI: spec/12_clocks_and_power.md R357. -/
def A.PWR_TPORT_HI : Nat := 0x7000128
def R.PWR_TPORT_HI_PORT : Fld := ⟨0x7000128, 0, 32⟩

/-- PWR_STAT: spec/12_clocks_and_power.md R357. -/
def A.PWR_STAT : Nat := 0x7000130
def R.PWR_STAT_OCT : Fld := ⟨0x7000130, 0, 16⟩
def R.PWR_STAT_P3 : Fld := ⟨0x7000130, 16, 1⟩
def R.PWR_STAT_EXITING : Fld := ⟨0x7000130, 17, 1⟩

/-- PWR_WAKE: spec/12_clocks_and_power.md R357. -/
def A.PWR_WAKE : Nat := 0x7000134
def R.PWR_WAKE_LTR : Fld := ⟨0x7000134, 0, 1⟩
def R.PWR_WAKE_LINK : Fld := ⟨0x7000134, 1, 1⟩
def R.PWR_WAKE_FRAME : Fld := ⟨0x7000134, 2, 1⟩
def R.PWR_WAKE_MODE : Fld := ⟨0x7000134, 3, 1⟩
def R.PWR_WAKE_CMD : Fld := ⟨0x7000134, 4, 1⟩
def R.PWR_WAKE_ROLE : Fld := ⟨0x7000134, 5, 1⟩
def R.PWR_WAKE_TIMED : Fld := ⟨0x7000134, 6, 1⟩
def R.PWR_WAKE_IEN : Fld := ⟨0x7000134, 7, 1⟩

/-- PWR_BUDGET: spec/12_clocks_and_power.md R357. -/
def A.PWR_BUDGET : Nat := 0x7000140
def R.PWR_BUDGET_CLASS : Fld := ⟨0x7000140, 0, 2⟩
def R.PWR_BUDGET_CAP : Fld := ⟨0x7000140, 4, 6⟩
def R.PWR_BUDGET_CHARGE : Fld := ⟨0x7000140, 16, 16⟩

/-- PWR_ARB: spec/12_clocks_and_power.md R357. -/
def A.PWR_ARB : Nat := 0x7000144
def R.PWR_ARB_TRAIN_WAIT : Fld := ⟨0x7000144, 0, 7⟩
def R.PWR_ARB_CAL_WAIT : Fld := ⟨0x7000144, 8, 4⟩
def R.PWR_ARB_GRANTS : Fld := ⟨0x7000144, 16, 7⟩
def R.PWR_ARB_HOT : Fld := ⟨0x7000144, 24, 1⟩
def R.PWR_ARB_OVER : Fld := ⟨0x7000144, 25, 1⟩

/-- LVF_CTRL: spec/12_clocks_and_power.md R357. -/
def A.LVF_CTRL : Nat := 0x7000800
def R.LVF_CTRL_EN : Fld := ⟨0x7000800, 0, 1⟩
def R.LVF_CTRL_POINT : Fld := ⟨0x7000800, 1, 2⟩

/-- LVF_STAT: spec/12_clocks_and_power.md R357. -/
def A.LVF_STAT : Nat := 0x7000804
def R.LVF_STAT_CUR : Fld := ⟨0x7000804, 0, 2⟩
def R.LVF_STAT_VREQ : Fld := ⟨0x7000804, 4, 10⟩
def R.LVF_STAT_WAIT : Fld := ⟨0x7000804, 14, 1⟩
def R.LVF_STAT_REFUSED : Fld := ⟨0x7000804, 15, 1⟩
def R.LVF_STAT_ACTIVE : Fld := ⟨0x7000804, 16, 1⟩

/-- LVF_ACK: spec/12_clocks_and_power.md R357. -/
def A.LVF_ACK : Nat := 0x7000808
def R.LVF_ACK_ACK : Fld := ⟨0x7000808, 0, 1⟩

/-- SEC_STAT: spec/13_management_commands_and_security.md R388. -/
def A.SEC_STAT : Nat := 0x40
def R.SEC_STAT_DBG_STRAP : Fld := ⟨0x40, 0, 1⟩
def R.SEC_STAT_DEBUG_LOCK : Fld := ⟨0x40, 1, 1⟩
def R.SEC_STAT_OPEN : Fld := ⟨0x40, 2, 1⟩
def R.SEC_STAT_ERASED : Fld := ⟨0x40, 3, 1⟩
def R.SEC_STAT_DEVKEY : Fld := ⟨0x40, 4, 1⟩

/-- KEY_STAT: spec/13_management_commands_and_security.md R388. -/
def A.KEY_STAT : Nat := 0x44
def R.KEY_STAT_VALID : Fld := ⟨0x44, 0, 32⟩

/-- KEY_BIND: spec/13_management_commands_and_security.md R388. -/
def A.KEY_BIND : Nat := 0x48
def R.KEY_BIND_COUNT : Fld := ⟨0x48, 0, 7⟩

/-- EVL_HEAD: spec/13_management_commands_and_security.md R388. -/
def A.EVL_HEAD : Nat := 0x50
def R.EVL_HEAD_INDEX : Fld := ⟨0x50, 0, 32⟩

/-- EVL_RD: spec/13_management_commands_and_security.md R388. -/
def A.EVL_RD : Nat := 0x54
def R.EVL_RD_INDEX : Fld := ⟨0x54, 0, 32⟩

/-- EVL_LOST: spec/13_management_commands_and_security.md R388. -/
def A.EVL_LOST : Nat := 0x58
def R.EVL_LOST_COUNT : Fld := ⟨0x58, 0, 31⟩
def R.EVL_LOST_STICKY : Fld := ⟨0x58, 31, 1⟩

/-- MB_DOORBELL: spec/13_management_commands_and_security.md R388. -/
def A.MB_DOORBELL : Nat := 0x8000000
def R.MB_DOORBELL_RING : Fld := ⟨0x8000000, 0, 1⟩

/-- MB_STATUS: spec/13_management_commands_and_security.md R388. -/
def A.MB_STATUS : Nat := 0x8000004
def R.MB_STATUS_REQ_BUSY : Fld := ⟨0x8000004, 0, 1⟩
def R.MB_STATUS_RSP_READY : Fld := ⟨0x8000004, 1, 1⟩
def R.MB_STATUS_ALIVE : Fld := ⟨0x8000004, 2, 1⟩
def R.MB_STATUS_DBLOST : Fld := ⟨0x8000004, 3, 1⟩
def R.MB_STATUS_OWNER : Fld := ⟨0x8000004, 4, 2⟩
def R.MB_STATUS_HELD : Fld := ⟨0x8000004, 6, 1⟩
def R.MB_STATUS_NEXTSEQ : Fld := ⟨0x8000004, 16, 16⟩

/-- MB_RSP_ACK: spec/13_management_commands_and_security.md R388. -/
def A.MB_RSP_ACK : Nat := 0x8000008
def R.MB_RSP_ACK_ACK : Fld := ⟨0x8000008, 0, 1⟩

/-- MB_IEN: spec/13_management_commands_and_security.md R388. -/
def A.MB_IEN : Nat := 0x800000C
def R.MB_IEN_RSP : Fld := ⟨0x800000C, 0, 1⟩

/-- HUB_PERIOD: spec/14_counters_and_sampling.md R405. -/
def A.HUB_PERIOD : Nat := 0x6000000
def R.HUB_PERIOD_PERIOD : Fld := ⟨0x6000000, 0, 24⟩

/-- HUB_RING_LO: spec/14_counters_and_sampling.md R405. -/
def A.HUB_RING_LO : Nat := 0x6000004
def R.HUB_RING_LO_ADDR : Fld := ⟨0x6000004, 0, 32⟩

/-- HUB_RING_HI: spec/14_counters_and_sampling.md R405. -/
def A.HUB_RING_HI : Nat := 0x6000008
def R.HUB_RING_HI_ADDR : Fld := ⟨0x6000008, 0, 32⟩

/-- HUB_SIZE: spec/14_counters_and_sampling.md R405. -/
def A.HUB_SIZE : Nat := 0x600000C
def R.HUB_SIZE_SLOTS : Fld := ⟨0x600000C, 0, 16⟩

/-- HUB_STRIDE: spec/14_counters_and_sampling.md R405. -/
def A.HUB_STRIDE : Nat := 0x6000010
def R.HUB_STRIDE_BYTES : Fld := ⟨0x6000010, 0, 17⟩

/-- HUB_WR: spec/14_counters_and_sampling.md R405. -/
def A.HUB_WR : Nat := 0x6000014
def R.HUB_WR_INDEX : Fld := ⟨0x6000014, 0, 32⟩

/-- HUB_RD: spec/14_counters_and_sampling.md R405. -/
def A.HUB_RD : Nat := 0x6000018
def R.HUB_RD_INDEX : Fld := ⟨0x6000018, 0, 32⟩

/-- HUB_GMASK_LO: spec/14_counters_and_sampling.md R405. -/
def A.HUB_GMASK_LO : Nat := 0x600001C
def R.HUB_GMASK_LO_GROUPS : Fld := ⟨0x600001C, 0, 32⟩

/-- HUB_GMASK_HI: spec/14_counters_and_sampling.md R405. -/
def A.HUB_GMASK_HI : Nat := 0x6000020
def R.HUB_GMASK_HI_GROUPS : Fld := ⟨0x6000020, 0, 32⟩

/-- HUB_STAT: spec/14_counters_and_sampling.md R405. -/
def A.HUB_STAT : Nat := 0x6000024
def R.HUB_STAT_WRAP : Fld := ⟨0x6000024, 0, 1⟩
def R.HUB_STAT_DMAERR : Fld := ⟨0x6000024, 1, 1⟩
def R.HUB_STAT_MARK_BAD : Fld := ⟨0x6000024, 2, 1⟩
def R.HUB_STAT_USER : Fld := ⟨0x6000024, 3, 1⟩
def R.HUB_STAT_BUSY : Fld := ⟨0x6000024, 4, 1⟩

/-- HUB_IEN: spec/14_counters_and_sampling.md R405. -/
def A.HUB_IEN : Nat := 0x6000028
def R.HUB_IEN_WRAP : Fld := ⟨0x6000028, 0, 1⟩
def R.HUB_IEN_DMAERR : Fld := ⟨0x6000028, 1, 1⟩
def R.HUB_IEN_MARK_BAD : Fld := ⟨0x6000028, 2, 1⟩

/-- HUB_DUMP_LOST: spec/14_counters_and_sampling.md R405. -/
def A.HUB_DUMP_LOST : Nat := 0x6000030
def R.HUB_DUMP_LOST_COUNT : Fld := ⟨0x6000030, 0, 32⟩

/-- HUB_SKIP: spec/14_counters_and_sampling.md R405. -/
def A.HUB_SKIP : Nat := 0x6000034
def R.HUB_SKIP_COUNT : Fld := ⟨0x6000034, 0, 32⟩

/-- HUB_MARK_LOST: spec/14_counters_and_sampling.md R405. -/
def A.HUB_MARK_LOST : Nat := 0x6000038
def R.HUB_MARK_LOST_COUNT : Fld := ⟨0x6000038, 0, 32⟩

/-- HUB_STICKY: spec/14_counters_and_sampling.md R405. -/
def A.HUB_STICKY : Nat := 0x600003C
def R.HUB_STICKY_STICKY : Fld := ⟨0x600003C, 0, 4⟩

/-- HUB_GCFG: spec/14_counters_and_sampling.md R405. -/
def A.HUB_GCFG (p : Nat) : Nat := 0x6000100 + 0x4 * p
def R.HUB_GCFG_COUNT (p : Nat) : Fld := ⟨0x6000100 + 0x4 * p, 0, 7⟩
def R.HUB_GCFG_IEN (p : Nat) : Fld := ⟨0x6000100 + 0x4 * p, 8, 1⟩

/-- HUB_SEL: spec/14_counters_and_sampling.md R405. -/
def A.HUB_SEL (p : Nat) : Nat := 0x6001000 + 0x4 * p
def R.HUB_SEL_KIND (p : Nat) : Fld := ⟨0x6001000 + 0x4 * p, 0, 4⟩
def R.HUB_SEL_EVENT (p : Nat) : Fld := ⟨0x6001000 + 0x4 * p, 4, 8⟩
def R.HUB_SEL_INST (p : Nat) : Fld := ⟨0x6001000 + 0x4 * p, 12, 13⟩
def R.HUB_SEL_VALID (p : Nat) : Fld := ⟨0x6001000 + 0x4 * p, 31, 1⟩

/-- SMP_CFG: spec/14_counters_and_sampling.md R405. -/
def A.SMP_CFG : Nat := 0x6000800
def R.SMP_CFG_EN : Fld := ⟨0x6000800, 0, 1⟩
def R.SMP_CFG_K : Fld := ⟨0x6000800, 1, 5⟩
def R.SMP_CFG_ENG : Fld := ⟨0x6000800, 8, 9⟩

/-- SMP_SEED: spec/14_counters_and_sampling.md R405. -/
def A.SMP_SEED : Nat := 0x6000804
def R.SMP_SEED_SEED : Fld := ⟨0x6000804, 0, 32⟩

/-- SMP_BASE_LO: spec/14_counters_and_sampling.md R405. -/
def A.SMP_BASE_LO : Nat := 0x6000808
def R.SMP_BASE_LO_ADDR : Fld := ⟨0x6000808, 0, 32⟩

/-- SMP_BASE_HI: spec/14_counters_and_sampling.md R405. -/
def A.SMP_BASE_HI : Nat := 0x600080C
def R.SMP_BASE_HI_ADDR : Fld := ⟨0x600080C, 0, 32⟩

/-- SMP_SIZE: spec/14_counters_and_sampling.md R405. -/
def A.SMP_SIZE : Nat := 0x6000810
def R.SMP_SIZE_RECS : Fld := ⟨0x6000810, 0, 20⟩

/-- SMP_WR: spec/14_counters_and_sampling.md R405. -/
def A.SMP_WR : Nat := 0x6000814
def R.SMP_WR_INDEX : Fld := ⟨0x6000814, 0, 32⟩

/-- SMP_RD: spec/14_counters_and_sampling.md R405. -/
def A.SMP_RD : Nat := 0x6000818
def R.SMP_RD_INDEX : Fld := ⟨0x6000818, 0, 32⟩

/-- SMP_LOST: spec/14_counters_and_sampling.md R405. -/
def A.SMP_LOST : Nat := 0x600081C
def R.SMP_LOST_COUNT : Fld := ⟨0x600081C, 0, 32⟩

/-- MBE_STAT: spec/15_address_map.md R416. -/
def A.MBE_STAT : Nat := 0x100
def R.MBE_STAT_COUNT : Fld := ⟨0x100, 0, 16⟩
def R.MBE_STAT_FILL : Fld := ⟨0x100, 16, 5⟩

/-- MBE_CLR: spec/15_address_map.md R416. -/
def A.MBE_CLR : Nat := 0x104
def R.MBE_CLR_CLR : Fld := ⟨0x104, 0, 1⟩

/-- MBE_ENT0: spec/15_address_map.md R416. -/
def A.MBE_ENT0 (p : Nat) : Nat := 0x140 + 0x8 * p
def R.MBE_ENT0_ADDR (p : Nat) : Fld := ⟨0x140 + 0x8 * p, 0, 27⟩
def R.MBE_ENT0_WRITE (p : Nat) : Fld := ⟨0x140 + 0x8 * p, 27, 1⟩
def R.MBE_ENT0_CAUSE (p : Nat) : Fld := ⟨0x140 + 0x8 * p, 28, 4⟩

/-- MBE_ENT1: spec/15_address_map.md R416. -/
def A.MBE_ENT1 (p : Nat) : Nat := 0x144 + 0x8 * p
def R.MBE_ENT1_REQ (p : Nat) : Fld := ⟨0x144 + 0x8 * p, 0, 3⟩
def R.MBE_ENT1_ORB (p : Nat) : Fld := ⟨0x144 + 0x8 * p, 16, 16⟩

/-- GLB_ISRC: spec/15_address_map.md R419. -/
def A.GLB_ISRC : Nat := 0x60
def R.GLB_ISRC_MODE : Fld := ⟨0x60, 0, 1⟩
def R.GLB_ISRC_MBERR : Fld := ⟨0x60, 1, 1⟩
def R.GLB_ISRC_THERM : Fld := ⟨0x60, 2, 1⟩
def R.GLB_ISRC_ENG_EVT : Fld := ⟨0x60, 8, 9⟩

/-- GLB_IEN: spec/15_address_map.md R419. -/
def A.GLB_IEN : Nat := 0x64
def R.GLB_IEN_MODE : Fld := ⟨0x64, 0, 1⟩
def R.GLB_IEN_MBERR : Fld := ⟨0x64, 1, 1⟩
def R.GLB_IEN_THERM : Fld := ⟨0x64, 2, 1⟩

/-- GLB_ISTAT_LO: spec/15_address_map.md R419. -/
def A.GLB_ISTAT_LO : Nat := 0x68
def R.GLB_ISTAT_LO_LINE : Fld := ⟨0x68, 0, 32⟩

/-- GLB_ISTAT_HI: spec/15_address_map.md R419. -/
def A.GLB_ISTAT_HI : Nat := 0x6C
def R.GLB_ISTAT_HI_LINE : Fld := ⟨0x6C, 0, 32⟩

/-- GLB_IREARM_LO: spec/15_address_map.md R419. -/
def A.GLB_IREARM_LO : Nat := 0x70
def R.GLB_IREARM_LO_REARM : Fld := ⟨0x70, 0, 32⟩

/-- GLB_IREARM_HI: spec/15_address_map.md R419. -/
def A.GLB_IREARM_HI : Nat := 0x74
def R.GLB_IREARM_HI_REARM : Fld := ⟨0x74, 0, 32⟩

/-- GLB_TEMP: spec/15_address_map.md R419. -/
def A.GLB_TEMP : Nat := 0x78
def R.GLB_TEMP_HOT : Fld := ⟨0x78, 0, 10⟩
def R.GLB_TEMP_SENSOR : Fld := ⟨0x78, 12, 4⟩
def R.GLB_TEMP_ALARM : Fld := ⟨0x78, 16, 1⟩

/-- Registers of the Glb region, part 0. -/
def descGlb0 : List RegDesc := [
  ⟨0, [], 0, 0, 0, 0x1FD46480⟩,
  ⟨4, [], 0, 0, 0, 0xB1⟩,
  ⟨8, [], 0, 0, 0, 0⟩,
  ⟨0xC, [], 0, 0, 0xFFFFFFFF, 0⟩,
  ⟨0x14, [], 0, 0, 0, 0⟩,
  ⟨0x18, [], 0, 0, 0, 0⟩,
  ⟨0x400, [(128, 4)], 0, 0, 0xFFFFFFFF, 0⟩,
  ⟨0x20, [], 0, 0, 0xFFFFFFFF, 0⟩,
  ⟨0x24, [], 0, 0, 0, 0⟩,
  ⟨0x10, [], 0, 0, 0xF000, 0⟩,
  ⟨0x1C, [], 0, 0, 0xFFF, 0⟩,
  ⟨0x40, [], 0, 0, 0, 0x10⟩,
  ⟨0x44, [], 0, 0, 0, 0⟩,
  ⟨0x48, [], 0, 0, 0, 0⟩,
  ⟨0x50, [], 0, 0, 0xFFFFFFFF, 0⟩,
  ⟨0x54, [], 0xFFFFFFFF, 0, 0xFFFFFFFF, 0⟩,
  ⟨0x58, [], 0, 0x80000000, 0xFFFFFFFF, 0⟩,
  ⟨0x100, [], 0, 0, 0x1FFFFF, 0⟩,
  ⟨0x104, [], 0, 0, 0, 0⟩,
  ⟨0x140, [(16, 8)], 0, 0, 0xFFFFFFFF, 0⟩,
  ⟨0x144, [(16, 8)], 0, 0, 0xFFFF0007, 0⟩,
  ⟨0x60, [], 0, 0x1FF07, 0, 0⟩,
  ⟨0x64, [], 7, 0, 0, 0⟩,
  ⟨0x68, [], 0, 0, 0, 0⟩,
  ⟨0x6C, [], 0, 0, 0, 0⟩]

/-- Registers of the Glb region, part 1. -/
def descGlb1 : List RegDesc := [
  ⟨0x70, [], 0, 0, 0, 0⟩,
  ⟨0x74, [], 0, 0, 0, 0⟩,
  ⟨0x78, [], 0, 0, 0, 0⟩,
  ⟨0x20000, [(32768, 4)], 0, 0, 0xFFFFFFFF, 0⟩]

def descGlb : List RegDesc := descGlb0 ++ descGlb1

/-- Registers of the Oct region, part 0. -/
def descOct0 : List RegDesc := [
  ⟨0x1002000, [(8, 0x100000), (8, 0x100)], 0x3FFFFFF, 0, 0, 0⟩,
  ⟨0x1002004, [(8, 0x100000), (8, 0x100)], 0xFFF000F, 0, 0, 0x1800008⟩,
  ⟨0x1002008, [(8, 0x100000), (8, 0x100)], 0xFFFF, 0, 0, 0xFFFF⟩,
  ⟨0x1002040, [(8, 0x100000), (8, 0x100), (8, 0x10)], 0x1FFF1FFF, 0, 0, 0x40⟩,
  ⟨0x1002044, [(8, 0x100000), (8, 0x100), (8, 0x10)], 0xFFF000F, 0, 0, 0x400006⟩,
  ⟨0x1002048, [(8, 0x100000), (8, 0x100), (8, 0x10)], 0, 0, 0, 0⟩,
  ⟨0x1002800, [(8, 0x100000)], 0, 0, 0, 0x80008000⟩,
  ⟨0x1002804, [(8, 0x100000)], 0, 0, 0, 0x10000000⟩,
  ⟨0x10020C0, [(8, 0x100000), (8, 0x100)], 0x3FFF7F, 0, 0, 0x102⟩,
  ⟨0x10020C4, [(8, 0x100000), (8, 0x100)], 0xFFFFFF, 0, 0, 0xFAC688⟩,
  ⟨0x10020C8, [(8, 0x100000), (8, 0x100), (6, 4)], 0x3FFFFFFF, 0, 0, 0⟩,
  ⟨0x10020E0, [(8, 0x100000), (8, 0x100)], 0xFFF, 0, 0, 0⟩,
  ⟨0x10020E4, [(8, 0x100000), (8, 0x100)], 0xFFF, 0, 0, 0⟩,
  ⟨0x10020E8, [(8, 0x100000), (8, 0x100)], 0xFF7F, 0, 0, 0x14⟩,
  ⟨0x1003000, [(8, 0x100000), (8, 0x100), (8, 0x20)], 0x7FFFFFF, 0, 0, 0⟩,
  ⟨0x1003004, [(8, 0x100000), (8, 0x100), (8, 0x20)], 0x7FFFFFF, 0, 0, 0⟩,
  ⟨0x1003008, [(8, 0x100000), (8, 0x100), (8, 0x20)], 0xFFFFFF, 0, 0, 0x2800⟩,
  ⟨0x100300C, [(8, 0x100000), (8, 0x100), (8, 0x20)], 0xFFFFFF, 0, 0, 0x2800⟩,
  ⟨0x1003010, [(8, 0x100000), (8, 0x100), (8, 0x20)], 0x3FFF, 0, 0, 0x600⟩,
  ⟨0x1003014, [(8, 0x100000), (8, 0x100), (8, 0x20)], 0, 0, 0, 0⟩,
  ⟨0x1003018, [(8, 0x100000), (8, 0x100), (8, 0x20)], 0, 0, 0, 0⟩,
  ⟨0x100200C, [(8, 0x100000), (8, 0x100)], 0xFF00000, 0, 0, 0⟩,
  ⟨0x1002010, [(8, 0x100000), (8, 0x100)], 0xFF0FFF, 0, 0, 0xA0000⟩,
  ⟨0x1002014, [(8, 0x100000), (8, 0x100)], 0, 0, 0, 0xFF⟩,
  ⟨0x1002018, [(8, 0x100000), (8, 0x100)], 0, 2, 0, 0⟩,
  ⟨0x100201C, [(8, 0x100000), (8, 0x100)], 0, 0, 0, 0⟩]

/-- Registers of the Oct region, part 1. -/
def descOct1 : List RegDesc := [
  ⟨0x1002020, [(8, 0x100000), (8, 0x100)], 0, 0, 0, 0⟩,
  ⟨0x1002024, [(8, 0x100000), (8, 0x100)], 0, 0, 0, 0⟩,
  ⟨0x1002028, [(8, 0x100000), (8, 0x100)], 0x3FFFFFFF, 0, 0, 0⟩,
  ⟨0x1004000, [(8, 0x100000), (8, 0x40), (4, 0x10)], 0xFFFFFFFF, 0, 0, 0⟩,
  ⟨0x1004004, [(8, 0x100000), (8, 0x40), (4, 0x10)], 0x8077FFFF, 0, 0, 0⟩,
  ⟨0x1004008, [(8, 0x100000), (8, 0x40), (4, 0x10)], 0x3FFFFFFF, 0, 0, 0⟩,
  ⟨0x100400C, [(8, 0x100000), (8, 0x40), (4, 0x10)], 0x10, 0xF, 0, 0⟩,
  ⟨0x1005000, [(8, 0x100000), (8, 0x100)], 0x3FFFFF, 0, 0, 0x207800⟩,
  ⟨0x1005004, [(8, 0x100000), (8, 0x100)], 0xFFFFFFFF, 0, 0, 0⟩,
  ⟨0x1005008, [(8, 0x100000), (8, 0x100)], 0xFFFFFFFF, 0, 0, 0⟩,
  ⟨0x100500C, [(8, 0x100000), (8, 0x100)], 0xFFFFFFFF, 0, 0, 0⟩,
  ⟨0x1005010, [(8, 0x100000), (8, 0x100)], 0xFFFFFFFF, 0, 0, 0⟩,
  ⟨0x1005014, [(8, 0x100000), (8, 0x100)], 0, 0, 0, 0⟩,
  ⟨0x1005018, [(8, 0x100000), (8, 0x100)], 0, 0, 0, 0⟩,
  ⟨0x100501C, [(8, 0x100000), (8, 0x100)], 0, 0, 0, 0⟩,
  ⟨0x1005020, [(8, 0x100000), (8, 0x100)], 0, 0, 0, 0⟩,
  ⟨0x1005024, [(8, 0x100000), (8, 0x100)], 0xFFFFFFFF, 0, 0, 0xA050014⟩,
  ⟨0x1005028, [(8, 0x100000), (8, 0x100)], 0, 0xC, 0, 0⟩,
  ⟨0x100502C, [(8, 0x100000), (8, 0x100)], 0x7F7000, 0x100, 0, 0⟩,
  ⟨0x1005030, [(8, 0x100000), (8, 0x100)], 0, 0, 0, 0⟩,
  ⟨0x1005034, [(8, 0x100000), (8, 0x100)], 0, 0, 0, 0⟩,
  ⟨0x1005038, [(8, 0x100000), (8, 0x100)], 0, 0, 0, 0⟩,
  ⟨0x100503C, [(8, 0x100000), (8, 0x100)], 0, 0, 0, 0⟩,
  ⟨0x1005040, [(8, 0x100000), (8, 0x100)], 0, 0, 0, 0⟩,
  ⟨0x1008000, [(8, 0x100000), (8, 0x800), (63, 0x10), (2, 4)], 0xFFFFFFFF, 0, 0, 0⟩]

/-- Registers of the Oct region, part 2. -/
def descOct2 : List RegDesc := [
  ⟨0x1008008, [(8, 0x100000), (8, 0x800), (63, 0x10)], 0, 1, 0, 0⟩,
  ⟨0x1008400, [(8, 0x100000), (8, 0x800), (13, 0x10), (2, 4)], 0xFFFFFFFF, 0, 0, 0⟩,
  ⟨0x1008408, [(8, 0x100000), (8, 0x800), (13, 0x10)], 0, 1, 0, 0⟩,
  ⟨0x1008500, [(8, 0x100000), (8, 0x800), (6, 0x10), (2, 4)], 0xFFFFFFFF, 0, 0, 0⟩,
  ⟨0x1008508, [(8, 0x100000), (8, 0x800), (6, 0x10)], 0, 1, 0, 0⟩,
  ⟨0x1008580, [(8, 0x100000), (8, 0x800), (11, 0x10), (2, 4)], 0xFFFFFFFF, 0, 0, 0⟩,
  ⟨0x1008588, [(8, 0x100000), (8, 0x800), (11, 0x10)], 0, 1, 0, 0⟩,
  ⟨0x1008680, [(8, 0x100000), (8, 0x800), (1, 0x10), (2, 4)], 0xFFFFFFFF, 0, 0, 0⟩,
  ⟨0x1008688, [(8, 0x100000), (8, 0x800), (1, 0x10)], 0, 1, 0, 0⟩]

def descOct : List RegDesc := descOct0 ++ descOct1 ++ descOct2

/-- Registers of the Fab region, part 0. -/
def descFab0 : List RegDesc := [
  ⟨0x2000000, [], 0, 0, 0, 0⟩,
  ⟨0x2000004, [], 0, 0x100, 0, 0⟩,
  ⟨0x2000008, [], 0xFF07, 0, 0, 0x1003⟩,
  ⟨0x200000C, [], 0, 0, 0, 0⟩,
  ⟨0x2000010, [], 0, 0, 0, 0⟩,
  ⟨0x2000100, [(8, 4)], 0x3FFF0001, 0, 0, 0x5F20000⟩,
  ⟨0x2000120, [(8, 4)], 0x7FFFFFFF, 0, 0, 0⟩,
  ⟨0x2001000, [(2, 0x4000), (4096, 4)], 0x8000073F, 0, 0, 0⟩]

def descFab : List RegDesc := descFab0

/-- Registers of the Str region, part 0. -/
def descStr0 : List RegDesc := [
  ⟨0x2200000, [(16384, 0x20)], 0x9FFF03FF, 0, 0, 0⟩,
  ⟨0x2280000, [(8192, 0x20)], 0xBFFFFFFF, 0, 0, 0⟩,
  ⟨0x2280004, [(8192, 0x20)], 0xF3FFF, 0, 0, 0⟩,
  ⟨0x2280008, [(8192, 0x20)], 0xFFF0FFF, 0, 0, 0⟩,
  ⟨0x228000C, [(8192, 0x20)], 0x7FFFFFF, 0, 0, 0⟩,
  ⟨0x2280010, [(8192, 0x20)], 0x7FFFFFF, 0, 0, 0⟩,
  ⟨0x2280014, [(8192, 0x20)], 0xFFFFFF, 0, 0, 0⟩,
  ⟨0x2280018, [(8192, 0x20)], 0xFFFFFF, 0, 0, 0⟩,
  ⟨0x228001C, [(8192, 0x20)], 0, 0, 0, 0⟩,
  ⟨0x22C0000, [(8192, 0x10)], 0, 0, 0, 0⟩,
  ⟨0x22C0004, [(8192, 0x10)], 0, 0, 0, 0⟩,
  ⟨0x2300024, [(8192, 0x40)], 0, 0x3F, 0, 0⟩,
  ⟨0x2390000, [(8, 4)], 0, 0, 0, 0xFFFFFFFF⟩,
  ⟨0x23A0000, [], 0, 0x20000, 0, 0⟩,
  ⟨0x23C0000, [(4096, 0x10)], 0x8000007F, 0, 0, 0⟩,
  ⟨0x23C0004, [(4096, 0x10)], 0xFFFF, 0, 0, 0⟩,
  ⟨0x23C0008, [(4096, 0x10)], 0xFFFFFFFF, 0, 0, 0⟩,
  ⟨0x23C000C, [(4096, 0x10)], 0, 1, 0, 0⟩,
  ⟨0x2400000, [(4096, 0x10)], 0x8FFF1FFF, 0, 0, 0⟩,
  ⟨0x2400004, [(4096, 0x10)], 0, 0, 0, 0⟩,
  ⟨0x2480028, [(4096, 0x40)], 0, 0xFF, 0, 0⟩,
  ⟨0x2200004, [(16384, 0x20), (6, 4)], 0xFFFFFFFF, 0, 0, 0⟩,
  ⟨0x2300000, [(8192, 0x40), (9, 4)], 0xFFFFFFFF, 0, 0, 0⟩,
  ⟨0x2380000, [(4096, 8), (2, 4)], 0xFFFFFFFF, 0, 0, 0⟩,
  ⟨0x2480000, [(4096, 0x40), (10, 4)], 0xFFFFFFFF, 0, 0, 0⟩]

def descStr : List RegDesc := descStr0

/-- Registers of the Tim region, part 0. -/
def descTim0 : List RegDesc := [
  ⟨0x2800000, [(8, 0x100)], 0, 0, 0, 0⟩,
  ⟨0x2800004, [(8, 0x100)], 0, 0, 0, 0⟩,
  ⟨0x2800008, [(8, 0x100)], 0, 0, 0, 0⟩,
  ⟨0x280000C, [(8, 0x100)], 0, 0, 0, 0⟩,
  ⟨0x2800010, [(8, 0x100)], 0, 0, 0, 0⟩,
  ⟨0x2800014, [(8, 0x100)], 0, 0, 0, 0⟩,
  ⟨0x2800018, [(8, 0x100)], 0, 0, 0, 0⟩,
  ⟨0x2800020, [(8, 0x100)], 0xFFFFFFFF, 0, 0, 0⟩,
  ⟨0x2800024, [(8, 0x100)], 0xFFFF, 0, 0, 0⟩,
  ⟨0x2800028, [(8, 0x100)], 0xFFFFFFF, 0, 0, 0x6402710⟩,
  ⟨0x280002C, [(8, 0x100)], 3, 0, 0, 3⟩,
  ⟨0x2800030, [(8, 0x100)], 0, 0x78, 0, 0⟩,
  ⟨0x2800034, [(8, 0x100)], 0, 0, 0, 0⟩,
  ⟨0x2800040, [(8, 0x100)], 0xFFFFFFFF, 0, 0, 0⟩,
  ⟨0x2800044, [(8, 0x100)], 0x4000FFFF, 0, 0, 0⟩,
  ⟨0x2800048, [(8, 0x100)], 0x3FFFFFFF, 0, 0, 0⟩,
  ⟨0x2801000, [], 0, 0, 0, 0⟩,
  ⟨0x2801004, [], 0, 0, 0, 0⟩,
  ⟨0x2801008, [], 0, 0, 0, 0⟩,
  ⟨0x2801180, [], 0, 0, 0, 0⟩,
  ⟨0x2801184, [], 0, 0, 0, 0⟩,
  ⟨0x2810000, [(8, 0x40)], 0x3F1FF7, 0, 0, 0x100⟩,
  ⟨0x2810004, [(8, 0x40)], 0x3FFFFFFF, 0, 0, 0⟩,
  ⟨0x2810008, [(8, 0x40)], 0xFFFF, 0, 0, 1⟩,
  ⟨0x281000C, [(8, 0x40)], 0x3FFFFFFF, 0, 0, 0⟩]

/-- Registers of the Tim region, part 1. -/
def descTim1 : List RegDesc := [
  ⟨0x2810010, [(8, 0x40)], 0x3FFFFFFF, 0, 0, 0⟩,
  ⟨0x2810014, [(8, 0x40)], 0, 4, 0, 0⟩,
  ⟨0x2820000, [(8, 0x40)], 0x7F77, 0, 0, 2⟩,
  ⟨0x2820004, [(8, 0x40)], 0, 0x500, 0, 0⟩,
  ⟨0x2820008, [(8, 0x40)], 0xFFFFFFFF, 0, 0, 0⟩,
  ⟨0x2820010, [(8, 0x40)], 0, 0, 0, 0⟩,
  ⟨0x2820014, [(8, 0x40)], 0, 0, 0, 0⟩,
  ⟨0x2820018, [(8, 0x40)], 0, 0, 0, 0⟩,
  ⟨0x282001C, [(8, 0x40)], 0, 0, 0, 0⟩,
  ⟨0x2830000, [(16, 0x10)], 0xFFFFFFFF, 0, 0, 0⟩,
  ⟨0x2830004, [(16, 0x10)], 0x83F7FFFF, 0, 0, 0⟩,
  ⟨0x2830008, [(16, 0x10)], 0x3FFFFFFF, 0, 0, 0⟩,
  ⟨0x283000C, [(16, 0x10)], 0x3F00, 7, 0, 0⟩,
  ⟨0x2840000, [(8, 0x100)], 0x1FFFFF77, 0, 0, 0⟩,
  ⟨0x2840004, [(8, 0x100)], 0xFF7F07, 0, 0, 7⟩,
  ⟨0x2840008, [(8, 0x100)], 0xFFFFFFFF, 0, 0, 0⟩,
  ⟨0x284000C, [(8, 0x100)], 0, 1, 0, 0⟩,
  ⟨0x2801100, [(8, 0x10), (4, 4)], 0, 0, 0, 0⟩]

def descTim : List RegDesc := descTim0 ++ descTim1

/-- Registers of the Tdc region, part 0. -/
def descTdc0 : List RegDesc := [
  ⟨0x3000000, [], 0x1F, 0, 0, 4⟩,
  ⟨0x3000004, [], 0, 0, 0, 0⟩,
  ⟨0x3000C00, [(8, 0x10)], 0x3FF, 0, 0, 8⟩,
  ⟨0x3000C04, [(8, 0x10)], 0xFFFFFFFF, 0, 0, 0⟩,
  ⟨0x3000C08, [(8, 0x10)], 0xFFFFFFFF, 0, 0, 0⟩,
  ⟨0x3000C0C, [(8, 0x10)], 0, 3, 0, 0⟩,
  ⟨0x3000E00, [(4, 0x20)], 0xFFF, 0, 0, 0⟩,
  ⟨0x3000E04, [(4, 0x20)], 0x3FFFFFFF, 0, 0, 0xF4240⟩,
  ⟨0x3000E08, [(4, 0x20)], 0, 0, 0, 0⟩,
  ⟨0x3000E0C, [(4, 0x20)], 0, 0, 0, 0⟩,
  ⟨0x3000E10, [(4, 0x20)], 0, 0x10, 0, 0⟩,
  ⟨0x3001000, [(84, 0x20)], 0, 0x100, 0x7FF0000, 0⟩,
  ⟨0x3001004, [(84, 0x20)], 0, 0, 0, 0⟩,
  ⟨0x3001008, [(84, 0x20)], 0, 0, 0, 0⟩,
  ⟨0x300100C, [(84, 0x20)], 0, 0, 0, 0⟩,
  ⟨0x3001010, [(84, 0x20)], 0xFFFFFFFF, 0, 0, 0⟩,
  ⟨0x3001014, [(84, 0x20)], 0xFFFFFFFF, 0, 0, 0⟩,
  ⟨0x3001018, [(84, 0x20)], 0xFFFFFFFF, 0, 0, 0⟩,
  ⟨0x300101C, [(84, 0x20)], 0, 7, 0, 0⟩,
  ⟨0x3010000, [(84, 0x800), (512, 4)], 0, 0, 0xFFFFFFFF, 0⟩]

def descTdc : List RegDesc := descTdc0

/-- Registers of the Ref region, part 0. -/
def descRef0 : List RegDesc := [
  ⟨0x3800000, [], 0x20, 0x10, 0, 0⟩,
  ⟨0x3800004, [], 0, 0, 0, 0⟩,
  ⟨0x3801000, [(8, 0x400)], 0x31F1F, 0, 0, 0x906⟩,
  ⟨0x3801004, [(8, 0x400)], 0xFFF0FFF, 0, 0, 0x1F40032⟩,
  ⟨0x3801008, [(8, 0x400)], 0xFFF0FFF, 0, 0, 0x7D00064⟩,
  ⟨0x380100C, [(8, 0x400)], 0xFFFFFFF, 0, 0, 0xA12C0A⟩,
  ⟨0x3801010, [(8, 0x400)], 0xFFFFFFF, 0, 0, 0xA0064⟩,
  ⟨0x3801014, [(8, 0x400)], 0xFFFFFFFF, 0, 0, 0x384012C⟩,
  ⟨0x3801018, [(8, 0x400)], 0xFFFFFFFF, 0, 0, 0xE10003C⟩,
  ⟨0x380101C, [(8, 0x400)], 0xFFFFFFFF, 0, 0, 0x14F8BB07⟩,
  ⟨0x3801020, [(8, 0x400)], 0, 0, 0, 0⟩,
  ⟨0x3801024, [(8, 0x400)], 0, 0x7F, 0, 0⟩,
  ⟨0x3801028, [(8, 0x400)], 0x7F, 0, 0, 0⟩,
  ⟨0x380102C, [(8, 0x400)], 0, 0, 0, 0⟩,
  ⟨0x3801030, [(8, 0x400)], 0, 0, 0, 0⟩,
  ⟨0x3801034, [(8, 0x400)], 0, 0, 0, 0⟩,
  ⟨0x3801038, [(8, 0x400)], 0, 0, 0, 0⟩,
  ⟨0x380103C, [(8, 0x400)], 0, 0, 0, 0xFFFFFEF8⟩,
  ⟨0x3801040, [(8, 0x400)], 0xFFFFFFFF, 0, 0, 0⟩,
  ⟨0x3801044, [(8, 0x400)], 0, 1, 0, 0⟩,
  ⟨0x3801100, [(8, 0x400), (16, 0x20)], 0x1FF03F7, 0, 0, 0x800000⟩,
  ⟨0x3801104, [(8, 0x400), (16, 0x20)], 0xFFFFFFFF, 0, 0, 0xFFFFFEF8⟩,
  ⟨0x3801108, [(8, 0x400), (16, 0x20)], 0x3FFFFFFF, 0, 0, 0x3B9ACA00⟩,
  ⟨0x380110C, [(8, 0x400), (16, 0x20)], 0, 0x20, 0, 0⟩,
  ⟨0x3801110, [(8, 0x400), (16, 0x20)], 0, 0x7F, 0, 0⟩]

/-- Registers of the Ref region, part 1. -/
def descRef1 : List RegDesc := [
  ⟨0x3801114, [(8, 0x400), (16, 0x20)], 0, 0, 0, 0⟩,
  ⟨0x3801118, [(8, 0x400), (16, 0x20)], 0, 0, 0, 0⟩,
  ⟨0x380111C, [(8, 0x400), (16, 0x20)], 0, 0, 0, 0⟩]

def descRef : List RegDesc := descRef0 ++ descRef1

/-- Registers of the Twn region, part 0. -/
def descTwn0 : List RegDesc := [
  ⟨0x4000000, [], 0xFF1FFF07, 0, 0, 0xA09FF06⟩,
  ⟨0x4000004, [], 0, 0, 0, 0⟩,
  ⟨0x4000008, [], 0, 0, 0, 0⟩,
  ⟨0x400000C, [], 0xFFFFFFFF, 0, 0, 0x807D0064⟩,
  ⟨0x4000010, [], 0xFFFFFFF, 0, 0, 0xA03C01⟩,
  ⟨0x4000024, [], 0xFFFFFFFF, 0, 0, 0⟩,
  ⟨0x4000014, [], 0, 0x3FF, 0, 0⟩,
  ⟨0x4000018, [], 0x3FF, 0, 0, 0⟩,
  ⟨0x400001C, [], 0xFFFFFFFF, 0, 0, 0⟩,
  ⟨0x4000020, [], 0, 1, 0, 0⟩,
  ⟨0x4000028, [], 0, 0, 0, 0⟩,
  ⟨0x4000040, [(8, 4)], 0x77777777, 0, 0, 0⟩,
  ⟨0x4000100, [(8, 0x10)], 0x3FFF, 0, 0, 0x3E8⟩,
  ⟨0x4000104, [(8, 0x10)], 0, 0, 0, 0⟩,
  ⟨0x4000108, [(8, 0x10)], 0, 0, 0, 0⟩,
  ⟨0x4001000, [], 0xFFFFFFFF, 0, 0, 0x640A0AF⟩,
  ⟨0x4001004, [], 0, 0x80, 0, 0⟩,
  ⟨0x4001008, [], 0x8001FFFF, 0, 0, 0⟩,
  ⟨0x400100C, [], 0xFFFFFFFF, 0, 0, 0⟩,
  ⟨0x4001010, [], 0xFFFFFFFF, 0, 0, 0⟩,
  ⟨0x4001014, [], 0, 0, 0, 0⟩,
  ⟨0x4001100, [(64, 4)], 0xFFFF03FF, 0, 0, 0⟩,
  ⟨0x4002000, [(1024, 0x20)], 0, 0, 0, 0⟩,
  ⟨0x4002004, [(1024, 0x20)], 0, 0, 0, 0⟩,
  ⟨0x4100000, [(256, 0x200)], 0x80FFFFFF, 0, 0, 0⟩]

/-- Registers of the Twn region, part 1. -/
def descTwn1 : List RegDesc := [
  ⟨0x4100004, [(256, 0x200)], 0, 0, 0, 0⟩,
  ⟨0x4002008, [(1024, 0x20), (4, 4)], 0, 0, 0, 0⟩,
  ⟨0x4100010, [(256, 0x200), (124, 4)], 0xFFFFFFFF, 0, 0, 0⟩]

def descTwn : List RegDesc := descTwn0 ++ descTwn1

/-- Registers of the Orb region, part 0. -/
def descOrb0 : List RegDesc := [
  ⟨0x5000000, [], 7, 0, 7, 0⟩,
  ⟨0x5000004, [], 0x3FFFFFFF, 0, 0x3FFFFFFF, 0x1E848⟩,
  ⟨0x5000008, [], 0xFFFFFFFF, 0, 0xFFFFFFFF, 0⟩,
  ⟨0x500000C, [], 0xFFFFFFFF, 0, 0xFFFFFFFF, 0⟩,
  ⟨0x5000010, [], 0xFFFF, 0, 0xFFFF, 0⟩,
  ⟨0x5000014, [], 0x3FFFFFFF, 0, 0x3FFFFFFF, 0⟩,
  ⟨0x5000018, [], 0xFFFFFFFF, 0, 0xFFFFFFFF, 0⟩,
  ⟨0x5000020, [], 0, 0, 0xFFFFFFFF, 0⟩,
  ⟨0x5000024, [], 0, 0, 0xFFFFFFFF, 0⟩,
  ⟨0x5000028, [], 0, 0, 0xFFFFFFFF, 0⟩,
  ⟨0x500002C, [], 0, 0, 0xFFFF, 0⟩,
  ⟨0x5000030, [], 0, 0, 0x3FFFFFFF, 0⟩,
  ⟨0x5000034, [], 0, 0, 0xFFFFFFFF, 0⟩,
  ⟨0x5000038, [], 0, 3, 0, 0⟩,
  ⟨0x5000040, [], 0, 0, 0, 0⟩,
  ⟨0x5001000, [(9, 0x100)], 3, 0, 0, 0⟩,
  ⟨0x5001004, [(9, 0x100)], 0, 0xC, 0, 0⟩,
  ⟨0x5001008, [(9, 0x100)], 0, 0, 0, 0⟩,
  ⟨0x500100C, [(9, 0x100)], 0, 0, 0, 0⟩,
  ⟨0x5001010, [(9, 0x100), (8, 4)], 0xFFFFFFFF, 0, 0, 0⟩,
  ⟨0x5001030, [(9, 0x100), (4, 4)], 0, 0, 0, 0⟩,
  ⟨0x5001040, [(9, 0x100), (8, 0x10)], 0, 0, 0, 0⟩,
  ⟨0x5001044, [(9, 0x100), (8, 0x10)], 0, 0, 0, 0⟩,
  ⟨0x5001048, [(9, 0x100), (8, 0x10)], 0, 0, 0, 0⟩,
  ⟨0x500104C, [(9, 0x100), (8, 0x10)], 0, 0, 0, 0⟩]

/-- Registers of the Orb region, part 1. -/
def descOrb1 : List RegDesc := [
  ⟨0x5100000, [(9, 0x10000), (16384, 4)], 0xFFFFFFFF, 0, 0, 0⟩,
  ⟨0x50010C0, [(9, 0x100), (11, 4)], 0xFFFFFFFF, 0, 0, 0⟩,
  ⟨0x50010EC, [(9, 0x100)], 0, 0x7FF, 0, 0⟩,
  ⟨0x50010F0, [(9, 0x100)], 0xFFFFFFFF, 0, 0, 0⟩]

def descOrb : List RegDesc := descOrb0 ++ descOrb1

/-- Registers of the Hub region, part 0. -/
def descHub0 : List RegDesc := [
  ⟨0x6000000, [], 0xFFFFFF, 0, 0, 0⟩,
  ⟨0x6000004, [], 0xFFFFFFFF, 0, 0, 0⟩,
  ⟨0x6000008, [], 0xFFFFFFFF, 0, 0, 0⟩,
  ⟨0x600000C, [], 0xFFFF, 0, 0, 0⟩,
  ⟨0x6000010, [], 0, 0, 0, 0⟩,
  ⟨0x6000014, [], 0, 0, 0, 0⟩,
  ⟨0x6000018, [], 0xFFFFFFFF, 0, 0, 0⟩,
  ⟨0x600001C, [], 0xFFFFFFFF, 0, 0, 0⟩,
  ⟨0x6000020, [], 0xFFFFFFFF, 0, 0, 0⟩,
  ⟨0x6000024, [], 0, 7, 0, 0⟩,
  ⟨0x6000028, [], 7, 0, 0, 0⟩,
  ⟨0x6000030, [], 0xFFFFFFFF, 0, 0, 0⟩,
  ⟨0x6000034, [], 0xFFFFFFFF, 0, 0, 0⟩,
  ⟨0x6000038, [], 0xFFFFFFFF, 0, 0, 0⟩,
  ⟨0x600003C, [], 0, 0xF, 0, 0⟩,
  ⟨0x6000100, [(64, 4)], 0x17F, 0, 0, 0⟩,
  ⟨0x6001000, [(4096, 4)], 0x81FFFFFF, 0, 0, 0⟩,
  ⟨0x6000800, [], 0x1FF3F, 0, 0, 0x14⟩,
  ⟨0x6000804, [], 0xFFFFFFFF, 0, 0, 1⟩,
  ⟨0x6000808, [], 0xFFFFFFFF, 0, 0, 0⟩,
  ⟨0x600080C, [], 0xFFFFFFFF, 0, 0, 0⟩,
  ⟨0x6000810, [], 0xFFFFF, 0, 0, 0⟩,
  ⟨0x6000814, [], 0, 0, 0, 0⟩,
  ⟨0x6000818, [], 0xFFFFFFFF, 0, 0, 0⟩,
  ⟨0x600081C, [], 0xFFFFFFFF, 0, 0, 0⟩]

def descHub : List RegDesc := descHub0

/-- Registers of the Pwr region, part 0. -/
def descPwr0 : List RegDesc := [
  ⟨0x7000000, [], 0xFF7F, 0, 0, 0x1008⟩,
  ⟨0x7000004, [], 0, 0x17FF0000, 0, 0⟩,
  ⟨0x7000008, [], 0xFFFF03FF, 0, 0, 0⟩,
  ⟨0x7000100, [(8, 4)], 0xFFFF, 0, 0, 0⟩,
  ⟨0x7000120, [], 0xFFFF, 0, 0, 0⟩,
  ⟨0x7000124, [], 0xFFFFFFFF, 0, 0, 0⟩,
  ⟨0x7000128, [], 0xFFFFFFFF, 0, 0, 0⟩,
  ⟨0x7000130, [], 0, 0, 0, 0⟩,
  ⟨0x7000134, [], 0x80, 0x7F, 0, 0⟩,
  ⟨0x7000140, [], 0x3F0, 0, 0, 0x280⟩,
  ⟨0x7000144, [], 0, 0, 0, 0⟩,
  ⟨0x7000800, [], 7, 0, 7, 4⟩,
  ⟨0x7000804, [], 0, 0x8000, 0x10003, 0x2EE2⟩,
  ⟨0x7000808, [], 0, 0, 0, 0⟩]

def descPwr : List RegDesc := descPwr0

/-- Registers of the Bar4 region, part 0. -/
def descBar40 : List RegDesc := [
  ⟨0x8000000, [], 0, 0, 0, 0⟩,
  ⟨0x8000004, [], 0, 8, 0, 0x10000⟩,
  ⟨0x8000008, [], 0, 0, 0, 0⟩,
  ⟨0x800000C, [], 1, 0, 0, 0⟩,
  ⟨0x8003000, [(64, 0x10), (3, 4)], 0xFFFFFFFF, 0, 0, 0⟩,
  ⟨0x800300C, [(64, 0x10)], 1, 0, 0, 1⟩,
  ⟨0x8003800, [(2, 4)], 0, 0, 0, 0⟩]

def descBar4 : List RegDesc := descBar40

/-- Does offset `off` from a register array's base hit one of its words? Indices are taken outermost first. -/
def hitDims : List (Nat × Nat) → Nat → Bool
  | [], off => off == 0
  | (n, st) :: t, off => if off / st < n then hitDims t (off % st) else false

def RegDesc.hit (d : RegDesc) (a : Nat) : Bool := d.base ≤ a && hitDims d.dims (a - d.base)

/-- The descriptors of the region that offset `a` lies in (Table 15-3). -/
def regionDescs (a : Nat) : List RegDesc :=
  if a < 0x1000000 then descGlb else if a < 0x1800000 then descOct
  else if a < 0x2200000 then descFab else if a < 0x2800000 then descStr
  else if a < 0x3000000 then descTim else if a < 0x3800000 then descTdc
  else if a < 0x4000000 then descRef else if a < 0x5000000 then descTwn
  else if a < 0x6000000 then descOrb else if a < 0x7000000 then descHub
  else if a < 0x8000000 then descPwr else descBar4

/-- The register at an offset, or none in reserved space (R414). -/
def findDesc (a : Nat) : Option RegDesc := (regionDescs a).find? (·.hit a)

/-- PORT_DSCPw resets to DSCP >> 3 in each of its entries; word 6 has four (Table 4-9). -/
def dscpReset (w : Nat) : Nat :=
  (List.range (if w = 6 then 4 else 10)).foldl (fun acc k => acc + ((10 * w + k) / 8) * 2 ^ (3 * k)) 0

/-- The word an offset holds at reset: its table's reset column; 0 in reserved space (R14, R414). -/
def resetWord (a : Nat) : Word :=
  if 0x10020C8 ≤ a && a < 0x1800000 && hitDims [(8, 0x100000), (8, 0x100), (7, 4)] (a - 0x10020C8) then
    BitVec.ofNat 32 (dscpReset (((a - 0x10020C8) % 0x100) / 4))
  else match findDesc a with
    | some d => BitVec.ofNat 32 d.reset
    | none => 0

/-- The value of a field of a word. -/
def Fld.get (f : Fld) (w : Word) : Nat := w.toNat / 2 ^ f.lo % 2 ^ f.width

/-- The word with the field set to `v` modulo its width. -/
def Fld.put (f : Fld) (w : Word) (v : Nat) : Word :=
  BitVec.ofNat 32 (w.toNat - f.get w * 2 ^ f.lo + v % 2 ^ f.width * 2 ^ f.lo)

end Sys2Proof.Machine
end

