-- ==== Sys2Proof/Machine/State.lean ====
section
/-! DEFINITION. The state of the block as plain data: every register and table word in `regs`, and beside it the state that the spec gives the device without giving it a register of its own (engine registers and lists, time counts, queues, frames, keys, the journal), the outputs it has given, and the queue of waiting commands. -/

namespace Sys2Proof.Machine

/-- The twelve operating modes (Table 0-4). -/
inductive Mode where
  | strap | boot | dock | free | acquire | locked | holdover | proving | doze | recover | opened | halt
  deriving DecidableEq, Repr

/-- The timing state of a domain (Table 2-8, `TSTATE`). -/
inductive TState where
  | free | acquire | locked | holdover
  deriving DecidableEq, Repr

/-- The twin role (R66). -/
inductive Role where
  | solo | active | moon
  deriving DecidableEq, Repr

/-- What one timed action does (Table 5-11). -/
inductive ActKind where
  | gate (port : Nat) (state : Nat) (hold : Nat)
  | sgate (handle : Nat) (opn : Bool)
  | launch (port : Nat) (cls : Nat)
  | inj (port : Nat) (tmpl : Nat)
  | tout (pin : Nat) (lvl : Bool)
  | capt (dom : Nat) (slot : Nat)
  | mark (group : Nat)
  | rswap
  deriving DecidableEq, Repr

/-- What the sampler holds of a tagged instruction until it completes (Table 14-7). -/
structure Tag where
  bank : Bool := false
  op : Nat := 0
  pc : Nat := 0
  orbit : Nat := 0
  issue : Nat := 0
  len : Nat := 0
  cycle : Nat := 0
  deriving DecidableEq, Repr

/-- One issued action: its offset in 1/64 ns, whether it has slipped (R150), and the sample tag it carries. -/
structure Act where
  off : Nat
  kind : ActKind
  slip : Bool := false
  tag : Option Tag := none
  deriving DecidableEq, Repr

/-- One orbit engine (R137). Its control block and counters are registers; the rest is here. -/
structure Engine where
  /-- started under R155 and not stopped since -/
  started : Bool := false
  /-- runs withheld by a fault with `FAULT_RESTART` = 0 or by code 7 (R160, R161) -/
  held : Bool := false
  /-- runs may resume at the first Orbit start at least 2 µs after this TB_CYC -/
  resumeFrom : Option Nat := none
  /-- the active bank (R152) -/
  bank : Bool := false
  /-- TB_CYC of a pending swap's request (R153) -/
  swap : Option Nat := none
  /-- the inactive and the active image have passed their check (R375): images of bank 0 and bank 1 -/
  image0 : Bool := false
  image1 : Bool := false
  /-- the engine runs a program compiled by the firmware (R183) -/
  compiled : Bool := false
  first : Bool := false
  /-- FLAGS.OVR for the next run: the last run overran or faulted -/
  ovr : Bool := false
  /-- a run is in progress -/
  running : Bool := false
  pc : Nat := 0
  g : Store Word := []
  gSave : Store Word := []
  stack : List Nat := []
  cyc : Nat := 0
  budget : Nat := 0
  evts : Nat := 0
  /-- actions of the run in progress, in issue order (the list being filled) -/
  filling : List Act := []
  /-- the completed list for the next Orbit, and whether it is sealed (R145) -/
  pendList : List Act := []
  sealed : Bool := false
  /-- the list executing in this Orbit, in order of offset and then issue -/
  exec : List Act := []
  /-- PUT writes of the run in progress, by output number -/
  puts : Store Word := []
  /-- values latched at the start of the run, by GET selector (R144) -/
  inputs : Store Word := []
  /-- (TB_CYC, value) at each change of `ENG_CTRL.EN`, newest first (R155) -/
  enLog : List (Nat × Bool) := []
  /-- actions executed in the TIME cycle named by the first component (R150) -/
  fired : Nat × Nat := (0, 0)
  /-- the orbit domain's epoch counter when the previous run started, if there was one (FLAGS.STEPPED) -/
  lastEpoch : Option Nat := none
  /-- the sampler's shift register, and whether a tagged action is in flight (R403) -/
  lfsr : Word := 0
  tagged : Bool := false
  deriving DecidableEq, Repr

/-- A grid of Orbit starts (R139): the domain, the period and ALIGN in 2^-32 ns. -/
structure Grid where
  dom : Nat := 0
  period : Nat := 125000 * 4294967296
  align : Nat := 0
  deriving DecidableEq, Repr

/-- The Orbit (R6, R7, R140). Instants are times of the grid's domain in 2^-32 ns. -/
structure Orbit where
  /-- Orbit 0 has started -/
  begun : Bool := false
  /-- the grid in force -/
  grid : Grid := {}
  /-- ORB_EPOCH -/
  epoch : Int := 0
  /-- the exact start of the current Orbit, and of the next -/
  start : Int := 0
  next : Int := 0
  /-- TB_CYC of the TIME edge at which the current Orbit started (R144) -/
  startTb : Nat := 0
  /-- this Orbit is longer than P (R142) -/
  stretched : Bool := false
  /-- TB_CYC of the last grid write that has not taken effect (R143) -/
  gridWrite : Option Nat := none
  deriving DecidableEq, Repr

/-- One time domain (R189 to R201). `time` and `sf` count 2^-48 ns. -/
structure Domain where
  time : Nat := 0
  sf : Nat := 0
  rate : Int := 0
  /-- a rate word written and applied at the next TIME edge -/
  rateNext : Option Int := none
  /-- the low half of a rate word, held until the high half is written (R193) -/
  rateLo : Option Nat := none
  /-- slew remainder in 2^-48 ns, and the rounding error carried to the next edge in 10^-6 of that unit (R196) -/
  slewRem : Int := 0
  slewErr : Int := 0
  /-- pending step in 2^-48 ns and the TB_CYC at which it was pended (R197) -/
  step : Option (Int × Nat) := none
  epoch : Nat := 0
  lockedSeen : Bool := false
  /-- timing state (Table 2-8) and unqualified holdover (R291) -/
  tstate : TState := .free
  unqual : Bool := false
  hostLoop : Bool := false
  /-- (TB_CYC, rate word) at each change of the rate word, newest first, at least 10 s back (R290, R291) -/
  rateLog : List (Nat × Int) := []
  /-- something has made the history sample in progress invalid (R290) -/
  histBad : Bool := true
  deriving DecidableEq, Repr

/-- Reference selection of a domain (R283 to R291): the PLL's integrator as a rate word with TB_CYC of its last update and the phase input then, in 2^-16 ns; TB_CYC since which the lock criteria of R288 have held, and since which the phase has been beyond four times the limit; the build-out remainder in 2^-16 ns and TB_CYC of its last move, the history newest first (the mean rate word and whether it is valid) with TB_CYC of its last sample, TB_CYC of entry to holdover, whether the history was valid then and whether `HO_SPEC` has run out since, and the quality advertised before that entry (clockClass, clockAccuracy, variance). The last holdover rate word and valid seconds are registers. -/
structure Ref where
  integ : Int := 0
  pllTb : Nat := 0
  pllErr : Int := 0
  good : Option Nat := none
  wide : Option Nat := none
  bo : Int := 0
  boTb : Nat := 0
  hist : List (Int × Bool) := []
  sampleTb : Nat := 0
  hoTb : Option Nat := none
  hoValid : Bool := false
  hoDone : Bool := false
  held : Nat × Nat × Nat := (248, 0xFE, 0xFFFF)
  /-- the gate of R238 took the domain to holdover: the port -/
  gatedBy : Option Nat := none
  deriving DecidableEq, Repr

/-- A candidate (R278 to R281): θ in 2^-16 ns; its updates, newest first, each as TB_CYC, θ, and the candidate's phase against TIME, in 2^-16 ns; its frequencies in 2^-4 ppb with TB_CYC of each, newest first; TB_CYC at which `WTR` began; the phase taken as 0 when it was selected; its update rate in mHz; TB_CYC since which |θ| has been within `THRESH` while DISQUALIFIED. -/
structure Cand where
  theta : Int := 0
  ms : List (Nat × Int × Int) := []
  fs : List (Nat × Int) := []
  wtr : Nat := 0
  base : Int := 0
  updates : Nat := 0
  near : Option Nat := none
  deriving DecidableEq, Repr

/-- A TOUT pin's configuration in force (R209). -/
structure ToutCfg where
  mode : Nat := 0
  dom : Nat := 0
  level : Bool := false
  drive : Nat := 1
  qual : Bool := false
  claim : Bool := false
  inv : Bool := false
  fine : Nat := 0
  num : Nat := 0
  den : Nat := 1
  phase : Nat := 0
  width : Nat := 0
  deriving DecidableEq, Repr

/-- A TOUT pin: the configuration in force, the level before `INV`, its last edge and the pulse in progress. Instants on TIME are in 1/64 ns from TB_CYC 0. -/
structure Tout where
  cfg : ToutCfg := {}
  /-- TB_CYC of the last write of its registers not yet in force -/
  write : Option Nat := none
  level : Bool := false
  lastEdge : Option Nat := none
  /-- end of the pulse in progress, on the step-free count of the domain named, in 2^-48 ns (R207) -/
  pulseEnd : Option (Nat × Nat) := none
  /-- a generator edge of the TIME cycle just passed: its instant, and its domain's step-free count there in 2^-48 ns -/
  due : Option (Nat × Nat) := none
  /-- a configuration that waits for the end of the pulse in progress (R207) -/
  cfgNext : Option ToutCfg := none
  /-- the schedule was taken up anew by a step or a change and has not risen since (R207) -/
  resync : Bool := false
  deriving DecidableEq, Repr

/-- A capture record (R212): time in 2^-16 ns, edge, COARSE, and the epoch counter's low byte. -/
structure TinRec where
  time : Nat
  rise : Bool
  coarse : Bool
  epoch : Nat
  deriving DecidableEq, Repr

/-- A TIN pin: present level, queued records oldest first. -/
structure Tin where
  pin : Bool := false
  /-- the instant on TIME in 2^-48 ns to which the hold-off of the last accepted edge runs (R254) -/
  holdTo : Option Int := none
  /-- records that wait to enter the queue, oldest first, and TB_CYC at which the last one entered (R255) -/
  wait : List TinRec := []
  entered : Option Nat := none
  /-- the last rising edge recorded, on TIME in 2^-48 ns (R276) -/
  rose : Option Int := none
  queue : List TinRec := []
  deriving DecidableEq, Repr

/-- What a TDC channel holds beside its registers (R251, R266, R269): the BOOT table in force, as the number of the free value it was drawn at (`none`: the table's words are in `regs`), the last scaling pair, the last edge measured (its instant on TIME in 2^-48 ns, and the interval and LSB that it gave; R253), and the rejections in a row. -/
structure TdcChan where
  seed : Option Nat := none
  pair : Option (Nat × Nat) := none
  last : Option (Int × Option (Int × Nat)) := none
  rejects : Nat := 0
  deriving DecidableEq, Repr

/-- The phases of a calibration run (Table 9-3, R267); the first two calibrate the spare before it stands in. -/
inductive CalPhase where
  | spareCollect | spareCompute | shadow | collect | compute | verify | inplace
  deriving DecidableEq, Repr

/-- A calibration run of a group: the channel, the phase, whether the monitor oscillator is the signal, and the collection that is being computed: its counts and whether its phase moved by 50 ns (R260). -/
structure CalRun where
  chan : Nat
  phase : CalPhase
  mon : Bool
  counts : List Nat := []
  moved : Bool := false
  deriving DecidableEq, Repr

/-- A link phase tracker (R228): the number of the last recovered-clock edge measured, in units of 1024 edges since link-up, and its instant on TIME in 2^-48 ns; and the last 4096 measurements since link-up or the last slip, newest first, as such pairs. -/
structure Tracker where
  last : Option (Nat × Int) := none
  ms : List (Nat × Int) := []
  deriving DecidableEq, Repr

/-- An unpaired edge of an interval unit (R256): its instant on TIME in 2^-48 ns, its calibrated LSB in 2^-16 ps, and COARSE. -/
structure IvlEdge where
  at48 : Int
  lsb : Nat
  coarse : Bool
  deriving DecidableEq, Repr

/-- An interval unit: its unpaired edges, the edges of the present TIME cycle (each with whether it is a start and a stop), and the words of the newest result that reading `IVL_RES_LO` latches. -/
structure Ivl where
  start : Option IvlEdge := none
  stop : Option IvlEdge := none
  edges : List (IvlEdge × Bool × Bool) := []
  hi : Word := 0
  flags : Nat := 0
  deriving DecidableEq, Repr

/-- A frame in a receive store of an octet in P1, with the TB_CYC of its arrival (R349). -/
structure RxHeld where
  port : Fin 64
  how : MmRx
  frame : RxFrame
  ovf : Bool
  tb : Nat
  deriving DecidableEq, Repr

/-- The power arbiter (R353, R354): lanes and calibration groups that wait, oldest first, and those that hold a grant; octets whose exit is in progress, and the mode that waits for the exit from P3 (R62) with its cause and detail. -/
structure Power where
  trainWait : List Nat := []
  trainGrant : List Nat := []
  calWait : List Nat := []
  calGrant : List Nat := []
  exiting : List Nat := []
  /-- the exit from P3 is in progress -/
  devExit : Bool := false
  modeNext : Option (Mode × Nat × Nat) := none
  /-- TB_CYC at which a VOQ or transit store last held something (R351) -/
  busyTb : Nat := 0
  /-- TB_CYC at which each octet's exit in progress began, and that of the device at key 8 (R345, R348) -/
  exitTb : Store Nat := []
  /-- TB_CYC at which each octet last received a frame (R349) -/
  rxTb : Store Nat := []
  /-- the receive stores of the octets in P1, oldest first (R349) -/
  rxHeld : List RxHeld := []
  /-- TB_CYC of the arrival of a frame that is being taken from its receive store -/
  rxAt : Option Nat := none
  deriving DecidableEq, Repr

/-- The counter hub (R397 to R400): the latches made since COUNTER_SET, the dumps latched and not yet written, oldest first (the marked group, if any, and the words), and the group and selector words in force since the last Orbit start (R399). -/
structure Hub where
  seq : Nat := 0
  dumps : List (Option Nat × List Word) := []
  cfg : Store Word := []
  deriving DecidableEq, Repr

/-- The modes of a lane or port (R5, Table 6-2). -/
inductive PortMode where
  | r25 | r10 | x1 | sgmii | r100
  deriving DecidableEq, Repr

/-- A port's link (R102, R107); `r100` at port 4k means that lanes 4k to 4k+3 are bonded (R5). -/
structure Link where
  up : Bool := false
  mode : PortMode := .r25
  deriving DecidableEq, Repr

/-- What left the block, newest first: nothing in the block reads it back. -/
inductive Out where
  /-- an MSI-X message (R418) -/
  | msix (vector : Nat)
  /-- data returned to a requester (R412) -/
  | data (req : Nat) (addr : Nat) (value : Word)
  /-- a counter dump written to host memory, at its slot's address (R398) -/
  | dump (addr : Nat) (words : List Word)
  /-- a sample record written to host memory, at its slot's address (R404) -/
  | sample (addr : Nat) (words : List Word)
  /-- a level on a TOUT pin, at an instant on TIME in 1/64 ns; `none` is high impedance -/
  | pin (pin : Nat) (level : Option Bool) (at64 : Nat)
  /-- the CLKOBS pin held low, then driven from a source (R346) -/
  | clkobs (src : Nat) (sel : Nat) (div : Nat)
  /-- a TDO value of the JTAG port (R39) -/
  | jtag (value : Word)
  /-- a verify or respond mPacket sent on a port (R177) -/
  | mpacket (port : Nat) (respond : Bool)
  /-- a frame sent on a port, with a good FCS or an inverted one, at TB_CYC of its start; `rate` is the transmit synthesiser's rate against the nominal line rate traced to REFCLK, in 2^-48 (R229) -/
  | frame (port : Nat) (pkt : Pkt) (len : Nat) (fcsOk : Bool) (tb : Nat) (rate : Int)
  /-- a PFC frame (vector of classes) or a pause frame, with its quanta (R100) -/
  | pfc (port : Nat) (classes : Nat) (pause : Bool) (quanta : Nat)
  /-- a record of the twin link on a lane (Table 11-2) -/
  | twin (lane : Nat) (r : TwinRec)
  /-- a claim-pin frame (R312) -/
  | claim (bits : BitVec 40)
  /-- a message relayed to the twin, and the response to a message of the twin's (R380) -/
  | relay (words : List Word)
  | relayRsp (words : List Word)
  /-- the response to an in-band agent's frame: destination, nonce, message and ICV (R379) -/
  | agent (dst : BitVec 48) (nonce : Word) (words : List Word) (icv : List Byte)
  deriving DecidableEq, Repr

/-- A frame in the device: its content and length as edited, where it came in, its class and marks, the ingress stamp (R106), the units it holds in each tier (Table 3-4), and the instant of its receive timestamp on TIME in 2^-48 ns (R224). -/
structure Frame where
  pkt : Pkt
  len : Nat
  src : Nat
  cls : Nat
  de : Bool := false
  ctx : Option Nat := none
  stamp : Nat := 0
  /-- forwarded cut-through: the descriptor's `LEN` is 0 and a trailer follows; `bad` is the trailer's `BAD` -/
  ct : Bool := false
  bad : Bool := false
  uMin : Nat := 0
  uShr : Nat := 0
  uHdr : Nat := 0
  rx48 : Int := 0
  deriving DecidableEq, Repr

/-- A frame in a VOQ: its frame number, the bytes of its stream already sent (R75), the cells since the one its descriptor began in, its replication bitmap (R94; 0 in a unicast queue), and for a cut-through frame TB_CYC of its first byte and the rate in Gbit/s at which its bytes come (R76). -/
structure VEntry where
  frame : Frame
  fnum : Nat
  sent : Nat := 0
  cells : Nat := 0
  bitmap : Nat := 0
  rel : Option (Nat × Nat) := none
  deriving DecidableEq, Repr

/-- A VOQ or multicast queue (R80), oldest frame first, and the number of its next frame. -/
structure Voq where
  q : List VEntry := []
  next : Nat := 0
  deriving DecidableEq, Repr

/-- The part of one frame's stream that a cell carries: the frame with its descriptor where that begins here, and the trailer's `BAD` where it ends here. -/
structure Piece where
  fnum : Nat
  bytes : Nat
  head : Option Frame
  tail : Bool
  bad : Bool := false
  deriving DecidableEq, Repr

/-- A cell (Table 3-2): `rsvOut` is the fabric output of a reserved cell. -/
structure Cell where
  src : Nat
  dst : Nat
  tc : Nat
  mc : Bool
  bitmap : Nat
  fnum : Nat
  cidx : Nat
  first : Nat
  rsvOut : Option Nat
  pieces : List Piece
  deriving DecidableEq, Repr

/-- An intermediate: its transit store, oldest cell first, and the full bits of the last broadcast (R87, R88): keys 8 × port + class. -/
structure Inter where
  cells : List Cell := []
  full : List Nat := []
  fullAll : Bool := false
  mcFull : Bool := false
  deriving DecidableEq, Repr

/-- A frame being reassembled: bytes and cells taken, whether it has joined its egress queue, whether it is discarded as its cells arrive, and the units allotted to it (R93). -/
structure Part where
  frame : Frame
  got : Nat := 0
  cells : Nat := 0
  queued : Bool := false
  dropped : Bool := false
  id : Nat := 0
  units : Nat := 0
  deriving DecidableEq, Repr

/-- A reassembly context (R91): the (`FRAME`, `CIDX`) expected, none while it waits for a cell in which a descriptor begins; the frame in progress; cells that wait; whether the gap timer runs; the last cell that a declared gap touched; and the (`FRAME`, `CIDX`) at which a frame was flushed from its VOQ, of which no further cell comes (R107). -/
structure Reasm where
  expect : Option (Nat × Nat) := some (0, 0)
  cur : Option Part := none
  wait : List Cell := []
  gap : Bool := false
  gapEnd : Nat × Nat := (0, 0)
  stop : Option (Nat × Nat) := none
  deriving DecidableEq, Repr

/-- A frame in an egress queue. `id` tells it from its fellows, `units` is its allotment (R93). -/
structure EFrame where
  frame : Frame
  id : Nat
  complete : Bool
  units : Nat
  deriving DecidableEq, Repr

/-- An egress queue: its frames, and the units allotted to it, those of frames still arriving included. -/
structure EgrQ where
  q : List EFrame := []
  units : Nat := 0
  deriving DecidableEq, Repr

/-- A due launch of a port (R171, R172): the class of the queue whose next frame is due, or the frame itself for an injection; the host slot it came from; TB_CYC and order at which it became due. -/
structure Due where
  cls : Option Nat
  inj : Option Frame := none
  slot : Option Nat := none
  tb : Nat := 0
  prio : Nat := 0
  deriving DecidableEq, Repr

/-- A transmission in progress: the frame, its class, whether all of it has arrived, its allotment, TB_CYC at its start and the 1/25 ns beyond it, bytes of it sent in earlier fragments, the bytes at which a fragment is cut (R179, R180), and whether it is preemptable. -/
structure Tx where
  frame : Frame
  cls : Nat
  complete : Bool
  id : Nat
  units : Nat
  start : Nat
  startF : Nat := 0
  before : Nat := 0
  cut : Option Nat := none
  pre : Bool := false
  deriving DecidableEq, Repr

/-- The credits of a queue's shapers in 2^-8 byte (R128), what each has gained below that unit in 1/31250 of it, and TB_CYC of their last update; its round-robin deficit. -/
structure Shaper where
  c : Int := 0
  p : Int := 0
  cRem : Nat := 0
  pRem : Nat := 0
  tb : Nat := 0
  deficit : Nat := 0
  deriving DecidableEq, Repr

/-- An entry of a transmit timestamp queue (Table 8-10): time in 2^-16 ns. -/
structure TsqEntry where
  time : Nat
  dom : Nat
  fwd : Bool
  mtype : Nat
  tsid : Nat
  seqId : Nat
  domNum : Nat
  deriving DecidableEq, Repr

/-- A port's egress: due launches, the transmission in progress, a suspended preemptable frame (R180), the round-robin pointer, classes paused by received PFC or pause (R101), classes whose XOFF stands (R100), the instants at which its gates last opened (step-free count of the orbit domain, 2^-48 ns), the transmit timestamp queue, and the next `TSID`. -/
structure Egress where
  due : List Due := []
  tx : Option Tx := none
  susp : Option Tx := none
  rr : Nat := 0
  paused : Nat := 0
  xoff : Nat := 0
  opened : Store Int := []
  tsq : List TsqEntry := []
  tsid : Nat := 0
  /-- verify attempts made (R177), and TB_CYC of the last -/
  verify : Nat := 0
  verifyTb : Nat := 0
  /-- the part of the present TIME cycle at which a decision is made, in 1/25 ns (R165) -/
  frac : Nat := 0
  deriving DecidableEq, Repr

/-- An admission account (R80): units held in each tier. -/
structure Acct where
  min : Nat := 0
  shr : Nat := 0
  hdr : Nat := 0
  deriving DecidableEq, Repr

/-- A policer's buckets in 2^-16 byte (R124), what each has gained below that unit in 1/15625 of it, and TB_CYC of their last update. -/
structure Bucket where
  c : Nat := 0
  p : Nat := 0
  cRem : Nat := 0
  pRem : Nat := 0
  tb : Nat := 0
  deriving DecidableEq, Repr

/-- The history of a recovery function with ALG 0 (R303): bit k for the number `RECOV` − k, and how many numbers it covers; TB_CYC at which its RESET timer last restarted. -/
structure SeqHist where
  bits : Nat := 0
  span : Nat := 0
  timer : Nat := 0
  deriving DecidableEq, Repr

/-- A held two-step correction (R236): its instance, the Sync's identity and sequenceId, the correction in 2^-48 ns, and TB_CYC. -/
structure TcEntry where
  dom : Nat
  ident : BitVec 80
  seqId : BitVec 16
  corr : Int
  tb : Nat
  deriving DecidableEq, Repr

/-- Where a unicast PTP message came from (R217): transport, MAC address and IP address. -/
structure PtpPeer where
  transport : Nat
  mac : BitVec 48
  ip : BitVec 128
  deriving DecidableEq, Repr

/-- A foreign master (R277): the sender's sourcePortIdentity, its last Announce, TB_CYC of that and its PATH_TRACE TLV; and where it sends from where it sends by unicast. -/
structure Foreign where
  ident : BitVec 80
  ann : PtpAnn
  tb : Nat
  path : Option (List (BitVec 64)) := none
  peer : Option PtpPeer := none
  deriving DecidableEq, Repr

/-- What the firmware keeps of PTP on a port, times in 2^-16 ns: the receive time and correction of the last Pdelay_Req to answer, the times of its own peer delay exchange; by instance, those of Sync and of the delay request-response exchange; the offset last measured; the held corrections (R236); and the step being settled: the delay before the first of its steps, TB_CYC of the first and of the last, and D (R238). -/
structure PtpPort where
  r2 : Int := 0
  rcorr : Int := 0
  p1 : Int := 0
  p2 : Int := 0
  p4 : Int := 0
  pcorr : Int := 0
  /-- a peer delay exchange is in progress: its sequenceId, and whether the response has come -/
  pseq : Option (Nat × Bool) := none
  /-- by instance: the two-step Sync that waits for its Follow_Up, the receive time and the correction of the last Sync -/
  sync : Store (Option (BitVec 16)) := []
  /-- by instance: TB_CYC at which the last Sync arrived (Table 10-1) -/
  syncTb : Store (Option Nat) := []
  t1s : Store Int := []
  t2s : Store Int := []
  t3s : Store Int := []
  scorr : Store Int := []
  /-- by instance: the best foreign master heard -/
  foreign : Store (Option Foreign) := []
  /-- the next sequenceId, by 16 × instance + messageType -/
  seqs : Store Nat := []
  /-- the peer's L1_SYNC TLV shows a congruent clock (R230) -/
  congruent : Bool := false
  offset : Store Int := []
  tc : List TcEntry := []
  settle : Option (Int × Nat × Nat) := none
  dRtt : Int := 0
  /-- the last measurement of M_p is valid -/
  known : Bool := false
  /-- the last receive timestamp was coarse (R224) -/
  coarse : Bool := false
  deriving DecidableEq, Repr

/-- The PCI Express function and MSI-X (R406 to R419). Per-vector masks and the pending bits are in `regs`. -/
structure Pcie where
  /-- PERST_N is low -/
  perst : Bool := true
  /-- link training may start (R39) -/
  training : Bool := false
  d3 : Bool := false
  bme : Bool := false
  msixEn : Bool := false
  fmask : Bool := false
  /-- lines at 1 when last judged (R418), by vector -/
  lines : BitVec 64 := 0
  /-- the addresses that the BARs hold, by configuration offset (R407) -/
  bars : Store Word := []
  deriving DecidableEq, Repr

/-- A counter latch of one reader (R394): the counter's lowest-word offset, its higher word and its sticky bit. -/
structure CtrLatch where
  addr : Nat
  hi : Word
  sticky : Bool
  deriving DecidableEq, Repr

/-- Reads and writes in parts: one counter latch per reader (0 BAR0, 1 BAR2, 3 the management core), the held higher words (R395), and the words of multi-word values latched by their first word (R214). -/
structure Bus where
  latch : Store (Option CtrLatch) := []
  heldHi : Store Word := []
  words : Store (Option Word) := []
  deriving DecidableEq, Repr

/-- A change of role that waits for the next Orbit start (R309). -/
inductive RoleChange where
  | eclipse
  | revert
  /-- become ACTIVE after the join wait, with this GEN -/
  | active (gen : Nat)
  /-- become MOON with this GEN; the flag marks an orphan (R326) and the second a demotion (R323) -/
  | moon (gen : Nat) (orphan demoted : Bool)
  deriving DecidableEq, Repr

/-- The twin logic (R308 to R327). Claims and most status bits are in `regs`. -/
structure Twin where
  /-- a forwarding mode has been entered since BOOT -/
  entered : Bool := false
  /-- TB_CYC at which a join wait began, and whether the twin has been heard on the link or the pins since -/
  join : Option Nat := none
  joinHeard : Bool := false
  roleNext : Option RoleChange := none
  /-- the twin slot: claim and TB_CYC of its last refresh (R316) -/
  slot : Option (Nat × Nat) := none
  /-- the highest GEN heard since BOOT, by the order of R314 -/
  genHeard : Option Nat := none
  /-- a valid heartbeat has arrived on the link, and on the pins, since the last judgement (R313); the lanes that delivered records since then; the pins were reported lost since then (R37) -/
  heardLink : Bool := false
  heardPins : Bool := false
  laneHeard : Nat := 0
  pinReport : Bool := false
  /-- Orbits judged without delivery: lanes TW0 and TW1, and the pins; paths in loss at the last judgement -/
  miss0 : Nat := 0
  miss1 : Nat := 0
  missPins : Nat := 0
  lossLink : Bool := false
  lossPins : Bool := false
  /-- the last heartbeat heard, the last mirror of each domain and the last Comet mirror -/
  last : Option TwHeart := none
  mirrors : Store (Option TwMirror) := []
  comet : List (Nat × Nat) := []
  /-- the ACTIVE's output record of this Orbit (R319) -/
  output : Option TwOutput := none
  /-- what this unit gave out, or as MOON held back, in this Orbit and in the last (rising edges on pins with CLAIM = 1, Announces, Syncs), and its Comet counters at the last Orbit start -/
  own : TwOutput := {}
  ownPrev : TwOutput := {}
  cometOwn : List (Nat × Nat) := []
  /-- the last Comet mirror differed from them (Table 11-3) -/
  cometBad : Bool := false
  /-- this unit's last timing exchange sent, and the times at which the twin's last one came, by domain in 2^-16 ns; θ of the twin by domain -/
  exTx : List Int := []
  exRx : List Int := []
  theta : Store Int := []
  /-- TB_CYC since which the orbit domain has followed within 1 µs (R318) -/
  near : Option Nat := none
  /-- the unit's own proving claim, and the twin's proving claim heard on the link and on the pins (R328) -/
  prov : Nat := 0
  provLink : Option Nat := none
  provPins : Option Nat := none
  /-- the twin asked for a revert proving run; this unit asks (R324) -/
  revHeard : Bool := false
  revReq : Bool := false
  /-- TB_CYC at which the revert hold began, and before which no new request is set -/
  revHold : Option Nat := none
  revWait : Option Nat := none
  /-- TB_CYC of the last echo naming a higher claim (R327) -/
  echoHigh : Option Nat := none
  deriving DecidableEq, Repr

/-- A claim filter slot's refresh instants are TB_CYC, by group: normal and proving (R315). -/
structure ClfAge where
  hi : Nat := 0
  phi : Nat := 0
  deriving DecidableEq, Repr

/-- A proving run (R328 to R333). -/
structure Prv where
  plan : Nat := 0
  /-- the step in progress: 0 PATH, 1 CLAIM, 2 TIMING, 3 REPORT -/
  step : Nat := 0
  stepStart : Nat := 0
  revert : Bool := false
  /-- the orbit domain began the run in FREE or HOLDOVER (R333) -/
  loose : Bool := false
  /-- a PATH step's injection was suppressed, held, slipped or missed -/
  injBad : Bool := false
  /-- CLAIM step: the Orbit in which both units were first in PROVING; those in which the twin's proving claim was first heard on each path; this unit has been without the higher proving claim -/
  met : Option Nat := none
  hearLink : Option Nat := none
  hearPins : Option Nat := none
  closed : Bool := false
  /-- TIMING step: ALIGNED has fallen -/
  unaligned : Bool := false
  /-- TIMING step: edges of the loopback pairs' TOUT pins that their TIN pins have not seen: pair, and instant on TIME in 2^-48 ns -/
  loops : List (Nat × Int) := []
  /-- sink log entries written in this run -/
  logged : Nat := 0
  /-- a requested run waits for the next Orbit start: plan and cause (R421), and the revert flag -/
  request : Option (Nat × Nat × Bool) := none
  /-- the scheduled run has come due: TB_CYC of the due Orbit start -/
  due : Option Nat := none
  /-- the day of the last scheduled run that came due -/
  day : Option Nat := none
  /-- templates injected in this Orbit, whose number advances at its end (R330) -/
  injected : List Nat := []
  deriving DecidableEq, Repr

/-- Clocks (R337 to R341): the dividers in force, the TB_CYC of a divider write not yet in force, CORE in MHz, whether the CORE clock tree is stopped, and an accepted operating-point change in progress: its target point (2 and `EN` 0 is nominal), and whether its voltage rises. -/
structure Clk where
  engDiv : Nat := 8
  mbusDiv : Nat := 16
  divWrite : Option Nat := none
  core : Nat := 1024
  stopped : Bool := false
  change : Option (Bool × Nat × Bool) := none
  deriving DecidableEq, Repr

/-- Start-up and recovery (R44 to R71). -/
structure Sys where
  straps : BitVec 11 := 0
  /-- VDD_TIO is at 3.3 V (R30) -/
  vtio33 : Bool := false
  /-- BOOT step 1 is complete: the timebase runs -/
  timebase : Bool := false
  /-- the VDD_CORE monitor stands tripped (R29) -/
  tripped : Bool := false
  refclkLost : Bool := false
  /-- TB_CYC since which REFCLK has been within its limits against the candidate it is judged by (R292) -/
  inRange : Option Nat := none
  /-- accepted level of REFWARM (R35) -/
  warm : Bool := false
  /-- die sensors in 0.25 °C (R42), by sensor -/
  temps : Store Int := []
  alarm : Bool := false
  /-- a sensor has reached 112 °C since HALT was entered (R46) -/
  hot : Bool := false
  /-- RECOVER was entered from DOCK (R69) -/
  fromDock : Bool := false
  /-- TB_CYC since which the mode has been a forwarding mode (R155) -/
  fwdSince : Option Nat := none
  /-- the erase of OPEN_DEBUG is in progress (R385) -/
  erasing : Bool := false
  /-- HALT was entered during that erase -/
  haltErase : Bool := false
  /-- a mailbox RESET begins its warm reset 1 ms after the response (R370): TB_CYC of the response -/
  resetAt : Option Nat := none
  /-- this pass through BOOT keeps the repair map and calibration tables, and TIME (a warm reset, or a trip after step 1) -/
  warmBoot : Bool := false
  /-- REFCLK has been within limits for 10 ms since reset (R48) -/
  refQual : Bool := false
  deriving DecidableEq, Repr

/-- The in-band agent (R379): whether AGENT_SET has enabled it, its port, key slot and MAC address, and the last nonce accepted. -/
structure Agent where
  en : Bool := false
  port : Nat := 0
  slot : Nat := 0
  mac : BitVec 48 := 0
  nonce : Nat := 0
  deriving DecidableEq, Repr

/-- A gate list (R183): the cycle time as m × P or P / k, the base time in 2^-32 ns, the entries (gate states, hold operation, duration in ns), X0 in 2^-32 ns of the orbit domain, and the operative start once it is computed. -/
structure GateList where
  div : Bool
  mul : Nat
  base : Int
  entries : List (Nat × Nat × Nat)
  x0 : Option Int := none
  start : Option Int := none
  /-- the base time lay before the orbit domain's time (R184, R185) -/
  past : Bool := false
  deriving DecidableEq, Repr

/-- One change of a transaction (R366, R371 to R375). -/
inductive Change where
  /-- a register item: offset, mask, value -/
  | item (addr mask value : Nat)
  /-- a data-set item: its key and value words -/
  | dset (key : Nat) (words : List Word)
  /-- an identification entry's eight words -/
  | sid (entry : Nat) (words : List Word)
  /-- an indexed stream object: its kind of R374, index and words, none for a delete -/
  | obj (kind index : Nat) (words : Option (List Word))
  /-- the stream tables' commit -/
  | commit
  | grid (g : Grid)
  /-- a chunk of a bank image: engine, first, last, the first word's address, the words -/
  | load (eng : Nat) (first last : Bool) (addr : Nat) (words : List Word)
  | swap (mask : Nat)
  | glist (port : Nat) (l : GateList)
  /-- DOMAIN_ADJUST with operation 0, 1 or 2 and its value, in 2^-16 ns or as a rate word -/
  | adjust (dom op : Nat) (v : Int)
  | loop (dom : Nat) (opn : Bool)
  deriving DecidableEq, Repr

/-- A partner's message in progress: its TAG, its journal sequence number (0 without one), the records served with their opcode, status and result, newest first, the first failure's index and status, and the changes staged. -/
structure Msg where
  tag : Nat := 0
  seq : Nat := 0
  recs : List (Nat × Nat × List Word) := []
  fail : Option (Nat × Nat) := none
  changes : List Change := []
  /-- the stream objects changed: 65536 × kind + index -/
  objs : List Nat := []
  /-- a record of it may not be accepted, so that it takes no sequence number (R366) -/
  noSeq : Bool := false
  deriving DecidableEq, Repr

/-- A partner's mailbox (R358, R376): the message in progress, the opcode whose completion its response waits for (0 is a transaction's close), responses that wait for the buffer, the agent's requester and nonce, and whether a message relayed to the twin is unanswered. `REQ_BUSY` and the like are registers. -/
structure Mb where
  msg : Option Msg := none
  wait : Option Nat := none
  rspQ : List (List Word) := []
  peer : BitVec 48 := 0
  nonce : Word := 0
  relayed : Option Nat := none
  /-- TB_CYC at which that message went to the twin -/
  relayTb : Nat := 0
  deriving DecidableEq, Repr

/-- A committed transaction that waits for its Orbit start (R366): partner, sequence number, changes, TB_CYC at the end of staging. -/
structure Txn where
  partner : Nat
  seq : Nat
  changes : List Change
  tb : Nat
  /-- the firmware is compiling and loading a gate list of it (R184) -/
  loading : Bool := false
  deriving DecidableEq, Repr

/-- The state of the block. -/
structure State where
  mode : Mode := .strap
  role : Role := .solo
  /-- every register, table and event-log word, by BAR0 offset (BAR4 offsets stand above 0x0800_0000) -/
  regs : Store Word := []
  sys : Sys := {}
  clk : Clk := {}
  twin : Twin := {}
  clfAges : Store ClfAge := []
  prv : Prv := {}
  pcie : Pcie := {}
  bus : Bus := {}
  /-- TB_CYC (R188) -/
  tb : Nat := 0
  /-- the Orbit number (R7) -/
  orbNum : Nat := 0
  orbit : Orbit := {}
  domains : Store Domain := []
  engines : Store Engine := []
  touts : Store Tout := []
  tins : Store Tin := []
  links : Store Link := []
  tdcs : Store TdcChan := []
  cals : Store (Option CalRun) := []
  ivls : Store Ivl := []
  trackers : Store Tracker := []
  power : Power := {}
  hub : Hub := {}
  /-- slots advanced since the end of BOOT (R74), and TB_CYC at the start of the present one -/
  slot : Nat := 0
  slotTb : Nat := 0
  /-- VOQs, keyed 520 × port + 8 × destination + class, and 520 × port + 512 + class for multicast -/
  voqs : Store Voq := []
  accts : Store Acct := []
  inters : Store Inter := []
  /-- egress full bits of the last broadcast, keys 8 × port + class (R89) -/
  egrFull : List Nat := []
  /-- the member served last, per (input, class): 8 × input + class (R85) -/
  rr : Store Nat := []
  /-- cells on their way from stage 2 to each fabric output -/
  wires : Store (List Cell) := []
  /-- reassembly contexts, keyed 1024 × port + 512 for multicast + 8 × source + class -/
  reasms : Store Reasm := []
  /-- egress queues, keyed 8 × port + class, and the next frame's identity -/
  egrQs : Store EgrQ := []
  nextId : Nat := 1
  egresses : Store Egress := []
  shapers : Store Shaper := []
  buckets : Store Bucket := []
  seqHists : Store SeqHist := []
  /-- changes of the stream gates (TB_CYC, gate, open), newest first, as far back as a frame in reception may have begun (R121) -/
  sgLog : List (Nat × Nat × Bool) := []
  /-- entries of the active reservation bank that its swap ignored (R99), and of a swap request the number of Orbits that had begun -/
  rsvIgnored : List Nat := []
  rsvReq : Option Nat := none
  ptps : Store PtpPort := []
  /-- PTP data-set items that PTP_SET has set (R372), by instance + 8 × port + 512 × item -/
  dsets : Store (Option (List Word)) := []
  refs : Store Ref := []
  /-- candidates, keyed 16 × domain + slot -/
  cands : Store Cand := []
  /-- keys by slot, and bindings (SPP, keyID, slot) (R382) -/
  keys : Store (List Byte) := []
  binds : List (Nat × Nat × Nat) := []
  agent : Agent := {}
  /-- mailboxes by partner, posted requests in order of their doorbells, committed transactions in order of acceptance, and the journal newest first: (sequence number, partner, status of JOURNAL_READ) -/
  mbs : Store Mb := []
  posted : List Nat := []
  txns : List Txn := []
  journal : List (Nat × Nat × Nat) := []
  /-- gate lists in force and pending, by port (R183 to R185) -/
  glists : Store (Option GateList) := []
  gpends : Store (Option GateList) := []
  /-- a trigger slot armed with a time already past: TB_CYC of that + 1, else 0; a host launch slot (4 × port + slot) that will fire with its late flag (R203) -/
  trgLate : Store Nat := []
  hlsLate : Store Bool := []
  /-- a snapshot is requested and not yet latched (R202) -/
  snapPend : Bool := false
  out : List Out := []
  /-- number of free values taken so far: the model's own counter, applied to `Config`'s free functions -/
  freeCount : Nat := 0
  /-- the commands waiting, first in first out -/
  pending : List Instr := []
  deriving DecidableEq, Repr

/-- The machine right after reset: RESET_N released with every strap open, in STRAP (R44, Table 2-1). -/
def State.reset : State := {}

/-- Why a step stops with a fault. -/
inductive Fault where
  /-- a PCIe access beyond the BAR it names (R407): no such address exists. Raised by the read and write commands. Safe. -/
  | outsideBar (bar : Nat) (offset : Nat)
  deriving DecidableEq, Repr

/-- Why a command is refused. -/
inductive Refusal where
  /-- a command whose meaning is not written yet; no meaning answers it. Safe. -/
  | notModelled (mnemonic : String)
  /-- a debug TAP instruction in OPEN: the spec says that such instructions act and not what they do (R39, R64). Safe. -/
  | debugTap (ir : Nat)
  deriving DecidableEq, Repr

end Sys2Proof.Machine
end

