-- ==== Sys2Proof/Machine/Ops.lean ====
section
/-! DEFINITION. The named operations over registers and state parts: reading and writing a register or a field, the event log (R386), the interrupt lines and MSI-X messages (R417 to R419), counters (R389), and the change of mode (R63). -/

namespace Sys2Proof.Machine

/-! ## Registers -/

/-- The word at an offset (R13). -/
def State.reg (s : State) (a : Nat) : Word := storeGet resetWord s.regs a

/-- The state with the word at an offset set. -/
def State.setReg (s : State) (a : Nat) (w : Word) : State := { s with regs := storeSet resetWord s.regs a w }

/-- A field's value. -/
def State.rd (s : State) (f : Fld) : Nat := f.get (s.reg f.addr)

/-- The state with a field set, modulo its width. -/
def State.wr (s : State) (f : Fld) (v : Nat) : State := s.setReg f.addr (f.put (s.reg f.addr) v)

/-- A one-bit field as a truth value. -/
def State.bit (s : State) (f : Fld) : Bool := s.rd f == 1

/-- The state with a one-bit field set or cleared. -/
def State.setBit (s : State) (f : Fld) (b : Bool) : State := s.wr f (if b then 1 else 0)

/-! ## Parts of the state -/

def State.dom (s : State) (d : Nat) : Domain := storeGet (fun _ => {}) s.domains d
def State.setDom (s : State) (d : Nat) (x : Domain) : State := { s with domains := storeSet (fun _ => {}) s.domains d x }
def State.eng (s : State) (e : Nat) : Engine := storeGet (fun _ => {}) s.engines e
def State.setEng (s : State) (e : Nat) (x : Engine) : State := { s with engines := storeSet (fun _ => {}) s.engines e x }
def State.tout (s : State) (p : Nat) : Tout := storeGet (fun _ => {}) s.touts p
def State.setTout (s : State) (p : Nat) (x : Tout) : State := { s with touts := storeSet (fun _ => {}) s.touts p x }
def State.tin (s : State) (p : Nat) : Tin := storeGet (fun _ => {}) s.tins p
def State.setTin (s : State) (p : Nat) (x : Tin) : State := { s with tins := storeSet (fun _ => {}) s.tins p x }

def State.link (s : State) (p : Nat) : Link := storeGet (fun _ => {}) s.links p
def State.setLink (s : State) (p : Nat) (x : Link) : State := { s with links := storeSet (fun _ => {}) s.links p x }

/-- Ports 4k+1 to 4k+3 are absent while lanes 4k to 4k+3 are bonded into port 4k (R5). -/
def State.absent (s : State) (p : Nat) : Bool := p % 4 != 0 && (s.link (p - p % 4)).mode == .r100

/-- The rate of a port mode in Gbit/s (R165). -/
def PortMode.rate : PortMode → Nat
  | .r25 => 25 | .r10 => 10 | .x1 => 1 | .sgmii => 1 | .r100 => 100

/-- Give something to the outside. -/
def State.emit (s : State) (o : Out) : State := { s with out := o :: s.out }

/-! ## Modes -/

/-- `GLB_MODE.MODE` (Table 2-8). -/
def Mode.code : Mode → Nat
  | .strap => 0 | .boot => 1 | .dock => 2 | .free => 3 | .acquire => 4 | .locked => 5
  | .holdover => 6 | .proving => 7 | .doze => 8 | .recover => 9 | .opened => 10 | .halt => 11

/-- The forwarding modes (Table 0-4). -/
def Mode.fwd : Mode → Bool
  | .free | .acquire | .locked | .holdover | .proving | .doze => true
  | .strap | .boot | .dock | .recover | .opened | .halt => false

/-- `GLB_MODE.TSTATE` (Table 2-8). -/
def TState.code : TState → Nat
  | .free => 0 | .acquire => 1 | .locked => 2 | .holdover => 3

/-- The mode that a timing state names (R61). -/
def TState.mode : TState → Mode
  | .free => .free | .acquire => .acquire | .locked => .locked | .holdover => .holdover

/-- `GLB_MODE.ROLE` (Table 2-8). -/
def Role.code : Role → Nat
  | .solo => 0 | .active => 1 | .moon => 2

/-- The orbit domain in force (R139). -/
def State.orbDom (s : State) : Domain := s.dom s.orbit.grid.dom

/-- The orbit domain's timing state, `GLB_MODE.TSTATE`. -/
def State.tstate (s : State) : TState := s.orbDom.tstate

/-- `GLB_MODE` as it reads (Table 2-8): the fields that other state names are put in. -/
def State.glbMode (s : State) : Word :=
  let w := s.reg A.GLB_MODE
  let w := R.GLB_MODE_MODE.put w s.mode.code
  let w := R.GLB_MODE_TSTATE.put w s.tstate.code
  let w := R.GLB_MODE_UNQUAL.put w (if s.tstate = .holdover && s.orbDom.unqual then 1 else 0)
  let w := R.GLB_MODE_ROLE.put w s.role.code
  R.GLB_MODE_HOSTLOOP.put w (if s.orbDom.hostLoop then 1 else 0)

/-! ## Interrupt lines and MSI-X (R417 to R419) -/

/-- Some index below `n` satisfies `p`. -/
def anyBelow (n : Nat) (p : Nat → Bool) : Bool := (List.range n).any p

/-- The line of a vector (Table 15-7). -/
def State.line (s : State) (v : Nat) : Bool :=
  if v = 0 then s.bit R.MB_STATUS_RSP_READY && s.bit R.MB_IEN_RSP
  else if v = 1 then s.bit R.GLB_ISRC_MODE && s.bit R.GLB_IEN_MODE
  else if v = 2 then s.bit R.GLB_ISRC_MBERR && s.bit R.GLB_IEN_MBERR
  else if v = 3 then s.bit R.GLB_ISRC_THERM && s.bit R.GLB_IEN_THERM
  else if v = 4 then s.bit R.REF_GLB_RANGE && s.bit R.REF_GLB_RANGE_IEN
  else if v = 5 then (s.reg A.TW_HIST).toNat &&& (s.reg A.TW_IEN).toNat &&& 0x3FF != 0
  else if v = 6 then (s.reg A.PWR_WAKE).toNat % 128 != 0 && s.bit R.PWR_WAKE_IEN
  else if v = 7 then (s.reg A.HUB_STAT).toNat &&& (s.reg A.HUB_IEN).toNat &&& 7 != 0
  else if v = 8 then anyBelow 84 (fun c => s.bit (R.TDC_CHSTAT_CAL_BAD c))
  else if v = 9 then anyBelow 16 (fun k => s.bit (R.TRG1_INT k) && s.bit (R.TRG3_DONE k))
  else if v < 16 then false
  else if v < 24 then s.bit (R.DOM_STAT_STEP_REFUSED (v - 16)) || s.bit (R.DOM_STAT_STEP_RANGE (v - 16))
  else if v < 32 then (s.reg (A.REF_DHIST (v - 24))).toNat &&& (s.reg (A.REF_DIEN (v - 24))).toNat &&& 127 != 0
  else if v < 40 then anyBelow 8 (fun m => s.bit (R.PTP_PSTAT_PD_ALARM (8 * (v - 32) + m)) ||
    (s.rd (R.TSQ_STAT_IRQ_LVL (8 * (v - 32) + m)) != 0 &&
      s.rd (R.TSQ_STAT_IRQ_LVL (8 * (v - 32) + m)) ≤ (storeGet (fun _ => {}) s.egresses (8 * (v - 32) + m)).tsq.length))
  else if v < 48 then s.rd (R.TIN_CFG_IRQ_LVL (v - 40)) != 0 &&
    s.rd (R.TIN_CFG_IRQ_LVL (v - 40)) ≤ (s.tin (v - 40)).queue.length
  else if v < 57 then s.bit (R.ENG_STAT_FAULT (v - 48)) || (s.rd R.GLB_ISRC_ENG_EVT).testBit (v - 48)
  else false

/-- The pending bit of a vector, in the pending bit array at BAR4 0x3800. -/
def pbaFld (v : Nat) : Fld := ⟨0x8003800 + 4 * (v / 32), v % 32, 1⟩

/-- A vector's mask bit, in the vector control word of its MSI-X table entry. -/
def maskFld (v : Nat) : Fld := ⟨0x800300C + 16 * v, 0, 1⟩

/-- Messages can leave: MSI-X enabled, the function in D0, PERST_N high (R408, R419). -/
def State.msixOn (s : State) : Bool := s.pcie.msixEn && !s.pcie.perst && !s.pcie.d3

/-- A message is held back: masked, or bus mastering off (R419). -/
def State.msixHeld (s : State) (v : Nat) : Bool := s.pcie.fmask || s.bit (maskFld v) || !s.pcie.bme

/-- Send a vector's message, make it pending, or neither (R418, R419). -/
def State.deliver (s : State) (v : Nat) : State :=
  if !s.msixOn then s
  else if s.msixHeld v then s.setBit (pbaFld v) true
  else (s.setBit (pbaFld v) false).emit (.msix v)

/-- Judge a vector's line: a rise delivers its message, a fall withdraws a pending one (R418, R419). -/
def State.syncVec (s : State) (v : Nat) : State :=
  let was := s.pcie.lines.getLsbD v
  if s.line v then
    if was then s else ({ s with pcie := { s.pcie with lines := s.pcie.lines ||| BitVec.twoPow 64 v } }).deliver v
  else if was then
    ({ s with pcie := { s.pcie with lines := s.pcie.lines &&& ~~~(BitVec.twoPow 64 v) } }).setBit (pbaFld v) false
  else s

/-- Judge every line. -/
def State.syncAll (s : State) : State := (List.range 64).foldl State.syncVec s

/-! ## Counters (R389, R401) -/

/-- A counter: its lowest word's field, the width of its higher word (0, 16 or 32 bits, at the next word), whether it saturates, its sticky bit, and its event number KIND × 256 + EVENT and instance (R392). -/
structure Ctr where
  lo : Fld
  hiBits : Nat
  sat : Bool
  sticky : Fld
  ev : Nat
  inst : Nat
  deriving DecidableEq, Repr

/-- The field of a counter's higher word. -/
def ctrHi (c : Ctr) : Fld := ⟨c.lo.addr + 4, 0, c.hiBits⟩

/-- The number of values of a counter. -/
def ctrLimit (c : Ctr) : Nat := 2 ^ (c.lo.width + c.hiBits)

/-- A counter's value. -/
def State.ctr (s : State) (c : Ctr) : Nat := s.rd c.lo + 4294967296 * s.rd (ctrHi c)

/-- The state with a counter's value set. -/
def State.setCtr (s : State) (c : Ctr) (v : Nat) : State :=
  let s1 := s.wr c.lo (v % 4294967296)
  if c.hiBits = 0 then s1 else s1.wr (ctrHi c) (v / 4294967296)

/-- A field of the hub's configuration in force (R399). -/
def State.hubRd (s : State) (f : Fld) : Nat := f.get (storeGet resetWord s.hub.cfg f.addr)

/-- The number of used selectors of group g. -/
def State.hubCount (s : State) (g : Nat) : Nat := min 64 (s.hubRd (R.HUB_GCFG_COUNT g))

/-- Is the counter named by a used selector of a group with `IEN` = 1 (R396, R401)? -/
def State.hubNamed (s : State) (c : Ctr) : Bool :=
  anyBelow 64 fun g => s.hubRd (R.HUB_GCFG_IEN g) == 1 &&
    anyBelow (s.hubCount g) fun i =>
      let k := 64 * g + i
      s.hubRd (R.HUB_SEL_VALID k) == 1 && s.hubRd (R.HUB_SEL_KIND k) * 256 + s.hubRd (R.HUB_SEL_EVENT k) == c.ev &&
        s.hubRd (R.HUB_SEL_INST k) == c.inst

/-- A counter has wrapped or saturated: its sticky bit is set, and `HUB_STAT.WRAP` where R401 says so. -/
def State.overflowed (s : State) (c : Ctr) : State :=
  let s1 := s.setBit c.sticky true
  if s1.hubNamed c then (s1.setBit R.HUB_STAT_WRAP true).syncVec 7 else s1

/-- An increment by `n` (R389): a wrapping counter wraps modulo 2^w and keeps the excess; a saturating counter stops at its largest value, and once there counts nothing further. -/
def State.countBy (s : State) (c : Ctr) (n : Nat) : State :=
  let v := s.ctr c
  if n = 0 then s
  else if c.sat then
    if v = ctrLimit c - 1 then s
    else if v + n ≥ ctrLimit c - 1 then (s.setCtr c (ctrLimit c - 1)).overflowed c
    else s.setCtr c (v + n)
  else if v + n ≥ ctrLimit c then (s.setCtr c ((v + n) % ctrLimit c)).overflowed c
  else s.setCtr c (v + n)

/-- An increment by one. -/
def State.count (s : State) (c : Ctr) : State := s.countBy c 1

/-! ## The event log (R386, R387) -/

/-- Offset of word k of event index i (R386). -/
def evlAddr (i k : Nat) : Nat := 0x20000 + 32 * (i % 4096) + 4 * k

/-- The words of an entry (Table 13-13). -/
def evlWords (s : State) (idx code src sev : Nat) (int : Bool) (p0 p1 : Nat) : List Word :=
  let pre := !s.orbit.begun
  let orb := if pre then 0 else s.orbNum
  [.ofNat (code % 65536 + src % 16 * 65536 + sev % 4 * 1048576
      + (if int then 4194304 else 0) + (if pre then 8388608 else 0)),
   .ofNat idx, .ofNat orb, .ofNat (orb / 4294967296), .ofNat s.tb, .ofNat (s.tb / 4294967296),
   .ofNat p0, .ofNat p1]

/-- Words stored from an offset on. -/
def State.setWords (s : State) : Nat → List Word → State
  | _, [] => s
  | a, w :: t => (s.setReg a w).setWords (a + 4) t

/-- `EVL_LOST`, 31 bits (Tables 13-12 and 14-1). -/
def Ctr.evlLost : Ctr := { lo := R.EVL_LOST_COUNT, hiBits := 0, sat := true, sticky := R.EVL_LOST_STICKY, ev := 0x802, inst := 0 }

/-- The oldest event index held (R386): 4096 before the head, which the entry in that place tells from a log that has not gone round yet. -/
def State.evlOldest (s : State) : Nat :=
  let i := (s.rd R.EVL_HEAD_INDEX + 4294967296 - 4096) % 4294967296
  if (s.reg (evlAddr i 1)).toNat = i then i else 0

/-- Write one entry into the log (R386); an entry overwritten unread is counted and `EVL_RD` moves on (R387). -/
def State.logAs (s : State) (src sev : Nat) (int : Bool) (code p0 p1 : Nat) : State :=
  let i := s.rd R.EVL_HEAD_INDEX
  let unread := (i + 4294967296 - s.rd R.EVL_RD_INDEX) % 4294967296
  let s1 := s.setWords (evlAddr i 0) (evlWords s i code src sev int p0 p1)
  let s2 := if unread ≥ 4096 then (s1.count .evlLost).wr R.EVL_RD_INDEX (i + 1 + 4294967296 - 4096) else s1
  s2.wr R.EVL_HEAD_INDEX (i + 1)

/-- A firmware event (Table 13-14). -/
def State.log (s : State) (code p0 p1 : Nat) : State := s.logAs 0 (Config.eventSev code).toNat false code p0 p1

/-! ## Changes of mode (R62, R63, R421) -/

/-- Change the mode: event 0x0001 with its cause and detail (R63, R421) and the mode-change interrupt. TB_CYC of entry to the forwarding modes is kept for R155. -/
def State.toMode (s : State) (m : Mode) (cause detail : Nat) : State :=
  if s.mode = m then s
  else
    let s1 := s.log 1 (s.mode.code + 16 * m.code) (cause % 256 + 256 * (detail % 256))
    let since := if m.fwd then (if s.mode.fwd then s.sys.fwdSince else some s.tb) else none
    ({ s1 with mode := m, sys := { s1.sys with fwdSince := since } }.setBit R.GLB_ISRC_MODE true).syncVec 1

/-! ## Time -/

/-- One second, one nanosecond and 2^-16 ns in the units of 2^-48 ns in which a domain's time is held (R189). -/
def nsUnit : Nat := 281474976710656
def secUnit : Nat := 281474976710656 * 1000000000

/-- Seconds, ns and 2^-16 ns fraction of a time, truncated towards minus infinity (R189, R191). -/
def timeSec (t : Nat) : Nat := t / secUnit
def timeNs (t : Nat) : Nat := t % secUnit / nsUnit
def timeFrac (t : Nat) : Nat := t % nsUnit / 4294967296

/-- A time as its four readout words (R214). -/
def timeWords (t : Nat) : List Word :=
  [.ofNat (timeSec t), .ofNat (timeSec t / 4294967296 % 65536), .ofNat (timeNs t), .ofNat (timeFrac t)]

/-- The orbit domain's time in 2^-32 ns, rounded down: the unit of Orbit starts (R140). -/
def State.orbTime (s : State) : Int := ((s.orbDom.time / 65536 : Nat) : Int)

/-- 2 µs of TIME, in TB_CYC counts (R188). -/
def twoUs : Nat := 2000

end Sys2Proof.Machine
end

