-- ==== Sys2Proof/Machine/Counters.lean ====
section
/-! DEFINITION. Counters (R389 to R395, R401): where each lies, which of them saturate, and how their words are read and written; the increment itself stands in Ops beside the event log. -/

namespace Sys2Proof.Machine

/-! ## Where the counters lie -/

/-- Which port events saturate (Table 14-3, kind Error). -/
def portSat (e : Nat) : Bool :=
  (0x3C ≤ e && e ≤ 0x3E) || e == 0x50 || e == 0x54 || e == 0x55 || (0x5B ≤ e && e ≤ 0x62)

/-- The port event number is named by Table 14-3. -/
def portEventNamed (e : Nat) : Bool :=
  e ≤ 0x3E || (0x40 ≤ e && e ≤ 0x4C) || (0x50 ≤ e && e ≤ 0x55) || (0x58 ≤ e && e ≤ 0x62) || e == 0x68

/-- Offset of port event `e` of port `p` (R393). -/
def portCtrAddr (p e : Nat) : Nat := 0x1008000 + 0x100000 * (p / 8) + 0x800 * (p % 8) + 16 * e

/-- A port counter (Table 14-3): byte counts 64 bits, traffic 48, errors 32. -/
def Ctr.port (p e : Nat) : Ctr :=
  { lo := ⟨portCtrAddr p e, 0, 32⟩
    hiBits := if portSat e then 0 else if e = 0x39 || e = 0x3B then 32 else 16
    sat := portSat e
    sticky := ⟨portCtrAddr p e + 8, 0, 1⟩
    ev := e
    inst := p }

/-- Counter k of context x (Table 4-12): 0 `FRAMES`, 1 `BYTES`, 2 `DE_FRAMES`, 3 `PEAK_DROP`, 4 `GATE_DROP`, 5 `SDU_DROP`. -/
def Ctr.ctx (x k : Nat) : Ctr :=
  { lo := ⟨0x2300000 + 64 * x + 4 * (if k < 3 then 2 * k else k + 3), 0, 32⟩
    hiBits := if k = 1 then 32 else if k < 3 then 16 else 0
    sat := 3 ≤ k
    sticky := ⟨0x2300024 + 64 * x, k, 1⟩
    ev := 0x100 + k
    inst := x }

/-- `HELD` of generation function f. -/
def Ctr.held (f : Nat) : Ctr :=
  { lo := R.SGEN2_HELD f, hiBits := 0, sat := true, sticky := R.SGEN3_STICKY f, ev := 0x200, inst := f }

/-- Counter k of recovery function f (Table 11-10): 0 `PASSED`, 1 `DISCARDED`, 2 `ROGUE`, 3 `OOO`, 4 `LOST`, 5 `RESETS`, 6 `TAGLESS`, 7 `CLAIM_DROP`. -/
def Ctr.srec (f k : Nat) : Ctr :=
  { lo := ⟨0x2480000 + 64 * f + 4 * (if k < 2 then 2 * k else k + 2), 0, 32⟩
    hiBits := if k < 2 then 16 else 0
    sat := 2 ≤ k
    sticky := ⟨0x2480028 + 64 * f, k, 1⟩
    ev := 0x300 + k
    inst := f }

/-- Counter k of engine e (Table 5-17): 0 `RUNS` to 9 `EVT_DROP`, 10 `PRV_HELD`. -/
def Ctr.eng (e k : Nat) : Ctr :=
  { lo := ⟨0x50010C0 + 0x100 * e + (if k = 0 then 0 else if k = 10 then 0x30 else 4 * (k + 1)), 0, 32⟩
    hiBits := if k = 0 then 16 else 0
    sat := k != 0
    sticky := ⟨0x50010EC + 0x100 * e, k, 1⟩
    ev := 0x400 + k
    inst := e }

/-- Counter k of TDC channel c: 0 `CAL_RUNS`, 1 `CAL_REJECT`, 2 `TDC_INVALID`. -/
def Ctr.tdc (c k : Nat) : Ctr :=
  { lo := ⟨0x3001010 + 0x20 * c + 4 * k, 0, 32⟩, hiBits := 0, sat := true
    sticky := ⟨0x300101C + 0x20 * c, k, 1⟩, ev := 0x500 + k, inst := c }

/-- `TIN_LOST` of pin p. -/
def Ctr.tinLost (p : Nat) : Ctr :=
  { lo := R.TIN_LOST_COUNT p, hiBits := 0, sat := true, sticky := R.TIN_STAT_STICKY p, ev := 0x600, inst := p }

/-- `TDC_SUPPRESS` (k = 1) and `TDC_BUSY` (k = 2) of pin p. -/
def Ctr.tdcPin (p k : Nat) : Ctr :=
  { lo := ⟨0x3000C00 + 0x10 * p + 4 * k, 0, 32⟩, hiBits := 0, sat := true
    sticky := ⟨0x3000C0C + 0x10 * p, k - 1, 1⟩, ev := 0x600 + k, inst := p }

/-- `FW_OVF` of domain d. -/
def Ctr.fwOvf (d : Nat) : Ctr :=
  { lo := R.PTP_FW_OVF_COUNT d, hiBits := 0, sat := true, sticky := R.PTP_INST_STICKY_STICKY d, ev := 0x700, inst := d }

/-- `REF_SWITCHES` of domain d. -/
def Ctr.refSwitches (d : Nat) : Ctr :=
  { lo := R.REF_SWITCHES_COUNT d, hiBits := 0, sat := true, sticky := R.REF_DSTICKY_STICKY d, ev := 0x701, inst := d }

/-- The device's counters (Table 14-4, kind 8). -/
def Ctr.eclipses : Ctr :=
  { lo := R.TW_ECLIPSES_COUNT, hiBits := 0, sat := true, sticky := R.TW_STICKY_STICKY, ev := 0x800, inst := 0 }
/-- `PRV_LOGLOST`, in the upper half of `PRV_LOGPTR`; the sticky bit that R389 gives it and no register shows stands at an offset beyond every BAR. -/
def Ctr.prvLost : Ctr :=
  { lo := R.PRV_LOGPTR_LOST, hiBits := 0, sat := true, sticky := ⟨0x9000000, 0, 1⟩, ev := 0x801, inst := 0 }
def Ctr.smpLost : Ctr :=
  { lo := R.SMP_LOST_COUNT, hiBits := 0, sat := true, sticky := ⟨A.HUB_STICKY, 3, 1⟩, ev := 0x803, inst := 0 }
/-- 0 `HUB_DUMP_LOST`, 1 `HUB_SKIP`, 2 `HUB_MARK_LOST`. -/
def Ctr.hub (k : Nat) : Ctr :=
  { lo := ⟨0x6000030 + 4 * k, 0, 32⟩, hiBits := 0, sat := true, sticky := ⟨A.HUB_STICKY, k, 1⟩, ev := 0x804 + k, inst := 0 }

/-- The counter that a selector's kind, event and instance name, or none (Table 14-4). `PRV_LOGLOST` (0x801) and `EVL_LOST` (0x802) lie in part of a word. -/
def Ctr.named (kind ev inst : Nat) : Option Ctr :=
  match kind with
  | 0 => if portEventNamed ev && inst < 64 then some (.port inst ev) else none
  | 1 => if ev < 6 then some (.ctx inst ev) else none
  | 2 => if ev = 0 && inst < 4096 then some (.held inst) else none
  | 3 => if ev < 8 && inst < 4096 then some (.srec inst ev) else none
  | 4 => if ev < 11 && inst < 9 then some (.eng inst ev) else none
  | 5 => if ev < 3 && inst < 84 then some (.tdc inst ev) else none
  | 6 => if inst < 8 then (if ev = 0 then some (.tinLost inst) else if ev < 3 then some (.tdcPin inst ev) else none) else none
  | 7 => if inst < 8 then (if ev = 0 then some (.fwOvf inst) else if ev = 1 then some (.refSwitches inst) else none) else none
  | 8 => if inst = 0 then
      match ev with
      | 0 => some .eclipses
      | 1 => some .prvLost
      | 2 => some .evlLost
      | 3 => some .smpLost
      | 4 => some (.hub 0)
      | 5 => some (.hub 1)
      | 6 => some (.hub 2)
      | _ => none
    else none
  | _ => none

/-- The counter whose lowest word lies at a BAR0 offset, if any: a wide one lists its higher word too (R393, Tables 4-12, 5-17 and 11-10). -/
def Ctr.at (a : Nat) : Option Ctr :=
  if 0x1008000 ≤ a && a < 0x1800000 then
    let o := a - 0x1008000
    let p := 8 * (o / 0x100000) + o % 0x100000 / 0x800
    let e := o % 0x800 / 16
    if o % 0x100000 < 0x4000 && o % 16 = 0 && portEventNamed e then some (.port p e) else none
  else if 0x2300000 ≤ a && a < 0x2380000 then
    let w := (a - 0x2300000) % 64 / 4
    let x := (a - 0x2300000) / 64
    if w = 0 then some (.ctx x 0) else if w = 2 then some (.ctx x 1) else if w = 4 then some (.ctx x 2)
    else if 6 ≤ w && w ≤ 8 then some (.ctx x (w - 3)) else none
  else if 0x2480000 ≤ a && a < 0x24C0000 then
    let w := (a - 0x2480000) % 64 / 4
    let f := (a - 0x2480000) / 64
    if w = 0 then some (.srec f 0) else if w = 2 then some (.srec f 1)
    else if 4 ≤ w && w ≤ 9 then some (.srec f (w - 2)) else none
  else if 0x50010C0 ≤ a && a < 0x5001900 then
    let e := (a - 0x5001000) / 0x100
    let w := (a - 0x5001000) % 0x100
    if w = 0xC0 then some (.eng e 0) else if 0xC8 ≤ w && w ≤ 0xE8 then some (.eng e ((w - 0xC0) / 4 - 1))
    else if w = 0xF0 then some (.eng e 10) else none
  else none

/-- The wide counter whose higher word lies at an offset. -/
def Ctr.atHi (a : Nat) : Option Ctr :=
  match Ctr.at (a - 4) with
  | some c => if c.hiBits = 0 then none else some c
  | none => none

/-! ## Reading and writing (R394, R395) -/

/-- A reader's latch holds nothing further (R394). -/
def State.unlatch (s : State) (rdr : Nat) : State := { s with bus := { s.bus with latch := storeSet (fun _ => none) s.bus.latch rdr none } }

/-- Read the lowest word of a counter: a counter wider than 32 bits is latched for the reader, and any other ends what was latched (R394). -/
def State.ctrReadLow (s : State) (rdr : Nat) (c : Ctr) : State × Word :=
  let w := s.reg c.lo.addr
  if c.hiBits = 0 then (s.unlatch rdr, w)
  else
    let l : CtrLatch := { addr := c.lo.addr, hi := s.reg (c.lo.addr + 4), sticky := s.bit c.sticky }
    ({ s with bus := { s.bus with latch := storeSet (fun _ => none) s.bus.latch rdr (some l) } }, w)

/-- A reader's latch (R394). -/
def State.ctrLatch (s : State) (rdr : Nat) : Option CtrLatch := storeGet (fun _ => none) s.bus.latch rdr

/-- Read the higher word of a counter: the latched one where this counter is latched for the reader, else the live one (R394). -/
def State.ctrReadHigh (s : State) (rdr : Nat) (c : Ctr) : Word :=
  match s.ctrLatch rdr with
  | some l => if l.addr = c.lo.addr then l.hi else s.reg (c.lo.addr + 4)
  | none => s.reg (c.lo.addr + 4)

/-- Read the word of a counter's sticky bit: the latched bit in its place where this counter is latched for the reader (R394). -/
def State.ctrReadSticky (s : State) (rdr : Nat) (a : Nat) : Word :=
  let w := s.reg a
  match s.ctrLatch rdr with
  | some l =>
    match Ctr.at l.addr with
    | some c => if c.sticky.addr = a then c.sticky.put w (if l.sticky then 1 else 0) else w
    | none => w
  | none => w

/-- Hold a written higher word (R395). -/
def State.ctrHold (s : State) (c : Ctr) (v : Word) : State :=
  { s with bus := { s.bus with heldHi := storeSet (fun _ => 0) s.bus.heldHi c.lo.addr v } }

/-- Write the lowest word: the counter takes the held higher word and the value, and the held word returns to 0; the sticky bit stays (R395). -/
def State.ctrWriteLow (s : State) (c : Ctr) (v : Word) : State :=
  let hi := (storeGet (fun _ => 0) s.bus.heldHi c.lo.addr).toNat % 2 ^ c.hiBits
  let s1 := s.setCtr c (v.toNat + 4294967296 * hi)
  { s1 with bus := { s1.bus with heldHi := storeSet (fun _ => 0) s1.bus.heldHi c.lo.addr 0 } }

end Sys2Proof.Machine
end

