-- ==== Sys2Proof/Machine/TwinOps.lean ====
section
/-! DEFINITION. Claims (R314), the claim filter groups (R315), the twin slot and the judgement whether the unit holds the higher claim (R316), and the change of role (R309). -/

namespace Sys2Proof.Machine

/-- Fields of a claim number (R314). -/
def claimGen (c : Nat) : Nat := c / 256 % 256
def claimUnit (c : Nat) : Nat := c / 128 % 2
def claimAct (c : Nat) : Nat := c / 64 % 2
def claimPrv (c : Nat) : Bool := c / 32 % 2 == 1

/-- The claim number of a generation, unit and ACT (R314). -/
def mkClaim (gen unit act : Nat) (prv : Bool) : Nat :=
  gen % 256 * 256 + unit % 2 * 128 + act % 2 * 64 + if prv then 32 else 0

/-- Claim x is higher than claim y (R314). -/
def claimHigher (x y : Nat) : Bool :=
  let d := (claimGen x + 256 - claimGen y) % 256
  (1 ≤ d && d ≤ 127) || ((d == 0 || d == 128) && 2 * claimAct x + claimUnit x > 2 * claimAct y + claimUnit y)

/-- The unit letter, from strap CFG4: A = 0, B = 1 (R308). -/
def State.unit (s : State) : Nat := if s.sys.straps.getLsbD 4 then 1 else 0

/-- The unit's own claim, `TW_CLAIM.OWN`. -/
def State.ownClaim (s : State) : Nat := s.rd R.TW_CLAIM_OWN

/-- The claim in the twin slot, which is empty once it was not refreshed for `CWIN` (R316). -/
def State.twinSlot (s : State) : Option Nat :=
  match s.twin.slot with
  | some (c, t) => if s.tb < t + 100000000 * max 1 (s.rd R.TW_CFG_CWIN) then some c else none
  | none => none

/-- The unit holds the higher claim (R316). -/
def State.holdsClaim (s : State) : Bool :=
  match s.role with
  | .solo => true
  | .moon => false
  | .active => !s.bit R.TW_STAT_ORPHAN &&
      (match s.twinSlot with
       | some c => !claimHigher c s.ownClaim
       | none => true)

/-- The unit holds the higher proving claim: it has one, and no higher one of the twin has been heard (R328, R330). -/
def State.holdsProv (s : State) : Bool :=
  s.twin.prov != 0 &&
    (match s.twin.provLink with | some c => !claimHigher c s.twin.prov | none => true) &&
    (match s.twin.provPins with | some c => !claimHigher c s.twin.prov | none => true)

/-- `TW_HIST` bit k set, and the twin interrupt judged (R309, R320). -/
def State.twHist (s : State) (k : Nat) : State := (s.setBit ⟨A.TW_HIST, k, 1⟩ true).syncVec 5

/-- Judge claim `c` against filter group `g` (R315): accepted, and the slot then. A slot that was not refreshed for `WIN` ms is empty. -/
def State.clfJudge (s : State) (g c : Nat) : State × Bool :=
  let prv := claimPrv c
  let fld : Fld := if prv then R.CLF_PHI_CLAIM g else R.CLF_HI_CLAIM g
  let vld : Fld := if prv then R.CLF_PHI_VALID g else R.CLF_HI_VALID g
  let old := s.rd fld
  let age : ClfAge := storeGet (fun _ => {}) s.clfAges g
  let fresh := decide (s.tb < (if prv then age.phi else age.hi) + 1000000 * max 1 (s.rd (R.CLF_CFG_WIN g)))
  if s.bit vld && fresh && !claimHigher c old && c != old then (s, false)
  else
    let age' : ClfAge := if prv then { age with phi := s.tb } else { age with hi := s.tb }
    let s1 := (s.wr fld c).setBit vld true
    ({ s1 with clfAges := storeSet (fun _ => {}) s1.clfAges g age' }, true)

/-- Enter a normal claim of the twin into the twin slot (R316): the highest heard within `CWIN`. -/
def State.twinHear (s : State) (c : Nat) : State :=
  let take := match s.twinSlot with
    | some o => c == o || claimHigher c o
    | none => true
  let gen := match s.twin.genHeard with
    | some g => if (claimGen c + 256 - g) % 256 ≤ 127 then claimGen c else g
    | none => claimGen c
  let s1 := { s with twin := { s.twin with genHeard := some gen, slot := if take then some (c, s.tb) else s.twin.slot } }
  if take then (s1.wr R.TW_CLAIM_TWIN c).setBit R.TW_STAT_HEARD true else s1

/-- An echo heard on a PTP port names claim `c` (R243, R316, R326): an ACTIVE that learns of a higher claim becomes an orphan Moon at the next Orbit start. -/
def State.twinEcho (s : State) (c : Nat) : State :=
  if !s.bit R.TW_CFG_EN || claimPrv c || c = s.ownClaim then s
  else
    let s1 := s.twinHear c
    if !claimHigher c s.ownClaim then s1
    else
      let next := if s.role = .active then some (.moon (claimGen c) true false) else s1.twin.roleNext
      { s1 with twin := { s1.twin with echoHigh := some s.tb, roleNext := next } }

/-- Change the role: event 0x0005 with both roles and both claims (R309, Table 13-14; the packing low half first, log entry 15). -/
def State.setRole (s : State) (r : Role) (claim : Nat) : State :=
  let s1 := s.log 5 (s.role.code + 65536 * r.code) (claim + 65536 * s.rd R.TW_CLAIM_TWIN)
  { (s1.wr R.TW_CLAIM_OWN claim) with role := r }

/-! ## What ends with a mode or a role -/

/-- A proving run in progress is aborted (R333): its result is recorded, its claim withdrawn; a revert hold ends, and a failed revert run waits before it asks again (R324). -/
def State.prvAbort (s : State) : State :=
  if !s.bit R.PRV_STAT_RUN then { s with prv := { s.prv with request := none } }
  else
    let s1 := ((s.wr R.PRV_STAT_RESULT 3).setBit R.PRV_STAT_RUN false).setBit R.TW_STAT_REVPEND false
    let T := s1.twin
    let wait := if s1.prv.revert then some s1.tb else T.revWait
    let s2 := { s1 with
      prv := { due := s1.prv.due, day := s1.prv.day, logged := s1.prv.logged }
      twin := { T with prov := 0, provLink := none, provPins := none, revHold := none, revReq := false, revWait := wait } }
    s2.log 0x0A (s2.reg A.PRV_STAT).toNat 0

/-- The domains stop following the twin (R318). -/
def State.unfollow (s : State) : State :=
  let s1 := (s.wr R.TW_STAT_FOLLOWING 0).setBit R.TW_STAT_ALIGNED false
  { s1 with twin := { s1.twin with near := none, theta := [] } }

end Sys2Proof.Machine
end

