-- ==== Sys2Proof/Machine/TimeOps.lean ====
section
/-! DEFINITION. The time domains and the pins' shared operations: a domain's advance at a TIME edge (R189, R192, R196), phase requests (R195), steps (R197, R200), the interval units and the TIN queues as TIME passes (R213, R255 to R257), and the drive of a TOUT pin (R205 to R211). -/

namespace Sys2Proof.Machine

/-! ## Rate and slew -/

/-- ±500 ppm in rate-word units (R192). -/
def rateMax : Int := 140737488355

/-- The clamp of R192. -/
def clampRate (r : Int) : Int := if r > rateMax then rateMax else if r < -rateMax then -rateMax else r

/-- A 48-bit two's complement rate word (R192). -/
def rateOfBits (v : Nat) : Int := (BitVec.ofNat 48 v).toInt

/-- The share that a slew of `ppm` in the sign of `rem` adds at one edge, before the clamp, with the carried rounding error (R196): the exact share rounded to 2^-48 ns, and the error carried on. -/
def slewShare (ppm : Nat) (rem err : Int) : Int × Int :=
  let sgn : Int := if rem < 0 then -1 else 1
  let num := sgn * (ppm : Int) * 281474976710656 + err
  let sh := (num + 500000) / 1000000
  (sh, num - sh * 1000000)

/-- One TIME edge of a domain with slew rate `ppm`: the new domain, and whether the clamp acted (R189, R192, R196). -/
def tickDomain (ppm : Nat) (D : Domain) : Domain × Bool :=
  let rate := D.rateNext.getD D.rate
  let (sh, err) := slewShare ppm D.slewRem D.slewErr
  let tot := rate + sh
  let sh' := clampRate tot - rate
  let e' := if clampRate tot = tot then err else 0
  let last := D.slewRem.natAbs ≤ sh'.natAbs && decide (0 < D.slewRem * sh')
  let gain := if D.slewRem = 0 then 0 else if last then D.slewRem else sh'
  let rem' := D.slewRem - gain
  let adv := (281474976710656 + rate + gain).toNat
  ({ D with time := D.time + adv, sf := D.sf + adv, rate := rate, rateNext := none, slewRem := rem', slewErr := if rem' = 0 then 0 else e' },
   decide (D.slewRem ≠ 0) && decide (clampRate tot ≠ tot))

/-- The slew rate in ppm; 0 acts as 1 (`DOM_SLEW`). -/
def State.slewPpm (s : State) (d : Nat) : Nat := max 1 (s.rd (R.DOM_SLEW_SLEW_PPM d))

/-- The slew threshold in 2^-48 ns; values above 1 000 000 ns act as that (`DOM_SLEW`). -/
def State.thresh (s : State) (d : Nat) : Nat := min 1000000 (s.rd (R.DOM_SLEW_THRESH d)) * nsUnit

/-- One TIME edge of domain d. -/
def State.tickDom (s : State) (d : Nat) : State :=
  let (D, c) := tickDomain (s.slewPpm d) (s.dom d)
  let s1 := s.setDom d D
  if c then s1.setBit (R.DOM_STAT_RATE_CLAMP d) true else s1

/-- The changes of the rate word that the last 10 s need. -/
def pruneLog (now : Nat) : List (Nat × Int) → List (Nat × Int)
  | [] => []
  | (t, r) :: l => if t + 10000000000 < now then [(t, r)] else (t, r) :: pruneLog now l

/-- The sum over the TIME cycles from `start` to an end of the rate words in force, which were 0 before the first change. -/
def rateSum (start : Nat) : Nat → List (Nat × Int) → Int
  | _, [] => 0
  | e, (t, r) :: l =>
    if t ≤ start then r * ((e - start : Nat) : Int)
    else if e ≤ t then rateSum start e l
    else r * ((e - t : Nat) : Int) + rateSum start t l

/-- The mean rate word of domain d over the last `span` ns, to the nearest unit (R290, R291). -/
def State.rateMean (s : State) (d span : Nat) : Int :=
  (2 * rateSum (s.tb - span) s.tb (s.dom d).rateLog + (span : Int)) / ((2 * span : Nat) : Int)

/-- A rate word takes effect at the next TIME edge; beyond the clamp it acts as the clamp value and sets `RATE_CLAMP` (R192, R193). -/
def State.setRate (s : State) (d : Nat) (r : Int) : State :=
  let D := s.dom d
  let s1 := s.setDom d { D with rateNext := some (clampRate r), rateLog := (s.tb + 1, clampRate r) :: pruneLog s.tb D.rateLog }
  if clampRate r = r then s1 else s1.setBit (R.DOM_STAT_RATE_CLAMP d) true

/-- A request of `δ` (2^-48 ns) on domain d (R195): slewed, pended as a step, or refused (R199). In RECOVER no request is accepted (R201). The flag says that the step was refused. -/
def State.adjust (s : State) (d : Nat) (δ : Int) : State × Bool :=
  let D := s.dom d
  if s.mode = .recover then (s, false)
  else if δ.natAbs ≤ s.thresh d then (s.setDom d { D with step := none, slewRem := δ, slewErr := 0, histBad := true }, false)
  else if s.bit (R.DOM_CTRL_STEP_EN d) || (s.bit (R.DOM_CTRL_STEP_FIRST d) && !D.lockedSeen) then
    (s.setDom d { D with step := some (δ, s.tb), slewRem := 0, slewErr := 0 }, false)
  else ((s.setBit (R.DOM_STAT_STEP_REFUSED d) true).syncVec (16 + d), true)

/-- The effective rate of a domain in 2^-48, slew and clamp included (R189, R192). -/
def State.rho (s : State) (d : Nat) : Int :=
  let D := s.dom d
  clampRate (D.rate + (if D.slewRem = 0 then 0 else (slewShare (s.slewPpm d) D.slewRem D.slewErr).1))

/-- A TIME interval in 2^-48 ns as an interval of domain d: the factor (1 + ρ) of R189. -/
def State.onDom (s : State) (d : Nat) (x : Int) : Int := x * (281474976710656 + s.rho d) / 281474976710656

/-- The rate of port p's transmit synthesiser against the nominal line rate, in 2^-48 (R229): with `TXSYN` = 1 the rate word and the slew of domain `TXDOM`, held within ±100 ppm. -/
def State.txSynth (s : State) (p : Nat) : Int :=
  if s.bit (R.PTP_PORT_TXSYN p) then max (-28147497671) (min 28147497671 (s.rho (s.rd (R.PTP_PORT_TXDOM p)))) else 0

/-- The synthesiser is at its limit: the domain's rate lies beyond it (R229). -/
def State.txClamp (s : State) (p : Nat) : Bool :=
  s.bit (R.PTP_PORT_TXSYN p) && decide (28147497671 < (s.rho (s.rd (R.PTP_PORT_TXDOM p))).natAbs)

/-! ## Interval units (R256, R257) -/

def State.ivl (s : State) (u : Nat) : Ivl := storeGet (fun _ => {}) s.ivls u
def State.setIvl (s : State) (u : Nat) (x : Ivl) : State := { s with ivls := storeSet (fun _ => {}) s.ivls u x }

/-- Form a result in domain d: its value in 2^-16 ns, and BELOW, ORDER, COARSE as bits 0 to 2. -/
def State.ivlResult (s : State) (d : Nat) (start stop : IvlEdge) : Int × Nat :=
  let co := start.coarse || stop.coarse
  let v := ((stop.at48 - start.at48) * (281474976710656 + s.rho d) + 2 ^ 79) / 2 ^ 80
  let below := decide (v.natAbs * 1000 < if co then 1000 * 65536 else max start.lsb stop.lsb)
  if below then (0, 1 + if co then 4 else 0)
  else (v, (if v < 0 then 2 else 0) + if co then 4 else 0)

/-- A result replaces one that has not been read, and sets `OVF` then. -/
def State.ivlPut (s : State) (u : Nat) (r : Int × Nat) : State :=
  let w := BitVec.ofInt 64 r.1
  let s1 := if s.bit (R.IVL_STAT_NEW u) then s.setBit (R.IVL_STAT_OVF u) true else s
  let s2 := (s1.setReg (A.IVL_RES_LO u) (w.setWidth 32)).setBit (R.IVL_STAT_NEW u) true
  s2.setIvl u { s2.ivl u with hi := (w >>> 32).setWidth 32, flags := r.2 }

/-- The window of unit u in 2^-48 ns; 0 acts as 1 ns, values above 1 s as 1 s. -/
def State.ivlWin (s : State) (u : Nat) : Int := ((min 1000000000 (max 1 (s.rd (R.IVL_WIN_WIN u))) * nsUnit : Nat) : Int)

/-- An unpaired edge that is no older than the window at an instant on TIME. -/
def State.ivlYoung (s : State) (u : Nat) (t : Int) (o : Option IvlEdge) : Option IvlEdge := o.filter fun x => t - x.at48 ≤ s.ivlWin u

/-- An edge pairs, or becomes the unpaired start or stop (R256); it is a start, a stop, or in a unit that measures periods both. -/
def State.ivlPair (s : State) (u : Nat) (x : IvlEdge × Bool × Bool) : State :=
  let e := x.1
  let d := s.rd (R.IVL_CFG_DOM u)
  let V := s.ivl u
  if x.2.1 then
    match s.ivlYoung u e.at48 (if x.2.2 then V.start else V.stop) with
    | some p =>
      if x.2.2 then let s1 := s.ivlPut u (s.ivlResult d p e); s1.setIvl u { s1.ivl u with start := some e }
      else let s1 := s.ivlPut u (s.ivlResult d e p); s1.setIvl u { s1.ivl u with stop := none }
    | none => s.setIvl u { V with start := some e }
  else
    match s.ivlYoung u e.at48 V.start with
    | some b => let s1 := s.ivlPut u (s.ivlResult d b e); s1.setIvl u { s1.ivl u with start := none }
    | none => s.setIvl u { V with stop := some e }

/-- Insert an edge in the order of instants. -/
def ivlInsert (x : IvlEdge × Bool × Bool) : List (IvlEdge × Bool × Bool) → List (IvlEdge × Bool × Bool)
  | [] => [x]
  | y :: l => if x.1.at48 < y.1.at48 then x :: y :: l else y :: ivlInsert x l

/-- An edge of a pin reaches interval unit u: it is taken with the others of its TIME cycle, in the order of their instants (R256). -/
def State.ivlEdge (s : State) (u pin : Nat) (rise : Bool) (e : IvlEdge) : State :=
  let isStart := s.rd (R.IVL_CFG_START u) == pin && s.bit (R.IVL_CFG_SEDGE u) == !rise
  let isStop := s.rd (R.IVL_CFG_STOP u) == pin && s.bit (R.IVL_CFG_PEDGE u) == !rise
  if !s.bit (R.IVL_CFG_EN u) || !(isStart || isStop) then s
  else s.setIvl u { s.ivl u with edges := ivlInsert (e, isStart, isStop) (s.ivl u).edges }

/-- The edges of the TIME cycle that ends are taken. -/
def State.ivlTake (s : State) (u : Nat) : State :=
  if (s.ivl u).edges.isEmpty then s
  else let s1 := (s.ivl u).edges.foldl (fun s x => s.ivlPair u x) s; s1.setIvl u { s1.ivl u with edges := [] }
def State.ivlTakeAll (s : State) : State := (List.range 4).foldl State.ivlTake s

/-- Unpaired edges of unit u older than its window are dropped (R256); the model does so at the next write of its registers or the next edge. -/
def State.ivlDrop (s : State) (u : Nat) : State :=
  let t : Int := ((s.tb * nsUnit : Nat) : Int)
  let V := s.ivl u
  s.setIvl u { V with start := s.ivlYoung u t V.start, stop := s.ivlYoung u t V.stop }

/-! ## The queues of the TIN pins (R212, R213, R255) -/

/-- A record enters pin p's queue at TB_CYC `t`, or is lost (R213). -/
def State.tinEnter (s : State) (p t : Nat) (r : TinRec) : State :=
  let T := s.tin p
  if T.queue.length ≥ 64 then ((s.setTin p { T with entered := some t }).setBit (R.TIN_STAT_OVF p) true).count (.tinLost p)
  else (s.setTin p { T with entered := some t, queue := T.queue ++ [r] }).syncVec (40 + p)

/-- Waiting records enter, at most one every 8 ns (R255). -/
def State.tinDeliver (s : State) (p : Nat) : List TinRec → State
  | [] => s.setTin p { s.tin p with wait := [] }
  | r :: l =>
    let t := match (s.tin p).entered with | some t => t + 8 | none => s.tb
    if s.tb < t then s.setTin p { s.tin p with wait := r :: l } else (s.tinEnter p t r).tinDeliver p l
def State.tinDeliverAll (s : State) : State :=
  (List.range 8).foldl (fun s p => if (s.tin p).wait.isEmpty then s else s.tinDeliver p (s.tin p).wait) s

/-- A record is made: it enters at once, or 8 ns after the one before it (R255). -/
def State.tinPush (s : State) (p : Nat) (r : TinRec) : State :=
  let T := s.tin p
  let early := match T.entered with | some t => decide (s.tb < t + 8) | none => false
  if early || !T.wait.isEmpty then s.setTin p { T with wait := T.wait ++ [r] } else s.tinEnter p s.tb r

/-! ## Steps (R197, R200) -/

/-- A step pended at least 2 µs ago. -/
def State.stepDue (s : State) (d : Nat) : Option Int :=
  match (s.dom d).step with
  | some (δ, t) => if t + twoUs ≤ s.tb then some δ else none
  | none => none

/-- A signed number as 32 bits, saturating (Table 13-14). -/
def sat32 (v : Int) : Nat :=
  (BitVec.ofInt 32 (if v > 2147483647 then 2147483647 else if v < -2147483648 then -2147483648 else v)).toNat

/-- Domain d's due step is applied, or refused for its range (R197, R200). The flag says that the time was stepped. -/
def State.applyStep (s : State) (d : Nat) : State × Bool :=
  match s.stepDue d with
  | none => (s, false)
  | some δ =>
    let D := s.dom d
    let t : Int := (D.time : Int) + δ
    if t < 0 || t ≥ (281474976710656 : Int) * secUnit then
      (((s.setDom d { D with step := none }).setBit (R.DOM_STAT_STEP_RANGE d) true).syncVec (16 + d), false)
    else
      ((s.setDom d { D with step := none, time := t.toNat, epoch := (D.epoch + 1) % 4294967296 }).log 7 d (sat32 (δ / 281474976710656)), true)

/-! ## Triggers (R203, R204) -/

/-- The time of trigger slot k in 2^-48 ns; ns above 999 999 999 act as that. -/
def State.trgTime (s : State) (k : Nat) : Nat :=
  (s.rd (R.TRG0_SEC k) + 4294967296 * s.rd (R.TRG1_SEC k)) * secUnit + min 999999999 (s.rd (R.TRG2_NS k)) * nsUnit

/-- The time of host launch slot k of port p. -/
def State.hlsTime (s : State) (p k : Nat) : Nat :=
  (s.rd (R.HLS0_SEC p k) + 4294967296 * s.rd (R.HLS1_SEC p k)) * secUnit + min 999999999 (s.rd (R.HLS2_NS p k)) * nsUnit

/-- After a step of domain d, its armed triggers are judged anew: one whose time lies before the stepped time fires late, any other waits for its time (R203, R175). -/
def State.judgeLate (s : State) (d : Nat) : State :=
  let s1 := (List.range 16).foldl (fun s k =>
    if s.bit (R.TRG1_ARM k) && s.rd (R.TRG1_DOM k) == d then
      { s with trgLate := storeSet (fun _ => 0) s.trgLate k (if s.trgTime k < (s.dom d).time then s.tb + 1 else 0) } else s) s
  (List.range 256).foldl (fun s j =>
    if s.bit (R.HLS1_ARM (j / 4) (j % 4)) && s.rd (R.HLS1_DOM (j / 4) (j % 4)) == d then
      { s with hlsLate := storeSet (fun _ => false) s.hlsLate j (decide (s.hlsTime (j / 4) (j % 4) < (s.dom d).time)) } else s) s1

/-! ## TOUT pins -/

/-- An age of `x` (2^-48 ns) on domain d in 1/64 ns of TIME, so that the instant before now is placed to the nearest 1/64 ns (R206): the domain gains its rate word in each TIME cycle. -/
def State.back64 (s : State) (d x : Nat) : Nat :=
  let adv := ((nsUnit : Nat) + (s.dom d).rate).toNat
  (128 * x + adv - 1) / (2 * adv)

/-- Generators, triggers and engine actions move the pins in these modes (R210). -/
def Mode.pinsMove : Mode → Bool
  | .dock | .free | .acquire | .locked | .holdover | .proving | .doze | .recover => true
  | .strap | .boot | .opened | .halt => false

/-- The domain that a pin's pulses and mutes are judged by: the orbit domain for ENGINE and ORBIT (R205, R208). -/
def State.toutDom (s : State) (p : Nat) : Nat :=
  let c := (s.tout p).cfg
  if c.mode = 2 || c.mode = 5 then s.orbit.grid.dom else c.dom

/-- A domain is qualified: LOCKED, or in holdover from a qualified source (R208). -/
def State.domQual (s : State) (d : Nat) : Bool :=
  match (s.dom d).tstate with
  | .locked => true
  | .holdover => !(s.dom d).unqual
  | .free | .acquire => false

/-- R208 holds the pin back. -/
def State.muted (s : State) (p : Nat) : Bool :=
  let c := (s.tout p).cfg
  (c.qual && !s.domQual (s.toutDom p)) || (c.claim && !s.holdsClaim)

/-- The FREQ period is invalid: below 8 ns, or DEN 0 (R206). -/
def freqBad (c : ToutCfg) : Bool := c.den == 0 || c.num < 8 * c.den

/-- The level on the pin: `INV` inverts in every mode but OFF; OFF and 7 are high impedance (R205). -/
def ToutCfg.out (c : ToutCfg) (l : Bool) : Option Bool := if c.mode = 0 || c.mode = 7 then none else some (l ^^ c.inv)

/-- An edge of a loopback pair's TOUT pin in the TIMING step waits to be seen on its TIN pin (Table 11-6). -/
def State.noteLoop (s : State) (p at64 : Nat) : State :=
  if s.bit R.PRV_STAT_RUN && s.prv.step == 2 && p < 4 && (s.rd R.PRV_CFG_LOOP).testBit p then
    { s with prv := { s.prv with loops := s.prv.loops ++ [(p, ((at64 * (nsUnit / 64) : Nat) : Int))] } }
  else s

/-- Drive pin p to a level at an instant on TIME in 1/64 ns. No change of level is no edge; an edge less than 4 ns after the last is not made, and the flag says so (R211, R149). -/
def State.drive (s : State) (p : Nat) (l : Bool) (at64 : Nat) : State × Bool :=
  let T := s.tout p
  if T.level = l then (s, false)
  else if (match T.lastEdge with | some e => decide (at64 < e + 256) | none => false) then (s, true)
  else (((s.setTout p { T with level := l, lastEdge := some at64 }).emit (.pin p (T.cfg.out l) at64)).noteLoop p at64, false)

/-- The high time of a generator's pulse in 2^-48 ns (R206, R211). -/
def State.highTime (s : State) (p : Nat) : Nat :=
  let c := (s.tout p).cfg
  let w := if 1 ≤ c.width && c.width ≤ 3 then 4 else c.width
  if c.mode = 4 then
    if c.width = 0 || w * c.den ≥ c.num then c.num * nsUnit / (2 * c.den) else w * nsUnit
  else
    let per := if c.mode = 3 then secUnit else (s.orbit.next - s.orbit.start).toNat * 65536
    let h := (if c.width = 0 then (if c.mode = 3 then 100000000 else 1000) else w) * nsUnit
    if h ≥ per then per - 4 * nsUnit else h

/-- A rising edge on a pin with `CLAIM` = 1, given out or held back by that alone, is noted for the twin's comparison (R311, R319), at most 64 in an Orbit: its time in the pin's domain in 2^-16 ns. -/
def State.noteRise (s : State) (p : Fin 8) (at64 : Nat) : State :=
  let c := (s.tout p).cfg
  if !c.claim || (c.qual && !s.domQual (s.toutDom p)) || s.twin.own.edges.length ≥ 64 then s
  else
    let back : Int := (((64 * s.tb : Nat) : Int) - at64) * 4398046511104
    let e : Int := (((s.dom (s.toutDom p)).time : Int) - back) / 4294967296
    { s with twin := { s.twin with own := { s.twin.own with edges := s.twin.own.edges ++ [(p, e)] } } }

/-- The first generator edge of pin p after `t` on its domain, in 2^-48 ns (R205, R206); an ORBIT pin has none after that of the present Orbit. -/
def State.edgeAfter (s : State) (p : Nat) (t : Int) : Option Int :=
  let c := (s.tout p).cfg
  let ph : Int := ((c.phase * nsUnit + c.fine * (nsUnit / 64) : Nat) : Int)
  if c.mode = 3 then some (ph + ((t - ph) / secUnit + 1) * secUnit)
  else if c.mode = 4 then
    if freqBad c then none
    else some (ph + (((t - ph) * c.den / (c.num * nsUnit) + 1) * (c.num * nsUnit) + c.den - 1) / c.den)
  else if c.mode = 5 then
    let ph5 : Int := if c.phase ≥ s.orbit.grid.period / 4294967296 then ((c.fine * (nsUnit / 64) : Nat) : Int) else ph
    if t < s.orbit.start * 65536 + ph5 then some (s.orbit.start * 65536 + ph5) else none
  else none

/-- Take up a configuration at an instant (R205, R209): OFF releases the pin, LEVEL drives its level, a generator starts from its inactive level, ENGINE and TRIG start from `kept`. LEVEL does not rise while R208 holds the pin back. A change of level that would come less than 4 ns after the last edge comes 4 ns after it (DESIGN CHOICE, log entry 148). -/
def State.takeCfg (s : State) (p : Nat) (c : ToutCfg) (kept : Bool) (at64 : Nat) : State :=
  let T := s.tout p
  let s1 := s.setTout p { T with cfg := c, cfgNext := none, due := none, resync := true }
  let l := if c.mode = 1 then c.level && !s1.muted p else if c.mode = 2 || c.mode = 6 then kept else false
  let s2 := if c.mode = 1 && c.level && !T.level then s1.noteRise (Fin.ofNat 8 p) at64 else s1
  if T.cfg.out T.level = c.out l then s2.setTout p { s2.tout p with level := l }
  else
    let t := match T.lastEdge with | some e => max at64 (e + 256) | none => at64
    ((s2.setTout p { s2.tout p with level := l, lastEdge := some t }).emit (.pin p (c.out l) t)).noteLoop p t

/-- A LEVEL pin that R208 held back rises once it may. -/
def State.levelRise (s : State) (p : Nat) : State :=
  let T := s.tout p
  if T.cfg.mode = 1 && T.cfg.level && !T.level && s.mode.pinsMove && !s.muted p then (s.drive p true (64 * s.tb)).1 else s

/-- A pulse's high time ends on the step-free count (R207), now or within the TIME cycle just passed; a configuration that waited for it is taken up there, with no edge of the pulse where the new level is the same. -/
def State.pulseEndNow (s : State) (p : Nat) : State :=
  let T := s.tout p
  match T.pulseEnd with
  | none => s
  | some (d, e) =>
    if !s.mode.pinsMove then s
    else
      let at64 := 64 * s.tb - s.back64 d ((s.dom d).sf - e)
      let s1 := s.setTout p { T with pulseEnd := none }
      match T.cfgNext with
      | some c => s1.takeCfg p c false at64
      | none => ((s1.setTout p { T with pulseEnd := none, level := false, lastEdge := some at64 }).emit (.pin p (T.cfg.out false) at64)).noteLoop p at64

/-- The pulse in progress on pin p has run out by now. -/
def State.pulseOver (s : State) (p : Nat) : Bool :=
  match (s.tout p).pulseEnd with
  | some (d, e) => s.mode.pinsMove && decide (e ≤ (s.dom d).sf)
  | none => false

/-- Pin p's generator has an edge at this TIME edge or within the TIME cycle just passed: its instant and its place on the step-free count. -/
def State.edgeNow (s : State) (p : Nat) : Option (Nat × Nat) :=
  match (s.tout p).due with
  | some (a, e) => if 64 * s.tb ≤ a + 64 then some (a, e) else none
  | none => none

/-- A generator raises its pin (R205 to R208, R211): nothing in OFF, LEVEL, ENGINE and TRIG, without an edge of its schedule, while a pulse is in progress, or while muted. The pulse's high time runs from the edge on the step-free count (R207). -/
def State.genEdge (s : State) (p : Fin 8) : State :=
  match s.edgeNow p with
  | none => s
  | some (at64, sf) =>
    let ended := match (s.tout p).pulseEnd with | some (_, e) => s.mode.pinsMove && decide (e ≤ sf) | none => false
    let s0 := if ended then s.pulseEndNow p else s
    let T := s0.tout p
    let c := T.cfg
    let s1 := s0.setTout p { T with due := none }
    if !(s.mode.pinsMove && (c.mode = 3 || (c.mode = 4 && !freqBad c) || c.mode = 5)) then s1
    else
      let s2 := s1.noteRise p at64
      if T.pulseEnd.isSome || s.muted p then s2
      else
        let (s3, dropped) := s2.drive p true at64
        if dropped then (if T.resync then s3 else s3.setBit (R.TOUT_STAT_DROP p) true)
        else s3.setTout p { s3.tout p with pulseEnd := some (s.toutDom p, sf + s.highTime p), resync := false }

/-- The configuration that pin p's registers name. -/
def State.regCfg (s : State) (p : Nat) : ToutCfg :=
  { mode := s.rd (R.TOUT_CFG_MODE p), dom := s.rd (R.TOUT_CFG_DOM p), level := s.bit (R.TOUT_CFG_LEVEL p)
    drive := s.rd (R.TOUT_CFG_DRIVE p), qual := s.bit (R.TOUT_CFG_QUAL p), claim := s.bit (R.TOUT_CFG_CLAIM p)
    inv := s.bit (R.TOUT_CFG_INV p), fine := s.rd (R.TOUT_CFG_FINE p), num := s.rd (R.TOUT_PER_NUM_NUM p)
    den := s.rd (R.TOUT_PER_DEN_DEN p), phase := s.rd (R.TOUT_PHASE_NS p), width := s.rd (R.TOUT_WIDTH_WIDTH p) }

/-- At an Orbit start, a pin's changed registers come into force if the last write lies at least 2 µs back (R209); a pulse in progress completes first (R207). In the modes in which nothing moves the pins the change waits (R210). -/
def State.applyCfg (s : State) (p : Nat) : State :=
  let T := s.tout p
  match T.write with
  | some t =>
    if t + twoUs ≤ s.tb && s.mode.pinsMove then
      let s1 := s.setTout p { T with write := none }
      if T.pulseEnd.isSome then s1.setTout p { s1.tout p with cfgNext := some (s.regCfg p), resync := true }
      else s1.takeCfg p (s.regCfg p) T.level (64 * s.tb)
    else s
  | none => s

/-- All pins at high impedance, with nothing in progress on them (R210); their registers stay. -/
def State.pinsOff (s : State) : State :=
  (List.range 8).foldl (fun s p =>
    let T := s.tout p
    let s1 := if (T.cfg.out T.level).isSome then s.emit (.pin p none (64 * s.tb)) else s
    s1.setTout p { T with cfg := {}, level := false, pulseEnd := none, due := none, cfgNext := none }) s

/-! ## Generator edges that fall within one TIME cycle -/

/-- The generator edge of pin p that lies after `t0` and at or before `t1` on its domain (R205, R206). -/
def State.edgeIn (s : State) (p : Nat) (t0 t1 : Nat) : Option Nat :=
  let c := (s.tout p).cfg
  let ph : Int := ((c.phase * nsUnit + c.fine * (nsUnit / 64) : Nat) : Int)
  let within (e : Int) : Option Nat := if (t0 : Int) < e && e ≤ (t1 : Int) then some e.toNat else none
  if c.mode = 3 then within (ph + ((t1 : Int) - ph) / secUnit * secUnit)
  else if c.mode = 4 then
    if freqBad c then none
    else
      let k := (((t1 : Int) - ph) * c.den) / (c.num * nsUnit)
      within (ph + k * (c.num * nsUnit) / c.den)
  else if c.mode = 5 then
    let ph5 : Int := if c.phase ≥ s.orbit.grid.period / 4294967296 then ((c.fine * (nsUnit / 64) : Nat) : Int) else ph
    within (s.orbit.start * 65536 + ph5)
  else none

/-- An edge at `e` on pin p's domain is due: it lies at most one TIME cycle back. -/
def State.setDue (s : State) (p e : Nat) : State :=
  let d := s.toutDom p
  let age := (s.dom d).time - e
  s.setTout p { s.tout p with due := some (64 * s.tb - s.back64 d age, (s.dom d).sf - age) }

/-- Mark the pins whose generator has an edge in the TIME cycle just passed. -/
def State.markEdges (s0 s : State) : State :=
  (List.range 8).foldl (fun s p =>
    let d := s.toutDom p
    match s.edgeIn p (s0.dom d).time (s.dom d).time with
    | some e => s.setDue p e
    | none => s) s

/-- At an Orbit start, mark the ORBIT pins that rise at it, and the pins whose new schedule (a step, a change) has an edge at this very TIME edge (R205, R207). -/
def State.markStart (s : State) : State :=
  (List.range 8).foldl (fun s p =>
    let T := s.tout p
    let t := (s.dom (s.toutDom p)).time
    let back := if T.cfg.mode = 5 then ((nsUnit : Nat) + (s.dom (s.toutDom p)).rate).toNat else if T.resync && T.due.isNone then 1 else 0
    match s.edgeIn p (t - back) t with
    | some e => s.setDue p e
    | none => s) s

/-- The pins that domain d drives take up their schedules anew after its step (R207). -/
def State.resyncPins (s : State) (d : Nat) : State :=
  (List.range 8).foldl (fun s p => if s.toutDom p = d then s.setTout p { s.tout p with resync := true } else s) s

/-- One TIME edge (R188, R189): `TB_CYC` and every domain advance. TIME runs from the end of BOOT step 1. -/
def State.tick (s : State) : State :=
  if !s.sys.timebase then s
  else
    let s0 := s.ivlTakeAll
    let s1 := (List.range 8).foldl State.tickDom { s0 with tb := s0.tb + 1 }
    (State.markEdges s s1).tinDeliverAll

/-! ## Time that passes up to an event whose instant the state determines (log entry 31) -/

/-- `n` TIME edges of a domain with slew rate `ppm`, and whether the clamp acted: edge by edge while it slews, at once when it does not. -/
def tickMany (ppm : Nat) : Nat → Domain × Bool → Domain × Bool
  | 0, x => x
  | n + 1, (D, c) =>
    if D.slewRem = 0 then
      let rate := D.rateNext.getD D.rate
      let adv := (n + 1) * (281474976710656 + rate).toNat
      ({ D with time := D.time + adv, sf := D.sf + adv, rate := rate, rateNext := none, slewErr := 0 }, c)
    else
      let r := tickDomain ppm D
      tickMany ppm n (r.1, c || r.2)

/-- TIME edges until a domain's time reaches `t` (2^-48 ns); the first argument bounds those made edge by edge. -/
def edgesTo (ppm : Nat) (t : Int) : Nat → Domain → Nat
  | 0, _ => 0
  | n + 1, D =>
    if t ≤ (D.time : Int) then 0
    else if D.slewRem = 0 then
      let u : Int := 281474976710656 + D.rateNext.getD D.rate
      ((t - (D.time : Int) + u - 1) / u).toNat
    else 1 + edgesTo ppm t n (tickDomain ppm D).1

/-- `n` TIME edges pass for every domain. -/
def State.passDoms (s : State) (n : Nat) : State :=
  if n = 0 then s
  else (List.range 8).foldl (fun s d =>
    let r := tickMany (s.slewPpm d) n (s.dom d, false)
    let s1 := s.setDom d r.1
    if r.2 then s1.setBit (R.DOM_STAT_RATE_CLAMP d) true else s1) { s with tb := s.tb + n }

/-- `n` TIME edges pass for the whole device; the last marks the generator edges of its cycle. -/
def State.passN (s : State) (n : Nat) : State :=
  if !s.sys.timebase || n = 0 then s else (s.ivlTakeAll.passDoms (n - 1)).tick

/-- TIME passes until domain d's time is at or after `t` (2^-48 ns). -/
def State.passTo (s : State) (d : Nat) (t : Int) : State :=
  let D := s.dom d
  s.passN (edgesTo (s.slewPpm d) t ((t - (D.time : Int)).toNat / 140737488355328 + 2) D)

end Sys2Proof.Machine
end

