-- ==== Sys2Proof/Machine/Time.lean ====
section
/-! DEFINITION. The commands of the time domains, snapshots, triggers and TOUT pins (R193 to R215). -/

namespace Sys2Proof.Machine

/-- A register of a domain takes no write while its loop is closed or in RECOVER (R193, R201, R215). -/
def State.loopOpen (s : State) (d : Nat) : Bool := (s.dom d).hostLoop && s.mode != .recover

/-- An ignored write sets `DOM_STAT.WIGN`. -/
def State.ignoreWrite (s : State) (d : Nat) : State := s.setBit (R.DOM_STAT_WIGN d) true

/-- A write of `DOM_RATE_LO` is held (R193). -/
def State.rateLoWrite (s : State) (d : Nat) (v : Word) : State :=
  if s.loopOpen d then s.setDom d { s.dom d with rateLo := some v.toNat } else s.ignoreWrite d

/-- The low half of the rate word as its register reads: a held one, or that of the word in force. -/
def Domain.lowHalf (D : Domain) : Nat := D.rateLo.getD ((BitVec.ofInt 48 (D.rateNext.getD D.rate)).toNat % 4294967296)

/-- A write of `DOM_RATE_HI` applies both halves at the next TIME edge (R193). -/
def State.rateHiWrite (s : State) (d : Nat) (v : Word) : State :=
  if s.loopOpen d then (s.setDom d { s.dom d with rateLo := none }).setRate d (rateOfBits (v.toNat % 65536 * 4294967296 + (s.dom d).lowHalf)) else s.ignoreWrite d

def execDomRateLoWrite (d : Fin 8) (v : Word) (s : State) : Host.Outcome State Fault Refusal := .next (s.rateLoWrite d v)
def execDomRateHiWrite (d : Fin 8) (v : Word) (s : State) : Host.Outcome State Fault Refusal := .next (s.rateHiWrite d v)

/-- The δ of the `DOM_STEPREQ` registers in 2^-48 ns (R214): seconds and ns of the magnitude, ns above 999 999 999 acting as that. -/
def State.stepReq (s : State) (d : Nat) : Int :=
  let m : Nat := (s.rd (R.DOM_STEPREQ_SEC_LO_SEC d) + 4294967296 * s.rd (R.DOM_STEPREQ_SEC_HI_SEC d)) * secUnit
    + min 999999999 (s.rd (R.DOM_STEPREQ_NS_NS d)) * nsUnit
  if s.bit (R.DOM_STEPREQ_SEC_HI_NEG d) then -(m : Int) else m

/-- A write of `DOM_STEPREQ_SEC_HI`: the word is taken without `GO`, and `GO` = 1 submits δ (R214, R215). -/
def State.stepReqWrite (s : State) (d : Nat) (v : Word) : State :=
  if !s.loopOpen d then s.ignoreWrite d
  else
    let s1 := s.setReg (A.DOM_STEPREQ_SEC_HI d) (v &&& 0x4000FFFF)
    if v.getLsbD 31 then (s1.adjust d (s1.stepReq d)).1 else s1

def execDomStepreqGo (d : Fin 8) (v : Word) (s : State) : Host.Outcome State Fault Refusal :=
  .next (s.stepReqWrite d (v ||| 0x80000000))

/-- TIME edges until a slew is complete, at most `n`; none where it is not complete by then (a rate word at the clamp leaves it no share). -/
def slewEdges (ppm : Nat) : Nat → Domain → Option Nat
  | n, D =>
    if D.slewRem = 0 then some 0
    else match n with
      | 0 => none
      | n + 1 => (slewEdges ppm n (tickDomain ppm D).1).map (· + 1)

/-- A bound on the edges of a slew: the remainder over the share of an edge, as it is without the clamp and as the clamp leaves it; none where the clamp leaves no share (R196). -/
def slewBound (ppm : Nat) (D : Domain) : Nat :=
  let rate := D.rateNext.getD D.rate
  let left := (clampRate (rate + (slewShare ppm D.slewRem 0).1) - rate).natAbs
  if left = 0 then 0 else max (D.slewRem.natAbs * 1000000 / (ppm * nsUnit)) (D.slewRem.natAbs / left) + 2

/-- SLEW_END: TIME passes to the last edge of the slew, which adds exactly the remainder (R196). -/
def execSlewEnd (d : Fin 8) (s : State) : Host.Outcome State Fault Refusal :=
  let ppm := s.slewPpm d
  .next (match slewEdges ppm (slewBound ppm (s.dom d)) (s.dom d) with
    | some n => s.passN n
    | none => s)

/-! ## Snapshots (R202) -/

/-- A request made while one is pending is ignored; an accepted one clears `DONE`. -/
def State.snapRequest (s : State) : State :=
  if s.snapPend then s else { s.setBit R.TB_SNAP_DONE false with snapPend := true }

def execTbSnapRequest (s : State) : Host.Outcome State Fault Refusal := .next s.snapRequest

/-- The offset of the snapshot words of domain d. -/
def snapAddr (d : Nat) : Nat := 0x2801100 + 16 * d

/-- The pending snapshot latches all eight times and `TB_CYC`. -/
def State.snapLatch (s : State) : State :=
  if !s.snapPend then s
  else
    let s1 := (List.range 8).foldl (fun t d => t.setWords (snapAddr d) (timeWords (s.dom d).time)) s
    let s2 := s1.setWords A.TB_SNAPCYC_LO [.ofNat s.tb, .ofNat (s.tb / 4294967296)]
    { s2.setBit R.TB_SNAP_DONE true with snapPend := false }

def execTbSnapLatch (s : State) : Host.Outcome State Fault Refusal := .next s.snapLatch

/-! ## Triggers (R203, R204) -/

/-- The bits of word 1 that a write takes. -/
def trg1Mask : Word := 0x83F7FFFF

/-- A write of word 1 of a trigger slot: with `ARM` = 1 it arms a disarmed slot and is ignored by an armed one; with `ARM` = 0 it disarms. A trigger armed with a time already past fires late. -/
def State.trgWrite (s : State) (k : Nat) (v : Word) : State :=
  if v.getLsbD 31 then
    if s.bit (R.TRG1_ARM k) then s
    else
      let s1 := s.setReg (A.TRG1 k) (v &&& trg1Mask)
      let late := if s1.trgTime k < (s1.dom (s1.rd (R.TRG1_DOM k))).time then s1.tb + 1 else 0
      ({ s1 with trgLate := storeSet (fun _ => 0) s1.trgLate k late }).syncVec 9
  else ({ s.setReg (A.TRG1 k) (v &&& trg1Mask) with trgLate := storeSet (fun _ => 0) s.trgLate k 0 }).syncVec 9

def execTriggerArm (k : Fin 16) (v : Word) (s : State) : Host.Outcome State Fault Refusal := .next (s.trgWrite k (v ||| 0x80000000))
def execTriggerDisarm (k : Fin 16) (v : Word) (s : State) : Host.Outcome State Fault Refusal := .next (s.trgWrite k (v &&& 0x7FFFFFFF))

/-- Triggers fire in every mode from DOCK onwards (R204). -/
def Mode.afterBoot : Mode → Bool
  | .strap | .boot => false
  | .dock | .free | .acquire | .locked | .holdover | .proving | .doze | .recover | .opened | .halt => true

/-- What firing does to a slot's pin (R204, R210, R211). -/
def State.trgPin (s : State) (k : Nat) (late : Bool) : State :=
  if !s.bit (R.TRG1_PINA k) then s
  else
    let p := s.rd (R.TRG1_PIN k)
    if (s.tout p).cfg.mode ≠ 6 then s.setBit (R.TRG3_PINERR k) true
    else if !s.mode.pinsMove then s
    else
      let D := s.dom (s.rd (R.TRG1_DOM k))
      let at64 := if late then 64 * s.tb else 64 * s.tb + s.rd (R.TRG3_FINE k) - s.back64 (s.rd (R.TRG1_DOM k)) (D.time - s.trgTime k)
      let s0 := if s.bit (R.TRG1_LVL k) && !(s.tout p).level then s.noteRise (Fin.ofNat 8 p) at64 else s
      if s.bit (R.TRG1_LVL k) && s.muted p then s0
      else
      let (s1, dropped) := s0.drive p (s.bit (R.TRG1_LVL k)) at64
      if dropped then s1.setBit (R.TOUT_STAT_DROP p) true else s1

/-- TB_CYC + 1 at which slot k was armed with a time already past, or 0. -/
def State.lateArm (s : State) (k : Nat) : Nat := storeGet (fun _ => 0) s.trgLate k

/-- TIME passes to an armed trigger's time; one armed with a time already past fires at the TIME edge after that (R203). -/
def State.trgPass (s : State) (k : Nat) : State :=
  if !(s.bit (R.TRG1_ARM k) && s.mode.afterBoot) then s
  else if s.lateArm k ≠ 0 then s.passN (s.lateArm k - s.tb)
  else s.passTo (s.rd (R.TRG1_DOM k)) (s.trgTime k)

/-- An armed trigger fires: it disarms, drives its pin, and sets `DONE`, and `LATE` where R203 says so. -/
def State.trgFire (s : State) (k : Nat) : State :=
  if !s.bit (R.TRG1_ARM k) || !s.mode.afterBoot then s
  else
    let late := s.lateArm k != 0
    let s1 := (s.trgPin k late).setBit (R.TRG1_ARM k) false
    let s2 := s1.setBit (R.TRG3_DONE k) true
    let s3 := if late then s2.setBit (R.TRG3_LATE k) true else s2
    ({ s3 with trgLate := storeSet (fun _ => 0) s3.trgLate k 0 }).syncVec 9

/-- The armed trigger slots of domain d whose time has come fire (R203). -/
def State.trgDue (s : State) (d : Nat) : State :=
  (List.range 16).foldl (fun s k => if s.bit (R.TRG1_ARM k) && s.rd (R.TRG1_DOM k) == d && s.trgTime k ≤ (s.dom d).time then s.trgFire k else s) s

def execTriggerFire (k : Fin 16) (s : State) : Host.Outcome State Fault Refusal := .next ((s.trgPass k).trgFire k)

/-! ## TOUT generators -/

/-- TIME passes to the pin's next generator edge, unless the last TIME cycle brought one. -/
def State.genPass (s : State) (p : Nat) : State :=
  if (s.edgeNow p).isSome || !s.mode.pinsMove then s
  else match s.edgeAfter p ((s.dom (s.toutDom p)).time : Int) with
    | some e => s.passTo (s.toutDom p) e
    | none => s

def execToutGeneratorEdge (p : Fin 8) (s : State) : Host.Outcome State Fault Refusal := .next ((s.genPass p).genEdge p)

/-- TOUT_PULSE_END: TIME passes to the end of the pulse in progress. -/
def State.pulseEnd (s : State) (p : Nat) : State :=
  match (if s.mode.pinsMove then (s.tout p).pulseEnd else none) with
  | some (d, e) => (s.passTo d (((s.dom d).time : Int) + (e : Int) - ((s.dom d).sf : Int))).pulseEndNow p
  | none => s

def execToutPulseEnd (p : Fin 8) (s : State) : Host.Outcome State Fault Refusal := .next (s.pulseEnd p)

end Sys2Proof.Machine
end

