-- ==== Sys2Proof/Machine/TdcOps.lean ====
section
/-! DEFINITION. The TDC channels: a code's position and interval (R227, R250 to R252), the measurements of time pins and interval units (R212, R254 to R257), the link phase tracker (R228), and calibration runs (R258 to R269). -/

namespace Sys2Proof.Machine

def State.tdc (s : State) (c : Nat) : TdcChan := storeGet (fun _ => {}) s.tdcs c
def State.setTdc (s : State) (c : Nat) (x : TdcChan) : State := { s with tdcs := storeSet (fun _ => {}) s.tdcs c x }
def State.cal (s : State) (g : Nat) : Option CalRun := storeGet (fun _ => none) s.cals g
def State.setCal (s : State) (g : Nat) (x : Option CalRun) : State := { s with cals := storeSet (fun _ => none) s.cals g x }

/-! ## Bin tables (R227, R258, R269, R270) -/

/-- S[k] of a BOOT collection (R269): 2^16 samples over 512 counts, each from 0.2 to 3 times the mean of 128 (R260), the counts free beyond that. -/
def bootSum (n c : Nat) : Nat → Nat
  | 0 => 0
  | k + 1 =>
    let S := bootSum n c k
    let lo := max (S + 26) (65536 - 384 * (511 - k))
    let hi := min (S + 384) (65536 - 26 * (511 - k))
    lo + Config.bootCount n c k % (hi + 1 - lo)

/-- B[k] of channel c; B[0] is 0 and B[512] is taken as 65 536. -/
def State.bin (s : State) (c k : Nat) : Nat :=
  if k = 0 then 0 else if k ≥ 512 then 65536
  else match (s.tdc c).seed with
    | some n => bootSum n c k
    | none => s.rd (R.TDC_BIN_B c k)

/-- The table as its 512 entries. -/
def State.binTable (s : State) (c : Nat) : List Nat := (List.range 512).map (s.bin c)

/-- The CRC of a table: CRC-16 over its entries, each as four bytes in little-endian order (R270). -/
def binCrc (t : List Nat) : Nat := crc16 (t.flatMap (fun b => [b % 256, b / 256 % 256, 0, 0]))

/-- Put a table in force. -/
def State.setBins (s : State) (c : Nat) (t : List Nat) : State :=
  (s.setWords (A.TDC_BIN c 0) (0 :: (t.drop 1).map Word.ofNat)).setTdc c { s.tdc c with seed := none }

/-- A table from the counts of 2^20 samples (R258): B[k] = floor((S[k] + 8) / 16). -/
def tableOf (counts : List Nat) : List Nat :=
  (counts.foldl (fun (acc : List Nat × Nat) n => (acc.1 ++ [(acc.2 + 8) / 16], acc.2 + n)) ([], 0)).1

/-- Every count lies from 0.2 × N/512 to 3 × N/512 (R260). -/
def countsOk (counts : List Nat) : Bool := counts.length == 512 && counts.all (fun n => decide (410 ≤ n) && decide (n ≤ 6144))

/-! ## One measurement -/

/-- P(c) in 2^-17 lap (R227). -/
def State.codePos (s : State) (c code : Nat) : Nat :=
  code / 512 * 131072 + s.bin c (code % 512) + s.bin c (code % 512 + 1)

/-- The channel that serves channel c, and the Δ that its results take in 2^-8 ps: a spare that repairs it or stands in for it (R249, R264, R265). -/
def State.server (s : State) (c : Nat) : Nat × Int :=
  let sub := s.rd (R.TDC_CHSTAT_SUBST c)
  if c < 74 && sub ≥ 74 then
    (sub, if s.rd (R.TDC_CHSTAT_STATE sub) = 4 then (BitVec.ofNat 16 (s.rd (R.TDC_CHDELTA_DELTA c))).toInt else 0)
  else (c, 0)

/-- Channel c is marked failed and no spare serves it. -/
def State.tdcFailed (s : State) (c : Nat) : Bool := s.rd (R.TDC_CHSTAT_STATE c) == 1 && (s.server c).1 == c

/-- The interval of a code on channel `c` with scaling pair (c1, c2), in 2^-48 ns, and the calibrated LSB in 2^-16 ps; none where the measurement is invalid (R250 to R252). -/
def State.interval (s : State) (c code : Nat) (pair : Option (Nat × Nat)) : Option (Nat × Nat) :=
  match pair with
  | none => none
  | some (c1, c2) =>
    if code ≥ 4095 || c1 ≥ 4095 || c2 ≥ 4095 then none
    else
      let p := s.codePos c code
      let p1 := s.codePos c c1
      let p2 := s.codePos c c2
      let lap : Nat := p2 - p1
      if 100 * lap < 80 * 131072 || 100 * lap > 125 * 131072 then none
      else if p ≤ p1 || p - p1 > lap then none
      else some (nsUnit + nsUnit * (p - p1) / lap, 1000 * 65536 * 131072 / (512 * lap))

/-- TB_CYC of the TIME edge that stops the measurements made now: the present one, and for a frame from a receive store that of its arrival (R349). -/
def State.rxNow (s : State) : Nat := s.power.rxAt.getD s.tb

/-- The instant on TIME in 2^-48 ns of an edge with code `code` that channel k sees, whose stop edge is the present TIME edge: the TIME edge before that where the interval is invalid. -/
def State.edgeAt (s : State) (k code : Nat) : Int :=
  ((s.rxNow * nsUnit : Nat) : Int) - (match s.interval k code (s.tdc k).pair with | some (i, _) => ((i : Nat) : Int) | none => ((nsUnit : Nat) : Int))

/-- Channel k is within the dead time of another edge at an instant on TIME (R253). -/
def State.tdcDead (s : State) (k : Nat) (t : Int) : Bool :=
  match (s.tdc k).last with
  | some (t0, _) => t != t0 && decide (t < t0 + ((8 * nsUnit : Nat) : Int))
  | none => false

/-- Measure an edge on channel c (R250 to R253): the interval back from the stop edge in 2^-48 ns and its LSB. An invalid measurement is counted in `TDC_INVALID`. One measurement serves every purpose of an edge; within the dead time of another edge, and on a failed channel, there is none. -/
def State.measure (s : State) (c code : Nat) : State × Option (Int × Nat) :=
  let (k, δ) := s.server c
  let t := s.edgeAt k code
  let again := match (s.tdc k).last with | some (t0, r) => if t = t0 then some r else none | none => none
  if s.tdcFailed c || s.tdcDead k t then (s, none)
  else match again with
    | some r => (s, r)
    | none =>
      match s.interval k code (s.tdc k).pair with
      | none => ((s.count (.tdc k 2)).setTdc k { s.tdc k with last := some (t, none) }, none)
      | some (i, lsb) =>
        let r : Int × Nat := ((i : Int) + δ * 281474976710656 / 256000, lsb)
        ((s.wr (R.TDC_CHLSB_LSB k) lsb).setTdc k { s.tdc k with last := some (t, some r) }, some r)

/-! ## Time pins (R212, R253 to R255) -/

/-- An enabled interval unit names the pin (R255). -/
def State.ivlNames (s : State) (p : Nat) : Bool :=
  anyBelow 4 fun u => s.bit (R.IVL_CFG_EN u) && (s.rd (R.IVL_CFG_START u) == p || s.rd (R.IVL_CFG_STOP u) == p)

/-- The typical ball-to-TDC delay of a TIN pin that the firmware compensates, 1.850 ns in 2^-48 ns (Table 1-10). -/
def tinDelay : Int := 520728706914713

/-- `TIN_CFG.EDGE` selects an edge; 0b00 acts as 0b01. -/
def edgeSel (e : Nat) (rise : Bool) : Bool := if rise then e != 2 else e ≥ 2

/-- The instant on TIME of an edge with code `code` as pin p's channel sees it: the TIME edge that follows it where the channel is failed. -/
def State.tinAt (s : State) (p code : Nat) : Int :=
  if s.tdcFailed (66 + p) then ((s.tb * nsUnit : Nat) : Int) - ((nsUnit : Nat) : Int) else s.edgeAt (s.server (66 + p)).1 code

/-- `HOLDOFF` in ns (Table 9-6). -/
def State.holdoffNs (s : State) (p : Nat) : Nat := min 1000 (max 2 (s.rd (R.TDC_TINCFG_HOLDOFF p)))

/-- The hold-off of pin p still runs at an instant on TIME (R254). -/
def State.holding (s : State) (p : Nat) (t : Int) : Bool :=
  match (s.tin p).holdTo with
  | some h => decide (t < h)
  | none => false

/-- An edge of a TIN pin outside its hold-off, with TDC code `code`, whose stop edge is the present TIME edge (R212, R253 to R256): its record, which is counted in `TDC_BUSY` where it is coarse for the dead time, its place in the interval units, and the edges of a loopback pair that it is seen of, within 1 ns of the compensated time (Table 11-6). -/
def State.tinEdge (s : State) (p : Nat) (rise : Bool) (code : Nat) : State :=
  let s0 := s.setTin p { s.tin p with pin := rise }
  if !s.mode.afterBoot || !(s.bit (R.TIN_CFG_EN p) || s.ivlNames p) then s0
  else
    let at48 := s.tinAt p code
    let dead := !s.tdcFailed (66 + p) && s.tdcDead (s.server (66 + p)).1 at48
    let (s1, m) := s0.measure (66 + p) code
    let back : Int := (match m with | some (i, _) => i | none => ((nsUnit : Nat) : Int)) + tinDelay
    let d := s1.rd (R.TIN_CFG_DOM p)
    let t48 : Nat := ((s1.dom d).time - s1.onDom d back).toNat
    let t16 := if m.isSome then t48 / 4294967296 else t48 / nsUnit * 65536
    let recd := s1.bit (R.TIN_CFG_EN p) && edgeSel (s1.rd (R.TIN_CFG_EDGE p)) rise
    let e : IvlEdge := { at48 := ((s.tb * nsUnit : Nat) : Int) - back, lsb := (match m with | some (_, l) => l | none => 0), coarse := m.isNone }
    let s2 := s1.setTin p { s1.tin p with
      holdTo := some (at48 + ((s.holdoffNs p * nsUnit : Nat) : Int)), rose := if !rise then (s1.tin p).rose else if recd then some e.at48 else none }
    let s3 := if recd then
        (if dead then s2.count (.tdcPin p 2) else s2).tinPush p { time := t16, rise := rise, coarse := m.isNone, epoch := (s2.dom d).epoch % 256 }
      else s2
    let s4 := { s3 with prv := { s3.prv with loops := s3.prv.loops.filter fun x => !(x.1 == p && decide ((x.2 - e.at48).natAbs ≤ nsUnit)) } }
    (List.range 4).foldl (fun s u => s.ivlEdge u p rise e) s4

/-- A transition during the hold-off is ignored and counted (R254). -/
def State.tinSuppressed (s : State) (p : Nat) (rise : Bool) : State :=
  (s.setTin p { s.tin p with pin := rise }).count (.tdcPin p 1)

/-- The four words of `TIN_HEAD` for a latched record (R214). -/
def tinWords (r : Option TinRec) : List Word :=
  match r with
  | none => [0, 0, 0, 0]
  | some r =>
    let ns := r.time / 65536
    [.ofNat (ns / 1000000000),
     .ofNat (ns / 1000000000 / 4294967296 % 65536 + (if r.rise then 65536 else 0) + (if r.coarse then 131072 else 0) + 262144 + r.epoch * 16777216),
     .ofNat (ns % 1000000000), .ofNat (r.time % 65536)]

/-- Reading word 3 of `TIN_HEAD` removes the head record. -/
def State.tinPop (s : State) (p : Nat) : State :=
  (s.setTin p { s.tin p with queue := (s.tin p).queue.drop 1 }).syncVec (40 + p)

/-- Reading `IVL_RES_LO` latches the higher word and the flags and clears `NEW` (R273). -/
def State.ivlRead (s : State) (u : Nat) : State :=
  let V := s.ivl u
  let w := s.reg (A.IVL_STAT u)
  let w := (R.IVL_STAT_NEW u).put w 0
  let w := (R.IVL_STAT_BELOW u).put w V.flags
  let w := (R.IVL_STAT_ORDER u).put w (V.flags / 2)
  let w := (R.IVL_STAT_COARSE u).put w (V.flags / 4)
  (s.setReg (A.IVL_RES_HI u) V.hi).setReg (A.IVL_STAT u) w

/-! ## Calibration -/

/-- The group of a channel (Table 9-1): octets 0 to 7, 8 the time pins, 9 the twin. -/
def calGroup (c : Nat) : Nat :=
  if c < 64 then c / 8 else if c < 66 then 9 else if c < 74 then 8 else if c < 82 then c - 74 else if c = 82 then 8 else 9

/-- The spare and the working channels of a group. -/
def calSpare (g : Nat) : Nat := if g < 8 then 74 + g else if g = 8 then 82 else 83
def calChans (g : Nat) : List Nat :=
  if g < 8 then (List.range 8).map (8 * g + ·) else if g = 8 then (List.range 8).map (66 + ·) else [64, 65]

/-- A die sensor's reading in 0.25 °C: sensors 0 to 7 of the octets, 8 central (R42). -/
def State.temp (s : State) (k : Nat) : Int := storeGet (fun _ => 0) s.sys.temps k

/-- A die sensor's reading is taken. -/
def State.setTemp (s : State) (k : Nat) (t : Int) : State :=
  { s with sys := { s.sys with temps := storeSet (fun _ => 0) s.sys.temps k t } }

/-- The sensor of a channel: its octet's, or the central one (R261). -/
def State.chanTemp (s : State) (c : Nat) : Int := s.temp (min 8 (calGroup c))

/-- The difference of the sensor from `TCAL` in 0.25 °C. -/
def State.tcalDrift (s : State) (c : Nat) : Nat :=
  (s.chanTemp c - (BitVec.ofNat 10 (s.rd (R.TDC_CHSTAT_TCAL c))).toInt).natAbs

/-- R261 calls for a run on the channel: drift beyond `CAL_DT`, a BOOT-grade table, or a restored table saved more than `CAL_DT` away. -/
def State.calCalled (s : State) (c : Nat) : Bool :=
  let dt := s.rd R.TDC_CALCFG_CAL_DT
  let far := decide (4 * dt < s.tcalDrift c)
  s.rd (R.TDC_CHSTAT_STATE c) != 1 &&
    ((dt != 0 && far) || s.rd (R.TDC_CHSTAT_GRADE c) == 1 || (s.rd (R.TDC_CHSTAT_GRADE c) == 3 && far))

/-- `STALE` as it reads (R268). -/
def State.calStale (s : State) (c : Nat) : Bool :=
  s.bit (R.TDC_CHSTAT_PEND c) && decide (8 * s.rd R.TDC_CALCFG_CAL_DT < s.tcalDrift c)

/-- Group g asks for a burst grant while it has a pending channel, no run and no grant (R262, R354). -/
def State.calAsk (s : State) (g : Nat) : State :=
  if (calSpare g :: calChans g).any (fun c => s.bit (R.TDC_CHSTAT_PEND c)) && (s.cal g).isNone
      && !s.power.calWait.contains g && !s.power.calGrant.contains g then
    { s with power := { s.power with calWait := s.power.calWait ++ [g] } }
  else s

/-- Mark a channel pending. A failed channel is not calibrated. -/
def State.calPend (s : State) (c : Nat) : State :=
  if s.rd (R.TDC_CHSTAT_STATE c) = 1 then s else (s.setBit (R.TDC_CHSTAT_PEND c) true).calAsk (calGroup c)

/-- The channels that sensor k serves become pending where R261 calls for it. -/
def State.calScan (s : State) (k : Nat) : State :=
  (List.range 84).foldl (fun s c => if min 8 (calGroup c) = k && s.calCalled c then s.calPend c else s) s

/-- Group g has a free spare (R264). -/
def State.spareFree (s : State) (g : Nat) : Bool := s.rd (R.TDC_CHSTAT_STATE (calSpare g)) == 2

/-- A spare may stand in: full or restored grade with `TCAL` within `CAL_DT` (R264). -/
def State.spareReady (s : State) (g : Nat) : Bool :=
  let c := calSpare g
  s.rd (R.TDC_CHSTAT_GRADE c) ≥ 2 && decide (s.tcalDrift c ≤ 4 * s.rd R.TDC_CALCFG_CAL_DT)

/-- Of two pending channels, the first is taken before the second (R262). -/
def State.calBefore (s : State) (a b : Nat) : Bool :=
  let ba := s.rd (R.TDC_CHSTAT_GRADE a) == 1
  let bb := s.rd (R.TDC_CHSTAT_GRADE b) == 1
  if ba != bb then ba
  else if s.tcalDrift a != s.tcalDrift b then decide (s.tcalDrift b < s.tcalDrift a)
  else decide (a < b)

/-- The pending channel of a list that is taken first. -/
def State.calFirst (s : State) (cs : List Nat) : Option Nat :=
  cs.foldl (fun acc c =>
    if !s.bit (R.TDC_CHSTAT_PEND c) then acc
    else match acc with
      | none => some c
      | some b => if s.calBefore c b then some c else acc) none

/-- A time-pin channel is in use by its pin (R267). -/
def State.pinUsed (s : State) (c : Nat) : Bool :=
  66 ≤ c && c ≤ 73 && (s.bit (R.TIN_CFG_EN (c - 66)) || s.ivlNames (c - 66))

/-- The link of a port or twin channel is up. -/
def State.chanLink (s : State) (c : Nat) : Bool :=
  if c < 64 then (s.link c).up else (s.rd R.TW_STAT_LINK).testBit (c - 64)

/-- The calibration signal of a channel is the monitor oscillator (R259). Bit c % 8 of `own` says that the recovered clock of channel c of the group is at least 0.2 ppm from nominal. -/
def State.calMon (s : State) (c : Nat) (own : BitVec 8) : Bool :=
  c ≥ 66 || s.bit R.TDC_CALCFG_MONSRC || !s.chanLink c || !own.getLsbD (c % 8)

/-- Begin a run of group g. -/
def State.calBegin (s : State) (g : Nat) (r : CalRun) : State :=
  let s1 := (s.setCal g (some r)).setBit (R.TDC_CHSTAT_RUN r.chan) true
  s1.wr R.TDC_CALSTAT_BUSY (s1.rd R.TDC_CALSTAT_BUSY ||| 2 ^ g)

/-- The modes in which a new run starts (R262); in DOZE only the groups of awake octets, the time pins and the twin. -/
def State.calMayStart (s : State) (g : Nat) : Bool :=
  s.mode = .dock || (s.mode.fwd && (s.mode != .doze || g ≥ 8 || (s.rd R.PWR_STAT_OCT / 4 ^ g) % 4 < 2))

/-- A channel may be calibrated in place now (R267): a time pin that is not in use, and a port or twin channel on its own clock, or on the monitor oscillator where R259 gives it that signal for want of a link or by `MONSRC`. -/
def State.calInplaceMay (s : State) (own : BitVec 8) (c : Nat) : Bool :=
  if c ≥ 66 then !s.pinUsed c else own.getLsbD (c % 8) || s.calMon c 255

/-- Start a run on a group that holds its burst grant (R262, R264, R267). -/
def State.calStart (s : State) (g : Nat) (own : BitVec 8) : State :=
  if !s.calMayStart g || (s.cal g).isSome || !s.power.calGrant.contains g then s
  else if s.spareFree g then
    match s.calFirst (calChans g) with
    | some c =>
      if s.spareReady g && !s.bit (R.TDC_CHSTAT_PEND (calSpare g)) then s.calBegin g { chan := c, phase := .shadow, mon := s.calMon c own }
      else s.calBegin g { chan := calSpare g, phase := .spareCollect, mon := true }
    | none =>
      if s.bit (R.TDC_CHSTAT_PEND (calSpare g)) then s.calBegin g { chan := calSpare g, phase := .spareCollect, mon := true } else s
  else
    match s.calFirst ((calChans g).filter (s.calInplaceMay own)) with
    | some c => s.calBegin g { chan := c, phase := .inplace, mon := s.calMon c own }
    | none => s

/-- The stand-in of a group ends: the channel serves itself again (R266). -/
def State.handBack (s : State) (g c : Nat) : State :=
  if s.rd (R.TDC_CHSTAT_STATE (calSpare g)) = 4 then
    ((s.wr (R.TDC_CHSTAT_STATE (calSpare g)) 2).wr (R.TDC_CHSTAT_SUBST (calSpare g)) 0).wr (R.TDC_CHSTAT_SUBST c) 0
  else s

/-- A run ends: `RUN` and `BUSY` fall, the stand-in ends and the burst's grant with it (R354). -/
def State.calEnd (s : State) (g : Nat) : State :=
  match s.cal g with
  | none => s
  | some r =>
    let s1 := ((s.handBack g r.chan).setCal g none).setBit (R.TDC_CHSTAT_RUN r.chan) false
    let s2 := s1.wr R.TDC_CALSTAT_BUSY (s1.rd R.TDC_CALSTAT_BUSY &&& (1023 - 2 ^ g))
    ({ s2 with power := { s2.power with calGrant := s2.power.calGrant.filter (· != g) } }).calAsk g

/-- A table is accepted (R266): it is in force at full grade, with the present temperature and the signal it came from. -/
def State.calAccept (s : State) (c : Nat) (counts : List Nat) (mon : Bool) : State :=
  let s1 := s.setBins c (tableOf counts)
  let s2 := s1.setTdc c { s1.tdc c with rejects := 0 }
  let w := s2.reg (A.TDC_CHSTAT c)
  let w := (R.TDC_CHSTAT_GRADE c).put w 2
  let w := (R.TDC_CHSTAT_PEND c).put w 0
  let w := (R.TDC_CHSTAT_TCAL c).put w (BitVec.ofInt 10 (s.chanTemp c)).toNat
  let w := (R.TDC_CHSTAT_SRC c).put w (if mon then 1 else 0)
  (s2.setReg (A.TDC_CHSTAT c) w).count (.tdc c 0)

/-- A run is rejected (R260, R266): the old table stays; the third rejection in a row sets `CAL_BAD`. -/
def State.calReject (s : State) (c : Nat) : State :=
  let n := (s.tdc c).rejects + 1
  let s1 := (s.count (.tdc c 1)).setTdc c { s.tdc c with rejects := n }
  if n ≥ 3 then (s1.setBit (R.TDC_CHSTAT_CAL_BAD c) true).syncVec 8 else s1

/-- A run is aborted (R263): the old table stays and the channel stays pending. -/
def State.calAbort (s : State) (g : Nat) : State := s.calEnd g

/-- A run of port or twin channel c that lives on its own recovered clock ends with the link (R263). -/
def State.calLinkLost (s : State) (c : Nat) : State :=
  match s.cal (calGroup c) with
  | some r => if r.chan = c && !r.mon then s.calAbort (calGroup c) else s
  | none => s

/-- An in-place run of a time pin ends when the pin comes into use (R267): the old table stays and the channel stays pending. -/
def State.calPinTaken (s : State) : State :=
  match s.cal 8 with
  | some r => if r.phase = .inplace && s.pinUsed r.chan then s.calAbort 8 else s
  | none => s

/-- The collection of group g ends with the counts of its bins; `moved` says that its phase moved by at least 50 ns (R258, R260). -/
def State.calCollected (s : State) (g : Nat) (counts : List Nat) (moved : Bool) : State :=
  match s.cal g with
  | some r =>
    match r.phase with
    | .collect => s.setCal g (some { r with phase := .compute, counts := counts, moved := moved })
    | .spareCollect => s.setCal g (some { r with phase := .spareCompute, counts := counts, moved := moved })
    | .spareCompute | .shadow | .compute | .verify | .inplace => s
  | none => s

/-- The collection is tested and its table formed (R260). A phase that moved too little is collected again from the monitor oscillator. -/
def State.calComputed (s : State) (g : Nat) (own : BitVec 8) : State :=
  match s.cal g with
  | some r =>
    match r.phase with
    | .compute =>
      if !r.moved then (if r.mon then s.calEnd g else s.setCal g (some { r with phase := .collect, mon := true, counts := [] }))
      else if !countsOk r.counts then (s.calReject r.chan).calEnd g
      else s.setCal g (some { r with phase := .verify })
    | .spareCompute =>
      if !r.moved then s.calEnd g
      else if !countsOk r.counts then (s.calReject r.chan).calEnd g
      else
        let s1 := (s.calAccept r.chan r.counts true).setBit (R.TDC_CHSTAT_RUN r.chan) false
        match s1.calFirst (calChans g) with
        | some c => s1.calBegin g { chan := c, phase := .shadow, mon := s1.calMon c own }
        | none => s1.calEnd g
    | .spareCollect | .shadow | .collect | .verify | .inplace => s
  | none => s

/-- The shadow ends with Δ in 2^-8 ps, and the spare takes over (R264, R265). -/
def State.calShadowed (s : State) (g : Nat) (Δ : BitVec 16) : State :=
  match s.cal g with
  | some r =>
    if r.phase = .shadow then
      let sp := calSpare g
      let s1 := (s.setCal g (some { r with phase := .collect })).wr (R.TDC_CHDELTA_DELTA r.chan) Δ.toNat
      ((s1.wr (R.TDC_CHSTAT_STATE sp) 4).wr (R.TDC_CHSTAT_SUBST sp) r.chan).wr (R.TDC_CHSTAT_SUBST r.chan) sp
    else s
  | none => s

/-- The verify phase ends with a mean and an rms in 2^-8 ps: accepted where both are at most 8 ps in magnitude (R266). -/
def State.calVerified (s : State) (g : Nat) (mean : Int) (rms : Nat) : State :=
  match s.cal g with
  | some r =>
    if r.phase = .verify then
      (if mean.natAbs ≤ 2048 && rms ≤ 2048 then s.calAccept r.chan r.counts r.mon else s.calReject r.chan).calEnd g
    else s
  | none => s

/-- An in-place collection ends (R267): R260 is the only test. -/
def State.calInplace (s : State) (g : Nat) (counts : List Nat) (moved : Bool) : State :=
  match s.cal g with
  | some r =>
    if r.phase = .inplace then
      (if !moved then s else if countsOk counts then s.calAccept r.chan counts r.mon else s.calReject r.chan).calEnd g
    else s
  | none => s

/-! ## Straight lines (R228, R278) -/

/-- Sums of a least-squares fit of y over x, as integers: with n points, the slope is `b / a` and the sum of squared residuals is `(c - b² / a) / n`. -/
structure LineFit where
  n : Int := 0
  sx : Int := 0
  sy : Int := 0
  a : Int := 0
  b : Int := 0
  c : Int := 0
  deriving DecidableEq, Repr

def fitLine (l : List (Int × Int)) : LineFit :=
  let n : Int := l.length
  let sum (f : Int × Int → Int) : Int := l.foldl (fun acc p => acc + f p) 0
  let sx := sum (·.1)
  let sy := sum (·.2)
  { n := n, sx := sx, sy := sy, a := n * sum (fun p => p.1 * p.1) - sx * sx, b := n * sum (fun p => p.1 * p.2) - sx * sy
    c := n * sum (fun p => p.2 * p.2) - sy * sy }

/-! ## The link phase tracker (R228) -/

def State.tracker (s : State) (p : Nat) : Tracker := storeGet (fun _ => {}) s.trackers p
def State.setTracker (s : State) (p : Nat) (x : Tracker) : State := { s with trackers := storeSet (fun _ => {}) s.trackers p x }

/-- Measurements that a lock needs. -/
def trackerFull : Nat := 4096

/-- 1024 nominal periods of the recovered clock, which is the line rate over 66 (over 10 at 1.25 Gbit/s), in 2^-48 ns / 100 (R225, R228): 2621.44, 6553.6 or 8192 ns. -/
def PortMode.edges1024 : PortMode → Nat
  | .r25 => 262144 * nsUnit | .r100 => 262144 * nsUnit
  | .r10 => 655360 * nsUnit
  | .x1 => 819200 * nsUnit | .sgmii => 819200 * nsUnit

/-- The fit of the last measurements, from the newest: instants over edge numbers. -/
def Tracker.fit (x : Tracker) : LineFit :=
  match x.ms with
  | [] => {}
  | (k0, t0) :: _ => fitLine (x.ms.map fun m => ((m.1 : Int) - (k0 : Int), m.2 - t0))

/-- The rms residual of the fit is at most 8 ps. -/
def Tracker.tight (x : Tracker) : Bool :=
  let F := x.fit
  decide (F.c * F.a - F.b * F.b ≤ F.n * F.n * F.a * (2251799813685 * 2251799813685))

/-- The frequency estimate: the peer's transmit clock against TIME in 2^-4 ppb (R230). -/
def State.trackerFreq (s : State) (p : Nat) : Int :=
  let F := (s.tracker p).fit
  let per : Int := (s.link p).mode.edges1024
  if F.b ≤ 0 then 0 else 16000000000 * (per * F.a - 100 * F.b) / (100 * F.b)

/-- The tracker's prediction of the recovered-clock edge nearest to an instant on TIME in 2^-48 ns. -/
def State.trackerEdge (s : State) (p : Nat) (t : Int) : Int :=
  let F := (s.tracker p).fit
  match (s.tracker p).ms with
  | [] => t
  | (_, t0) :: _ =>
    if F.b ≤ 0 then t
    else
      let at0 := t0 + (F.sy * F.a - F.b * F.sx) / (F.n * F.a)
      let j := (2 * (t - at0) * 1024 * F.a + F.b) / (2 * F.b)
      at0 + j * F.b / (1024 * F.a)

/-- The tracker of port p restarts after a slip. -/
def State.trackerSlip (s : State) (p : Nat) : State :=
  (s.setTracker p { s.tracker p with ms := [] }).setBit (R.PTP_PSTAT_FINE_LOCK p) false

/-- The tracker of port p ends with its link. -/
def State.trackerReset (s : State) (p : Nat) : State := (s.setTracker p {}).setBit (R.PTP_PSTAT_FINE_LOCK p) false

/-- The number of an edge at `t`, in units of 1024 edges: the nearest to the time that has passed since the last one. -/
def State.trackerNum (s : State) (p : Nat) (t : Int) : Nat :=
  match (s.tracker p).last with
  | none => 0
  | some (k, t0) =>
    let per : Int := (s.link p).mode.edges1024
    k + max 1 ((200 * (t - t0) + per) / (2 * per)).toNat

/-- A tracker measurement of a recovered-clock edge with code `code`, whose stop edge is the present TIME edge: the fit and its lock are formed anew. -/
def State.trackerSample (s : State) (p code : Nat) : State :=
  if !s.bit (R.PTP_PORT_FINE p) || !(s.link p).up then s
  else
    match s.measure p code with
    | (s1, none) => s1
    | (s1, some (i, _)) =>
      let t := ((s.tb * nsUnit : Nat) : Int) - i
      let k := s1.trackerNum p t
      let x : Tracker := { last := some (k, t), ms := ((k, t) :: (s1.tracker p).ms).take trackerFull }
      (s1.setTracker p x).setBit (R.PTP_PSTAT_FINE_LOCK p) (decide (trackerFull ≤ x.ms.length) && x.tight)

end Sys2Proof.Machine
end

