-- ==== Sys2Proof/Machine/PowerOps.lean ====
section
/-! DEFINITION. Clocks and power: the operating points (R340, R341), CLKOBS (R346), the power states of the octets and the wake from P3 (R347 to R352), and the power arbiter (R353 to R355). -/

namespace Sys2Proof.Machine

/-! ## Clocks (R337, R340) -/

/-- Voltage in mV and CORE in MHz of a point of Table 12-3. -/
def lvfMv (p : Nat) : Nat := if p = 0 then 720 else if p = 1 then 750 else if p = 2 then 775 else 800
def lvfMhz (p : Nat) : Nat := if p = 0 then 768 else if p = 1 then 896 else 1024
/-- Charged full-load total of a point in 0.1 W (Table 12-3). -/
def lvfTotal (p : Nat) : Nat := if p = 0 then 275 else if p = 1 then 299 else if p = 2 then 324 else 333

/-- The sequencer is in control: `LVF_STAT.ACTIVE`. -/
def State.lvfOn (s : State) : Bool := s.bit R.LVF_STAT_ACTIVE

/-- The cap in W (`PWR_BUDGET.CAP`): at most the class, at least 24. -/
def State.classW (s : State) : Nat :=
  let c := s.sys.straps.toNat / 256 % 4
  if c = 0 then 40 else if c = 1 then 32 else 48
def State.capW (s : State) : Nat := min s.classW (max 24 (s.rd R.PWR_BUDGET_CAP))

/-- The dividers in force for a written `CLK_CFG`: clamped to their floors and `ENG_DIV` to 64 (Table 12-10). -/
def State.cfgEngDiv (s : State) : Nat := min 64 (max 8 (s.rd R.CLK_CFG_ENG_DIV))
def State.cfgMbusDiv (s : State) : Nat := max 16 (s.rd R.CLK_CFG_MBUS_DIV)

/-- At an Orbit start a divider written at least 2 µs ago takes effect (R338). -/
def State.applyClk (s : State) : State :=
  match s.clk.divWrite with
  | some t => if t + twoUs ≤ s.tb then
      { s with clk := { s.clk with engDiv := s.cfgEngDiv, mbusDiv := s.cfgMbusDiv, divWrite := none } } else s
  | none => s

/-- Begin step 2 of R341: the CORE clock tree stops until its restart. -/
def State.coreStop (s : State) : State := { s with clk := { s.clk with stopped := true } }

/-- A write of `LVF_CTRL` (R341): accepted in DOCK, for a point within the cap, with no change in progress; otherwise ignored with `REFUSED`. Values that stand start no change (log entry 112). -/
def State.lvfWrite (s : State) (v : Word) : State :=
  let en := v.getLsbD 0
  let pt := v.toNat / 2 % 4
  if s.mode ≠ .dock || s.clk.change.isSome || (en && lvfTotal pt > 10 * s.capW) then s.setBit R.LVF_STAT_REFUSED true
  else if s.bit R.LVF_CTRL_EN = en && s.rd R.LVF_CTRL_POINT = pt then s
  else
    let s1 := (s.setBit R.LVF_CTRL_EN en).wr R.LVF_CTRL_POINT pt
    let mv := if en then lvfMv pt else 750
    let up := decide (s.rd R.LVF_STAT_VREQ < mv)
    let s2 := { s1 with clk := { s1.clk with change := some (en, pt, up) } }
    if up then (s2.wr R.LVF_STAT_VREQ mv).setBit R.LVF_STAT_WAIT true else s2.coreStop

/-- `LVF_ACK.ACK` confirms the voltage (R341); it is ignored while `WAIT` is 0. -/
def State.lvfAck (s : State) : State :=
  if !s.bit R.LVF_STAT_WAIT then s
  else
    let s1 := s.setBit R.LVF_STAT_WAIT false
    match s1.clk.change with
    | some (_, _, true) => s1.coreStop
    | _ => s1

/-- PLL k loses lock or relocks (R339): 0 TIME, 1 CORE, 2 PCIe, 3 to 10 the octets' SerDes PLLs, 11 the twin's. The timebase PLL is not meant. -/
def State.pllUnlock (s : State) (k : Nat) : State :=
  if k = 0 then s
  else if k = 11 then (s.setBit R.CLK_STAT_TW_LOCK false).setBit R.CLK_STAT_TW_UNLOCK true
  else (s.setBit ⟨A.CLK_STAT, k, 1⟩ false).setBit ⟨A.CLK_STAT, 16 + k, 1⟩ true
def State.pllRelock (s : State) (k : Nat) : State :=
  if k = 0 then s else if k = 11 then s.setBit R.CLK_STAT_TW_LOCK true else s.setBit ⟨A.CLK_STAT, k, 1⟩ true

/-- REFCLK in kHz for the strap (R24). -/
def State.refKhz (s : State) : Nat :=
  let c := s.sys.straps.toNat % 8
  if c = 0 then 25000 else if c = 1 then 38880 else if c = 2 then 100000 else if c = 3 then 125000 else 156250

/-- A lane's block clock in kHz (Table 12-4). -/
def PortMode.blockKhz : PortMode → Nat
  | .r25 => 390625 | .r100 => 390625 | .r10 => 156250 | .x1 => 125000 | .sgmii => 125000

/-- The lane's link: its own port's, or that of the bonded port 4k. -/
def State.laneLink (s : State) (l : Nat) : Link := if s.absent l then s.link (l - l % 4) else s.link l

/-- ENG and MBUS in kHz as a fraction (R337, R340). -/
def State.engHz (s : State) : Nat × Nat := if s.lvfOn then (s.clk.core * 1000, 2) else (4096000, s.clk.engDiv)
def State.mbusHz (s : State) : Nat × Nat := if s.lvfOn then (s.clk.core * 1000, 4) else (4096000, s.clk.mbusDiv)

/-- The frequency of a CLKOBS source in kHz, as a fraction (Table 12-4); 12 to 15 act as 0. -/
def State.obsHz (s : State) (src sel : Nat) : Nat × Nat :=
  if src = 1 then (s.refKhz, 1) else if src = 2 then (1000000, 1) else if src = 3 then (s.clk.core * 1000, 1)
  else if src = 4 then s.engHz else if src = 5 then s.mbusHz else if src = 6 then (100000, 1) else if src = 7 then (199600, 1)
  else if src = 8 || src = 9 then ((s.laneLink sel).mode.blockKhz, 1) else if src = 10 then (390625, 1)
  else if src = 11 then ((250000 * (281474976710656 + s.rho (sel % 8))).toNat, 281474976710656)
  else (0, 1)

/-- `CLKOBS_CFG.BAD` (R346): the output would exceed 250 MHz. -/
def State.obsBad (s : State) : Bool :=
  let (n, d) := s.obsHz (s.rd R.CLKOBS_CFG_SRC) (s.rd R.CLKOBS_CFG_SEL)
  decide (250000 * d * (s.rd R.CLKOBS_CFG_DIV + 1) < n)

/-- The source that the CLKOBS pin gives out now, 0 where it stands low: in reset, STRAP and BOOT (R21), and where the output would exceed 250 MHz (R38, R346). It is a view: a source that rises past the limit leaves the pin low at once. -/
def State.clkobsPin (s : State) : Nat := if s.mode = .strap || s.mode = .boot || s.obsBad then 0 else s.rd R.CLKOBS_CFG_SRC

/-- The pin is held low, then follows what its register names. -/
def State.clkobsOut (s : State) : State := s.emit (.clkobs s.clkobsPin (s.rd R.CLKOBS_CFG_SEL) (s.rd R.CLKOBS_CFG_DIV))

/-- A write of `CLKOBS_CFG`: in STRAP and BOOT the pin stays low and follows it afterwards (R21); else it is held low, then follows the new fields (R346). -/
def State.clkobsWrite (s : State) (v : Word) : State :=
  let s1 := s.setReg A.CLKOBS_CFG (v &&& 0xFFFFFBFF)
  if s1.mode = .strap || s1.mode = .boot then s1 else s1.clkobsOut

/-- What an event that moved the frequency of its source does to the CLKOBS pin: it goes low, or is driven again, where the limit of R38 now says so. -/
def State.clkobsAfter (s s0 : State) : State := if s.clkobsPin = s0.clkobsPin then s else s.clkobsOut

/-- The CORE clock tree restarts at the new frequency (R341): `CUR` and `ACTIVE` take the new point, and a falling voltage is asked for now. -/
def State.coreRestart (s : State) : State :=
  match s.clk.change with
  | none => { s with clk := { s.clk with stopped := false } }
  | some (en, pt, up) =>
    if !s.clk.stopped then s
    else
      let s1 := if en then (s.wr R.LVF_STAT_CUR pt).setBit R.LVF_STAT_ACTIVE true else s.setBit R.LVF_STAT_ACTIVE false
      let s2 := { s1 with clk := { s1.clk with core := (if en then lvfMhz pt else 1024), stopped := false, change := none } }.clkobsAfter s
      let mv := if en then lvfMv pt else 750
      if !up && decide (mv < s.rd R.LVF_STAT_VREQ) then (s2.wr R.LVF_STAT_VREQ mv).setBit R.LVF_STAT_WAIT true else s2

/-! ## Charges (Table 12-7) -/

/-- An octet's power state (`PWR_STAT.OCT`): 0 P0, 1 P1, 2 P2, 3 disabled. -/
def State.octPower (s : State) (o : Nat) : Nat := s.rd R.PWR_STAT_OCT / 4 ^ o % 4
def State.setOct (s : State) (o v : Nat) : State :=
  let w := s.rd R.PWR_STAT_OCT
  s.wr R.PWR_STAT_OCT (w - s.octPower o * 4 ^ o + v % 4 * 4 ^ o)

/-- The charge of a lane with link up, in 0.01 W. -/
def PortMode.charge : PortMode → Nat
  | .r25 => 25 | .r100 => 25 | .r10 => 15 | .x1 => 5 | .sgmii => 5

/-- The charges in force in units of 0.01 W / (750² × 1024): the fabric and the octet cores are scaled by voltage and frequency while the sequencer is in control (R353). -/
def chargeUnit : Nat := 576000000
def State.charges (s : State) : Nat :=
  let core := (if s.bit R.PWR_STAT_P3 then 0 else 500) +
    ((List.range 8).map fun o => let v := s.octPower o; if v = 0 then 100 else if v = 1 then 60 else if v = 2 then 25 else 0).sum
  let lanes := ((List.range 64).map fun l =>
    if s.power.trainGrant.contains l then 60 else if (s.laneLink l).up then (s.laneLink l).mode.charge else 0).sum
  let rest := 250 + lanes + 15 * s.power.calGrant.length
  let k := if s.lvfOn then lvfMv (s.rd R.LVF_STAT_CUR) ^ 2 * s.clk.core else chargeUnit
  rest * chargeUnit + core * k

/-- `PWR_BUDGET.CHARGE` in 1/16 W, and `PWR_ARB.OVER`. -/
def State.charge16 (s : State) : Nat := s.charges * 16 / (100 * chargeUnit)
def State.overCap (s : State) : Bool := decide (100 * s.capW * chargeUnit < s.charges)

/-- A burst of `w` (0.01 W) fits the cap, and grants are not withheld by heat (R353, R355). -/
def State.fits (s : State) (w : Nat) : Bool := !s.sys.alarm && decide (s.charges + w * chargeUnit ≤ 100 * s.capW * chargeUnit)

/-- Grant one waiting burst: training before calibration, the oldest of its kind first; a burst that does not fit blocks only its own kind (R354). -/
def State.arbGrant (s : State) : State :=
  match s.power.trainWait with
  | l :: t =>
    if s.fits 60 then { s with power := { s.power with trainWait := t, trainGrant := l :: s.power.trainGrant } }
    else match s.power.calWait with
      | g :: u => if s.fits 15 then { s with power := { s.power with calWait := u, calGrant := g :: s.power.calGrant } } else s
      | [] => s
  | [] =>
    match s.power.calWait with
    | g :: u => if s.fits 15 then { s with power := { s.power with calWait := u, calGrant := g :: s.power.calGrant } } else s
    | [] => s

/-- A lane asks for training (R354); one that waits or trains is left. -/
def State.trainAsk (s : State) (l : Nat) : State :=
  if s.power.trainWait.contains l || s.power.trainGrant.contains l then s
  else { s with power := { s.power with trainWait := s.power.trainWait ++ [l] } }

/-- A lane's training ends: its grant, or its place among those that wait, is given up. -/
def State.trainDone (s : State) (l : Nat) : State :=
  { s with power := { s.power with trainWait := s.power.trainWait.filter (· != l), trainGrant := s.power.trainGrant.filter (· != l) } }

/-! ## Power states (R348 to R352) -/

/-- Octet o begins to leave P1 or P2; its exit completes by its own event. -/
def State.octExit (s : State) (o : Nat) : State :=
  let p := s.octPower o
  if (p = 1 || p = 2) && !s.power.exiting.contains o then
    let s1 := { s with power := { s.power with exiting := o :: s.power.exiting, exitTb := storeSet (fun _ => 0) s.power.exitTb o s.tb } }
    if p = 2 then s1.setBit R.PWR_STAT_EXITING true else s1
  else s

/-- TB_CYC at which the exit in progress of octet o, or of the device for 8, has taken its latency of Table 12-5. -/
def State.exitEnd (s : State) (o : Nat) : Nat :=
  storeGet (fun _ => 0) s.power.exitTb o + (if o = 8 then 400000 else if s.octPower o = 2 then 40000 else 2000)

/-- Octet o has completed its exit (R345, Table 12-5); the engine of an octet that was parked resumes 2 µs later at the earliest (Table 5-6). -/
def State.octExitDone (s : State) (o : Nat) : State :=
  if s.power.exiting.contains o then
    let s0 := if s.octPower o = 2 && (s.eng o).started && (!(s.eng o).held || (s.eng o).resumeFrom.isSome) then s.setEng o { s.eng o with resumeFrom := some s.tb } else s
    let s1 := ({ s0 with power := { s0.power with exiting := s0.power.exiting.filter (· != o) } }).setOct o 0
    if s1.power.devExit || s1.power.exiting.any (fun k => s1.octPower k == 2) then s1 else s1.setBit R.PWR_STAT_EXITING false
  else s

/-- The device leaves P3 for an event of Table 12-6, `bits` being its bits of `PWR_WAKE`: its parked octets begin to wake (R352). The mode is the caller's. -/
def State.unpark (s : State) (bits : Nat) : State :=
  if s.mode ≠ .doze then s
  else
    let s1 := s.setReg A.PWR_WAKE (s.reg A.PWR_WAKE ||| .ofNat (bits % 128))
    let s2 := (s1.setBit R.PWR_STAT_P3 false).setBit R.PWR_STAT_EXITING true
    let s3 := { s2 with power := { s2.power with devExit := true, exitTb := storeSet (fun _ => 0) s2.power.exitTb 8 s2.tb } }
    ((List.range 8).foldl (fun s o => if s.octPower o = 2 then s.octExit o else s) s3).syncVec 6

/-- A wake event of Table 12-6: the device leaves P3 and the mode returns to the timing state (R352). -/
def State.wake (s : State) (bits : Nat) : State :=
  if s.mode ≠ .doze then s
  else
    let s1 := s.unpark bits
    s1.toMode s1.tstate.mode 0x17 ((s1.reg A.PWR_WAKE).toNat % 128)

/-- A write of an octet's tolerance: below the exit latency of the state in force its exit begins at once (R348). -/
def State.ltrOct (s : State) (o : Nat) : State :=
  let t := s.rd (R.PWR_LTR_OCT_LTR o)
  if s.octPower o = 1 && t < 2 then s.octExit o
  else if s.octPower o = 2 && t < 40 then s.wake 1
  else s

/-- A write of the device's tolerance below 400 µs wakes it (Table 12-6). -/
def State.ltrDev (s : State) : State := if s.rd R.PWR_LTR_DEV_LTR < 400 then s.wake 1 else s

end Sys2Proof.Machine
end

