-- ==== Sys2Proof/Machine/FabricOps.lean ====
section
/-! DEFINITION. The fabric: buffer pools and admission (R79 to R84, R100), VOQs and cells (R72 to R78), stage 1 and stage 2 with their full bits (R85 to R90), reassembly (R91 to R93), the reservation table (R98, R99), multicast (R94, R95). -/

namespace Sys2Proof.Machine

/-! ## Access -/

def State.voq (s : State) (k : Nat) : Voq := storeGet (fun _ => {}) s.voqs k
/-- A change of a VOQ or transit store; that one holds frames now or held them before is noted for R351. -/
def State.noteBusy (s : State) (busy : Bool) : State := if busy then { s with power := { s.power with busyTb := s.tb } } else s
def State.setVoq (s : State) (k : Nat) (x : Voq) : State :=
  { s with voqs := storeSet (fun _ => {}) s.voqs k x }.noteBusy (!x.q.isEmpty || !(s.voq k).q.isEmpty)
def State.acct (s : State) (k : Nat) : Acct := storeGet (fun _ => {}) s.accts k
def State.setAcct (s : State) (k : Nat) (x : Acct) : State := { s with accts := storeSet (fun _ => {}) s.accts k x }
def State.inter (s : State) (j : Nat) : Inter := storeGet (fun _ => {}) s.inters j
def State.setInter (s : State) (j : Nat) (x : Inter) : State :=
  { s with inters := storeSet (fun _ => {}) s.inters j x }.noteBusy (!x.cells.isEmpty || !(s.inter j).cells.isEmpty)
def State.reasm (s : State) (k : Nat) : Reasm := storeGet (fun _ => {}) s.reasms k
def State.setReasm (s : State) (k : Nat) (x : Reasm) : State := { s with reasms := storeSet (fun _ => {}) s.reasms k x }
def State.egrQ (s : State) (k : Nat) : EgrQ := storeGet (fun _ => {}) s.egrQs k
def State.setEgrQ (s : State) (k : Nat) (x : EgrQ) : State := { s with egrQs := storeSet (fun _ => {}) s.egrQs k x }
def State.egr (s : State) (p : Nat) : Egress := storeGet (fun _ => {}) s.egresses p
def State.setEgr (s : State) (p : Nat) (x : Egress) : State := { s with egresses := storeSet (fun _ => {}) s.egresses p x }
def State.wire (s : State) (o : Nat) : List Cell := storeGet (fun _ => []) s.wires o
def State.setWire (s : State) (o : Nat) (x : List Cell) : State := { s with wires := storeSet (fun _ => []) s.wires o x }

/-- Keys of a unicast VOQ and of a multicast queue (R80). -/
def voqKey (src dst cls : Nat) : Nat := 520 * src + 8 * dst + cls
def mcKey (src cls : Nat) : Nat := 520 * src + 512 + cls

/-- The port that a fabric input or output belongs to (R72). -/
def State.lanePort (s : State) (i : Nat) : Nat := if s.absent i then i - i % 4 else i

/-- Octet o is disabled (R54). -/
def State.octOff (s : State) (o : Nat) : Bool := (s.rd R.GLB_BOOT_OCTET_OFF).testBit o

/-- The port's link is up; a port of a disabled octet or an absent port is down. -/
def State.portUp (s : State) (p : Nat) : Bool := (s.link p).up && !s.absent p && !s.octOff (p / 8)

/-! ## Class settings -/

/-- The class MTU in force (Table 3-11). -/
def State.classMtu (s : State) (c : Nat) : Nat := min 9216 (max 64 (s.rd (R.FAB_CLASS_MTU c)))
def State.sched (s : State) (c : Nat) : Bool := s.bit (R.FAB_CLASS_SCHED c)
/-- The age limit in ns; 0 is off. -/
def State.ageLimit (s : State) (c : Nat) : Nat :=
  let v := s.rd (R.FAB_AGE_LIMIT c)
  if v = 0 then 0 else min 2100000000 (max 1000 v)

/-- Classes in the order of Table 3-5 step 2: scheduled classes first, each from TC7 down. -/
def State.classOrder (s : State) : List Nat :=
  let all := [7, 6, 5, 4, 3, 2, 1, 0]
  all.filter s.sched ++ all.filter (fun c => !s.sched c)

/-- The step-free count of the orbit domain in whole ns modulo 2^32 (R106). -/
def State.ageNow (s : State) : Nat := s.orbDom.sf / nsUnit % 4294967296
def State.age (s : State) (stamp : Nat) : Nat := (s.ageNow + 4294967296 - stamp) % 4294967296
/-- A frame of class c exceeds its age limit. -/
def State.aged (s : State) (c stamp : Nat) : Bool := s.ageLimit c != 0 && decide (s.ageLimit c < s.age stamp)

/-! ## Pools and admission (R79 to R84) -/

/-- Units of a frame of L bytes. -/
def unitsOf (L : Nat) : Nat := (L + 127) / 128

/-- Account of (port, class). -/
def acctKey (p c : Nat) : Nat := 8 * p + c
def Acct.used (a : Acct) : Nat := a.min + a.shr + a.hdr

/-- Sum over the 64 accounts of an octet. -/
def octSum (o : Nat) (f : Nat → Nat) : Nat := ((List.range 64).map fun k => f (64 * o + k)).sum

def State.poolUsed (s : State) (o : Nat) : Nat := octSum o fun k => (s.acct k).used
def State.poolFree (s : State) (o : Nat) : Nat := s.rd (R.POOL_STAT_CAP o) - s.poolUsed o
/-- `POOL_SHR.RESERVED`: the sum of every minimum and headroom reserve of the octet. -/
def State.poolReserved (s : State) (o : Nat) : Nat :=
  octSum o fun k => s.rd (R.ADM_RSV_MIN (k / 8) (k % 8)) + s.rd (R.ADM_RSV_HDRM (k / 8) (k % 8))
/-- `POOL_SHR.OVERCOMMIT` (R84). -/
def State.overcommit (s : State) (o : Nat) : Bool := decide (s.rd (R.POOL_STAT_CAP o) < s.poolReserved o + 2048)
/-- SHARED_FREE (R81). -/
def State.sharedFree (s : State) (o : Nat) : Nat := s.rd (R.POOL_STAT_CAP o) - s.poolReserved o - octSum o fun k => (s.acct k).shr

/-- The class is lossless on the port (Table 3-4). -/
def State.lossless (s : State) (p c : Nat) : Bool :=
  (s.rd (R.PORT_FWD_PFC_TX p)).testBit c ||
    (s.bit (R.PORT_FWD_PAUSE_TX p) && s.rd (R.PORT_FWD_PFC_TX p) == 0 && s.rd (R.PORT_FWD_PFC_RX p) == 0)

/-- The account's shared units are below its dynamic limit α × SHARED_FREE, or below half of it for a DE frame (R81); values of `ALPHA` above 9 act as 9. -/
def State.belowLimit (s : State) (p c : Nat) (de : Bool) : Bool :=
  decide ((s.acct (acctKey p c)).shr * (if de then 128 else 64) < 2 ^ min 9 (s.rd (R.ADM_SHR_ALPHA p c)) * s.sharedFree (p / 8))

/-- What admission does with a frame: the units taken from each tier, or the drop (Table 3-4, R82); the flag says that it failed the shared tier. -/
inductive Admit where
  | units (m s h : Nat) (failedShared : Bool)
  | refused
  | truncated (failedShared : Bool)
  deriving DecidableEq, Repr

/-- Admission of a frame of n units: the first tier whose condition holds, then the shared region while it is open, then the headroom of a lossless class; no tier gives more than the pool has free. -/
def State.takeUnits (s : State) (p c : Nat) (de : Bool) (n : Nat) : Admit :=
  let o := p / 8
  let a := s.acct (acctKey p c)
  let free := s.poolFree o
  let mRoom := s.rd (R.ADM_RSV_MIN p c) - a.min
  let open' := !s.overcommit o
  let sRoom := if open' then s.sharedFree o else 0
  let hRoom := if s.lossless p c then s.rd (R.ADM_RSV_HDRM p c) - a.hdr else 0
  let give (m sh h : Nat) (fs : Bool) : Admit := if m + sh + h = n then .units m sh h fs else .truncated fs
  if 0 < mRoom then
    let m := min n (min free mRoom)
    let sh := min (n - m) (min (free - m) sRoom)
    give m sh (min (n - m - sh) (min (free - m - sh) hRoom)) (decide (m + sh < n))
  else if open' && s.belowLimit p c de then
    let sh := min n (min free sRoom)
    give 0 sh (min (n - sh) (min (free - sh) hRoom)) (decide (sh < n))
  else if 0 < hRoom then
    let h := min n (min free hRoom)
    give 0 (min (n - h) (min (free - h) sRoom)) h true
  else .refused

/-- PFC or pause for class c of port p (R100, R101): pause is used where no PFC bit is set. -/
def State.pfcSend (s : State) (p c : Nat) (on : Bool) : State :=
  let pause := s.rd (R.PORT_FWD_PFC_TX p) == 0
  let quanta := if on then max 1 (s.rd (R.PORT_PFC_QUANTA p)) else 0
  (s.emit (.pfc p (if pause then 0 else 2 ^ c) pause quanta)).count (.port p (0x20 + if pause then 0 else c))

/-- Assert XOFF for a lossless class whose frame failed the shared tier (R100). -/
def State.xoffSet (s : State) (p c : Nat) : State :=
  let e := s.egr p
  if !s.lossless p c || e.xoff.testBit c then s
  else (s.setEgr p { e with xoff := e.xoff + 2 ^ c }).pfcSend p c true

/-- Release XOFF where both conditions of R100 hold; a pause stands while any class of the port would assert it. -/
def State.xoffCheck (s : State) (p c : Nat) : State :=
  let e := s.egr p
  let a := s.acct (acctKey p c)
  if e.xoff.testBit c && a.hdr == 0 &&
      decide ((a.shr + s.rd (R.ADM_SHR_XON_GAP p c)) * 64 ≤ 2 ^ min 9 (s.rd (R.ADM_SHR_ALPHA p c)) * s.sharedFree (p / 8)) then
    let s1 := s.setEgr p { e with xoff := e.xoff - 2 ^ c }
    if s.rd (R.PORT_FWD_PFC_TX p) == 0 && e.xoff != 2 ^ c then s1 else s1.pfcSend p c false
  else s

/-- Every standing XOFF of octet o is judged again (R100): what another account frees, or a parameter, moves the dynamic limit of each. -/
def State.xoffScan (s : State) (o : Nat) : State :=
  (List.range 64).foldl (fun s k => if (s.egr (8 * o + k / 8)).xoff.testBit (k % 8) then s.xoffCheck (8 * o + k / 8) (k % 8) else s) s

/-- A frame's units return to its account. -/
def State.freeFrame (s : State) (f : Frame) : State :=
  let k := acctKey f.src f.cls
  let a := s.acct k
  (s.setAcct k { min := a.min - f.uMin, shr := a.shr - f.uShr, hdr := a.hdr - f.uHdr }).xoffScan (f.src / 8)

/-! ## Cells (R75 to R78) -/

/-- The header of a cell (Table 3-2) but for `CHK`: byte k is bits 8k + 7 to 8k. -/
def Cell.fields (x : Cell) : BitVec 56 :=
  .ofNat 56 (x.src % 64 + x.dst % 64 * 2 ^ 6 + x.tc % 8 * 2 ^ 12 + (if x.mc then 2 ^ 15 else 0) + x.fnum % 65536 * 2 ^ 16 + x.cidx % 128 * 2 ^ 32 +
    x.first % 128 * 2 ^ 39 + (if x.rsvOut.isSome then 2 ^ 46 else 0) + (x.pieces.map (·.bytes)).sum % 256 * 2 ^ 48)

/-- `CHK`: the CRC-8 over bytes 0 to 6, byte 0 first. -/
def hdrChk (h : BitVec 56) : Nat := crc8 ((List.range 7).map fun k => h.toNat / 256 ^ k % 256)

/-- The eight header bytes of a cell as it is sent. -/
def Cell.header (x : Cell) : BitVec 64 := BitVec.ofNat 8 (hdrChk x.fields) ++ x.fields

/-- What stands in a cell's header as it is received (R78): none where `CHK` fails. -/
def Cell.received (x : Cell) (err : BitVec 64) : Option Cell :=
  if err = 0 then some x else
  let h := x.header ^^^ err
  let f := (h.setWidth 56).toNat
  if hdrChk (h.setWidth 56) ≠ (h >>> 56).toNat then none
  else some { x with src := f % 64, dst := f / 2 ^ 6 % 64, tc := f / 2 ^ 12 % 8, mc := f.testBit 15, fnum := f / 2 ^ 16 % 65536
                     cidx := f / 2 ^ 32 % 128, first := f / 2 ^ 39 % 128 }

/-- The descriptor of a frame (Table 3-3). -/
def Frame.descriptor (f : Frame) : BitVec 64 :=
  .ofNat 64 ((if f.ct then 0 else f.len % 2 ^ 14) + (if f.de then 2 ^ 14 else 0) + (if f.ct then 2 ^ 15 else 0) + f.stamp % 2 ^ 32 * 2 ^ 16 +
    (match f.ctx with | some x => x % 2 ^ 13 * 2 ^ 48 + 2 ^ 61 | none => 0))

/-- The trailer of a cut-through frame (Table 3-3). -/
def Frame.trailer (f : Frame) : BitVec 64 := .ofNat 64 (f.len % 2 ^ 14 + if f.bad then 2 ^ 14 else 0)

/-- Bytes of a frame's stream: descriptor, frame, and a trailer for a cut-through frame. -/
def Frame.stream (f : Frame) : Nat := 8 + f.len + if f.ct then 8 else 0

/-- Bytes of a frame that have come in by `now`: all of a frame that was stored whole. -/
def VEntry.arrived (e : VEntry) (now : Nat) : Nat := match e.rel with | some (t, r) => min e.frame.len ((now - t) * r / 8) | none => e.frame.len

/-- Bytes of an entry's stream that are ready (R76): a cut-through frame releases them in steps of a full cell payload, and what is left when it ends. -/
def VEntry.ready (e : VEntry) (full now : Nat) : Nat :=
  if e.arrived now = e.frame.len then e.frame.stream else (8 + e.arrived now) / full * full

/-- The payload of a full cell. -/
def payload (mc : Bool) : Nat := if mc then 112 else 120

/-- A queue has a byte ready. -/
def State.hasBytes (s : State) (key : Nat) (mc : Bool) : Bool :=
  match (s.voq key).q with | e :: _ => decide (e.sent < e.ready (payload mc) s.tb) | [] => false

/-- The next bytes of a VOQ for a cell with `room` bytes left, of those ready: the pieces, the entries that stay, and the frames sent whole. Frames with different replication bitmaps do not share a cell. -/
def takeBytes (full now bitmap : Nat) : Nat → List VEntry → List Piece × List VEntry × List Frame
  | _, [] => ([], [], [])
  | room, e :: t =>
    if room = 0 || e.bitmap != bitmap || e.ready full now ≤ e.sent then ([], e :: t, [])
    else
      let rem := e.frame.stream - e.sent
      let n := min room (e.ready full now - e.sent)
      let pc : Piece := { fnum := e.fnum, bytes := n, head := if e.sent = 0 then some e.frame else none, tail := n == rem, bad := n == rem && e.frame.bad }
      if n = rem then
        let (ps, rest, fr) := takeBytes full now bitmap (room - n) t
        (pc :: ps, rest, e.frame :: fr)
      else ([pc], { e with sent := e.sent + n, cells := e.cells + 1 } :: t, [])

/-- Payload offset of the first descriptor that begins in the cell, 127 where none does. -/
def firstHead : List Piece → Nat → Nat
  | [], _ => 127
  | p :: t, off => if p.head.isSome then off else firstHead t (off + p.bytes)

/-- Form the next cell of a queue and send it to intermediate j (R75, R85), which discards it where its `CHK` fails (R78). A frame's units return together when the last byte of its stream has left its VOQ (DESIGN CHOICE, log entry 142). -/
def State.sendCell (s : State) (key src dst cls : Nat) (mc : Bool) (rsv : Option Nat) (j : Nat) (err : BitVec 64) : State :=
  let v := s.voq key
  match v.q with
  | [] => s
  | e :: _ =>
    let (ps, rest, fr) := takeBytes (payload mc) s.tb e.bitmap (payload mc) v.q
    let cell : Cell := { src := src, dst := (if mc then 0 else dst), tc := cls, mc := mc, bitmap := e.bitmap, fnum := e.fnum,
                         cidx := e.cells, first := firstHead ps 0, rsvOut := rsv, pieces := ps }
    let s1 := s.setVoq key { v with q := rest }
    let x := s1.inter j
    fr.foldl State.freeFrame (match cell.received err with | some y => s1.setInter j { x with cells := x.cells ++ [y] } | none => s1)

/-! ## Stage 1 (R85, R86) -/

/-- Offset of a reservation entry (Table 3-12). -/
def rsvAddr (b : Bool) (k : Nat) : Nat := 0x2001000 + (if b then 0x4000 else 0) + 4 * k

/-- The valid reservation of (slot, input) in the active bank: its class and output. -/
def State.rsvEntry (s : State) (t i : Nat) : Option (Nat × Nat) :=
  let w := (s.reg (rsvAddr (s.bit R.FAB_CTRL_RSV_ACTIVE) (64 * t + i))).toNat
  if w / 2147483648 = 1 && !s.rsvIgnored.contains (64 * t + i) then some (w / 256 % 8, w % 64) else none

/-- Members 0 to 63 are the unicast VOQs of a class, 64 its multicast queue; those with a cell that intermediate j and the egress may take. -/
def State.eligible (s : State) (p c j m : Nat) : Bool :=
  let x := s.inter j
  if m = 64 then s.hasBytes (mcKey p c) true && !x.mcFull
  else s.hasBytes (voqKey p m c) false && !x.fullAll && !x.full.contains (8 * m + c) && !s.egrFull.contains (8 * m + c) && s.portUp m

/-- Stage 1 of one input in slot t: Table 3-5. A VOQ for a port that is down is never eligible, not for its reservation either (R86). The member last served is kept per fabric input and class, and the first search tries member 0 first (DESIGN CHOICE, log entry 143). -/
def State.stage1 (s : State) (t i : Nat) (err : BitVec 64) : State :=
  let p := s.lanePort i
  let j := (i + t) % 64
  let free : State :=
    match (s.classOrder.findSome? fun c =>
      let last := storeGet (fun _ => 64) s.rr (8 * i + c)
      ((List.range 65).map fun n => (last + 1 + n) % 65).find? (s.eligible p c j) |>.map fun m => (c, m)) with
    | some (c, m) =>
      let s1 := { s with rr := storeSet (fun _ => 64) s.rr (8 * i + c) m }
      if m = 64 then s1.sendCell (mcKey p c) p 0 c true none j err else s1.sendCell (voqKey p m c) p m c false none j err
    | none => s
  match s.rsvEntry t i with
  | some (c, o) =>
    let d := s.lanePort o
    if !s.hasBytes (voqKey p d c) false || !s.portUp d then free else s.sendCell (voqKey p d c) p d c false (some o) j err
  | none => free

/-! ## Egress memory (R89, R93) -/

/-- Units of egress memory an octet has for its queues: 4096 less a resequencing area of 64 per port. -/
def egrCap : Nat := 4096 - 64 * 8
def State.egrUsed (s : State) (o : Nat) : Nat := octSum o fun k => (s.egrQ k).units

/-- The length a descriptor gives: `LEN`, or the class MTU where it is 0 (R93). -/
def State.descLen (s : State) (f : Frame) : Nat := if f.ct then s.classMtu f.cls else f.len

/-- Units that the descriptors beginning in a cell ask for. -/
def State.cellUnits (s : State) (x : Cell) : Nat :=
  (x.pieces.map fun p => match p.head with | some f => unitsOf (s.descLen f) | none => 0).sum

/-- Units that descriptors on their way to octet o's queues, on the paths behind stage 2 or waiting in resequencing, will ask for. -/
def State.egrComing (s : State) (o : Nat) : Nat :=
  (s.wires.map fun w => if s.lanePort w.1 / 8 = o then ((w.2.filter fun x => !x.mc).map s.cellUnits).sum else 0).sum +
    (s.reasms.map fun r => if r.1 / 8192 = o && r.1 % 1024 < 512 then (r.2.wait.map s.cellUnits).sum else 0).sum

/-! ## Stage 2 (R90) -/

/-- Cell x may leave for port d: a unicast cell in which descriptors begin only where the octet's memory has room for their frames beside those already on their way (R93). A reserved cell waits on nothing (R104). -/
def State.mayLeave (s : State) (d : Nat) (x : Cell) : Bool :=
  x.rsvOut.isNone &&
    (if x.mc then x.bitmap.testBit d
     else x.dst == d && !s.egrFull.contains (8 * d + x.tc) && (s.cellUnits x == 0 || decide (s.egrUsed (d / 8) + s.egrComing (d / 8) + s.cellUnits x ≤ egrCap)))

/-- Take the first element that satisfies `p`. -/
def takeFirst {α : Type} (p : α → Bool) : List α → Option (α × List α)
  | [] => none
  | x :: t => if p x then some (x, t) else (takeFirst p t).map fun r => (r.1, x :: r.2)

/-- Stage 2 of intermediate j in slot t: the reserved cell for the output, else the oldest eligible cell of the highest class. A multicast cell leaves a copy and stays until its bitmap is empty. -/
def State.stage2 (s : State) (t j : Nat) : State :=
  let o := (j + t) % 64
  let d := s.lanePort o
  let x := s.inter j
  let pick := match takeFirst (fun c : Cell => c.rsvOut == some o) x.cells with
    | some r => some r
    | none => s.classOrder.findSome? fun c => takeFirst (fun y : Cell => y.tc == c && s.mayLeave d y) x.cells
  match pick with
  | none => s
  | some (y, rest) =>
    let s1 := s.setWire o (s.wire o ++ [y])
    let bm := y.bitmap - 2 ^ d
    if y.mc && bm != 0 then
      s1.setInter j { x with cells := x.cells.map fun z => if z = y then { z with bitmap := bm } else z }
    else s1.setInter j { x with cells := rest }

/-- The fabric moves cells: in the forwarding modes, and in RECOVER, where admission is stopped, what was admitted before goes on and leaves (DESIGN CHOICE, log entry 144); while its clock is not gated or stopped. -/
def State.fabricRuns (s : State) : Bool := (s.mode.fwd || s.mode == .recover) && !s.bit R.PWR_STAT_P3 && !s.power.devExit && !s.clk.stopped

/-- Entries of a VOQ that satisfy `gone` and of which no byte has been sent leave it; their units return, and the frames after them are numbered on. Returns how many left. -/
def State.voqDrop (s : State) (key : Nat) (gone : VEntry → Bool) : State × Nat :=
  let v := s.voq key
  let out := v.q.filter fun e => e.sent == 0 && gone e
  let base := match v.q with | e :: _ => e.fnum | [] => v.next
  let stay := v.q.filter fun e => !(e.sent == 0 && gone e)
  let stay' := stay.zipIdx.map fun (e, i) => { e with fnum := (base + i) % 65536 }
  if out.isEmpty then (s, 0)
  else
    let s1 := s.setVoq key { q := stay', next := (base + stay.length) % 65536 }
    (out.foldl (fun s e => s.freeFrame e.frame) s1, out.length)

/-- Reception on port p breaks off: what comes in of a cut-through frame is lost, and its trailer carries `BAD` (R107, R78). -/
def State.rxBreak (s : State) (p : Nat) : State :=
  (s.voqs.filter fun v => v.1 / 520 = p && v.2.q.any fun e => decide (e.arrived s.tb < e.frame.len)).foldl (fun s v =>
    let cut (e : VEntry) : VEntry :=
      if e.arrived s.tb < e.frame.len then { e with frame := { e.frame with len := e.arrived s.tb, bad := true }, rel := none } else e
    s.setVoq v.1 { s.voq v.1 with q := (s.voq v.1).q.map cut }) s

/-- A cut-through frame has been seen to exceed its class MTU. -/
def State.overMtu (s : State) (e : VEntry) : Bool := e.frame.ct && decide (s.classMtu e.frame.cls < e.arrived s.tb)

/-- Cut-through frames of which no cell has left when they exceed their class MTU are discarded and counted in `MTU_DROP` (R83). -/
def State.mtuScan (s : State) : State :=
  (s.voqs.filter fun v => v.2.q.any fun e => e.sent == 0 && s.overMtu e).foldl (fun s v =>
    let (t, n) := s.voqDrop v.1 s.overMtu
    t.countBy (.port (v.1 / 520) 0x41) n) s

/-- The header bits inverted on input i's connection. -/
def errOf (errs : List (Fin 64 × BitVec 64)) (i : Nat) : BitVec 64 := match errs.find? fun e => e.1.val == i with | some e => e.2 | none => 0

/-- The slot count runs freely from the end of BOOT (R74). -/
def State.fabricSlot (s0 : State) (errs : List (Fin 64 × BitVec 64)) : State :=
  let s := s0.mtuScan
  if !s.mode.afterBoot || s.clk.stopped then s
  else
    let t := s.slot % 64
    let s1 := if s.fabricRuns then
        (List.range 64).foldl (fun s i => s.stage1 t i (errOf errs i)) ((List.range 64).foldl (fun s j => s.stage2 t j) s)
      else s
    { s1 with slot := s1.slot + 1, slotTb := s1.tb }

/-! ## Full bits (R88, R89) -/

/-- The full bits an intermediate computes. -/
def State.interFull (s : State) (x : Inter) : Inter :=
  let uni := x.cells.filter fun c => !c.mc && c.rsvOut.isNone
  let free := 832 - uni.length
  let beta := min 5 (s.rd R.FAB_TRANSIT_BETA)
  let tmin := max 1 (s.rd R.FAB_TRANSIT_TMIN)
  let keys := (uni.map fun c => 8 * c.dst + c.tc).eraseDups
  let full := keys.filter fun k =>
    let n := (uni.filter fun c => 8 * c.dst + c.tc == k).length
    decide (tmin ≤ n) && decide (2 ^ beta * free ≤ 32 * n)
  { x with full := full, fullAll := decide (free < 64), mcFull := decide (128 - (x.cells.filter (·.mc)).length < 64) }

/-- At the end of slot 63 every intermediate and every egress broadcasts (R88, R89). -/
def State.broadcast (s : State) : State :=
  let s1 := (List.range 64).foldl (fun s j => s.setInter j (s.interFull (s.inter j))) s
  { s1 with egrFull := (List.range 512).filter fun k => decide (max 1 (s1.rd (R.PORT_EGR_QMAX (k / 8))) ≤ (s1.egrQ k).units) }

/-! ## Reassembly (R91 to R95, R97) -/

def reasmKey (p : Nat) (mc : Bool) (src c : Nat) : Nat := 1024 * p + (if mc then 512 else 0) + 8 * src + c

/-- Give an allotment back to a queue. -/
def State.freeUnits (s : State) (k n : Nat) : State := s.setEgrQ k { s.egrQ k with units := (s.egrQ k).units - n }

/-- Edge ports hold every frame whole (R331). -/
def State.edgePort (s : State) (p : Nat) : Bool :=
  if p < 32 then (s.rd R.PRV_EDGE_LO_EDGE).testBit p else (s.rd R.PRV_EDGE_HI_EDGE).testBit (p - 32)

/-- A frame's descriptor arrives: its length is allotted (R93); a multicast copy without room is discarded (R95). -/
def State.partBegin (s : State) (p c : Nat) (mc : Bool) (f : Frame) : State × Part :=
  let n := unitsOf (s.descLen f)
  let k := 8 * p + c
  if mc && decide (egrCap < s.egrUsed (p / 8) + n) then (s.count (.port p 0x47), { frame := f, dropped := true })
  else
    let s1 := { s.setEgrQ k { s.egrQ k with units := (s.egrQ k).units + n } with nextId := s.nextId + 1 }
    (s1, { frame := f, id := s.nextId, units := n })

/-- A frame joins its egress queue (R93, R97). -/
def State.enqueue (s : State) (p c : Nat) (t : Part) (complete : Bool) : State :=
  let k := 8 * p + c
  s.setEgrQ k { s.egrQ k with q := (s.egrQ k).q ++ [{ frame := t.frame, id := t.id, complete := complete, units := t.units }] }

/-- What still arrives of frame `id` at port p is discarded. -/
def State.killPart (s : State) (p src c id : Nat) : State :=
  [reasmKey p false src c, reasmKey p true src c].foldl (fun s k =>
    match (s.reasm k).cur with
    | some t => if t.id = id then s.setReasm k { s.reasm k with cur := some { t with dropped := true } } else s
    | none => s) s

/-- A suspended frame is ended with an inverted FCS (R97); what still arrives of it is discarded. -/
def State.suspAbort (s : State) (p : Nat) (ev : Nat) : State :=
  match (s.egr p).susp with
  | none => s
  | some x =>
    let s1 := (s.setEgr p { s.egr p with susp := none }).emit (.frame p x.frame.pkt x.frame.len false x.start (s.txSynth p))
    ((s1.freeUnits (8 * p + x.cls) x.units).killPart p x.frame.src x.cls x.id).count (.port p ev)

/-- A transmission ends at once with an inverted FCS (R97); what still arrives of the frame is discarded. -/
def State.txAbort (s : State) (p : Nat) (ev : Nat) : State :=
  match (s.egr p).tx with
  | none => s
  | some x =>
    let s1 := (s.setEgr p { s.egr p with tx := none }).emit (.frame p x.frame.pkt x.frame.len false x.start (s.txSynth p))
    ((s1.freeUnits (8 * p + x.cls) x.units).killPart p x.frame.src x.cls x.id).count (.port p ev)

/-- Sink log word offsets (R334). -/
def sinkAddr (i k : Nat) : Nat := 0x4002000 + 32 * (i % 1024) + 4 * k

/-- A proving frame ends at edge port p (R331): counted in `PRV_SUNK` and logged; an entry overwritten is counted in `PRV_LOGLOST`. -/
def State.sinkFrame (s : State) (p : Nat) (f : Frame) (v : ProvTrailer) : State :=
  let i := s.rd R.PRV_LOGPTR_NEXT
  let t := s.orbDom.time
  let claim := match f.pkt.rtag with | some g => g.claim.toNat | none => 0
  let s1 := if s.bit (R.SINK0_VALID i) then s.count Ctr.prvLost else s
  let s2 := s1.setWords (sinkAddr i 0)
    [.ofNat (v.seq.toNat + v.tmpl.toNat * 65536 + (if v.unitB then 16777216 else 0) + f.src % 64 * 33554432 + 2147483648),
     .ofNat (p + claim * 65536), v.orb, v.txns, .ofNat (timeNs t), .ofNat (timeSec t)]
  { (s2.wr R.PRV_LOGPTR_NEXT (i + 1)).count (.port p 0x68) with prv := { s2.prv with logged := s2.prv.logged + 1 } }

/-- Port p sinks this frame: it is an edge port and the frame carries the proving trailer (R331). -/
def State.sinks (s : State) (p : Nat) (f : Frame) : Option ProvTrailer := if s.edgePort p then f.pkt.prov else none

/-- A frame has arrived whole at port p (R93, R97): it joins its queue, or ends as `BAD` (R97) or for a down port without ageing (R107). A frame that completes in an egress queue takes the octet out of P1 (R349). -/
def State.partDone (s : State) (p c : Nat) (t : Part) : State :=
  let k := 8 * p + c
  if t.dropped then s
  else if t.frame.bad then
    if (match (s.egr p).tx with | some x => x.id == t.id | none => false) then s.txAbort p 0x4B
    else if (match (s.egr p).susp with | some x => x.id == t.id | none => false) then s.suspAbort p 0x4B
    else
      ((s.setEgrQ k { s.egrQ k with q := (s.egrQ k).q.filter (·.id != t.id) }).freeUnits k t.units).count (.port p 0x4B)
  else if t.queued then
    let s1 := s.setEgrQ k { s.egrQ k with q := (s.egrQ k).q.map fun e => if e.id = t.id then { e with complete := true } else e }
    let fin (o : Option Tx) : Option Tx := o.map fun x => if x.id = t.id then { x with complete := true } else x
    (s1.setEgr p { s1.egr p with tx := fin (s1.egr p).tx, susp := fin (s1.egr p).susp }).octExit (p / 8)
  else match s.sinks p t.frame with
    | some v => (s.freeUnits k t.units).sinkFrame p t.frame v
    | none =>
      if !s.portUp p && s.ageLimit c == 0 then (s.freeUnits k t.units).count (.port p 0x4C)
      else (s.enqueue p c t true).octExit (p / 8)

/-- A piece of a frame arrives at port p. -/
def State.takePiece (s : State) (p c : Nat) (mc : Bool) (cur : Option Part) (x : Piece) : State × Option Part :=
  let (s1, cur1) := match x.head with
    | some f => let (s1, t) := s.partBegin p c mc f; (s1, some t)
    | none => (s, cur)
  match cur1 with
  | none => (s1, none)
  | some t =>
    let t1 := { t with frame := { t.frame with bad := x.bad }, got := t.got + x.bytes, cells := t.cells + 1 }
    if x.tail then (s1.partDone p c t1, none)
    else if t1.frame.ct && !t1.queued && !t1.dropped && !s1.edgePort p && (s1.portUp p || s1.ageLimit c != 0) && decide (max 1 (s1.rd (R.PORT_EGR_CT_START p)) ≤ t1.cells) then
      (s1.enqueue p c t1 false, some { t1 with queued := true })
    else (s1, some t1)

/-- The (`FRAME`, `CIDX`) that follows a cell. -/
def nextExpect (x : Cell) : Nat × Nat :=
  match x.pieces.getLast? with
  | none => (x.fnum, x.cidx + 1)
  | some l =>
    if l.tail then ((l.fnum + 1) % 65536, 0)
    else if l.head.isSome then (l.fnum, 1)
    else (l.fnum, x.cidx + 1)

/-- The frame in progress of a context is discarded: it leaves its egress queue, and ends with an inverted FCS where part of it has been sent (event `ev`). -/
def State.dropPart (s : State) (p c : Nat) (cur : Option Part) (ev : Nat) : State :=
  match cur with
  | some t =>
    if t.dropped then s
    else if (match (s.egr p).tx with | some x => x.id == t.id | none => false) then s.txAbort p ev
    else if (match (s.egr p).susp with | some x => x.id == t.id | none => false) then s.suspAbort p ev
    else (s.setEgrQ (8 * p + c) { s.egrQ (8 * p + c) with q := (s.egrQ (8 * p + c)).q.filter (·.id != t.id) }).freeUnits (8 * p + c) t.units
  | none => s

/-- The last cell of a frame that was flushed from its VOQ has been taken (R107): what there is of the frame is discarded, and the context goes on with the next frame. -/
def State.stopHere (s : State) (p k c : Nat) : State :=
  let r := s.reasm k
  match r.stop with
  | some e => if r.expect = some e then (s.dropPart p c r.cur 0x4A).setReasm k { r with cur := none, stop := none, expect := some ((e.1 + 1) % 65536, 0) } else s
  | none => s

/-- Take a cell in its order. -/
def State.takeCell (s : State) (p : Nat) (x : Cell) : State :=
  let k := reasmKey p x.mc x.src x.tc
  let r := s.reasm k
  let (s1, cur) := x.pieces.foldl (fun (acc : State × Option Part) pc => acc.1.takePiece p x.tc x.mc acc.2 pc) (s, r.cur)
  (s1.setReasm k { s1.reasm k with cur := cur, expect := some (nextExpect x) }).stopHere p k x.tc

/-- (F, C) order of two cells of a context: serial in F modulo 2^16, then C. -/
def cellLater (a b : Nat × Nat) : Bool :=
  let d := (a.1 + 65536 - b.1) % 65536
  if d = 0 then decide (b.2 < a.2) else d < 32768

/-- Waiting cells that have become due are taken, at most `n` of them. -/
def State.drainWait (s : State) (p k : Nat) : Nat → State
  | 0 => s
  | n + 1 =>
    let r := s.reasm k
    match r.expect with
    | none => s
    | some e =>
      match takeFirst (fun x : Cell => (x.fnum, x.cidx) == e) r.wait with
      | none => s.setReasm k { r with gap := !r.wait.isEmpty }
      | some (x, rest) => ((s.setReasm k { r with wait := rest, gap := !rest.isEmpty }).takeCell p x).drainWait p k n

/-- Cells that wait in port p's resequencing area; it has room for 64, one unit each (R93). -/
def State.waiting (s : State) (p : Nat) : Nat := (s.reasms.map fun r => if r.1 / 1024 = p then r.2.wait.length else 0).sum

/-- A cell reaches port p (R91): in its turn it is taken; a later one waits and starts the gap timer, or is lost where the resequencing area is full (DESIGN CHOICE, log entry 145); an earlier one, or one of a declared gap, is late. Behind a gap a cell in which no descriptor begins is discarded; one of a further frame makes that a frame that the gap touched. -/
def State.cellIn (s : State) (p : Nat) (x : Cell) : State :=
  let k := reasmKey p x.mc x.src x.tc
  let r := s.reasm k
  match r.expect with
  | none =>
    if !cellLater (x.fnum, x.cidx) r.gapEnd then s.count (.port p 0x49)
    else if x.first = 127 then
      (s.setReasm k { r with gapEnd := (x.fnum, x.cidx) }).countBy (.port p 0x48) (if x.fnum = r.gapEnd.1 then 0 else 1)
    else (s.takeCell p x).drainWait p k r.wait.length
  | some e =>
    if (x.fnum, x.cidx) = e then (s.takeCell p x).drainWait p k r.wait.length
    else if cellLater (x.fnum, x.cidx) e then (if 64 ≤ s.waiting p then s.setReasm k { r with gap := true } else s.setReasm k { r with wait := r.wait ++ [x], gap := true })
    else s.count (.port p 0x49)

/-- The earliest waiting cell in which a descriptor begins. -/
def earliestHead (ws : List Cell) : Option Cell :=
  ws.foldl (fun acc x => if x.first = 127 then acc else match acc with
    | none => some x
    | some y => if cellLater (y.fnum, y.cidx) (x.fnum, x.cidx) then some x else acc) none

/-- The number of the first frame that begins in a cell. -/
def headFnum (x : Cell) : Nat := match x.pieces.find? (·.head.isSome) with | some p => p.fnum | none => x.fnum

/-- The gap timer runs out (R91, R92): the frames touched by the gap are discarded, and the context resumes at the first cell after it in which a descriptor begins. -/
def State.gapExpire (s : State) (p : Nat) (mc : Bool) (src c : Nat) : State :=
  let k := reasmKey p mc src c
  let r := s.reasm k
  let stopped := s.egrFull.contains (8 * p + c) || (s.egr p).paused.testBit c
  if !r.gap || stopped then s
  else
    let drop (s : State) : State := s.dropPart p c r.cur 0x4A
    match earliestHead r.wait with
    | none =>
      let from' := r.expect.getD r.gapEnd
      let last := (r.wait.map fun y => (y.fnum, y.cidx)).foldl (fun a b => if cellLater b a then b else a) from'
      ((drop s).setReasm k { expect := none, cur := none, wait := [], gap := false, gapEnd := last }).countBy (.port p 0x48) ((last.1 + 65536 - from'.1) % 65536 + 1)
    | some x =>
      let h := headFnum x
      let e := match r.expect with | some e => e.1 | none => h
      let n := (h + 65536 - e) % 65536
      let rest := r.wait.filter fun y => y != x && cellLater (y.fnum, y.cidx) (x.fnum, x.cidx)
      let x' := { x with pieces := x.pieces.dropWhile (·.head.isNone) }
      let s1 := ((drop s).setReasm k { expect := none, cur := none, wait := rest, gap := !rest.isEmpty, gapEnd := r.gapEnd }).countBy (.port p 0x48) n
      (s1.takeCell p x').drainWait p k rest.length

/-- The cell at the end of output o's path reaches the egress; one whose `CHK` fails is discarded there (R78). -/
def State.cellArrive (s : State) (o : Nat) (err : BitVec 64) : State :=
  match s.wire o with
  | [] => s
  | x :: t =>
    let s1 := s.setWire o t
    match x.received err with | some y => s1.cellIn (s1.lanePort o) y | none => s1

/-! ## The reservation table (R99) -/

/-- Orbits that have begun. -/
def State.orbitsBegun (s : State) : Nat := if s.orbit.begun then s.orbNum + 1 else 0

/-- A request of the bank swap. -/
def State.rsvRequest (s : State) : State :=
  { s.setBit R.FAB_CTRL_RSV_PENDING true with rsvReq := some s.orbitsBegun }

/-- The check of a bank in index order: entries whose (j, o) is claimed, whose class is not scheduled, or whose output belongs to an absent port are ignored; the four outputs of a bonded port belong to it (R72). -/
def State.rsvCheck (s : State) (b : Bool) : List Nat :=
  ((List.range 4096).foldl (fun (acc : List (Nat × Nat) × List Nat) k =>
    let w := (s.reg (rsvAddr b k)).toNat
    if w < 2147483648 then acc
    else
      let jo := ((k / 64 + k % 64) % 64, w % 64)
      if acc.1.contains jo || !s.sched (w / 256 % 8) || s.absent (s.lanePort (w % 64)) then (acc.1, k :: acc.2)
      else (jo :: acc.1, acc.2)) ([], [])).2

/-- The instant of R99 for the swap requested: a round starts, and an Orbit has started since the request. -/
def State.rsvDue (s : State) : Bool :=
  s.bit R.FAB_CTRL_RSV_PENDING && s.slot % 64 == 0 && (match s.rsvReq with | some n => decide (n < s.orbitsBegun) | none => false)

/-- The swap takes effect: the inactive bank becomes active. -/
def State.rsvSwap (s : State) : State :=
  if !s.rsvDue then s
  else
    let b := !s.bit R.FAB_CTRL_RSV_ACTIVE
    let bad := s.rsvCheck b
    let s1 := (s.setBit R.FAB_CTRL_RSV_ACTIVE b).setBit R.FAB_CTRL_RSV_PENDING false
    let s2 := { s1 with rsvReq := none, rsvIgnored := bad }
    if bad.isEmpty then s2 else s2.setBit R.FAB_STAT_RSV_CONFLICT true

/-! ## Queuing at ingress (R80, R94) -/

/-- Store an admitted frame and queue it for its destination. A cut-through frame's bytes come from now on at its port's rate (R76). -/
def State.voqPut (s : State) (key : Nat) (f : Frame) (bitmap : Nat) : State :=
  let v := s.voq key
  s.setVoq key { q := v.q ++ [{ frame := f, fnum := v.next, bitmap := bitmap, rel := if f.ct then some (s.rxNow, (s.link f.src).mode.rate) else none }], next := (v.next + 1) % 65536 }

/-- Charge an admitted frame's units. -/
def State.charge (s : State) (f : Frame) : State :=
  let k := acctKey f.src f.cls
  let a := s.acct k
  s.setAcct k { min := a.min + f.uMin, shr := a.shr + f.uShr, hdr := a.hdr + f.uHdr }

/-- The port set of a group, without absent ports (R127). -/
def State.groupSet (s : State) (g : Nat) : Nat :=
  let w := (s.reg (0x2380000 + 8 * g)).toNat + 4294967296 * (s.reg (0x2380004 + 8 * g)).toNat
  (List.range 64).foldl (fun acc k => if w.testBit k && !s.absent k then acc + 2 ^ k else acc) 0

/-- A multicast frame enters its queue (R94): ports left out for a full egress queue are counted, and an empty bitmap frees the frame. -/
def State.mcQueue (s : State) (f : Frame) (set : Nat) : State :=
  let cand := (List.range 64).filter fun k => set.testBit k && k != f.src && s.portUp k
  let full := cand.filter fun k => s.egrFull.contains (8 * k + f.cls)
  let bm := (cand.filter fun k => !full.contains k).foldl (fun acc k => acc + 2 ^ k) 0
  let s1 := full.foldl (fun s k => s.count (.port k 0x46)) s
  let s2 := if full.isEmpty then s1 else s1.count (.port f.src 0x43)
  if bm = 0 then s2.freeFrame f else s2.voqPut (mcKey f.src f.cls) f bm

end Sys2Proof.Machine
end

