-- ==== Sys2Proof/Machine/IngressOps.lean ====
section
/-! DEFINITION. The ingress stages (R111): identification (R112 to R119), stream filter and gate (R120, R121), sequence recovery (R303), policing (R123 to R125), class (R126), sequence generation (R301, R302, R305), and the MTU check and admission (R82, R83, R107). -/

namespace Sys2Proof.Machine

/-! ## Identification -/

/-- The VID of a key: the outer tag's, or `PVID` where there is none or it is 0 (R112). -/
def State.keyVid (s : State) (p : Nat) (k : Pkt) : Nat :=
  match k.vlans with
  | [] => s.rd (R.PORT_SID_PVID p)
  | v :: _ => if v.vid = 0 then s.rd (R.PORT_SID_PVID p) else v.vid.toNat

/-- The header at which the parser stops, from a header of kind `kind` on: hop-by-hop (0), routing (43) and destination-options (60) headers are skipped within `room` bytes (R112). -/
def extStop : BitVec 8 → Nat → List (BitVec 8 × Nat) → BitVec 8
  | kind, _, [] => kind
  | kind, room, (next, len) :: t =>
    if (kind == 0 || kind == 43 || kind == 60) && decide (len ≤ room) then extStop next (room - len) t else kind

/-- The protocol or next header of a key: where the parser stops, for IPv6 (DEDUCED, log entry 147). -/
def ipProto (h : IpHdr) : BitVec 8 := if h.v6 then extStop h.proto 64 h.ext else h.proto

/-- The transport ports, source first, where the parser reads them: from a UDP or TCP header that no fragment hides (R112). -/
def ipPorts (h : IpHdr) : Option (BitVec 16 × BitVec 16) :=
  let cut := !h.v6 && (h.mf || h.frag != 0)
  if !cut && (ipProto h == 17 || ipProto h == 6) then some (h.sport, h.dport) else none

/-- The transport ports as one key word, 0 where there are none. -/
def portWord (h : IpHdr) : Nat := match ipPorts h with | some (a, b) => a.toNat + 65536 * b.toNat | none => 0

/-- The four words of an address. -/
def addrWords (a : Nat) : List Nat := [a % 4294967296, a / 4294967296 % 4294967296, a / 18446744073709551616 % 4294967296, a / 79228162514264337593543950336]

/-- A key: its `KIND` and its words 1 to 6, and those of its continuation for IPv6 (Table 4-8). -/
structure SidKey where
  kind : Nat
  words : List Nat
  cont : List Nat := []
  deriving DecidableEq, Repr

def macKey (kind mac vid : Nat) : SidKey := { kind := kind, words := [mac % 4294967296, mac / 4294967296 + 65536 * vid, 0, 0, 0, 0] }

/-- The five-tuple key of an IP frame. -/
def ipKey (h : IpHdr) : SidKey :=
  if h.v6 then { kind := 4, words := addrWords h.src.toNat ++ [portWord h, (ipProto h).toNat], cont := addrWords h.dst.toNat ++ [0, 0] }
  else { kind := 3, words := [h.src.toNat % 4294967296, h.dst.toNat % 4294967296, portWord h, h.proto.toNat, 0, 0] }

/-- The key words as bytes, each word least significant byte first (R115). -/
def SidKey.bytes (k : SidKey) : List Nat := (k.words ++ k.cont).flatMap fun w => wordBytes (.ofNat w)

/-- The entries of a key's two buckets, set 0 first (R115). -/
def SidKey.slots (k : SidKey) : List Nat :=
  let b0 := crc32c k.bytes % 1024
  let b1 := crc32 k.bytes % 1024
  ((List.range 8).map (8 * b0 + ·)) ++ ((List.range 8).map (8192 + 8 * b1 + ·))

/-- Words 1 to 6 of an entry. -/
def State.sidWords (s : State) (e : Nat) : List Nat := (List.range 6).map fun i => (s.reg (A.SID_ENT0 e + 4 + 4 * i)).toNat

/-- Entry e is active with this key, ports aside; an IPv6 pair needs both entries. -/
def State.sidHas (s : State) (e : Nat) (k : SidKey) : Bool :=
  s.bit (R.SID_ENT0_VALID e) && s.rd (R.SID_ENT0_KIND e) == k.kind && s.sidWords e == k.words &&
    (k.kind != 4 || (e % 2 == 0 && s.bit (R.SID_ENT0_VALID (e + 1)) && s.rd (R.SID_ENT0_KIND (e + 1)) == 5 && s.sidWords (e + 1) == k.cont))

/-- Look a key up for a frame of port p: the entry for its own port first, then that for any port (R114). -/
def State.sidFind (s : State) (p : Nat) (k : SidKey) : Option Nat :=
  let hits := k.slots.filter fun e => s.sidHas e k
  match hits.find? fun e => s.bit (R.SID_ENT0_PORTKEY e) && s.rd (R.SID_ENT0_PORT e) == p with
  | some e => some e
  | none => hits.find? fun e => !s.bit (R.SID_ENT0_PORTKEY e)

/-- The context that a frame of port p hits, or none at a miss (R114, R118). -/
def State.identify (s : State) (p : Nat) (k : Pkt) : Option Nat :=
  let order := s.rd (R.PORT_SID_ORDER p)
  let vid := s.keyVid p k
  let keys := (if order % 2 = 1 then (match k.ip with | some h => [ipKey h] | none => []) else [])
    ++ (if order / 2 % 2 = 1 then [macKey 1 k.dst.toNat vid] else [])
    ++ (if order / 4 % 2 = 1 then [macKey 2 k.src.toNat vid] else [])
  match keys.findSome? (s.sidFind p) with
  | some e =>
    let x := s.rd (R.SID_ENT0_CTX e)
    if s.bit (R.CTX0_VALID x) then some x else none
  | none => none

/-- Where a frame goes after stage 2. -/
inductive Dest where
  | port (d : Nat)
  | group (set : Nat)
  /-- discarded at stage 2, counted in the port event named, if any -/
  | drop (ev : Option Nat)
  deriving DecidableEq, Repr

/-- A unicast destination (R117, R119): the own port, an absent port, a disabled octet's port or a number above 63 is a hairpin. -/
def State.uniDest (s : State) (p d : Nat) : Dest :=
  if d ≥ 64 || d == p || s.absent d || s.octOff (d / 8) then .drop (some 0x45) else .port d

/-- The destination of a frame of port p with context `ctx` (R116 to R119, R127). A miss to an empty group is counted once, as the miss. -/
def State.destOf (s : State) (p : Nat) (ctx : Option Nat) : Dest :=
  match ctx with
  | some x =>
    let k := s.rd (R.CTX0_DKIND x)
    let d := s.rd (R.CTX0_DEST x)
    if k = 0 then s.uniDest p d
    else if k = 1 then (if s.groupSet d = 0 then .drop (some 0x44) else .group (s.groupSet d))
    else .drop none
  | none =>
    let m := s.rd (R.PORT_SID_MISS p)
    let d := s.rd (R.PORT_MISS_DST p)
    if m = 1 then (if s.groupSet d = 0 then .drop none else .group (s.groupSet d))
    else if m = 2 then s.uniDest p (d % 64)
    else .drop none

/-- The traffic class (R126). -/
def State.classOf (s : State) (p : Nat) (ctx : Option Nat) (k : Pkt) : Nat :=
  let ov := match ctx with | some x => if s.bit (R.CTX0_CLSV x) then some (s.rd (R.CTX0_CLS x)) else none | none => none
  match ov with
  | some c => c
  | none =>
    match (if s.bit (R.PORT_SID_CLSRC p) then k.ip else none) with
    | some h => s.rd (R.PORT_DSCP_MAPS p (h.dscp.toNat / 10)) / 8 ^ (h.dscp.toNat % 10) % 8
    | none =>
      match k.vlans with
      | v :: _ => (s.reg (A.PORT_PCP p)).toNat / 8 ^ v.pcp.toNat % 8
      | [] => s.rd (R.PORT_SID_DEF_TC p)

/-- Cut-through is enabled, and the rate of every destination is at most the source's (R96). -/
def State.ctRates (s : State) (p : Nat) (d : Dest) : Bool :=
  let r := (s.link p).mode.rate
  match d with
  | .port q => decide ((s.link q).mode.rate ≤ r)
  | .group set => (List.range 64).all fun q => !set.testBit q || q == p || decide ((s.link q).mode.rate ≤ r)
  | .drop _ => true

/-! ## Sequence tags (R299) -/

/-- The sequence number in a frame's tag of a format, if it has one; format 3 acts as 0. -/
def pktSeq (k : Pkt) (fmt : Nat) : Option Nat :=
  if fmt = 1 then k.hsr.map (·.seq.toNat) else if fmt = 2 then k.prp.map (·.seq.toNat) else k.rtag.map (·.seq.toNat)

/-- The frame without its tag of a format. -/
def pktPop (k : Pkt) (fmt : Nat) : Pkt :=
  if fmt = 1 then { k with hsr := none } else if fmt = 2 then { k with prp := none } else { k with rtag := none }

/-- The frame with a tag of a format written: sequence number, path, claim and LSDU size. The LSDU runs from behind the EtherType of the last VLAN tag to the FCS, tag included (PRESUMED from IEC 62439-3, log entry 20). -/
def pktPut (k : Pkt) (fmt seq path claim len : Nat) : Pkt :=
  let lsdu := len - 18 - 4 * k.vlans.length
  if fmt = 1 then { k with hsr := some { path := .ofNat 4 path, lsdu := .ofNat 12 lsdu, seq := .ofNat 16 seq } }
  else if fmt = 2 then { k with prp := some { seq := .ofNat 16 seq, lan := .ofNat 4 path, lsdu := .ofNat 12 lsdu } }
  else { k with rtag := some { claim := .ofNat 16 claim, seq := .ofNat 16 seq } }

/-! ## Sequence recovery (R303, R304) -/

def State.seqHist (s : State) (f : Nat) : SeqHist := storeGet (fun _ => {}) s.seqHists f
def State.setSeqHist (s : State) (f : Nat) (x : SeqHist) : State := { s with seqHists := storeSet (fun _ => {}) s.seqHists f x }

/-- The function takes the next frame whatever its number (R304). -/
def State.takeAny (s : State) (f : Nat) : State :=
  ((s.setBit (R.SREC1_TAKEANY f) true).count (.srec f 5)).setSeqHist f { s.seqHist f with timer := s.tb }

/-- Accept number `q`: counted in `PASSED`; the RESET timer restarts. -/
def State.seqAccept (s : State) (f q : Nat) (h : SeqHist) : State :=
  ((s.wr (R.SREC1_RECOV f) q).setSeqHist f { h with timer := s.tb }).count (.srec f 0)

/-- Numbers that leave the history unaccepted at a shift by d: those the take-any's number or later ones had a place in it for. -/
def lostAt (hist d : Nat) (h : SeqHist) : Nat :=
  ((List.range hist).filter fun k => decide (hist ≤ k + d) && decide (k < h.span) && !h.bits.testBit k).length

/-- Recovery function f judges sequence number q: the state, and whether the frame is accepted. -/
def State.seqJudge (s : State) (f q : Nat) : State × Bool :=
  let h := s.seqHist f
  let hist := s.rd (R.SREC0_HIST f) + 1
  let alg := s.rd (R.SREC0_ALG f)
  if s.bit (R.SREC1_TAKEANY f) then
    ((s.setBit (R.SREC1_TAKEANY f) false).seqAccept f q { bits := 1, span := 1, timer := 0 }, true)
  else
    let recov := s.rd (R.SREC1_RECOV f)
    let d := (q + 65536 - recov) % 65536
    let fwd := decide (0 < d) && decide (d < 32768)
    let mag := if d < 32768 then d else 65536 - d
    if alg = 1 then
      if d = 0 then (s.count (.srec f 1), false) else (s.seqAccept f q h, true)
    else if mag ≥ hist then (s.count (.srec f 2), false)
    else if alg = 2 then
      if fwd then ((s.countBy (.srec f 4) (d - 1)).seqAccept f q h, true) else (s.count (.srec f 1), false)
    else if fwd then
      let h' : SeqHist := { bits := (h.bits * 2 ^ d + 1) % 2 ^ hist, span := min hist (h.span + d), timer := 0 }
      ((s.countBy (.srec f 4) (lostAt hist d h)).seqAccept f q h', true)
    else if h.bits.testBit mag then (s.count (.srec f 1), false)
    else ((s.seqAccept f recov { h with bits := h.bits + 2 ^ mag }).count (.srec f 3), true)

/-- Stage 5 for a frame of context x: the claim filter, then recovery. The flag says that the frame goes on. -/
def State.recover5 (s : State) (x : Nat) (k : Pkt) : State × Bool :=
  let f := s.rd (R.CTX2_SREC x)
  if !s.bit (R.CTX1_SRECV x) || !s.bit (R.SREC0_VALID f) then (s, true)
  else
    let (s1, ok) :=
      if s.bit (R.SREC0_CLAIM f) then
        match k.rtag with
        | some t => s.clfJudge (s.rd (R.SREC0_CLFG f)) t.claim.toNat
        | none => (s, false)
      else (s, true)
    if !ok then (s1.count (.srec f 7), false)
    else match pktSeq k (s1.rd (R.CTX1_TAGFMT x)) with
      | none => (s1.count (.srec f 6), true)
      | some q => s1.seqJudge f q

/-! ## Policing (R123 to R125) -/

def State.bucket (s : State) (x : Nat) : Bucket := storeGet (fun _ => {}) s.buckets x
def State.setBucket (s : State) (x : Nat) (b : Bucket) : State := { s with buckets := storeSet (fun _ => {}) s.buckets x b }

/-- One byte in 2^-16 byte, the unit of a bucket's fill. -/
def fillUnit : Nat := 65536

/-- What `dt` ns at `rate` kbit/s add to a level of 2^-`frac` byte units: 1 kbit/s is `num`/`den` of a unit in each ns; `rem` is the part of a unit not added yet, in 1/`den`. The level, at most `top`, and that part (log entry 45). -/
def accrue (num den : Nat) (level : Int) (rem rate dt : Nat) (top : Int) : Int × Nat :=
  let n := rem + rate * num * dt
  if top ≤ level + ((n / den : Nat) : Int) then (top, 0) else (level + ((n / den : Nat) : Int), n % den)

def State.polRate (s : State) (f : Fld) : Nat := min 100000000 (s.rd f)

/-- Both buckets full, as a context new at a commit or made valid by a raw write starts (R134, R135). -/
def State.bucketFull (s : State) (x : Nat) : State :=
  s.setBucket x { c := s.rd (R.CTX5_CBS x) * fillUnit, p := s.rd (R.CTX6_PBS x) * fillUnit, tb := s.tb }

/-- The buckets refilled to now. -/
def State.refill (s : State) (x : Nat) : Bucket :=
  let b := s.bucket x
  let dt := s.tb - b.tb
  let cir := s.polRate (R.CTX3_CIR x)
  let c := accrue 128 15625 (b.c : Int) b.cRem cir dt ((s.rd (R.CTX5_CBS x) * fillUnit : Nat) : Int)
  let p := accrue 128 15625 (b.p : Int) b.pRem (max (s.polRate (R.CTX4_PIR x)) cir) dt ((s.rd (R.CTX6_PBS x) * fillUnit : Nat) : Int)
  { c := c.1.toNat, cRem := c.2, p := p.1.toNat, pRem := p.2, tb := s.tb }

/-- A policer's result. -/
inductive Colour where
  | green | yellow | red
  deriving DecidableEq, Repr

/-- Decide and charge a frame: tested against `tested` bytes and charged `len` (R123, R125). With `CIR` = 0 no frame is green (R124). -/
def State.police (s : State) (x tested len : Nat) (dei : Bool) : State × Colour :=
  let b := s.refill x
  let L := tested * fillUnit
  let n := len * fillUnit
  if s.bit (R.CTX0_CAWARE x) && dei then
    if L ≤ b.p then (s.setBucket x { b with p := b.p - n }, .yellow) else (s.setBucket x b, .red)
  else if b.p < L then (s.setBucket x b, .red)
  else if b.c < L || s.rd (R.CTX3_CIR x) = 0 then (s.setBucket x { b with p := b.p - n }, .yellow)
  else (s.setBucket x { b with c := b.c - n, p := b.p - n }, .green)

/-- The length a cut-through frame is tested against: its IPv4 total or IPv6 payload length with the bytes before the IP header and the FCS, or the class MTU (R125). -/
def State.ctLength (s : State) (k : Pkt) (c : Nat) : Nat :=
  match k.ip with
  | some h => h.offset + h.total.toNat + 4
  | none => s.classMtu c

/-- The DEI bit of a frame's outer tag. -/
def pktDei (k : Pkt) : Bool := match k.vlans with | v :: _ => v.dei | [] => false
def pktSetDei (k : Pkt) : Pkt := match k.vlans with | v :: t => { k with vlans := { v with dei := true } :: t } | [] => k

/-! ## Stage 8 (R301, R302, R305) -/

/-- Removal of the old tag by `POP`, then generation. None where a Comet function holds the frame back. -/
def State.stage8 (s : State) (x : Nat) (f : Frame) : State × Option Frame :=
  let fmt := s.rd (R.CTX1_TAGFMT x)
  let r := s.rd (R.CTX2_SREC x)
  let pop := s.bit (R.CTX1_SRECV x) && s.bit (R.SREC0_VALID r) && s.bit (R.SREC0_POP r) && (pktSeq f.pkt fmt).isSome
  let f1 := if pop then { f with pkt := pktPop f.pkt fmt, len := f.len - 6 } else f
  let g := s.rd (R.CTX2_SGEN x)
  if !s.bit (R.CTX1_SGENV x) || !s.bit (R.SGEN0_VALID g) then (s, some f1)
  else
    let has := (pktSeq f1.pkt fmt).isSome
    if s.rd (R.SGEN0_TAGOP g) = 1 && !has then (s, some f1)
    else
      let comet := s.bit (R.SGEN0_COMET g)
      let q := s.rd (R.SGEN1_SEQ g)
      let s1 := s.wr (R.SGEN1_SEQ g) (q + 1)
      if comet && !s1.holdsClaim then (s1.count (.held g), none)
      else
        let len := if has then f1.len else f1.len + 6
        (s1, some { f1 with pkt := pktPut f1.pkt fmt q (s1.rd (R.SGEN0_PATH g)) (if comet then s1.ownClaim else 0) len, len := len })

/-! ## Stage 9 -/

/-- MTU check, the discard for a down port without ageing, and admission (R83, R107, R82). A cut-through frame over its class MTU ends with `BAD`, or is discarded later where none of it has left when it exceeds the MTU. -/
def State.stage9 (s : State) (f : Frame) (d : Dest) : State :=
  let p := f.src
  let c := f.cls
  let long := decide (s.classMtu c < f.len)
  let down := match d with | .port q => !s.portUp q && s.ageLimit c == 0 | .group _ => false | .drop _ => false
  if long && (!f.ct || down) then s.count (.port p 0x41)
  else
    let f1 := if long then { f with bad := true } else f
    if down then (match d with | .port q => s.count (.port q 0x4C) | .group _ => s | .drop _ => s)
    else
      let refuse (s : State) : State :=
        s.count (.port p ((if s.lossless p c then 0x10 else if f1.de then 0x08 else 0) + c))
      match (if s.mode = .recover then Admit.refused else s.takeUnits p c f1.de (unitsOf f1.len)) with
      | .refused => refuse (if s.mode = .recover then s else s.xoffSet p c)
      | .truncated fs => (if fs then s.xoffSet p c else s).count (.port p 0x40)
      | .units m sh h fs =>
        let f2 := { f1 with uMin := m, uShr := sh, uHdr := h }
        let s1 := (if fs then s.xoffSet p c else s).charge f2
        match d with
        | .port q => s1.voqPut (voqKey p q c) f2 0
        | .group set => s1.mcQueue f2 set
        | .drop _ => s1.freeFrame f2

/-! ## Stages 2 to 9 -/

/-- The state that stream gate h had at TB_CYC `t`, changes of that nanosecond included (R121). -/
def State.sgateAt (s : State) (h t : Nat) : Bool :=
  match s.sgLog.reverse.find? fun x => x.2.1 == h && decide (t < x.1) with
  | some x => !x.2.2
  | none => (s.rd (R.SG_STATE_OPEN (h / 32))).testBit (h % 32)

/-- The gate of a context was open at TB_CYC `t` (R121); handle 0 is no gate. -/
def State.sgateOpen (s : State) (x t : Nat) : Bool :=
  let h := s.rd (R.CTX0_GATE x)
  h == 0 || s.sgateAt h t

/-- How many ns ago a frame's first byte came: a cut-through frame's comes now, that of a frame stored whole its length's time ago (log entry 25), and a frame from a receive store came as long before as it waited there (R349). -/
def State.rxAgo (s : State) (p len : Nat) (ct : Bool) : Nat := (if ct then 0 else len * 8 / (s.link p).mode.rate) + (s.tb - s.rxNow)

/-- Stages 3 to 6 for a frame that hit context x: none where it is discarded. -/
def State.stages3to6 (s : State) (x : Nat) (f : Frame) : State × Option Frame :=
  let sdu := s.rd (R.CTX1_MAXSDU x)
  let long := sdu != 0 && decide (sdu < f.len)
  let s1 := if long then s.count (.ctx x 5) else s
  if long && !f.ct then (s1, none)
  else
    let f1 := if long then { f with bad := true } else f
    if !s1.sgateOpen x (s1.tb - s1.rxAgo f1.src f1.len f1.ct) then (s1.count (.ctx x 4), none)
    else
      let (s2, ok) := s1.recover5 x f1.pkt
      if !ok then (s2, none)
      else if !s2.bit (R.CTX0_POL x) then (s2, some { f1 with de := pktDei f1.pkt })
      else
        let tested := if f1.ct then s2.ctLength f1.pkt f1.cls else f1.len
        let (s3, col) := s2.police x tested f1.len (pktDei f1.pkt)
        match col with
        | .green => (s3, some { f1 with de := pktDei f1.pkt })
        | .yellow =>
          if s3.bit (R.CTX0_YDROP x) then (s3.count (.ctx x 3), none)
          else (s3.count (.ctx x 2), some { f1 with de := true, pkt := if s3.bit (R.CTX0_MARK x) then pktSetDei f1.pkt else f1.pkt })
        | .red => (s3.count (.ctx x 3), none)

/-- The ingress stamp (R106): the count at the frame's first byte. -/
def State.stampOf (s : State) (p len : Nat) (ct : Bool) : Nat :=
  (s.ageNow + 4294967296 - s.rxAgo p len ct % 4294967296) % 4294967296

/-- A frame of port p whose MAC stage is done passes stages 2 to 9. `saf` holds it store-and-forward uncounted (R222); `bad` says that its FCS or MAC failed. -/
def State.ingress (s : State) (p : Nat) (r : RxFrame) (saf bad : Bool) (rx48 : Int) : State :=
  let ctx := s.identify p r.pkt
  let d := s.destOf p ctx
  let c := s.classOf p ctx r.pkt
  let prp := match ctx with | some x => s.rd (R.CTX1_TAGFMT x) == 2 && s.bit (R.CTX1_SRECV x) | none => false
  let want := (s.rd (R.PORT_FWD_CT p)).testBit c && !saf && !prp
  let ct := want && s.ctRates p d
  if bad && !ct then s
  else
    -- a frame stored for its rates is counted here, whatever later stages do with it (DESIGN CHOICE, log entry 146)
    let s1 := match ctx with
      | some x => (s.count (.ctx x 0)).countBy (.ctx x 1) r.len
      | none => s.count (.port p 0x44)
    match d with
    | .drop ev => (match ev with | some e => s1.count (.port p e) | none => s1)
    | .port _ | .group _ =>
      let f : Frame := { pkt := r.pkt, len := r.len, src := p, cls := c, de := pktDei r.pkt, ctx := ctx, stamp := s1.stampOf p r.len ct, ct := ct, bad := bad, rx48 := rx48 }
      let s2 := if want && !ct then s1.count (.port p 0x42) else s1
      match ctx with
      | none => s2.stage9 f d
      | some x =>
        match s2.stages3to6 x f with
        | (s3, none) => s3
        | (s3, some f1) =>
          match s3.stage8 x f1 with
          | (s4, none) => s4
          | (s4, some f2) => s4.stage9 f2 d

/-- The MAC counts a received frame (Table 14-3). The flag says that its reception failed. -/
def State.macCount (s : State) (p : Nat) (r : RxFrame) : State × Bool :=
  let s1 := (s.count (.port p 0x38)).countBy (.port p 0x39) r.len
  if !r.fcsOk then (s1.count (.port p 0x3C), true)
  else if r.macErr then (s1.count (.port p 0x3D), true)
  else (s1, false)

end Sys2Proof.Machine
end

