-- ==== Sys2Proof/Machine/Sha.lean ====
section
/-! DEFINITION. SHA-256 and HMAC-SHA256 as R244 and R383 use them (PRESUMED from FIPS 180-4 and RFC 2104, log entry 21). -/

namespace Sys2Proof.Machine

/-- The largest number below 2^bits added to `r` whose power `e` does not pass `n`, found bit by bit. -/
def rootBits (e n : Nat) : Nat → Nat → Nat
  | 0, r => r
  | b + 1, r => rootBits e n b (if (r + 2 ^ b) ^ e ≤ n then r + 2 ^ b else r)

/-- The first 32 bits of the fraction of the e-th root of p. -/
def rootFrac (e p : Nat) : Word := .ofNat (rootBits e (p * 2 ^ (32 * e)) 38 0)

/-- The 64 smallest primes. -/
def smallPrimes : List Nat := (List.range 312).filter fun n => decide (1 < n) && (List.range n).all fun d => decide (d < 2) || decide (n % d ≠ 0)

/-- The constant of each round: cube roots of the 64 smallest primes. -/
def shaK : List Word := smallPrimes.map (rootFrac 3)

/-- The initial hash value: square roots of the eight smallest primes. -/
def shaH0 : List Word := (smallPrimes.take 8).map (rootFrac 2)

/-- Big-endian word of four bytes. -/
def beWord (a b c d : Byte) : Word := a ++ b ++ c ++ d

/-- The words of a block. -/
def beWords : List Byte → List Word
  | a :: b :: c :: d :: t => beWord a b c d :: beWords t
  | _ => []

/-- Big-endian bytes of a word. -/
def beBytes (w : Word) : List Byte := [(w >>> 24).setWidth 8, (w >>> 16).setWidth 8, (w >>> 8).setWidth 8, w.setWidth 8]

/-- Exclusive or of a word rotated right by each amount of a list. -/
def rotXor (amounts : List Nat) (x : Word) : Word := amounts.foldl (fun acc n => acc ^^^ x.rotateRight n) 0#32

/-- One step of the message schedule, held newest first. -/
def shaNext (ws : List Word) : Word :=
  let young := ws.getD 1 0
  let old := ws.getD 14 0
  (rotXor [17, 19] young ^^^ (young >>> 10)) + (rotXor [7, 18] old ^^^ (old >>> 3)) + ws.getD 6 0 + ws.getD 15 0

/-- n further words of the schedule. -/
def shaExpand : Nat → List Word → List Word
  | 0, ws => ws
  | n + 1, ws => shaExpand n (shaNext ws :: ws)

/-- Each bit of the mask chooses between the two words. -/
def shaChoose (mask yes no : Word) : Word := no ^^^ (mask &&& (yes ^^^ no))

/-- Each bit of the majority of three words. -/
def shaMajority (x y z : Word) : Word := (x &&& (y ||| z)) ||| (y &&& z)

/-- One round over the eight working words, held as a list: the two new words enter at places 0 and 4. -/
def shaRound (v : List Word) (kw : Word) : List Word :=
  let w (n : Nat) : Word := v.getD n 0#32
  let mix := w 7 + kw + shaChoose (w 4) (w 5) (w 6) + rotXor [6, 11, 25] (w 4)
  let top := mix + shaMajority (w 0) (w 1) (w 2) + rotXor [2, 13, 22] (w 0)
  top :: v.take 3 ++ (w 3 + mix) :: (v.drop 4).take 3

/-- Compress one block of 64 bytes into the hash value. -/
def shaBlock (h : List Word) (blk : List Byte) : List Word :=
  let ws := (shaExpand 48 (beWords blk).reverse).reverse
  let v := (List.zip shaK ws).foldl (fun v kw => shaRound v (kw.1 + kw.2)) h
  List.zipWith (· + ·) h v

/-- The blocks of padded bytes, at most `n` of them. -/
def shaBlocks : Nat → List Word → List Byte → List Word
  | 0, h, _ => h
  | n + 1, h, bs => if bs.length < 64 then h else shaBlocks n (shaBlock h (bs.take 64)) (bs.drop 64)

/-- The padding of a message of n bytes. -/
def shaPad (n : Nat) : List Byte :=
  let z := (119 - n % 64) % 64
  0x80#8 :: List.replicate z 0#8 ++ beBytes (.ofNat (8 * n / 4294967296)) ++ beBytes (.ofNat (8 * n))

/-- SHA-256. -/
def sha256 (m : List Byte) : List Byte :=
  let p := m ++ shaPad m.length
  (shaBlocks (p.length / 64) shaH0 p).flatMap beBytes

/-- HMAC-SHA256 with a key of at most 64 bytes. -/
def hmac (key m : List Byte) : List Byte :=
  let k := key ++ List.replicate (64 - key.length) 0#8
  sha256 ((k.map (· ^^^ 0x5c#8)) ++ sha256 ((k.map (· ^^^ 0x36#8)) ++ m))

end Sys2Proof.Machine
end

