-- ==== Sys2Proof/Machine/PtpOps.lean ====
section
/-! DEFINITION. PTP: timestamps (R223 to R227), delay asymmetry (R231 to R233), matching and disposition (R221), authentication (R244, R245), the corrections of a transparent clock (R234 to R236) and the transmit timestamp queue (R240, R241). -/

namespace Sys2Proof.Machine

def State.ptp (s : State) (p : Nat) : PtpPort := storeGet (fun _ => {}) s.ptps p
def State.setPtp (s : State) (p : Nat) (x : PtpPort) : State := { s with ptps := storeSet (fun _ => {}) s.ptps p x }

/-- A picosecond count in 2^-48 ns. -/
def psTo48 (ps : Int) : Int := ps * 281474976710656 / 1000

/-- A signed field. -/
def State.sgnFld (s : State) (f : Fld) : Int := (BitVec.ofNat f.width (s.rd f)).toInt

/-! ## Instances -/

/-- Port p is a PTP port (R216). -/
def State.ptpPort (s : State) (p : Nat) : Bool := s.rd (R.PTP_PORT_INST p) != 0

/-- The enabled instance of port p that a message answers to (R216). -/
def State.instOf (s : State) (p : Nat) (m : PtpMsg) : Option Nat :=
  (List.range 8).find? fun d => (s.rd (R.PTP_PORT_INST p)).testBit d && s.bit (R.PTP_INST_EN d) &&
    s.rd (R.PTP_INST_DOMNUM d) == m.domNum.toNat && s.rd (R.PTP_INST_SDOID d) == m.sdoId.toNat

/-- The instance is a transparent clock: 1 end-to-end, 2 peer-to-peer; 3 acts as 0. -/
def State.tcType (s : State) (d : Nat) : Nat := let t := s.rd (R.PTP_INST_TYPE d); if t = 1 || t = 2 then t else 0

/-- The domain whose time the peer delay exchange of port p uses: the lowest instance of the port (the exchange is the port's, R233). -/
def State.pdDom (s : State) (p : Nat) : Nat := ((List.range 8).find? (s.rd (R.PTP_PORT_INST p)).testBit).getD 0

/-! ## The data sets of an instance (Table 13-7) -/

/-- Key of an item; instance items have port 0. -/
def dsetKey (item d p : Nat) : Nat := 512 * item + 8 * (if item < 0x10 || item = 0x20 then 0 else p) + d

/-- The EUI-64 of an instance: the base address's six bytes with 0xFF, 0xF0 + d in their middle, first byte most significant (R381). -/
def macBe (m : BitVec 48) : Nat := (List.range 6).foldl (fun n i => 256 * n + m.toNat / 256 ^ i % 256) 0
def euiOf (d : Nat) : Nat := let m := macBe Config.baseMac; m / 16777216 * 1099511627776 + 0xFF * 4294967296 + (0xF0 + d) * 16777216 + m % 16777216

/-- The port's default MAC address: base plus p, first byte lowest. -/
def macOf (p : Nat) : Nat := let m := (macBe Config.baseMac + p) % 281474976710656; (List.range 6).foldl (fun n i => 256 * n + m / 256 ^ i % 256) 0

/-- Defaults of the profile for logSyncInterval and logAnnounceInterval: Table 8-2 for profiles 4 and 5, elsewhere PRESUMED from the profiles' standards. -/
def profileDefault (prof item : Nat) : Int :=
  if item = 0x10 then (if prof = 3 || prof = 4 || prof = 5 then -3 else 0)
  else if prof = 4 then -2 else if prof = 3 then 0 else 1

/-- An item's value words: those set, or the reset value of Table 13-7. -/
def State.dset (s : State) (item d p : Nat) : List Word :=
  match storeGet (fun _ => none) s.dsets (dsetKey item d p) with
  | some w => w
  | none =>
    match item with
    | 0x01 => [128] | 0x02 => [128] | 0x03 => [248] | 0x04 => [0xFE] | 0x05 => [0xFFFF]
    | 0x06 => [.ofNat (euiOf d), .ofNat (euiOf d / 4294967296)]
    | 0x07 => [0] | 0x08 => [0xA0]
    | 0x10 => [.ofInt 32 (profileDefault (s.rd (R.PTP_INST_PROFILE d)) item)]
    | 0x11 => [.ofInt 32 (profileDefault (s.rd (R.PTP_INST_PROFILE d)) item)]
    | 0x12 => [0] | 0x13 => [0] | 0x14 => [3] | 0x15 => [0] | 0x16 => [0, 0, 0, 0]
    | 0x17 => [.ofNat (macOf p), .ofNat (macOf p / 4294967296)]
    | 0x18 => [800] | 0x19 => [0] | _ => []

/-- The number that an item's words form, low word first. -/
def State.dsetNat (s : State) (item d p : Nat) : Nat := (s.dset item d p).foldr (fun w n => w.toNat + 4294967296 * n) 0

/-- 2^log s in ns of an interval item. -/
def State.interval48 (s : State) (item d p : Nat) : Nat :=
  let l := (BitVec.ofNat 32 (s.dsetNat item d p)).toInt
  if l ≥ 0 then 1000000000 * 2 ^ l.toNat else 1000000000 / 2 ^ (-l).toNat

/-- The sourcePortIdentity of port p of instance d: clockIdentity and port number p + 1. -/
def State.portIdent (s : State) (d p : Nat) : BitVec 80 := .ofNat 80 (s.dsetNat 0x06 d p * 65536 + p + 1)

/-! ## Which frames are PTP frames (R221) -/

/-- The multicast addresses of PTP over UDP (PRESUMED from IEEE 1588-2019): 224.0.1.129 and 224.0.0.107, FF0x::181 and FF02::6B, low byte first. -/
def ptpMulticast (h : IpHdr) : Bool :=
  if h.v6 then
    let b (i : Nat) : Nat := h.dst.toNat / 256 ^ i % 256
    b 0 == 0xFF && ((List.range 12).all fun i => b (i + 2) == 0) && ((b 14 == 1 && b 15 == 0x81) || (h.dst.toNat / 256 % 16 == 2 && b 14 == 0 && b 15 == 0x6B))
  else h.dst.toNat == 0x810100E0 || h.dst.toNat == 0x6B0000E0

/-- The port's address of a version, 0 for none (Table 13-7); the addresses are the port's, held under the port's lowest instance. -/
def State.portAddr (s : State) (p : Nat) (v6 : Bool) : Nat := s.dsetNat (if v6 then 0x16 else 0x15) (s.pdDom p) p

/-- The transport by which a frame is a PTP frame of port p (R221). -/
def State.ptpTransport (s : State) (p : Nat) (k : Pkt) : Option Nat :=
  match k.ip with
  | some h =>
    if ipProto h == 17 && (match ipPorts h with | some (_, d) => d == 319 || d == 320 | none => false) &&
        (ptpMulticast h || (s.portAddr p h.v6 != 0 && s.portAddr p h.v6 == h.dst.toNat)) then some (if h.v6 then 2 else 1) else none
  | none => if k.etype == 0x88F7 then some 0 else none

/-- The instance that a message answers to, on an enabled transport. -/
def State.rxInst (s : State) (p : Nat) (k : Pkt) (m : PtpMsg) : Option Nat :=
  match s.ptpTransport p k with
  | some t => if (s.rd (R.PTP_PORT_TRANSPORT p)).testBit t then s.instOf p m else none
  | none => none

/-! ## Kinds of messages -/

/-- Event messages: Sync, Delay_Req, Pdelay_Req, Pdelay_Resp. -/
def PtpEvent (m : PtpMsg) : Bool := m.mtype.toNat < 4

/-- The three peer delay messages (Table 8-3, first row). -/
def PtpPdelay (m : PtpMsg) : Bool := m.mtype == 2 || m.mtype == 3 || m.mtype == 10

/-! ## Timestamps (R225, R227) -/

/-- A unit interval in 10^-6 ps and the units of a block less 1 (R225). -/
def PortMode.ui : PortMode → Nat
  | .r25 => 38787879 | .r100 => 38787879 | .r10 => 96969697 | .x1 => 800000000 | .sgmii => 800000000
def PortMode.block : PortMode → Nat
  | .r25 => 65 | .r100 => 65 | .r10 => 65 | .x1 => 9 | .sgmii => 9

/-- Port p's timestamps are coarse (R224): its channel is marked failed, or its last receive timestamp had neither a measurement nor a locked tracker (R227). -/
def State.portCoarse (s : State) (p : Nat) : Bool := s.tdcFailed p || (s.ptp p).coarse

/-- The latching edge of a received frame on TIME in 2^-48 ns (R224, R227, R228): the tracker's prediction where it is locked and within 20 ps of the measurement or alone, else the measurement; a larger disagreement is a slip. None where neither is there. -/
def State.rxEdge (s : State) (p : Nat) (r : RxFrame) : State × Option Int :=
  let now : Int := ((s.rxNow * nsUnit : Nat) : Int)
  match s.measure p r.code.toNat with
  | (s1, some (i, _)) =>
    if !s1.bit (R.PTP_PSTAT_FINE_LOCK p) then (s1, some (now - i))
    else
      let q := s1.trackerEdge p (now - i)
      if (now - i - q).natAbs ≤ 20 * 281474976710 then (s1, some q) else ((s1.trackerSlip p).count (.port p 0x60), some (now - i))
  | (s1, none) =>
    (s1, if s1.bit (R.PTP_PSTAT_FINE_LOCK p) && !s1.tdcFailed p then some (s1.trackerEdge p (now - ((nsUnit : Nat) : Int) * 3 / 2)) else none)

/-- The receive timestamp of a frame on TIME in 2^-48 ns (R224, R225); a coarse one is the nearest TIME edge. -/
def State.rxStamp (s : State) (p : Nat) (r : RxFrame) : State × Int :=
  let now : Int := ((s.rxNow * nsUnit : Nat) : Int)
  let md := (s.link p).mode
  let fix : Int := (((((md.block - r.bitPos) * md.ui : Nat) : Int) + (((s.rd (R.PTP_LAT_RX_PS p) : Nat) : Int) + s.sgnFld (R.PTP_BOARD_LAT_ING p)) * 1000000) * ((nsUnit : Nat) : Int)) / 1000000000
  let (s1, e) := s.rxEdge p r
  (s1.setPtp p { s1.ptp p with coarse := e.isNone },
   match e with
   | some t => t - fix
   | none => (now - fix + 140737488355328) / ((nsUnit : Nat) : Int) * ((nsUnit : Nat) : Int))

/-- Start latency and its variation in ns (Table 6-2), and eight bytes at the port's rate in 1/25 ns: the preamble and the start-of-frame delimiter. -/
def PortMode.startLat : PortMode → Nat × Nat × Nat
  | .r100 => (48, 1, 16) | .r25 => (48, 1, 64) | .r10 => (96, 2, 160) | .x1 => (512, 8, 1600) | .sgmii => (512, 8, 1600)

/-- The transmit timestamp on TIME in 2^-48 ns of a frame whose start is decided now (R173, R225): the latency of Table 6-2 with a free value within its variation, the preamble, the TX constant and the board. -/
def State.txStamp (s : State) (p : Nat) : State × Int :=
  let (lat, var, pre) := (s.link p).mode.startLat
  let point : Nat := (s.tb + lat - var) * nsUnit + Config.txPoint s.freeCount % (2 * var * nsUnit + 1) + ((s.egr p).frac + pre) * nsUnit / 25
  ({ s with freeCount := s.freeCount + 1 },
   ((point : Nat) : Int) + psTo48 (((s.rd (R.PTP_LAT_TX_PS p) : Nat) : Int) + s.sgnFld (R.PTP_BOARD_LAT_EGR p)))

/-- An instant on TIME as the time, and as the step-free count, of domain d (R224). The factor (1 + ρ) acts on the whole span back from the present TIME edge, with the constants of R225 in it, and not on the interval I alone (DEDUCED, log entry 153). -/
def State.domAt (s : State) (d : Nat) (t48 : Int) : Int := (s.dom d).time - s.onDom d (((s.tb * nsUnit : Nat) : Int) - t48)
def State.sfAt (s : State) (d : Nat) (t48 : Int) : Int := (s.dom d).sf - s.onDom d (((s.tb * nsUnit : Nat) : Int) - t48)

/-! ## Asymmetry (R231, R233) -/

/-- Port p measures no M_p: it uses delay request-response, its instances are transparent clocks, and `LINKDLY` is 0 (R233). -/
def State.mpdOff (s : State) (p : Nat) : Bool :=
  let mine (d : Nat) : Bool := (s.rd (R.PTP_PORT_INST p)).testBit d && s.bit (R.PTP_INST_EN d)
  s.rd (R.PTP_PORT_DELAY p) == 0 && !s.bit (R.PTP_PORT_LINKDLY p) && ((List.range 8).any mine) && (List.range 8).all fun d => !mine d || s.tcType d != 0

/-- M_p in 2^-16 ns. -/
def State.mpd (s : State) (p : Nat) : Nat := if s.mpdOff p then 0 else s.rd (R.PTP_MPD_NS_NS p) * 65536 + s.rd (R.PTP_MPD_FRAC_FRAC p)

/-- A_p in 2^-48 ns. -/
def State.asym (s : State) (p : Nat) : Int :=
  ((s.mpd p : Nat) : Int) * s.sgnFld (R.PTP_ASYM_COEF_COEF p) / 256 +
    psTo48 (s.sgnFld (R.PTP_ASYM_CONST_PS p) + s.sgnFld (R.PTP_ASYM_LATCH_PS p))

/-- Under profile 3 a port is asCapable while its M_p is measured and at most neighborPropDelayThresh (R218). -/
def State.asCapable (s : State) (p d : Nat) : Bool :=
  s.rd (R.PTP_INST_PROFILE d) != 3 || ((s.ptp p).known && decide (s.mpd p ≤ s.dsetNat 0x18 d p * 65536))

/-! ## Authentication (R244, R245) -/

/-- The key bound to (SPP, keyID). -/
def State.boundKey (s : State) (spp keyId : Nat) : Option (List Byte) :=
  match s.binds.find? fun b => b.1 == spp && b.2.1 == keyId with
  | some b => let k := storeGet (fun _ => []) s.keys b.2.2; if k.isEmpty then none else some k
  | none => none

/-- The result of authenticating a message of instance d. -/
inductive Auth where
  | ok | fail | noKey
  deriving DecidableEq, Repr

def State.authCheck (s : State) (d : Nat) (m : PtpMsg) : Auth :=
  if !s.bit (R.PTP_INST_AUTH d) then .ok
  else match m.auth with
    | none => .fail
    | some a =>
      if a.spp.toNat ≠ s.rd (R.PTP_INST_AUX_SPP d) then .fail
      else match s.boundKey a.spp.toNat a.keyId.toNat with
        | none => if s.tcType d = 0 then .fail else .noKey
        | some k =>
          if s.tcType d != 0 && a.covered.length + 16 > 256 then .noKey
          else if a.icv = (hmac k a.covered).take 16 then .ok else .fail

/-- The correction field's eight bytes, big-endian. -/
def corrBytes (v : Int) : List Byte :=
  let w := BitVec.ofInt 64 v
  beBytes ((w >>> 32).setWidth 32) ++ beBytes (w.setWidth 32)

/-- Sign a message again after its correction changed (R245): the correction lies at bytes 8 to 15 of the message. -/
def State.resign (s : State) (m : PtpMsg) : PtpMsg :=
  match m.auth with
  | none => m
  | some a =>
    match s.boundKey a.spp.toNat a.keyId.toNat with
    | none => m
    | some k =>
      let cov := a.covered.take 8 ++ corrBytes m.corr ++ a.covered.drop 16
      { m with auth := some { a with covered := cov, icv := (hmac k cov).take 16 } }

/-! ## The claim TLV (Table 8-7) -/

/-- The octets of a claim TLV, or with `echo` of a claim echo and whether a claim was heard, in network order. -/
def claimTlv (claim : BitVec 16) (echo : Option Bool) : List Byte :=
  [0x80, 0x00, 0x00, 0x0A, 0x7A, 0xE1, 0x93, 0x00, 0x00, if echo.isSome then 0x02 else 0x01,
   (claim >>> 8).setWidth 8, claim.setWidth 8, 0x00, if echo = some true then 0x01 else 0x00]

/-- The claim and echo TLVs that follow a message's own, in that order (R242); `echoes` says that the message carries an echo (R243). -/
def claimTail (m : PtpMsg) (echoes : Bool) : List Byte :=
  (match m.claim with | some c => claimTlv c none | none => []) ++ (if echoes then claimTlv (m.echo.getD 0) (some m.echo.isSome) else [])

/-- Sign a message of the firmware as it leaves (R245): the bytes before its TLVs `tail` are the firmware's own. -/
def State.fwResign (s : State) (m : PtpMsg) (tail : List Byte) : State × PtpMsg :=
  match m.auth with
  | none => (s, m)
  | some a => ({ s with freeCount := s.freeCount + 1 }, s.resign { m with auth := some { a with covered := Config.ptpBytes s.freeCount ++ tail } })

/-! ## Transparent-clock corrections at the egress (R234, R236) -/

/-- Round 2^-48 ns to the nearest 2^-16 ns. -/
def to16 (x : Int) : Int := (x + 2147483648) / 4294967296

/-- A held correction is kept for 1 s. -/
def tcLife : Nat := 1000000000

/-- The corrections that port p still holds, oldest first. -/
def State.tcHeld (s : State) (p : Nat) : List TcEntry := (s.ptp p).tc.filter fun x => decide (s.tb < x.tb + tcLife)

/-- Hold a two-step Sync's correction; beyond 64 entries of the instance the oldest goes (R236). -/
def State.tcHold (s : State) (p : Nat) (e : TcEntry) : State :=
  let l := s.tcHeld p
  let keep := if (l.filter (·.dom == e.dom)).length ≥ 64 then
      (match takeFirst (fun (x : TcEntry) => x.dom == e.dom) l with | some (_, r) => r | none => l) else l
  s.setPtp p { s.ptp p with tc := keep ++ [e] }

/-- A forwarded PTP frame leaves port p now: the message as it leaves (R234 to R236). -/
def State.tcCorrect (s : State) (p : Nat) (f : Frame) (m : PtpMsg) (t48 : Int) : State × PtpMsg :=
  match (if f.src < 64 then s.rxInst f.src f.pkt m else none) with
  | none => (s, m)
  | some d =>
    if s.tcType d = 0 || !(s.rd (R.PTP_PORT_INST p)).testBit d || PtpPdelay m then (s, m)
    else if PtpEvent m then
      let res := s.sfAt d t48 - f.rx48
      let a := if m.mtype = 0 then s.asym f.src + (if s.tcType d = 2 then ((s.mpd f.src : Nat) : Int) * 4294967296 else 0) else if m.mtype = 1 then - s.asym p else 0
      let s2 := s.count (.port p 0x5A)
      if m.mtype = 0 && m.twoStep then
        (s2.tcHold p { dom := d, ident := m.ident, seqId := m.seqId, corr := res + a, tb := s2.tb }, m)
      else (s2, { m with corr := to16 (m.corr * 4294967296 + res + a) })
    else if m.mtype = 8 then
      match takeFirst (fun (x : TcEntry) => x.dom == d && x.ident == m.ident && x.seqId == m.seqId) (s.tcHeld p) with
      | some (e, rest) => (s.setPtp p { s.ptp p with tc := rest }, { m with corr := to16 (m.corr * 4294967296 + e.corr) })
      | none => (s.count (.port p 0x5C), m)
    else (s, m)

/-! ## The transmit timestamp queue (R240, R241) -/

/-- An entry joins port p's queue, or is dropped; its identifier is used up either way. -/
def State.tsqPut (s : State) (p : Nat) (e : TsqEntry) : State × Nat :=
  let E := s.egr p
  let id := E.tsid
  if E.tsq.length ≥ 64 then
    (((s.setEgr p { E with tsid := (id + 1) % 65536 }).setBit (R.TSQ_STAT_OVF p) true).count (.port p 0x62), id)
  else ((s.setEgr p { E with tsid := (id + 1) % 65536, tsq := E.tsq ++ [{ e with tsid := id }] }).syncVec (32 + p / 8), id)

/-- The five words of a latched head (Table 8-10). -/
def tsqWords (e : Option TsqEntry) : List Word :=
  match e with
  | none => [0, 0, 0, 0, 0]
  | some e =>
    let ns := e.time / 65536
    [.ofNat (ns / 1000000000),
     .ofNat (ns / 1000000000 / 4294967296 % 65536 + e.dom * 65536 + (if e.fwd then 524288 else 0) + e.mtype % 16 * 1048576 + 16777216),
     .ofNat (ns % 1000000000), .ofNat (e.time % 65536 + e.tsid * 65536), .ofNat (e.seqId % 65536 + e.domNum % 256 * 65536)]

/-- Reading word 4 removes the head entry. -/
def State.tsqPop (s : State) (p : Nat) : State :=
  (s.setEgr p { s.egr p with tsq := (s.egr p).tsq.drop 1 }).syncVec (32 + p / 8)

/-! ## Messages of the firmware -/

/-- A frame of the firmware joins the egress queue of class c on port p (R222); sources from 64 on are the firmware. -/
def State.fwJoin (s : State) (p c : Nat) (pkt : Pkt) (len : Nat) : State :=
  let f : Frame := { pkt := pkt, len := max 64 len, src := 64, cls := c, stamp := s.ageNow }
  if !s.portUp p then s else match s.partBegin p c false f with | (s1, t) => s1.enqueue p c t true

/-- The domain of a firmware message on port p. -/
def State.fwDom (s : State) (p : Nat) (m : PtpMsg) : Nat := if PtpPdelay m then s.pdDom p else (s.instOf p m).getD 0

/-- A general message with the fields of an event message, of another type and with its timestamp; UDP carries it to port 320. -/
def State.followUp (s : State) (p : Nat) (f : Frame) (m : PtpMsg) (ty : BitVec 4) (t corr : Int) : State :=
  let m1 := { m with mtype := ty, twoStep := false, origin := (t / 65536).toNat, corr := corr + t % 65536, echo := none }
  let tail := claimTail m1 false
  let (s1, m2) := s.fwResign m1 tail
  let pkt := { f.pkt with ptp := some m2, ip := (f.pkt.ip.map fun h => { h with dport := 320 }), body := tail }
  s1.fwJoin p f.cls pkt (f.len + tail.length - f.pkt.body.length)

/-- An Announce, and a Sync with its timestamp in 2^-16 ns, sent by the firmware are noted for the twin (Table 11-2). -/
def State.noteAnn (s : State) (p d : Nat) (a : PtpAnn) : State :=
  { s with twin := { s.twin with own := { s.twin.own with anns := s.twin.own.anns ++ [(Fin.ofNat 8 d, Fin.ofNat 64 p, a)] } } }
def State.noteSync (s : State) (p d : Nat) (t : Int) : State :=
  { s with twin := { s.twin with own := { s.twin.own with syncs := s.twin.own.syncs ++ [(Fin.ofNat 8 d, Fin.ofNat 64 p, t / 65536, 0)] } } }

/-- An event message of the firmware starts (R232, R235): its timestamp is kept, and a two-step message's Follow_Up is queued. -/
def State.fwEgress (s1 : State) (p : Nat) (f : Frame) (m : PtpMsg) (t48 : Int) : State × PtpMsg :=
  let d := s1.fwDom p m
  let t := s1.domAt d t48 / 4294967296
  let P := s1.ptp p
  if m.mtype = 1 then
    (s1.setPtp p { P with t3s := storeSet (fun _ => 0) P.t3s d t }, { m with corr := m.corr - to16 (s1.asym p) })
  else if m.mtype = 2 then (s1.setPtp p { P with p1 := t }, m)
  else if m.mtype = 0 then
    (if m.twoStep then ((s1.noteSync p d t).followUp p f m 8 t m.corr, m) else (s1.noteSync p d t, { m with origin := (t / 65536).toNat, corr := m.corr + t % 65536 }))
  else if m.twoStep then (s1.followUp p f m 10 t P.rcorr, m)
  else (s1, { m with corr := m.corr + (t - P.r2) })

/-- A PTP frame of the firmware starts on port p (R232, R235): its event messages give it t3 and the peer delay's t1. -/
def State.fwStart (s : State) (p : Nat) (f : Frame) (m : PtpMsg) (t48 : Int) : State × Frame :=
  let s0 := s.count (.port p 0x59)
  if PtpEvent m then
    let (s1, m1) := s0.fwEgress p f m t48
    let (s2, m2) := s1.fwResign m1 f.pkt.body
    (s2, { f with pkt := { f.pkt with ptp := some m2 } })
  else (match m.ann with | some a => s0.noteAnn p (s0.fwDom p m) a | none => s0, f)

/-- A PTP event message that no instance handles takes an entry of the timestamp queue (R240). -/
def State.tsqFwd (s1 : State) (p : Nat) (m : PtpMsg) (t48 : Int) : State :=
  let d := s1.rd (R.TSQ_STAT_DOM p)
  (s1.tsqPut p { time := (s1.domAt d t48 / 4294967296).toNat, dom := d, fwd := true, mtype := m.mtype.toNat, tsid := 0, seqId := m.seqId.toNat, domNum := m.domNum.toNat }).1

/-- A rewritten frame: its message, and a UDP checksum computed anew (R235). -/
def Frame.withPtp (f : Frame) (m : PtpMsg) : Frame :=
  { f with pkt := { f.pkt with ptp := some m, ip := f.pkt.ip.map fun h => { h with csumOk := true } } }

/-- What a PTP frame's start on port p does (R232, R234, R235, R240): the frame as it leaves. -/
def State.ptpEgress (s : State) (p : Nat) (f : Frame) (t48 : Int) : State × Frame :=
  match f.pkt.ptp with
  | none => (s, f)
  | some m =>
    if f.src ≥ 64 then (if s.ptpPort p then s.fwStart p f m t48 else (s, f))
    else if (s.ptpTransport f.src f.pkt).isNone then (s, f)
    else
      let s0 := if s.ptpPort p then s.count (.port p 0x59) else s
      match s.rxInst f.src f.pkt m with
      | some d =>
        let (s1, m1) := s0.tcCorrect p f m t48
        let m2 := if s.bit (R.PTP_INST_AUTH d) then s1.resign m1 else m1
        (s1, if m2 = m then f else f.withPtp m2)
      | none => (if PtpEvent m && s.bit (R.PTP_PORT_TSQ_FWD p) then s0.tsqFwd p m t48 else s0, f)

end Sys2Proof.Machine
end

