-- ==== Sys2Proof/Machine/EgressOps.lean ====
section
/-! DEFINITION. The egress: gates and the fit test (R165 to R170), due launches (R171, R172), shapers and selection (R128 to R130), preemption (R177 to R181), the start and end of a transmission, and ports that go down and come up (R102, R107, R108). -/

namespace Sys2Proof.Machine

/-! ## Gates and windows (R168, R169) -/

def State.gateOpen (s : State) (p c : Nat) : Bool := (s.rd (R.PORT_GSTAT_STATE p)).testBit c
def State.held (s : State) (p : Nat) : Bool := s.bit (R.PORT_GSTAT_HOLD p)

/-- T of an action of the current Orbit, and of the next, in 2^-48 ns of the orbit domain (R148). -/
def actAt (start : Int) (a : Act) : Int := start * 65536 + ((a.off * (nsUnit / 64) : Nat) : Int)

/-- A `GATE` action for port p that closes class c. -/
def closes (p c : Nat) (a : Act) : Bool :=
  match a.kind with
  | .gate q st _ => q == p && !st.testBit c
  | .sgate _ _ => false | .launch _ _ => false | .inj _ _ => false | .tout _ _ => false | .capt _ _ => false | .mark _ => false | .rswap => false

/-- `PORT_GCARRY.CARRY` in ns; it acts as at most the whole ns of the period. -/
def State.carry (s : State) (p : Nat) : Nat := min (s.rd (R.PORT_GCARRY_CARRY p)) (s.orbit.grid.period / 4294967296)

/-- The time of domain d at the instant of port p's decision: that of the last TIME edge, and the part of the cycle since (R165). -/
def State.timeAt (s : State) (p d : Nat) : Int :=
  let D := s.dom d
  ((D.time + (s.egr p).frac * ((tickDomain (s.slewPpm d) D).1.time - D.time) / 25 : Nat) : Int)

/-- The window end E of class c on port p for a decision now, in 2^-48 ns of the orbit domain; none where no end is found (R169). -/
def State.windowEnd (s : State) (p c : Nat) : Option Int :=
  let E := s.eng (p / 8)
  let t : Int := s.timeAt p s.orbit.grid.dom
  if !s.orbit.begun then none
  else match E.exec.find? fun a => closes p c a && decide (t ≤ actAt s.orbit.start a) with
    | some a => some (actAt s.orbit.start a)
    | none =>
      if E.sealed then (E.pendList.find? (closes p c)).map (actAt s.orbit.next)
      else some (s.orbit.next * 65536 + ((s.carry p * nsUnit : Nat) : Int))

/-- (n + 20 + `MARGIN`) × 8 / r ≤ span, in exact arithmetic (R168). -/
def State.fitsIn (s : State) (p n : Nat) (span : Int) : Bool :=
  decide ((((n + 20 + s.rd (R.PORT_GCTL_MARGIN p)) * 8 * nsUnit : Nat) : Int) ≤ (((s.link p).mode.rate : Nat) : Int) * span)

/-- Time from now to the window end; none where the window has no end. -/
def State.left (s : State) (p c : Nat) : Option Int := (s.windowEnd p c).map fun e => e - s.timeAt p s.orbit.grid.dom

/-- The whole of the window in progress (R170): what is left of it and what has passed since its gate opened, measured on the step-free count, so that a step of the orbit domain within the window does not change the part that has passed (DESIGN CHOICE, log entry 149). -/
def State.whole (s : State) (p c : Nat) : Option Int :=
  (s.left p c).map fun x => x + ((s.orbDom.sf : Int) + (s.timeAt p s.orbit.grid.dom - (s.orbDom.time : Int)) - storeGet (fun _ => 0) (s.egr p).opened c)

/-! ## Preemption (R177 to R181) -/

def PortMode.merges : PortMode → Bool
  | .r25 => true | .r10 => true | .r100 => true | .x1 => false | .sgmii => false

/-- `PORT_PREEMPT.STATUS` as it reads: 5 in the modes without preemption. -/
def State.mmStatus (s : State) (p : Nat) : Nat :=
  if (s.link p).mode.merges then (if s.bit (R.PORT_PREEMPT_EN p) then s.rd (R.PORT_PREEMPT_STATUS p) else 0) else 5

/-- Preemption is active on port p: `PORT_PREEMPT.ACTIVE` (R177). -/
def State.mmActive (s : State) (p : Nat) : Bool :=
  (s.link p).mode.merges && s.bit (R.PORT_PREEMPT_EN p) && (s.bit (R.PORT_PREEMPT_VERIFY_DIS p) || s.rd (R.PORT_PREEMPT_STATUS p) == 3)

/-- Class c of port p is preemptable now. -/
def State.preemptable (s : State) (p c : Nat) : Bool := s.mmActive p && (s.rd (R.PORT_PREEMPT_PMAC p)).testBit c

/-- The minimum fragment, mCRC included. -/
def State.minFrag (s : State) (p : Nat) : Nat := 64 * (1 + s.rd (R.PORT_PREEMPT_ADDFRAG p))

/-- The verify procedure starts, or starts again: a verify mPacket goes out and its timer runs. Hold is released where preemption is not active now (R181). -/
def State.mmVerify (s : State) (p : Nat) : State :=
  let s1 := if (s.link p).mode.merges && s.bit (R.PORT_PREEMPT_EN p) && !s.bit (R.PORT_PREEMPT_VERIFY_DIS p) && s.portUp p then
    ((s.wr (R.PORT_PREEMPT_STATUS p) 2).setEgr p { s.egr p with verify := 1, verifyTb := s.tb }).emit (.mpacket p false)
  else (s.wr (R.PORT_PREEMPT_STATUS p) (if s.bit (R.PORT_PREEMPT_EN p) then 1 else 0)).setEgr p { s.egr p with verify := 0 }
  if s1.mmActive p then s1 else s1.setBit (R.PORT_GSTAT_HOLD p) false

/-- The verify time of port p in ns: `PORT_PREEMPT.VTIME` ms, 0 acting as 1 and more than 128 as 128 (R186). -/
def State.verifyNs (s : State) (p : Nat) : Nat := min 128 (max 1 (s.rd (R.PORT_PREEMPT_VTIME p))) * 1000000

/-- TIME passes to the end of the verify time in progress: a further attempt of three, or failure. -/
def State.mmTimeout (s : State) (p : Nat) : State :=
  if s.rd (R.PORT_PREEMPT_STATUS p) ≠ 2 then s
  else
    let s1 := s.passN ((s.egr p).verifyTb + s.verifyNs p - s.tb)
    if (s1.egr p).verify < 3 then (s1.setEgr p { s1.egr p with verify := (s1.egr p).verify + 1, verifyTb := s1.tb }).emit (.mpacket p false)
    else s1.wr (R.PORT_PREEMPT_STATUS p) 4

/-- A preemptable part of `n` bytes that starts now: whether it may start, and the bytes at which it is cut, if it is (R180). -/
def State.fragFit (s : State) (p n : Nat) (span : Option Int) : Bool × Option Nat :=
  match span with
  | none => (true, none)
  | some x =>
    if s.fitsIn p n x then (true, none)
    else if s.minFrag p + 64 ≤ n && s.fitsIn p (s.minFrag p) x then
      let room := ((((s.link p).mode.rate : Nat) : Int) * x / ((8 * nsUnit : Nat) : Int) - 20).toNat
      (true, some (min (n - 64) (max (s.minFrag p) room - 4)))
    else (false, none)

/-- Bytes of the transmission in progress that have left by now. -/
def State.txSent (s : State) (p : Nat) (x : Tx) : Nat := (25 * (s.tb - x.start) - x.startF) * (s.link p).mode.rate / 200 - 8

/-- The bytes at which the fragment in progress is cut, once its frame's length is known as that allows: a frame that ends by then, or that leaves no permitted point, is not cut (R179, R180). -/
def State.cutOf (s : State) (p : Nat) (x : Tx) : Option Nat :=
  match x.cut with
  | none => none
  | some d =>
    let n := x.frame.len - x.before
    if !x.complete || d + 64 ≤ n then some d
    else if n ≤ d + 4 || n < s.minFrag p + 60 then none
    else some (n - 64)

/-- The end of the transmission in progress in 1/25 ns from TB_CYC 0 (R165): (L + 20) × 8 / r ns after its start, a fragment counting its mCRC. None while a cut-through frame's end is not known. -/
def State.txEndAt (s : State) (p : Nat) (x : Tx) : Option Nat :=
  let stop (n : Nat) : Nat := 25 * x.start + x.startF + (n + 20) * 200 / (s.link p).mode.rate
  match s.cutOf p x with
  | some d => some (stop (d + 4))
  | none => if x.complete then some (stop (x.frame.len - x.before)) else none

/-- The preemptable fragment in progress is ended at the earliest permitted point (R179). -/
def State.cutEarliest (s : State) (p : Nat) : State :=
  match (s.egr p).tx with
  | some x =>
    let d := max (s.txSent p x) (s.minFrag p - 4)
    if x.pre && d + 64 ≤ x.frame.len - x.before && (match x.cut with | some k => decide (d < k) | none => true) then
      s.setEgr p { s.egr p with tx := some { x with cut := some d } }
    else s
  | none => s

/-! ## Shapers (R128, R130) -/

def State.shaper (s : State) (k : Nat) : Shaper := storeGet (fun _ => {}) s.shapers k
def State.setShaper (s : State) (k : Nat) (x : Shaper) : State := { s with shapers := storeSet (fun _ => {}) s.shapers k x }

/-- A shaper's rate in kbit/s: at most the port's. -/
def State.shpRate (s : State) (p : Nat) (f : Fld) : Nat := min (s.rd f) ((s.link p).mode.rate * 1000000)

/-- One byte in 2^-8 byte, the unit of a shaper's credit. -/
def creditUnit : Nat := 256

/-- The credits of queue (p, c) as of now. -/
def State.credits (s : State) (p c : Nat) : Shaper :=
  let x := s.shaper (8 * p + c)
  let dt := s.tb - x.tb
  let ci := accrue 1 31250 x.c x.cRem (s.shpRate p (R.SHP_CIR_RATE p c)) dt ((s.rd (R.SHP_CBS_BURST p c) * creditUnit : Nat) : Int)
  let pi := accrue 1 31250 x.p x.pRem (s.shpRate p (R.SHP_PIR_RATE p c)) dt ((s.rd (R.SHP_PBS_BURST p c) * creditUnit : Nat) : Int)
  { x with c := ci.1, cRem := ci.2, p := pi.1, pRem := pi.2, tb := s.tb }

/-- `PORT_SCHED.OVH`, from −16 to 63. -/
def State.ovh (s : State) (p : Nat) : Int := max (-16) (s.sgnFld (R.PORT_SCHED_OVH p))

/-- W of a frame (R128). -/
def State.chargeW (s : State) (p L : Nat) : Int := (L : Int) + s.ovh p

/-- A frame of queue (p, c) starts: both credits fall by W. -/
def State.shpCharge (s : State) (p c L : Nat) : State :=
  let x := s.credits p c
  let w := s.chargeW p L * (creditUnit : Int)
  s.setShaper (8 * p + c) { x with c := x.c - w, p := x.p - w }

/-- `SHP_QUANT.QUANTUM`; values below 64 act as 64. -/
def State.quantum (s : State) (p c : Nat) : Nat := max 64 (s.rd (R.SHP_QUANT_QUANTUM p c))

/-! ## Selection (R129, R166, R167, R172) -/

def State.head? (s : State) (p c : Nat) : Option EFrame := (s.egrQ (8 * p + c)).q.head?

/-- Length for the fit test: the descriptor's `LEN`, the class MTU where it is 0, and the trailer's length once it has come (R168, R170). -/
def State.fitLen (s : State) (e : EFrame) : Nat := if e.complete then e.frame.len else s.descLen e.frame

/-- Queue (p, c) is eligible. -/
def State.elig (s : State) (p c : Nat) : Bool :=
  match s.head? p c with
  | none => false
  | some e =>
    s.gateOpen p c && !(s.egr p).paused.testBit c &&
      (if s.preemptable p c then !s.held p && (s.egr p).susp.isNone && (s.fragFit p (s.fitLen e) (s.left p c)).1
       else match s.left p c with | some x => s.fitsIn p (s.fitLen e) x | none => true)

/-- The head of queue (p, c) is oversize for its window (R170, R180). -/
def State.oversize (s : State) (p c : Nat) : Bool :=
  match s.head? p c, s.whole p c with
  | some e, some w =>
    s.gateOpen p c && (e.complete || !e.frame.ct) && !s.fitsIn p e.frame.len w &&
      (!s.preemptable p c || !s.fitsIn p (s.minFrag p) w)
  | _, _ => false

/-- The due launches whose frames stand at the head of their queue, and injections: each queue's first. -/
def firstDue : List Nat → List Due → List Due
  | _, [] => []
  | seen, d :: t =>
    match d.cls with
    | some c => if seen.contains c then firstDue seen t else d :: firstDue (c :: seen) t
    | none => d :: firstDue seen t

/-- Due launches in order: the instant, then engines before host slots (R172). -/
def insertDue (d : Due) : List Due → List Due
  | [] => [d]
  | e :: t => if d.tb < e.tb || (d.tb == e.tb && decide (d.prio < e.prio)) then d :: e :: t else e :: insertDue d t

/-- The classes of the round-robin group of port p. -/
def State.group (s : State) (p : Nat) : List Nat := [7, 6, 5, 4, 3, 2, 1, 0].filter fun c => (s.rd (R.PORT_SCHED_DWRR p)).testBit c

/-- Deficit round robin among the eligible members of a group: the state with the new deficits and turn, and the class served. A head is charged when it is chosen, one then discarded for age included (DESIGN CHOICE, log entry 150). A turn's queue is served while its deficit covers its head; the turn then passes downwards, and adds the next queue's quantum. -/
def State.drr (s : State) (p : Nat) (cs : List Nat) : Nat → State × Option Nat
  | 0 => (s, none)
  | n + 1 =>
    let c := (s.egr p).rr
    let x := s.shaper (8 * p + c)
    let w := match s.head? p c with | some e => (s.chargeW p e.frame.len).toNat | none => 0
    if cs.contains c && decide (w ≤ x.deficit) then (s.setShaper (8 * p + c) { x with deficit := x.deficit - w }, some c)
    else
      match ((List.range 8).map fun i => (c + 7 - i) % 8).find? cs.contains with
      | none => (s, none)
      | some d =>
        let y := s.shaper (8 * p + d)
        let s1 := (s.setShaper (8 * p + d) { y with deficit := y.deficit + s.quantum p d }).setEgr p { s.egr p with rr := d }
        s1.drr p cs n

/-- The highest rank among classes that satisfy `ok` (R129). -/
def State.byRank (s : State) (p : Nat) (ok : Nat → Bool) : State × Option Nat :=
  let g := s.group p
  let top := g.headD 8
  match [7, 6, 5, 4, 3, 2, 1, 0].find? fun c => if g.contains c then c == top && g.any ok else ok c with
  | none => (s, none)
  | some c =>
    if c = top then
      let s0 := g.foldl (fun s d => if (s.egrQ (8 * p + d)).q.isEmpty then s.setShaper (8 * p + d) { s.shaper (8 * p + d) with deficit := 0 } else s) s
      s0.drr p (g.filter ok) 1300
    else (s, some c)

/-- What a decision names. -/
inductive Pick where
  | due (d : Due)
  | queue (c : Nat)
  deriving DecidableEq, Repr

/-- Table 4-4 over the classes that satisfy `mine`; an injection counts with the express classes. -/
def State.select (s : State) (p : Nat) (mine : Nat → Bool) (inj : Bool) : State × Option Pick :=
  let dueOk (d : Due) : Bool := match d.cls with | some c => mine c && s.elig p c | none => inj
  match (firstDue [] (s.egr p).due).find? dueOk with
  | some d => (s, some (.due d))
  | none =>
    let ok (c : Nat) : Bool := mine c && s.elig p c
    match s.byRank p fun c => ok c && s.rd (R.SHP_CIR_RATE p c) != 0 && decide (0 ≤ (s.credits p c).c) with
    | (s1, some c) => (s1, some (.queue c))
    | (_, none) =>
      match s.byRank p fun c => ok c && (s.rd (R.SHP_PIR_RATE p c) == 0 || decide (0 ≤ (s.credits p c).p)) with
      | (s1, some c) => (s1, some (.queue c))
      | (_, none) => (s, none)

/-! ## Starting -/

/-- Remove the head of queue (p, c), and its due launch with it. -/
def State.takeHead (s : State) (p c : Nat) : State × Option Due :=
  let s1 := s.setEgrQ (8 * p + c) { s.egrQ (8 * p + c) with q := (s.egrQ (8 * p + c)).q.drop 1 }
  match takeFirst (fun (d : Due) => d.cls == some c) (s.egr p).due with
  | some (d, rest) => (s1.setEgr p { s1.egr p with due := rest }, some d)
  | none => (s1, none)

/-- The head of queue (p, c) is discarded. -/
def State.dropHead (s : State) (p c ev : Nat) : State :=
  match s.head? p c with
  | none => s
  | some e => ((((s.takeHead p c).1.freeUnits (8 * p + c) e.units).killPart p e.frame.src e.frame.cls e.id)).count (.port p ev)

/-- Oversize heads of port p are discarded (R170), at most `n` of them. -/
def State.dropOversize (s : State) (p : Nat) : Nat → State
  | 0 => s
  | n + 1 =>
    match (List.range 8).find? (s.oversize p) with
    | some c => (s.dropHead p c (0x30 + c)).dropOversize p n
    | none => s

/-- The timestamp entry that a host launch slot asks for (R175, R240). -/
def State.slotStamp (s : State) (p k : Nat) (t48 : Int) : State :=
  if s.bit (R.HLS3_TSQ p k) then
    let d := s.rd (R.HLS1_DOM p k)
    let (s2, id) := s.tsqPut p { time := (s.domAt d t48 / 4294967296).toNat, dom := d, fwd := false, tsid := 0, mtype := 0, seqId := 0, domNum := 0 }
    s2.wr (R.HLS3_TSID p k) id
  else s

/-- A frame starts on port p; its timestamp is taken once (R224). -/
def State.startTx (s : State) (p c : Nat) (f : Frame) (id units : Nat) (complete pre : Bool) (cut : Option Nat) (slot : Option Nat) : State :=
  let (s0, t48) := s.txStamp p
  let s1 := match slot with | some k => s0.slotStamp p k t48 | none => s0
  let (s2, f2) := s1.ptpEgress p f t48
  s2.setEgr p { s2.egr p with tx := some { frame := f2, cls := c, complete := complete, id := id, units := units, start := s2.tb, startF := (s2.egr p).frac, cut := cut, pre := pre } }

/-- The head of queue (p, c) starts, or is discarded for age (R106); the flag says that the choice is made again. -/
def State.startHead (s : State) (p c : Nat) : State × Bool :=
  match s.head? p c with
  | none => (s, false)
  | some e =>
    if s.aged c e.frame.stamp then (s.dropHead p c (0x18 + c), true)
    else
      let pre := s.preemptable p c
      let cut := if pre then (s.fragFit p (s.fitLen e) (s.left p c)).2 else none
      let (s1, d) := s.takeHead p c
      ((s1.shpCharge p c e.frame.len).startTx p c e.frame e.id e.units e.complete pre cut (match d with | some d => d.slot | none => none), false)

/-- An injected frame starts; an edge port sinks it (R331). -/
def State.startInj (s : State) (p : Nat) (d : Due) : State × Bool :=
  match takeFirst (· == d) (s.egr p).due, d.inj with
  | some (_, rest), some f =>
    let s1 := s.setEgr p { s.egr p with due := rest }
    match s1.sinks p f with
    | some v => (s1.sinkFrame p f v, true)
    | none => (s1.startTx p f.cls f 0 0 true false none none, false)
  | _, _ => (s, false)

/-- The suspended preemptable frame of port p may go on: its gate is open, hold is released and its next fragment fits (R180). -/
def State.resumeOk (s : State) (p : Nat) (x : Tx) : Bool × Option Nat :=
  if s.gateOpen p x.cls && !s.held p then s.fragFit p (x.frame.len - x.before) (s.left p x.cls) else (false, none)

/-- One decision of an idle MAC; the flag says that it is made again. -/
def State.decide1 (s : State) (p : Nat) : State × Bool :=
  let go (r : State × Option Pick) : State × Bool :=
    match r with
    | (s1, some (.queue c)) => s1.startHead p c
    | (s1, some (.due d)) => (match d.cls with | some c => s1.startHead p c | none => s1.startInj p d)
    | (s1, none) => (s1, false)
  match s.select p (fun c => !s.preemptable p c) true with
  | (s1, some x) => go (s1, some x)
  | (s1, none) =>
    match (s1.egr p).susp with
    | some x =>
      let (ok, cut) := s1.resumeOk p x
      if ok then ((s1.setEgr p { s1.egr p with susp := none, tx := some { x with start := s1.tb, startF := (s1.egr p).frac, cut := cut } }).count (.port p 0x51), false)
      else (s1, false)
    | none => go (s1.select p (s1.preemptable p) false)

/-- The frame-start decision, made again after each discard. -/
def State.decideLoop (s : State) (p : Nat) : Nat → State
  | 0 => s
  | n + 1 => let (s1, again) := (s.dropOversize p 4096).decide1 p; if again then s1.decideLoop p n else s1

/-- The egress sends in the forwarding modes, and in RECOVER what is queued (Table 2-10), unless its octet's power state gates it (Table 12-5). -/
def State.sends (s : State) (p : Nat) : Bool := (s.mode.fwd || s.mode == .recover) && s.portUp p && s.octPower (p / 8) == 0

/-- An express frame is eligible on port p. -/
def State.expressReady (s : State) (p : Nat) : Bool := (s.select p (fun c => !s.preemptable p c) true).2.isSome

/-- A frame-start decision of port p (R165): an idle MAC chooses; during a preemptable fragment an express frame that is eligible ends it early (R179). -/
def State.decision (s : State) (p : Nat) : State :=
  if !s.sends p then s
  else match (s.egr p).tx with
    | none => s.decideLoop p 4096
    | some x => if x.pre && s.expressReady p then s.cutEarliest p else s

/-- The transmission in progress ends (R165): a cut fragment is suspended, a whole frame is counted and its memory freed. -/
def State.txEnd (s : State) (p : Nat) : State :=
  match (s.egr p).tx with
  | none => s
  | some x =>
    match s.cutOf p x with
    | some d => s.setEgr p { s.egr p with tx := none, susp := some { x with before := x.before + d, cut := none } }
    | none =>
      if !x.complete then s
      else
        let s1 := (s.setEgr p { s.egr p with tx := none }).emit (.frame p x.frame.pkt x.frame.len true x.start (s.txSynth p))
        ((s1.freeUnits (8 * p + x.cls) x.units).count (.port p 0x3A)).countBy (.port p 0x3B) x.frame.len

/-! ## Launches and gates (R171, R174, R175, R181) -/

/-- Launches of a queue beyond which no frame is left are misses: a launch makes the next frame due. The flag says that one became due. -/
def State.launch (s : State) (p c : Nat) (slot : Option Nat) (prio : Nat) : State × Bool :=
  let E := s.egr p
  if !s.sends p || decide ((s.egrQ (8 * p + c)).q.length ≤ (E.due.filter (·.cls == some c)).length) then (s, false)
  else (s.setEgr p { E with due := insertDue { cls := some c, slot := slot, tb := s.tb, prio := prio } E.due }, true)

/-- The due launches of a class lapse when its gate closes (R171, R175). -/
def State.lapse (s : State) (p c : Nat) : State :=
  let gone := (s.egr p).due.filter (·.cls == some c)
  let s1 := s.setEgr p { s.egr p with due := (s.egr p).due.filter (·.cls != some c) }
  let s2 := s1.countBy (.port p 0x50) gone.length
  gone.foldl (fun s d => match d.slot with | some k => s.setBit (R.HLS3_LAPSE p k) true | none => s) s2

/-- The gates of port p take `st`, and its hold the request `hold` (1 hold, 2 release); hold stays released while preemption is not active (R181). -/
def State.setGates (s : State) (p st hold : Nat) : State :=
  let old := s.rd (R.PORT_GSTAT_STATE p)
  let s1 := (List.range 8).foldl (fun s c =>
    if old.testBit c && !st.testBit c then s.lapse p c
    else if !old.testBit c && st.testBit c then s.setEgr p { s.egr p with opened := storeSet (fun _ => 0) (s.egr p).opened c (s.orbDom.sf : Int) }
    else s) s
  let s2 := s1.wr (R.PORT_GSTAT_STATE p) st
  let s3 := if hold = 1 && s2.mmActive p then s2.setBit (R.PORT_GSTAT_HOLD p) true else if hold = 2 then s2.setBit (R.PORT_GSTAT_HOLD p) false else s2
  match (s3.egr p).tx with
  | some x => if x.pre && (s3.held p || !s3.gateOpen p x.cls) then s3.cutEarliest p else s3
  | none => s3

/-- All gates open and hold released, at the end of BOOT and after a warm reset (Table 5-3, R181). -/
def State.openGates (s : State) : State :=
  (List.range 64).foldl (fun s p =>
    (s.setReg (A.PORT_GSTAT p) 0xFF).setEgr p
      { s.egr p with opened := (List.range 8).foldl (fun m c => storeSet (fun _ => 0) m c (s.orbDom.sf : Int)) (s.egr p).opened }) s

/-! ## Ports that go down and come up -/

/-- The head of a VOQ of which cells have left is discarded (R107, R108): its reassembly ends with the last cell sent, and goes on with the next frame. Returns how many left. -/
def State.voqCut (s : State) (p src c : Nat) : State × Nat :=
  let v := s.voq (voqKey src p c)
  match v.q with
  | e :: t =>
    if e.sent = 0 then (s, 0)
    else
      let rk := reasmKey p false src c
      let s1 := (s.setVoq (voqKey src p c) { v with q := t }).freeFrame e.frame
      ((s1.setReasm rk { s1.reasm rk with stop := some (e.fnum, e.cells) }).stopHere p rk c, 1)
  | [] => (s, 0)

/-- A VOQ is flushed (R107). -/
def State.voqFlush (s : State) (p src c : Nat) : State × Nat :=
  let (s1, n) := s.voqCut p src c
  let (s2, m) := s1.voqDrop (voqKey src p c) fun _ => true
  (s2, n + m)

/-- Frames of a VOQ that exceed their age limit are discarded (R108), one of which cells have left too. -/
def State.voqAge (s : State) (p src c : Nat) : State × Nat :=
  let old (e : VEntry) : Bool := s.aged c e.frame.stamp
  let (s1, n) := match (s.voq (voqKey src p c)).q with | e :: _ => if old e then s.voqCut p src c else (s, 0) | [] => (s, 0)
  let (s2, m) := s1.voqDrop (voqKey src p c) old
  (s2, n + m)

/-- The egress queue (p, c) is flushed: how many frames left. -/
def State.egrFlush (s : State) (p c : Nat) : State × Nat :=
  let q := (s.egrQ (8 * p + c)).q
  (q.foldl (fun s e => (s.freeUnits (8 * p + c) e.units).killPart p e.frame.src e.frame.cls e.id)
    (s.setEgrQ (8 * p + c) { s.egrQ (8 * p + c) with q := [] }), q.length)

/-- A transmission in progress or suspended is lost (R107, R182). -/
def State.txLose (s : State) (p : Nat) (o : Option Tx) : State :=
  match o with
  | none => s
  | some x => ((s.freeUnits (8 * p + x.cls) x.units).killPart p x.frame.src x.frame.cls x.id).count (.port p 0x3E)

/-- Port p goes down (R107, R182), its tracker and a run on its recovered clock with it (R228, R263); `rx` says that a frame was in reception. -/
def State.linkDown (s : State) (p : Nat) (rx : Bool) : State :=
  let E := s.egr p
  let s1 := (s.setEgr p { E with tx := none, susp := none }).setLink p { s.link p with up := false }
  let s2 := (s1.txLose p E.tx).txLose p E.susp
  let s3 := (((if rx then s2.count (.port p 0x3D) else s2).rxBreak p).trackerReset p).calLinkLost p
  (List.range 8).foldl (fun s c =>
    if s.ageLimit c != 0 then s
    else
      let (sa, n) := s.egrFlush p c
      let (sb, m) := (List.range 64).foldl (fun (acc : State × Nat) src => let (t, k) := acc.1.voqFlush p src c; (t, acc.2 + k)) (sa, 0)
      (sb.setEgr p { sb.egr p with due := (sb.egr p).due.filter (·.cls != some c) }).countBy (.port p 0x4C) (n + m)) s3

/-- Every 1 ms held frames of a down port that exceed their age limit are discarded (R108). -/
def State.ageScanPort (s : State) (p : Nat) : State :=
  if s.portUp p then s
  else (List.range 8).foldl (fun s c =>
    if s.ageLimit c = 0 then s
    else
      let old := (s.egrQ (8 * p + c)).q.filter fun e => s.aged c e.frame.stamp
      let keep := (s.egrQ (8 * p + c)).q.filter fun e => !s.aged c e.frame.stamp
      let s1 := old.foldl (fun s e => (s.freeUnits (8 * p + c) e.units).killPart p e.frame.src e.frame.cls e.id)
        (s.setEgrQ (8 * p + c) { s.egrQ (8 * p + c) with q := keep })
      let (s2, n) := (List.range 64).foldl (fun (acc : State × Nat) src =>
        let (t, k) := acc.1.voqAge p src c; (t, acc.2 + k)) (s1, 0)
      s2.countBy (.port p (0x18 + c)) (old.length + n)) s

def State.ageScan (s : State) : State := (List.range 64).foldl State.ageScanPort s

/-- Mode and latency constants in ps of Table 8-4. -/
def LinkMode : LinkKind → PortMode
  | .r25none => .r25 | .r25base => .r25 | .r25rs => .r25 | .r100rs => .r100
  | .r10none => .r10 | .r10base => .r10 | .x1 => .x1 | .sgmii => .sgmii
def LinkLat : LinkKind → Nat × Nat
  | .r25none => (14080, 10240) | .r25base => (177920, 15360) | .r25rs => (259840, 23040) | .r100rs => (136960, 17920)
  | .r10none => (25600, 19200) | .r10base => (435200, 32000) | .x1 => (64000, 48000) | .sgmii => (64000, 48000)

/-- The lanes of a port in a mode. -/
def portLanes (p : Nat) (m : PortMode) : List Nat := if m = .r100 then [p, p + 1, p + 2, p + 3] else [p]

/-- Port p comes up in a mode (R102, R107, R226); `deskew` is the deskew delay of lane 4k in ps. -/
def State.linkUp (s : State) (p : Nat) (k : LinkKind) (deskew : Nat) : State :=
  let m := LinkMode k
  if (m = .r100 && p % 4 != 0) || s.octOff (p / 8) then s
  else
    let lanes := portLanes p m
    let sB := (lanes.drop 1).foldl (fun s q => if (s.link q).up then s.linkDown q false else s) s
    let sC := (List.range 8).foldl (fun s c => s.setShaper (8 * p + c) (s.credits p c)) sB
    let s1 := lanes.foldl State.trainDone (sC.setLink p { up := true, mode := m })
    let (rx, tx) := LinkLat k
    let s2 := (s1.wr (R.PTP_LAT_RX_PS p) (rx + if m = .r100 then deskew else 0)).wr (R.PTP_LAT_TX_PS p) tx
    let s3 := s2.setEgr p { s2.egr p with paused := 0 }
    let s4 := (List.range 8).foldl (fun s c =>
      let t := s.xoffCheck p c
      if (t.egr p).xoff.testBit c && t.lossless p c then t.pfcSend p c true else t) s3
    (s4.mmVerify p).clkobsAfter s

end Sys2Proof.Machine
end

