-- ==== Sys2Proof/Machine/Operands.lean ====
section
/-! DEFINITION. The operand forms of the orbit engines: the second operand of ALU and BR, the address of LD, the offset of an action (R156 to R158), and the checks of the reserved bits of each format (R156, R159). -/

namespace Sys2Proof.Machine

/-- Register g of an engine. -/
def Engine.getG (E : Engine) (r : BitVec 4) : Word := storeGet (fun _ => 0) E.g r.toNat

/-- The engine with register g set. -/
def Engine.setG (E : Engine) (r : BitVec 4) (v : Word) : Engine := { E with g := storeSet (fun _ => 0) E.g r.toNat v }

/-- The second operand: g[GB] when I = 0, IMM when I = 1 (R156). -/
def Engine.opB (E : Engine) (i : Bool) (gb : BitVec 4) (imm : Word) : Word := if i then imm else E.getG gb

end Sys2Proof.Machine

namespace Sys2Proof

/-- ALU words: reserved bits 0, IMM 0 when I = 0, GB 0 when I = 1 (R156). -/
def AluArgs.legal (w : AluArgs) : Bool := w.rsv == 0 && (if w.i then w.gb == 0 else w.imm == 0)

/-- BR words with CC other than 0 (R156). -/
def BrArgs.legal (w : BrArgs) : Bool := w.rsv == 0 && (if w.i then w.gb == 0 else w.imm == 0)

/-- JMP words: GA, GB, I and IMM all 0 (R156). -/
def BrArgs.legalJmp (w : BrArgs) : Bool := w.rsv == 0 && w.ga == 0 && w.gb == 0 && !w.i && w.imm == 0

def PlainArgs.legal (w : PlainArgs) : Bool := w.rsv == 0
def MoviArgs.legal (w : MoviArgs) : Bool := w.rsv1 == 0 && w.rsv2 == 0
def DbnzArgs.legal (w : DbnzArgs) : Bool := w.rsv1 == 0 && w.rsv2 == 0 && w.rsv3 == 0
def CallArgs.legal (w : CallArgs) : Bool := w.rsv1 == 0 && w.rsv2 == 0
def LdArgs.legal (w : LdArgs) : Bool := w.rsv1 == 0 && w.rsv2 == 0
/-- The selectors that Table 5-12 names. -/
def selLegal (sel : Nat) : Bool := sel ≤ 0x0D || (0x10 ≤ sel && sel ≤ 0x1F)
def GetArgs.legal (w : GetArgs) : Bool := w.rsv1 == 0 && w.rsv2 == 0 && selLegal w.sel.toNat
def PutArgs.legal (w : PutArgs) : Bool := w.rsv1 == 0 && w.rsv2 == 0
def EvtArgs.legal (w : EvtArgs) : Bool := w.rsv == 0
/-- `HOLD` 0b11 is illegal (Table 5-11). -/
def GateArgs.legal (w : GateArgs) : Bool := w.rsv == 0 && w.hold != 3
/-- `HANDLE` 0 is illegal (Table 5-11). -/
def SgateArgs.legal (w : SgateArgs) : Bool := w.rsv == 0 && w.handle != 0
def LaunchArgs.legal (w : LaunchArgs) : Bool := w.rsv == 0
def InjArgs.legal (w : InjArgs) : Bool := w.rsv == 0
def ToutArgs.legal (w : ToutArgs) : Bool := w.rsv == 0
def CaptArgs.legal (w : CaptArgs) : Bool := w.rsv == 0
def MarkArgs.legal (w : MarkArgs) : Bool := w.rsv == 0
def RswapArgs.legal (w : RswapArgs) : Bool := w.rsv == 0

end Sys2Proof

namespace Sys2Proof.Machine

/-- The offset of an action other than TOUT, in 1/64 ns: OFF, plus g[GO] when OR = 1, without wrap (R158). -/
def Engine.actOff (E : Engine) (orr : Bool) (go : BitVec 4) (off : BitVec 30) : Nat :=
  64 * (off.toNat + if orr then (E.getG go).toNat else 0)

/-- The time of a TOUT action in 1/64 ns (R158). -/
def Engine.toutOff (E : Engine) (w : ToutArgs) : Nat :=
  64 * w.off.toNat + w.fine.toNat +
    (if w.orr then (if w.fr then (E.getG w.go).toNat else 64 * (E.getG w.go).toNat) else 0)

/-- The word address of an LD: (g[GA] + DISP) mod 4096 (Table 5-8). -/
def Engine.ldAddr (E : Engine) (w : LdArgs) : Nat := ((E.getG w.ga).toNat + w.disp.toNat) % 4096

/-- BAR0 offset of the low half of word i of bank b of engine e (R163, R156). -/
def bankAddr (e : Nat) (b : Bool) (i : Nat) : Nat := 0x5100000 + 0x10000 * e + (if b then 0x8000 else 0) + 8 * i

/-- Signed value of an engine word. -/
def sgn (w : Word) : Int := w.toInt

end Sys2Proof.Machine
end

