-- ==== Sys2Proof/Machine/Flags.lean ====
section
/-! DEFINITION. The status words of the engines: FLAGS (Table 5-12), `ENG_STAT` and `ENG_SWAP.PEND` (Tables 5-15 and 5-16), and the ENG frequency that the run budget uses (R145, Table 12-1). -/

namespace Sys2Proof.Machine

/-- GET `FLAGS`: FIRST, OVR, STRETCH, STEPPED (Table 5-12). -/
def flagsWord (first ovr stretch stepped : Bool) : Word :=
  .ofNat ((if first then 1 else 0) + (if ovr then 2 else 0) + (if stretch then 4 else 0) + (if stepped then 8 else 0))

/-- `ENG_STAT` as it reads: the flags of the register word with BANK, RUN and FIRST from the engine (Table 5-16). -/
def State.engStat (s : State) (e : Nat) : Word :=
  let E := s.eng e
  let w := s.reg (A.ENG_STAT e)
  let w := (R.ENG_STAT_BANK e).put w (if E.bank then 1 else 0)
  let w := (R.ENG_STAT_RUN e).put w (if E.started && !E.held then 1 else 0)
  (R.ENG_STAT_FIRST e).put w (if E.first then 1 else 0)

/-- `ENG_SWAP.PEND` (Table 5-15). -/
def State.swapPend (s : State) : Nat :=
  (List.range 9).foldl (fun acc e => if (s.eng e).swap.isSome then acc + 2 ^ e else acc) 0

end Sys2Proof.Machine
end

