-- ==== Sys2Proof/Machine/Sampling.lean ====
section
/-! DEFINITION. Instruction sampling (R403, R404): the shift register, the tag of an issued instruction, and the 32-byte record written at its completion. -/

namespace Sys2Proof.Machine

/-- One step of the 32-bit shift register with the polynomial x^32 + x^22 + x^2 + x + 1 (R403): shifted left, the bit entering at the low end the exclusive or of bits 31, 21, 1 and 0 (DEDUCED, log entry 12). -/
def lfsrNext (w : Word) : Word :=
  let b := (w.getLsbD 31 ^^ w.getLsbD 21) ^^ (w.getLsbD 1 ^^ w.getLsbD 0)
  .ofNat (2 * w.toNat + if b then 1 else 0)

/-- Engine e is sampled (R403). -/
def State.sampling (s : State) (e : Nat) : Bool := s.bit R.SMP_CFG_EN && (s.rd R.SMP_CFG_ENG).testBit e

/-- The low `SMP_CFG.K` bits of the register are 0; values of K above 20 act as 20 (Table 14-8). -/
def State.tagHit (s : State) (w : Word) : Bool := w.toNat % 2 ^ min 20 (s.rd R.SMP_CFG_K) == 0

/-- Whole ns from the start of the current Orbit to now, in the orbit domain (Table 14-7). -/
def State.orbNow (s : State) : Int := (s.orbTime - s.orbit.start) / 4294967296

/-- The length of the current Orbit in whole ns (GET `CURLEN`). -/
def State.orbLen (s : State) : Nat := ((s.orbit.next - s.orbit.start) / 4294967296).toNat

/-- What is held of an instruction issued now by engine e with opcode `op` (Table 14-7). -/
def State.mkTag (s : State) (e op : Nat) : Tag :=
  let E := s.eng e
  { bank := E.bank, op := op, pc := E.pc, orbit := s.orbNum, issue := s.orbNow.toNat, len := s.orbLen, cycle := E.cyc }

/-- The host address of record k of the sample ring: `SMP_BASE` and k records (R404). -/
def State.smpSlot (s : State) (k : Nat) : Nat := s.rd R.SMP_BASE_LO_ADDR + 4294967296 * s.rd R.SMP_BASE_HI_ADDR + 32 * k

/-- Write a record into the sample ring, or drop it (R404): size 0 discards uncounted; a full ring, or bus mastering off (R409), counts it in `SMP_LOST`. -/
def State.putSample (s : State) (words : List Word) : State :=
  let size := s.rd R.SMP_SIZE_RECS
  let wr := s.rd R.SMP_WR_INDEX
  if size = 0 then s
  else if (wr + 4294967296 - s.rd R.SMP_RD_INDEX) % 4294967296 ≥ size || !s.pcie.bme || s.pcie.perst || s.pcie.d3 then
    s.count .smpLost
  else (s.wr R.SMP_WR_INDEX (wr + 1)).emit (.sample (s.smpSlot (wr % size)) words)

/-- The words of a record (Table 14-7). `act` is the action's offset when the instruction is one; `disc` is the cause of a discard; `actual` is the offset of the effect. -/
def sampleWords (e : Nat) (t : Tag) (act : Option Nat) (disc : Option Nat) (slip : Bool) (actual : Int) : List Word :=
  let d : Nat := match act with | some o => o / 64 | none => 0
  let fine : Nat := match act with | some o => o % 64 | none => 0
  let isAct := act.isSome
  let w0 := e + (if isAct then 16 else 0) + (if disc.isSome then 32 else 0) + (if slip then 64 else 0)
    + (if t.bank then 128 else 0) + t.op * 256 + fine * 16384 + t.pc * 1048576
  let w5 : Int := match disc with
    | some c => (c : Int)
    | none => if isAct then actual else 0
  let slack : Int := if isAct then (t.len : Int) + (d : Int) - (t.issue : Int) else 0
  [.ofNat w0, .ofNat t.orbit, .ofNat (t.orbit / 4294967296), .ofNat (t.issue % 1073741824), .ofNat (d % 1073741824),
   BitVec.ofInt 32 (w5 % 1073741824), BitVec.ofInt 32 slack, .ofNat t.cycle]

/-- Advance engine e's register at an issue; the tag of the issued instruction, if it is tagged (R403). -/
def State.sampleIssue (s : State) (e op : Nat) : State × Option Tag :=
  let E := s.eng e
  if !s.sampling e then (s, none)
  else
    let w := lfsrNext E.lfsr
    (s.setEng e { E with lfsr := w }, if s.tagHit w && !E.tagged then some (s.mkTag e op) else none)

/-- An instruction that is not an action completes at issue (R403). -/
def State.sampleDone (s : State) (e : Nat) (t : Option Tag) : State :=
  match t with
  | none => s
  | some t => s.putSample (sampleWords e t none none false 0)

/-- A tagged action completes: it takes effect at offset `actual`, or is discarded for a cause of Table 14-7. Its engine may tag again. -/
def State.sampleAct (s : State) (e : Nat) (a : Act) (disc : Option Nat) (actual : Int) : State :=
  match a.tag with
  | none => s
  | some t => (s.setEng e { s.eng e with tagged := false }).putSample (sampleWords e t (some a.off) disc a.slip actual)

/-- Actions discarded together, for one cause. -/
def State.sampleDiscard (s : State) (e cause : Nat) (as : List Act) : State :=
  as.foldl (fun s a => s.sampleAct e a (some cause) 0) s

end Sys2Proof.Machine
end

