-- ==== Sys2Proof/Machine/EngineOps.lean ====
section
/-! DEFINITION. The shared operations of an orbit engine's run: issuing an instruction, stopping a run at a fault or an overrun, and putting an action on the list being filled (R144 to R147, R154, R158 to R161). -/

namespace Sys2Proof.Machine

/-- What a non-action instruction does to its engine. -/
inductive EngRes where
  /-- go on to the next address -/
  | seq (E : Engine) (cycles : Nat)
  /-- go on at an address -/
  | jump (E : Engine) (pc : Nat) (cycles : Nat)
  /-- a fault of Table 5-13 -/
  | fault (code : Nat)

/-- A run is in progress and has not used its budget (R145). -/
def Engine.canIssue (E : Engine) : Bool := E.running && decide (E.cyc < E.budget)

/-- Keep the largest cycle count of any run in `ENG_MAXCYC` (Table 5-16). -/
def State.noteCyc (s : State) (e cyc : Nat) : State :=
  if s.rd (R.ENG_MAXCYC_CYC e) < cyc then s.wr (R.ENG_MAXCYC_CYC e) cyc else s

/-- Stop a run without END: its actions are discarded and counted, its registers restored, its PUT writes dropped (R146, R160, R161). `cyc` is the run's cycle count. -/
def State.abandonRun (s : State) (e cyc : Nat) : State :=
  let E := s.eng e
  let s1 := ((s.sampleDiscard e 1 E.filling).countBy (.eng e 3) E.filling.length).noteCyc e cyc
  s1.setEng e { s1.eng e with running := false, filling := [], puts := [], g := E.gSave, stack := [], ovr := true }

/-- A fault of code 1 to 6 at address `fpc` (R160): `FAULTS`, `ENG_STAT` and the engine interrupt; runs are withheld unless `FAULT_RESTART` is 1. -/
def State.engFault (s : State) (e code fpc : Nat) : State :=
  let s1 := (s.abandonRun e (s.eng e).cyc).count (.eng e 2)
  let s2 := ((s1.setBit (R.ENG_STAT_FAULT e) true).wr (R.ENG_STAT_FCODE e) code).wr (R.ENG_STAT_FPC e) fpc
  let s3 := if s2.bit (R.ENG_CTRL_FAULT_RESTART e) then s2 else s2.setEng e { s2.eng e with held := true }
  s3.syncVec (48 + e)

/-- Go on to the next address; advancing past word 4095 faults with code 6 (Table 5-13). -/
def State.advance (s : State) (e : Nat) : State :=
  let E := s.eng e
  if E.pc = 4095 then s.engFault e 6 4095 else s.setEng e { E with pc := E.pc + 1 }

/-- Issue a non-action instruction on engine e: nothing happens where no run can issue; an illegal word faults with code 2 (R159). -/
def State.issue (s : State) (e op : Nat) (legal : Bool) (f : Engine → EngRes) : State :=
  let E := s.eng e
  if !E.canIssue then s
  else if !legal then s.engFault e 2 E.pc
  else
    let (s1, t) := s.sampleIssue e op
    match f (s1.eng e) with
    | .fault c => s1.engFault e c E.pc
    | .seq E' n => ((s1.setEng e { E' with cyc := E.cyc + n }).sampleDone e t).advance e
    | .jump E' pc n => (s1.setEng e { E' with cyc := E.cyc + n, pc := pc }).sampleDone e t

/-- Engine e may issue an action on a port: engines 0 to 7 on the ports of their own octet (Table 5-1). -/
def ownPort (e : Nat) (port : Nat) : Bool := port / 8 == e

/-- Whole ns of the Orbit period in force (R147). -/
def State.periodNs (s : State) : Nat := s.orbit.grid.period / 4294967296

/-- Issue an action (R147, R157): the engine must be permitted to issue it (`ok`), and the action is discarded and counted where the list is full, its offset lies beyond the period, or it names an absent port. -/
def State.issueAct (s : State) (e op : Nat) (legal ok : Bool) (port : Option Nat) (off : Engine → Nat) (k : ActKind) : State :=
  let E := s.eng e
  if !E.canIssue then s
  else if !legal then s.engFault e 2 E.pc
  else if !ok then s.engFault e 3 E.pc
  else
    let (s1, t) := s.sampleIssue e op
    let o := off E
    let a : Act := { off := o, kind := k, tag := t }
    let s2 := s1.setEng e { s1.eng e with cyc := E.cyc + 1, tagged := (s1.eng e).tagged || t.isSome }
    let s3 :=
      if E.filling.length ≥ 1024 then (s2.count (.eng e 4)).sampleAct e a (some 2) 0
      else if o / 64 > s.periodNs - 1 then (s2.count (.eng e 5)).sampleAct e a (some 3) 0
      else if (match port with | some p => s.absent p | none => false) then (s2.count (.eng e 5)).sampleAct e a (some 3) 0
      else s2.setEng e { s2.eng e with filling := E.filling ++ [a] }
    s3.advance e

/-- A list in order of offset, actions of equal offset in issue order (R147, R149). -/
def insertAct (a : Act) : List Act → List Act
  | [] => [a]
  | b :: t => if a.off < b.off then a :: b :: t else b :: insertAct a t

def sortActs (l : List Act) : List Act := l.foldl (fun acc a => insertAct a acc) []

/-- The register words of a run's PUT writes (Table 5-8). -/
def State.showPuts (s : State) (e : Nat) (puts : Store Word) : State :=
  puts.foldl (fun s p => if p.1 < 4 then s.setReg (A.ENG_OUT e p.1) p.2 else s) s

end Sys2Proof.Machine
end

