-- ==== Sys2Proof/Machine/Egress.lean ====
section
/-! DEFINITION. Commands of the egress MACs and the host launch slots (R174 to R176), and what each action of an engine does at its T (Table 5-3). The frame-start decisions are in `Decide`. -/

namespace Sys2Proof.Machine

/-! ## The MAC -/

/-- CT_UNDERRUN: a cut-through frame in transmission of which bytes are missing (R97). -/
def execCtUnderrun (p : Fin 64) (s : State) : Host.Outcome State Fault Refusal :=
  .next (match (s.egr p).tx with
    | some x => if x.complete then s else s.txAbort p 0x4A
    | none => s)

def execMmVerifyTimeout (p : Fin 64) (s : State) : Host.Outcome State Fault Refusal := .next (s.mmTimeout p)

/-! ## Host launch slots -/

/-- The bits of word 1 that a write takes. -/
def hls1Mask : Word := 0x8077FFFF

def State.setHlsLate (s : State) (p k : Nat) (b : Bool) : State := { s with hlsLate := storeSet (fun _ => false) s.hlsLate (4 * p + k) b }

/-- A write of word 1 of slot k of port p (R174). -/
def State.hlsWrite (s : State) (p k : Nat) (v : Word) : State :=
  if v.getLsbD 31 then
    if s.bit (R.HLS1_ARM p k) then s
    else
      let s1 := s.setReg (A.HLS1 p k) (v &&& hls1Mask)
      s1.setHlsLate p k (decide (s1.hlsTime p k < (s1.dom (s1.rd (R.HLS1_DOM p k))).time))
  else (s.setReg (A.HLS1 p k) (v &&& hls1Mask)).setHlsLate p k false

def execHostLaunchArm (p : Fin 64) (k : Fin 4) (v : Word) (s : State) : Host.Outcome State Fault Refusal := .next (s.hlsWrite p k (v ||| 0x80000000))
def execHostLaunchDisarm (p : Fin 64) (k : Fin 4) (v : Word) (s : State) : Host.Outcome State Fault Refusal := .next (s.hlsWrite p k (v &&& 0x7FFFFFFF))

/-- An armed slot fires: it disarms, sets `DONE`, and makes its head frame due or misses (R174 to R176). -/
def State.hlsFire (s : State) (p k : Nat) : State :=
  if !s.bit (R.HLS1_ARM p k) then s
  else
    let late := storeGet (fun _ => false) s.hlsLate (4 * p + k)
    let s1 := ((s.setBit (R.HLS1_ARM p k) false).setBit (R.HLS3_DONE p k) true).setHlsLate p k false
    let s2 := if late then s1.setBit (R.HLS3_LATE p k) true else s1
    match (if s2.mode.fwd then s2.launch p (s2.rd (R.HLS1_CLASS p k)) (some k) (16 + k) else (s2, false)) with
    | (s3, true) => s3
    | (s3, false) => s3.setBit (R.HLS3_MISS p k) true

/-- The armed host launch slots of domain d whose time has come fire (R203). -/
def State.hlsDue (s : State) (d : Nat) : State :=
  (List.range 256).foldl (fun s j =>
    if s.bit (R.HLS1_ARM (j / 4) (j % 4)) && s.rd (R.HLS1_DOM (j / 4) (j % 4)) == d && s.hlsTime (j / 4) (j % 4) ≤ (s.dom d).time
    then s.hlsFire (j / 4) (j % 4) else s) s

/-! ## Effects of actions -/

/-- A proving run's PATH step has met an injection that did not take effect as issued (Table 11-6). -/
def State.injFail (s : State) : State := { s with prv := { s.prv with injBad := true } }

/-- Mark engine e's actions that are due now, and have not taken effect, as slipped, and count them (R150). -/
def State.slipAll (s : State) (e : Nat) : State :=
  let E := s.eng e
  let late (a : Act) : Bool := decide (actAt s.orbit.start a ≤ (s.orbDom.time : Int)) && !a.slip
  if !E.exec.any late then s
  else
    let s1 := (s.setEng e { E with exec := E.exec.map fun a => if late a then { a with slip := true } else a }).countBy (.eng e 6) (E.exec.filter late).length
    if E.exec.any fun a => late a && (match a.kind with | .inj _ _ => true | _ => false) then s1.injFail else s1

/-- The action took effect now; its sample record is written. -/
def State.acted (s : State) (e : Nat) (a : Act) : State := s.sampleAct e a none s.orbNow

/-- Byte i of template t (R330). -/
def State.tmplByte (s : State) (t i : Nat) : Byte := ((s.reg (A.TMPL0 t + 16 + 4 * (i / 4))) >>> (8 * (i % 4))).setWidth 8

/-- The number that bytes form in network order. -/
def beNat (l : List Byte) : Nat := l.foldl (fun n b => 256 * n + b.toNat) 0

/-- The number whose low byte is the first byte sent. -/
def leNat (l : List Byte) : Nat := l.foldr (fun b n => 256 * n + b.toNat) 0

/-- VLAN tags at the front of a frame from its first EtherType on, at most two. -/
def parseVlans : Nat → List Byte → List VTag × List Byte
  | 0, l => ([], l)
  | n + 1, l =>
    let ty := beNat (l.take 2)
    if l.length < 4 || !(ty == 0x8100 || ty == 0x88A8) then ([], l)
    else
      let tci := beNat ((l.drop 2).take 2)
      let (vs, r) := parseVlans n (l.drop 4)
      ({ stag := ty == 0x88A8, pcp := .ofNat 3 (tci / 8192), dei := tci.testBit 12, vid := .ofNat 12 tci } :: vs, r)

/-- A frame from its bytes without FCS: addresses, VLAN tags, R-TAG and EtherType are read, and the rest is its body. -/
def parsePkt (l : List Byte) : Pkt :=
  let (vs, r) := parseVlans 2 (l.drop 12)
  let tag := r.length ≥ 6 && beNat (r.take 2) == 0xF1C1
  let r2 := if tag then r.drop 6 else r
  { dst := .ofNat 48 (leNat (l.take 6)), src := .ofNat 48 (leNat ((l.drop 6).take 6)), vlans := vs
    rtag := if tag then some { claim := .ofNat 16 (beNat ((r.drop 2).take 2)), seq := .ofNat 16 (beNat ((r.drop 4).take 2)) } else none
    hsr := none, prp := none, etype := .ofNat 16 (beNat (r2.take 2)), ip := none, prov := none, ptp := none, body := r2.drop 2 }

/-- Two bytes in network order put at an offset. -/
def putBe16 (l : List Byte) (i v : Nat) : List Byte := (l.set i (.ofNat 8 (v / 256))).set (i + 1) (.ofNat 8 v)

/-- The proving frame of template t for an injection at T (R330, Table 11-7). -/
def State.provFrame (s : State) (p t : Nat) (T : Int) : Frame :=
  let len := min 1518 (max 64 (s.rd (R.TMPL0_LEN t)))
  let pc := s.bit (R.TMPL0_PCLAIM t)
  let q := s.rd (R.TMPL1_SEQ t)
  let raw := (List.range (len - 20)).map fun i => if i < 496 then s.tmplByte t i else 0
  let o := s.rd (R.TMPL0_RTOFF t)
  let l := if s.bit (R.TMPL0_RTAG t) then putBe16 (putBe16 raw (o + 2) (if pc then s.twin.prov else s.ownClaim)) (o + 4) q else raw
  let v : ProvTrailer := { tmpl := .ofNat 8 t, unitB := s.unit == 1, pclaim := pc, seq := .ofNat 16 q, orb := .ofNat 32 s.orbNum, txns := .ofNat 32 (timeNs T.toNat) }
  { pkt := { parsePkt l with prov := some v }, len := len, src := p, cls := 0 }

/-- An injection takes effect (Table 5-3, R330). -/
def State.inject (s : State) (e p t : Nat) (a : Act) : State :=
  if s.mode = .recover then (s.count (.eng e 3)).sampleAct e a (some 4) 0
  else if s.mode ≠ .proving then ((s.count (.eng e 7)).sampleAct e a (some 5) 0).injFail
  else if !s.bit (R.TMPL0_VALID t) || !s.sends p then ((s.count (.eng e 8)).acted e a).injFail
  else if s.bit (R.TMPL0_PCLAIM t) && !s.holdsProv then ((s.count (.eng e 10)).sampleAct e a (some 5) 0).injFail
  else
    let f := s.provFrame p t (actAt s.orbit.start a)
    let s1 := s.setEgr p { s.egr p with due := insertDue { cls := none, inj := some f, tb := s.tb, prio := e } (s.egr p).due }
    { s1.acted e a with prv := { s1.prv with injected := if s1.prv.injected.contains t then s1.prv.injected else t :: s1.prv.injected } }

/-- Stream gate h opens or closes (R121). Changes are kept for 131 072 ns, the time of 16 384 bytes at 1 Gbit/s. -/
def State.setSgate (s : State) (h : Nat) (b : Bool) : State :=
  let f : Fld := ⟨A.SG_STATE (h / 32), h % 32, 1⟩
  if s.bit f == b then s
  else { s.setBit f b with sgLog := (s.tb, h, b) :: s.sgLog.filter fun x => decide (s.tb ≤ x.1 + 131072) }

/-- A TOUT action (R148, R149, R205): discarded on a pin without engine drive or within 4 ns of the last edge; held back where R208 mutes a rise. A slipped edge moves by whole ns. -/
def State.toutAct (s : State) (e p : Nat) (lvl : Bool) (a : Act) : State :=
  if (s.tout p).cfg.mode ≠ 2 then (s.count (.eng e 5)).sampleAct e a (some 3) 0
  else
  let late := ((s.orbDom.time : Int) - actAt s.orbit.start a).toNat
  let at64 := 64 * s.tb - s.back64 s.orbit.grid.dom (if a.slip then late % ((nsUnit : Nat) + s.orbDom.rate).toNat else late)
  let s0 := if lvl && s.mode.pinsMove && !(s.tout p).level then s.noteRise (Fin.ofNat 8 p) at64 else s
  if !s.mode.pinsMove || (lvl && s.muted p) then s0.acted e a
  else
    match s0.drive p lvl at64 with
    | (s1, true) => (s1.count (.eng e 5)).sampleAct e a (some 3) 0
    | (s1, false) => s1.acted e a

/-- A domain's time and the Orbit number are written into a capture slot (Table 5-3, Table 5-16). -/
def State.capture (s : State) (e d k : Nat) : State :=
  let t := (s.dom d).time
  s.setWords (A.ENG_CAPT0 e k)
    [.ofNat (timeSec t), .ofNat (timeSec t / 4294967296 % 65536 + d * 65536 + 2147483648), .ofNat (timeNs t), .ofNat (timeFrac t + s.orbNum % 65536 * 65536)]

end Sys2Proof.Machine
end

