-- ==== Sys2Proof/Machine/HubOps.lean ====
section
/-! DEFINITION. The counter hub's dumps (R396 to R400) and the start of sampling (R403). -/

namespace Sys2Proof.Machine

/-! ## Latching (R397, R400) -/

/-- Latches are made in DOCK, in RECOVER and in the forwarding modes, and not while the ring has no slots. -/
def State.hubLatches (s : State) : Bool := (s.mode.fwd || s.mode == .dock || s.mode == .recover) && s.hubRd R.HUB_SIZE_SLOTS != 0

/-- The counter that selector k names in the configuration in force. -/
def State.hubSel (s : State) (k : Nat) : Option Ctr :=
  if s.hubRd (R.HUB_SEL_VALID k) = 1 then
    Ctr.named (s.hubRd (R.HUB_SEL_KIND k)) (s.hubRd (R.HUB_SEL_EVENT k)) (s.hubRd (R.HUB_SEL_INST k))
  else none

/-- The words of group g in a dump (Table 14-6). -/
def State.hubGroup (s : State) (g : Nat) : List Word :=
  let n := s.hubCount g
  let sel := (List.range n).map fun i => s.hubSel (64 * g + i)
  let st := (sel.zipIdx.map fun x => match x.1 with | some c => if s.bit c.sticky then 2 ^ x.2 else 0 | none => 0).sum
  [.ofNat (g + 256 * n), 0, .ofNat st, .ofNat (st / 4294967296)] ++
    sel.flatMap fun c => let v := match c with | some c => s.ctr c | none => 0; [.ofNat v, .ofNat (v / 4294967296)]

/-- The groups of a periodic dump, `HUB_GMASK`. -/
def State.hubGroups (s : State) : List Nat :=
  (List.range 64).filter fun g => (s.hubRd (if g < 32 then R.HUB_GMASK_LO_GROUPS else R.HUB_GMASK_HI_GROUPS)).testBit (g % 32)

/-- A dump of groups latched now (Table 14-6). -/
def State.hubDump (s : State) (mark : Option Nat) (gs : List Nat) : List Word :=
  let body := gs.flatMap s.hubGroup
  let t := s.orbDom.time
  [.ofNat s.hub.seq, .ofNat ((match mark with | some g => 1 + 256 * g | none => 0) + 65536 * gs.length),
   .ofNat s.orbNum, .ofNat (s.orbNum / 4294967296), .ofNat s.tb, .ofNat (s.tb / 4294967296)] ++
  timeWords t ++ [.ofNat s.orbDom.epoch, .ofNat (64 + 4 * body.length), 0, 0, 0, ~~~(.ofNat s.hub.seq)] ++ body

/-- Make a latch: it is numbered, and its dump waits to be written. -/
def State.hubLatch (s : State) (mark : Option Nat) (gs : List Nat) : State :=
  let s1 := { s with hub := { s.hub with seq := (s.hub.seq + 1) % 4294967296 } }
  { s1 with hub := { s1.hub with dumps := s1.hub.dumps ++ [(mark, s1.hubDump mark gs)] } }

/-- The periodic latch of an Orbit start: skipped while the previous dump waits (R397, R399). -/
def State.hubPeriodic (s : State) : State :=
  let p := s.hubRd R.HUB_PERIOD_PERIOD
  if p = 0 || s.orbNum % p != 0 || !s.hubLatches then s
  else if s.hub.dumps.any (fun d => d.1.isNone) then
    { s with hub := { s.hub with seq := (s.hub.seq + 1) % 4294967296 } }.count (.hub 1)
  else s.hubLatch none s.hubGroups

/-- A MARK of a group (R400). -/
def State.hubMark (s : State) (g : Nat) : State :=
  if g ≥ 64 then (s.setBit R.HUB_STAT_MARK_BAD true).syncVec 7
  else if !s.hubLatches then s
  else if s.hub.dumps.any (fun d => d.1 == some g) then s.count (.hub 2)
  else s.hubLatch (some g) [g]

/-- The words of the hub's configuration. -/
def hubCfgWord (a : Nat) : Bool := a == A.HUB_PERIOD || a == A.HUB_RING_LO || a == A.HUB_RING_HI || a == A.HUB_SIZE || a == A.HUB_GMASK_LO || a == A.HUB_GMASK_HI || (0x6000100 ≤ a && a < 0x6000200) || (0x6001000 ≤ a && a < 0x6005000)

/-- At an Orbit start the configuration written takes effect, and with it the stride (R399). -/
def State.hubTake (s : State) : State :=
  let cfg := s.regs.filter fun x => hubCfgWord x.1
  if cfg = s.hub.cfg then s
  else
  let s1 := { s with hub := { s.hub with cfg := cfg } }
  let n := 64 + (s1.hubGroups.map fun g => 16 + 8 * s1.hubCount g).sum
  s1.wr R.HUB_STRIDE_BYTES ((n + 63) / 64 * 64)

/-! ## Writing (R398, R399) -/

/-- The host address of slot k of the dump ring: `HUB_RING` and k strides (R398). -/
def State.hubSlot (s : State) (k : Nat) : Nat :=
  s.hubRd R.HUB_RING_LO_ADDR + 4294967296 * s.hubRd R.HUB_RING_HI_ADDR + k * s.rd R.HUB_STRIDE_BYTES

/-- The oldest dump is written into its slot; a full ring loses it, and an error or bus mastering off loses it with `DMAERR`. -/
def State.hubWrite (s : State) (ok : Bool) : State :=
  match s.hub.dumps with
  | [] => s
  | (_, ws) :: t =>
    let s1 := { s with hub := { s.hub with dumps := t } }
    let w := s1.rd R.HUB_WR_INDEX
    let n := s1.hubRd R.HUB_SIZE_SLOTS
    if n ≤ (w + 4294967296 - s1.rd R.HUB_RD_INDEX) % 4294967296 then s1.count (.hub 0)
    else if !ok || !s1.pcie.bme || s1.pcie.perst || s1.pcie.d3 then ((s1.count (.hub 0)).setBit R.HUB_STAT_DMAERR true).syncVec 7
    else (s1.wr R.HUB_WR_INDEX (w + 1)).emit (.dump (s1.hubSlot (w % n)) ws)

/-! ## Sampling (R403) -/

/-- A write of `SMP_CFG`; setting `EN` seeds every engine's register. -/
def State.smpWrite (s : State) (v : Word) : State :=
  let was := s.bit R.SMP_CFG_EN
  let s1 := s.setReg A.SMP_CFG (v &&& 0x1FF3F)
  if was || !v.getLsbD 0 then s1
  else
    let seed := let x := s1.rd R.SMP_SEED_SEED; if x = 0 then 1 else x
    (List.range 9).foldl (fun s e => s.setEng e { s.eng e with lfsr := .ofNat (seed ^^^ e) }) s1

end Sys2Proof.Machine
end

