-- ==== Sys2Proof/Machine/Actions.lean ====
section
/-! DEFINITION. The actions of the executing lists take effect (R148 to R150, Table 5-3). -/

namespace Sys2Proof.Machine

/-- The opcode of an action (Table 5-11). -/
def ActKind.op : ActKind → Nat
  | .gate _ _ _ => 0x20 | .sgate _ _ => 0x21 | .launch _ _ => 0x22 | .inj _ _ => 0x23
  | .tout _ _ => 0x24 | .capt _ _ => 0x25 | .mark _ => 0x26 | .rswap => 0x27

/-- LAUNCH: discarded in RECOVER (Table 5-6); a launch that sends nothing is a miss. -/
def State.launchAct (s : State) (e p c : Nat) (a : Act) : State :=
  if s.mode = .recover then (s.count (.eng e 3)).sampleAct e a (some 4) 0
  else match s.launch p c none e with
    | (s1, true) => s1.acted e a
    | (s1, false) => (s1.count (.eng e 8)).acted e a

/-- What action `a` of engine e does at its T; RSWAP is a write of `FAB_CTRL.RSV_SWAP`. -/
def State.doAct (s : State) (e : Nat) (a : Act) : State :=
  match a.kind with
  | .gate p st hold => (s.setGates p st hold).acted e a
  | .sgate h b => (s.setSgate h b).acted e a
  | .launch p c => s.launchAct e p c a
  | .inj p t => s.inject e p t a
  | .tout p lvl => s.toutAct e p lvl a
  | .capt d i => (s.capture e d i).acted e a
  | .mark g => (s.hubMark g).acted e a
  | .rswap => s.rsvRequest.acted e a

/-- Actions that engine e has executed in the present TIME cycle. -/
def State.firedNow (s : State) (e : Nat) : Nat := let E := s.eng e; if E.fired.1 = s.tb then E.fired.2 else 0

/-- Engine e's head action takes effect now. -/
def State.takeAct (s : State) (e : Nat) : State :=
  match (s.eng e).exec with
  | [] => s
  | a :: t => (s.setEng e { s.eng e with exec := t, fired := (s.tb, s.firedNow e + 1) }).doAct e a

/-- The engine, of those that `ok` admits, whose head action comes first: by T, then by engine number (R149). -/
def State.firstEng (s : State) (ok : Nat → Bool) : Option Nat :=
  (List.range 9).foldl (fun best e =>
    match (if ok e then (s.eng e).exec.head? else none), best.bind fun b => (s.eng b).exec.head? with
    | none, _ => best
    | some _, none => some e
    | some a, some x => if a.off < x.off then some e else best) none

/-- Engine e's head action is due (R148). -/
def State.headDue (s : State) (e : Nat) : Bool :=
  match (s.eng e).exec with
  | [] => false
  | a :: _ => decide (actAt s.orbit.start a ≤ (s.orbDom.time : Int))

/-- The engine whose head action takes effect next at this TIME edge: due, and not a ninth of its engine (R148 to R150). -/
def State.actDue (s : State) : Option Nat := s.firstEng fun e => s.headDue e && decide (s.firedNow e < 8)

/-- All actions due at this TIME edge take effect, at most `n` of them: 72 are all that can. -/
def State.actsNow (s : State) : Nat → State
  | 0 => s
  | n + 1 => match s.actDue with
    | some e => (s.takeAct e).actsNow n
    | none => s

/-- Actions still due when a TIME cycle ends have slipped (R150). -/
def State.slipDue (s : State) : State := (List.range 9).foldl State.slipAll s

/-- TIME edges to the next action: 1 where one has slipped, none where no action is left. -/
def State.edgesToAct (s : State) : Option Nat :=
  if anyBelow 9 s.headDue then some 1
  else match s.firstEng fun _ => true with
    | none => none
    | some e => (s.eng e).exec.head?.map fun a =>
      let t := actAt s.orbit.start a
      edgesTo (s.slewPpm s.orbit.grid.dom) t ((t - (s.orbDom.time : Int)).toNat / 140737488355328 + 2) s.orbDom

/-- Actions take effect in their order, TIME passing to each, until `stop` holds or none is left; the last argument bounds actions and passages of TIME. -/
def State.runActs (stop : State → Bool) (s : State) : Nat → State
  | 0 => s
  | n + 1 =>
    if stop s then s
    else match s.actDue with
      | some e => (s.takeAct e).runActs stop n
      | none => match s.edgesToAct with
        | some k => (s.slipDue.passN k).runActs stop n
        | none => s

/-- The actions left in the executing lists. -/
def State.actsLeft (s : State) : Nat := ((List.range 9).map fun e => (s.eng e).exec.length).sum

/-- TIME passes by `n` edges; actions take effect at their T on the way. -/
def State.goN (s : State) : Nat → Nat → State
  | 0, n => s.passN n
  | f + 1, n =>
    let s1 := s.actsNow 72
    match s1.edgesToAct with
    | some k => if k ≤ n then (s1.slipDue.passN k).goN f (n - k) else s1.passN n
    | none => s1.passN n

/-- TIME passes to TB_CYC `t`, if that lies ahead. -/
def State.goTo (s : State) (t : Nat) : State := s.goN (s.actsLeft + 1) (t - s.tb)

/-- The head of engine e's executing list takes effect, after those of the actions that come before it, if it is an action with opcode `op`; else nothing is due. -/
def State.effect (s : State) (e op : Nat) : State :=
  match (s.eng e).exec with
  | [] => s
  | a :: t =>
    if a.kind.op ≠ op then s
    else s.runActs (fun x => decide ((x.eng e).exec.length ≤ t.length)) (2 * s.actsLeft + 2)

def execGateEffect (e : Fin 9) (s : State) : Host.Outcome State Fault Refusal := .next (s.effect e 0x20)
def execSgateEffect (e : Fin 9) (s : State) : Host.Outcome State Fault Refusal := .next (s.effect e 0x21)
def execLaunchEffect (e : Fin 9) (s : State) : Host.Outcome State Fault Refusal := .next (s.effect e 0x22)
def execInjEffect (e : Fin 9) (s : State) : Host.Outcome State Fault Refusal := .next (s.effect e 0x23)
def execToutEffect (e : Fin 9) (s : State) : Host.Outcome State Fault Refusal := .next (s.effect e 0x24)
def execCaptEffect (e : Fin 9) (s : State) : Host.Outcome State Fault Refusal := .next (s.effect e 0x25)
def execMarkEffect (e : Fin 9) (s : State) : Host.Outcome State Fault Refusal := .next (s.effect e 0x26)
def execRswapEffect (e : Fin 9) (s : State) : Host.Outcome State Fault Refusal := .next (s.effect e 0x27)

/-- The actions left in the executing lists take effect. -/
def State.flush (s : State) : State := s.runActs (fun _ => false) (2 * s.actsLeft + 2)

end Sys2Proof.Machine
end

