-- ==== Sys2Proof/Machine/Fabric.lean ====
section
/-! DEFINITION. The commands of the fabric, of flow control and of links (chapters 3, 4 and 8). -/

namespace Sys2Proof.Machine

/-- FABRIC_SLOT; `errs` names inputs whose cell reaches its intermediate with header bits inverted (R78). -/
def execFabricSlot (errs : List (Fin 64 × BitVec 64)) (s : State) : Host.Outcome State Fault Refusal := .next (s.fabricSlot errs)

/-- FULL_BIT_BROADCAST: in the modes in which the slots run. -/
def execFullBitBroadcast (s : State) : Host.Outcome State Fault Refusal := .next (if s.mode.afterBoot then s.broadcast else s)

def execRsvSwapRequest (s : State) : Host.Outcome State Fault Refusal := .next s.rsvRequest
def execRsvBankSwap (s : State) : Host.Outcome State Fault Refusal := .next s.rsvSwap
/-- CELL_ARRIVE; `err` gives the header bits that were inverted on the way (R78). -/
def execCellArrive (o : Fin 64) (err : BitVec 64) (s : State) : Host.Outcome State Fault Refusal := .next (s.cellArrive o err)
def execReseqGapTimeout (p : Fin 64) (mc : Bool) (src : Fin 64) (c : Fin 8) (s : State) : Host.Outcome State Fault Refusal :=
  .next (s.gapExpire p mc src c)

/-- PFC_REPEAT: while XOFF stands (R100). -/
def execPfcRepeat (p : Fin 64) (c : Fin 8) (s : State) : Host.Outcome State Fault Refusal :=
  .next (if (s.egr p).xoff.testBit c && s.portUp p then s.pfcSend p c true else s)

/-- Classes whose egress queue obeys a received PFC frame, or all where the port obeys pause (R101). -/
def State.obeys (s : State) (p : Nat) (pause : Bool) (c : Nat) : Bool :=
  let tx := s.rd (R.PORT_FWD_PFC_TX p)
  let rx := s.rd (R.PORT_FWD_PFC_RX p)
  if pause then s.bit (R.PORT_FWD_PAUSE_RX p) && tx == 0 && rx == 0 else rx.testBit c

/-- A pause or PFC frame: the classes it stops, and those it lets go with a time of 0; a pause frame names all of one kind. It is a received frame of 64 bytes, and counts for each class it names, a pause frame at class 0. -/
def State.pfcReceive (s : State) (p : Nat) (pause : Bool) (stop resume : BitVec 8) : State :=
  if !s.portUp p || !(s.mode.fwd || s.mode == .recover) then s
  else
    let st := if pause then (if stop = 0 then 0 else 255) else stop.toNat
    let rs := if pause then (if stop = 0 then 255 else 0) else resume.toNat
    let s1 := (s.count (.port p 0x38)).countBy (.port p 0x39) 64
    let s2 := if pause then s1.count (.port p 0x28)
      else (List.range 8).foldl (fun s c => if st.testBit c || rs.testBit c then s.count (.port p (0x28 + c)) else s) s1
    (List.range 8).foldl (fun s c =>
      let E := s.egr p
      if !s.obeys p pause c then s
      else if st.testBit c then (if E.paused.testBit c then s else s.setEgr p { E with paused := E.paused + 2 ^ c })
      else if rs.testBit c && E.paused.testBit c then s.setEgr p { E with paused := E.paused - 2 ^ c }
      else s) s2

def execPfcReceive (p : Fin 64) (pause : Bool) (stop resume : BitVec 8) (s : State) : Host.Outcome State Fault Refusal :=
  .next (s.pfcReceive p pause stop resume)

/-- PFC_TIMER_EXPIRE: the queue of the class resumes (R101). -/
def execPfcTimerExpire (p : Fin 64) (c : Fin 8) (s : State) : Host.Outcome State Fault Refusal :=
  .next (if (s.egr p).paused.testBit c then s.setEgr p { s.egr p with paused := (s.egr p).paused - 2 ^ c.val } else s)

/-- LINK_DOWN: R107; the port's lanes ask for training again (R354). -/
def execLinkDown (p : Fin 64) (rx : Bool) (s : State) : Host.Outcome State Fault Refusal :=
  .next (if (s.link p).up then
      let lanes := portLanes p (s.link p).mode
      lanes.foldl State.trainAsk (s.linkDown p rx)
    else s)

/-- Port p is a designated timing port (R350). -/
def State.timingPort (s : State) (p : Nat) : Bool :=
  if p < 32 then (s.rd R.PWR_TPORT_LO_PORT).testBit p else (s.rd R.PWR_TPORT_HI_PORT).testBit (p - 32)

/-- LINK_UP: in the modes in which the ports run; on a port that is not designated it wakes the device (Table 12-6). -/
def execLinkUp (p : Fin 64) (k : LinkKind) (deskew : Nat) (s : State) : Host.Outcome State Fault Refusal :=
  .next (if !(s.mode.fwd || s.mode == .recover) || s.absent p then s
    else
      let s1 := (s.linkUp p k deskew).trackerReset p
      if s.timingPort p then s1 else s1.wake 2)

/-- The mode that a lane tries after another under the ROM defaults (Table 13-11). -/
def PortMode.next : PortMode → PortMode
  | .r25 => .r10 | .r10 => .x1 | .x1 => .r25 | .sgmii => .r25 | .r100 => .r25

/-- LANE_MODE_TRY: under the ROM defaults (CFG5), a lane without link tries its next mode and trains anew. -/
def execLaneModeTry (p : Fin 64) (s : State) : Host.Outcome State Fault Refusal :=
  .next (if s.sys.straps.getLsbD 5 && s.mode.fwd && !(s.link p).up && !s.octOff (p / 8) then
      ((s.setLink p { s.link p with mode := (s.link p).mode.next }).trainDone p).trainAsk p
    else s)

def execAgeScan (s : State) : Host.Outcome State Fault Refusal := .next s.ageScan

/-- SEQ_RESET_TIMEOUT: TIME passes to the end of `RESET` ms since the timer last restarted, and the function takes the next frame whatever its number; the timer does not run while `TAKEANY` is 1 (R304). -/
def execSeqResetTimeout (f : Fin 4096) (s : State) : Host.Outcome State Fault Refusal :=
  .next (if s.bit (R.SREC0_VALID f) && s.rd (R.SREC0_RESET f) != 0 && !s.bit (R.SREC1_TAKEANY f) then
      (s.passN ((s.seqHist f).timer + s.rd (R.SREC0_RESET f) * 1000000 - s.tb)).takeAny f
    else s)

end Sys2Proof.Machine
end

