-- ==== Sys2Proof/Machine/RefOps.lean ====
section
/-! DEFINITION. Reference selection: candidates and their measurements (R275 to R281), rank and vote (R282, R283), selection (R284 to R287), lock (R288), bandwidth (R289), holdover (R290, R291), REFCLK (R292) and the advertised quality (R293, R294). -/

namespace Sys2Proof.Machine

def State.ref (s : State) (d : Nat) : Ref := storeGet (fun _ => {}) s.refs d
def State.setRef (s : State) (d : Nat) (x : Ref) : State := { s with refs := storeSet (fun _ => {}) s.refs d x }
def State.cand (s : State) (d k : Nat) : Cand := storeGet (fun _ => {}) s.cands (16 * d + k)
def State.setCand (s : State) (d k : Nat) (x : Cand) : State := { s with cands := storeSet (fun _ => {}) s.cands (16 * d + k) x }

/-! ## Candidates -/

/-- Kinds of Table 10-1. -/
def State.ckind (s : State) (d k : Nat) : Nat := s.rd (R.REF_CCFG_KIND d k)
def State.csrc (s : State) (d k : Nat) : Nat := s.rd (R.REF_CCFG_SRC d k)
/-- The pin of a TIN candidate: `SRC`[2:0], bits [6:4] of the register. -/
def State.cpin (s : State) (d k : Nat) : Nat := s.csrc d k % 8
def State.cstate (s : State) (d k : Nat) : Nat := s.rd (R.REF_CSTAT_STATE d k)

/-- `FONLY`: SyncE and REFCLK give frequency only. -/
def State.fOnly (s : State) (d k : Nat) : Bool := s.ckind d k == 1 || s.ckind d k == 3

/-- The candidate's port, for the kinds that have one. -/
def State.cport (s : State) (d k : Nat) : Option Nat := if s.ckind d k ≤ 1 then some (s.csrc d k) else none

/-- `COARSE`: the candidate's port is coarse (R224, R294). -/
def State.ccoarse (s : State) (d k : Nat) : Bool := match s.cport d k with | some p => s.portCoarse p | none => false

/-- The selected slot of a domain. -/
def State.selOf (s : State) (d : Nat) : Option Nat := if s.bit (R.REF_DSTAT_SELV d) then some (s.rd (R.REF_DSTAT_SEL d)) else none

/-- TIN period in ns; below 20 000 acts as that. -/
def State.tper (s : State) (d k : Nat) : Nat := max 20000 (s.rd (R.REF_CTIN_TPER d k))

/-- Source numbers order candidates of equal rank: port number, PTP before SyncE, then pins, then REFCLK (R284). -/
def State.sourceNum (s : State) (d k : Nat) : Nat :=
  match s.ckind d k with
  | 0 => 2 * s.csrc d k
  | 1 => 2 * s.csrc d k + 1
  | 2 => 2 * (64 + s.cpin d k)
  | _ => 144

/-- The last Announce of a PTP candidate's foreign master. -/
def State.foreignOf (s : State) (p d : Nat) : Option Foreign := storeGet (fun _ => none) (s.ptp p).foreign d

/-- clockClass, clockAccuracy and variance of a candidate before R294 (R282). -/
def State.cqual (s : State) (d k : Nat) : Nat × Nat × Nat :=
  match (if s.ckind d k = 0 then s.foreignOf (s.csrc d k) d else none) with
  | some f => (f.ann.cls.toNat, f.ann.acc.toNat, f.ann.var.toNat)
  | none => (s.rd (R.REF_CQUAL_CLASS d k), s.rd (R.REF_CQUAL_ACC d k), s.rd (R.REF_CQUAL_VAR d k))

/-- The candidate is path-suspect or its port coarse (R294). -/
def State.clow (s : State) (d k : Nat) : Bool := s.bit (R.REF_CSTAT_SUSPECT d k) || s.ccoarse d k

/-- clockAccuracy in the rank key (R294). -/
def State.cacc (s : State) (d k : Nat) : Nat := if s.clow d k then 0xFE else (s.cqual d k).2.1

/-- The rank key (R282, R294): within a clockClass, suspect and coarse candidates come last. -/
def State.rankKey (s : State) (d k : Nat) : List Nat :=
  [(s.cqual d k).1, if s.clow d k then 1 else 0, s.cacc d k, (s.cqual d k).2.2, s.rd (R.REF_CCFG_PRIO d k)]

/-- Lexicographic order of keys. -/
def keyLt : List Nat → List Nat → Bool
  | a :: l, b :: m => decide (a < b) || (a == b && keyLt l m)
  | [], _ :: _ => true
  | _, [] => false

/-! ## Port states (R277) -/

/-- The order in which the best master clock algorithm compares grandmasters (PRESUMED from IEEE 1588-2019, which R277 names). -/
def annKey (a : PtpAnn) (ident : Nat) : List Nat :=
  [a.prio1.toNat, a.cls.toNat, a.acc.toNat, a.var.toNat, a.prio2.toNat, a.gm.toNat, a.steps.toNat, ident]

/-- The foreign master of port p that has not run into announceReceiptTimeout. -/
def State.liveForeign (s : State) (p d : Nat) : Option Foreign :=
  match s.foreignOf p d with
  | some f => if s.tb ≤ f.tb + s.dsetNat 0x14 d p * s.interval48 0x11 d p then some f else none
  | none => none

/-- The ports of an enabled instance that are up, and under profile 3 asCapable. -/
def State.instPorts (s : State) (d : Nat) : List Nat :=
  if s.bit (R.PTP_INST_EN d) then (List.range 64).filter fun p => (s.rd (R.PTP_PORT_INST p)).testBit d && s.portUp p && s.asCapable p d else []

/-- The instance's own data set in the same order. -/
def State.ownKey (s : State) (d : Nat) : List Nat :=
  [s.dsetNat 0x01 d 0, s.dsetNat 0x03 d 0, s.dsetNat 0x04 d 0, s.dsetNat 0x05 d 0, s.dsetNat 0x02 d 0, s.dsetNat 0x06 d 0, 0, 0]

/-- The port with the best foreign master, and its key. -/
def State.bestForeign (s : State) (d : Nat) : Option (Nat × List Nat) :=
  (s.instPorts d).foldl (fun acc p =>
    if s.dsetNat 0x19 d p % 2 = 1 then acc
    else match s.liveForeign p d with
      | none => acc
      | some f =>
        let k := annKey f.ann f.ident.toNat
        match acc with
        | some (q, b) => if keyLt k b then some (p, k) else some (q, b)
        | none => some (p, k)) none

/-- The port that the algorithm makes slave. -/
def State.bmcSlave (s : State) (d : Nat) : Option Nat :=
  match s.bestForeign d with
  | some (p, k) => if s.dsetNat 0x07 d 0 % 2 = 1 || keyLt k (s.ownKey d) then some p else none
  | none => none

/-- The PTP candidate slot of a port. -/
def State.ptpCand (s : State) (d p : Nat) : Option Nat :=
  (List.range 16).find? fun k => s.bit (R.REF_CCFG_EN d k) && s.ckind d k == 0 && s.csrc d k == p

/-- A PTP candidate that only votes (R277). -/
def State.monOnly (s : State) (d k : Nat) : Bool :=
  s.bit (R.REF_CCFG_MON d k) ||
    (s.ckind d k == 0 && !s.bit (R.REF_DCFG_EXTCFG d) && s.bmcSlave d != some (s.csrc d k))

/-- portState of port p in instance d, in the encoding of IEEE 1588: 2 FAULTY, 3 DISABLED, 4 LISTENING, 6 MASTER, 7 PASSIVE, 8 UNCALIBRATED, 9 SLAVE (R277). -/
def State.portState (s : State) (d p : Nat) : Nat :=
  if !s.bit (R.PTP_INST_EN d) || !(s.rd (R.PTP_PORT_INST p)).testBit d then 3
  else if !s.portUp p then 2
  else if !s.asCapable p d then 3
  else
    let follows := match s.selOf d with | some k => s.ckind d k == 0 && s.csrc d k == p | none => false
    let slave := if (s.dom d).tstate = .locked then 9 else 8
    if s.bit (R.REF_DCFG_EXTCFG d) then
      if follows then 9
      else match s.ptpCand d p with
        | some k => if s.cstate d k = 3 then 7 else 6
        | none => 6
    else if s.bmcSlave d = some p then (if follows then slave else 8)
    else if s.dsetNat 0x07 d 0 % 2 = 1 then 4
    else match s.liveForeign p d with
      | some f => if keyLt (annKey f.ann f.ident.toNat) (s.ownKey d) && s.dsetNat 0x19 d p % 2 = 0 then 7 else 6
      | none => 6

/-! ## Measurements (R278, R280) -/

/-- The straight-line fit of a candidate's phase against TIME over the last 16 s: 2^-16 ns over ns. -/
def State.phaseFit (s : State) (d k : Nat) : LineFit :=
  fitLine (((s.cand d k).ms.filter fun m => decide (s.tb ≤ m.1 + 16000000000)).map fun m => ((m.1 : Int) - (s.tb : Int), m.2.2))

/-- The present estimate of f in 2^-4 ppb, where there is one: 0 of REFCLK, the locked tracker's of a SyncE candidate, else the slope of the fit. -/
def State.cfit (s : State) (d k : Nat) : Option Int :=
  match s.ckind d k with
  | 3 => some 0
  | 1 => if s.bit (R.PTP_PSTAT_FINE_LOCK (s.csrc d k)) then some (s.trackerFreq (s.csrc d k)) else none
  | _ => let F := s.phaseFit d k; if F.a ≤ 0 then none else some (16000000000 * F.b / (65536 * F.a))

/-- f in 2^-4 ppb: the present estimate, else the last; 0 of a candidate not yet measured. -/
def State.cfreq (s : State) (d k : Nat) : Int :=
  match s.cfit d k with
  | some f => f
  | none => match (s.cand d k).fs with | (_, f) :: _ => f | [] => 0

/-- `DWIN` in s; below 16 acts as 16. -/
def State.dwin (s : State) (d : Nat) : Nat := max 16 (s.rd (R.REF_DTIME_DWIN d))

/-- The estimates that dR still needs: those within the window and the last before it. -/
def pruneFs (now win : Nat) : List (Nat × Int) → List (Nat × Int)
  | [] => []
  | (t, f) :: l => if t + win * 1000000000 ≤ now then [(t, f)] else (t, f) :: pruneFs now win l

/-- f `DWIN` seconds ago, or the first estimate. -/
def State.cfreqOld (s : State) (d k : Nat) : Int :=
  match (pruneFs s.tb (s.dwin d) (s.cand d k).fs).getLast? with | some (_, f) => f | none => 0

/-- Members of V: QUALIFIED or SELECTED, REFCLK excluded (R280, R283). -/
def State.voters (s : State) (d : Nat) : List Nat :=
  (List.range 16).filter fun k => (s.cstate d k == 3 || s.cstate d k == 4) && s.ckind d k != 3

/-- Insert into an ascending list. -/
def insAsc (x : Int) : List Int → List Int
  | [] => [x]
  | y :: l => if x ≤ y then x :: y :: l else y :: insAsc x l

/-- Twice the median: the middle value doubled, or the sum of the two middle ones (R280). -/
def median2 (l : List Int) : Int :=
  let a := l.foldr insAsc []
  let n := a.length
  if n % 2 = 1 then 2 * a.getD (n / 2) 0 else a.getD (n / 2 - 1) 0 + a.getD (n / 2) 0

def State.limSoft (s : State) (d : Nat) : Nat := max 1 (s.rd (R.REF_DLIM_SOFT d))
def State.limHard (s : State) (d : Nat) : Nat := max (s.limSoft d) (s.rd (R.REF_DLIM_HARD d))
def State.limSoftR (s : State) (d : Nat) : Nat := max 1 (s.rd (R.REF_DLIMR_SOFT_R d))
def State.limHardR (s : State) (d : Nat) : Nat := max (s.limSoftR d) (s.rd (R.REF_DLIMR_HARD_R d))

/-- Candidate k fails at limits (L, L_R) in ppb, or at half of them (R281). -/
def State.testFails (s : State) (d k L LR : Nat) (half : Bool) : Bool :=
  let peers := (s.voters d).filter (· != k)
  let m := if half then 2 else 1
  let f := s.cfreq d k
  let pBad := decide (32 * L ≤ m * (2 * f - median2 (peers.map (s.cfreq d))).natAbs)
  let rBad := decide (16 * LR ≤ m * (f - s.cfreqOld d k).natAbs)
  if s.ckind d k = 3 then s.bit R.REF_GLB_RANGE_NOW
  else match peers.length with
    | 0 => rBad
    | 1 => pBad && rBad
    | _ => pBad

def State.hardFails (s : State) (d k : Nat) (half : Bool) : Bool := s.testFails d k (s.limHard d) (s.limHardR d) half
def State.softFails (s : State) (d k : Nat) (half : Bool) : Bool := s.testFails d k (s.limSoft d) (s.limSoftR d) half

/-! ## REFCLK (R291, R292) -/

/-- The OCXO strap CFG3. -/
def State.ocxo (s : State) : Bool := s.sys.straps.getLsbD 3

/-- REFCLK is not lost, and an OCXO is warm (R35, R51). -/
def State.refclkSound (s : State) : Bool := (!s.ocxo || s.sys.warm) && !s.sys.refclkLost

/-- REFCLK is a qualified holdover source: `REF_GLB.HQUAL` (R291). -/
def State.hqual (s : State) : Bool := s.refclkSound && !s.bit R.REF_GLB_RANGE_NOW

/-- `REF_GLB.LIMSET` (R292). -/
def State.limset (s : State) : Nat := if !s.ocxo then 0 else if s.sys.warm then 2 else 1

/-- A Sync has arrived on port p within three Sync intervals (Table 10-1). -/
def State.syncLive (s : State) (p d : Nat) : Bool :=
  match storeGet (fun _ => none) (s.ptp p).syncTb d with
  | some t => decide (s.tb ≤ t + 3 * s.interval48 0x10 d p)
  | none => false

/-- A rising edge of a TIN candidate's pin has arrived within three periods (Table 10-1). -/
def State.tinLive (s : State) (d k : Nat) : Bool :=
  match (s.tin (s.cpin d k)).rose with
  | some t => decide (((s.tb * nsUnit : Nat) : Int) ≤ t + ((3 * s.tper d k * nsUnit : Nat) : Int))
  | none => false

/-- What the state shows of a candidate's signal (Table 10-1); a REFCLK that is out of range is HARD and not lost (R292). -/
def State.csignal (s : State) (d k : Nat) : Bool :=
  let p := s.csrc d k
  match s.ckind d k with
  | 0 => s.portUp p && s.bit (R.PTP_INST_EN d) && (s.rd (R.PTP_PORT_INST p)).testBit d && (s.liveForeign p d).isSome && s.syncLive p d
  | 1 => s.portUp p && s.bit (R.PTP_PSTAT_FINE_LOCK p) && (s.ptp p).congruent
  | 2 => s.bit (R.TIN_CFG_EN (s.cpin d k)) && s.tinLive d k
  | _ => s.refclkSound

/-! ## Candidate states (R279) -/

/-- A candidate starts its measurements anew. -/
def State.candReset (s : State) (d k : Nat) : State := s.setCand d k { s.cand d k with fs := [], ms := [] }

/-- Enter a state, with the candidate's and the domain's history bits (R297); one that is disabled or loses its signal starts its measurements anew. -/
def State.candTo (s : State) (d k st : Nat) : State :=
  if s.cstate d k = st then s
  else
    let s1 := s.wr (R.REF_CSTAT_STATE d k) st
    match st with
    | 0 => s1.candReset d k
    | 1 => (s1.setBit (R.REF_CHIST_LOS d k) true).candReset d k
    | 2 => s1.setCand d k { s1.cand d k with wtr := s1.tb }
    | 5 => ((s1.setBit (R.REF_CHIST_SOFT d k) true).setBit (R.REF_DHIST_CAND_FAIL d) true).syncVec (24 + d)
    | 6 => ((s1.setBit (R.REF_CHIST_HARD d k) true).setBit (R.REF_DHIST_CAND_FAIL d) true).syncVec (24 + d)
    | 7 => (s1.setBit (R.REF_CHIST_DISQ d k) true).setCand d k { s1.cand d k with near := none }
    | _ => s1

/-- `WTR` in ns. -/
def State.wtrNs (s : State) (d : Nat) : Nat := max 1 (s.rd (R.REF_DTIME_WTR d)) * 1000000000

/-- θ is within `DOM_SLEW.THRESH`. -/
def State.thetaNear (s : State) (d k : Nat) : Bool := decide ((s.cand d k).theta.natAbs * 4294967296 ≤ s.thresh d)

/-- The state that a candidate takes at an evaluation: `now` judges by the states `s0` that all candidates had before it. -/
def State.candStep (s0 s : State) (d k : Nat) (signal : Bool) : State :=
  let st := s0.cstate d k
  let failed := if s0.hardFails d k false then some 6 else if s0.softFails d k false then some 5 else none
  if !s0.bit (R.REF_CCFG_EN d k) then s.candTo d k 0
  else if !(signal && s0.csignal d k) then s.candTo d k 1
  else match st with
    | 5 => if s0.hardFails d k false then s.candTo d k 6 else if s0.softFails d k true || s0.hardFails d k true then s else s.candTo d k 2
    | 6 => if s0.softFails d k true || s0.hardFails d k true then s else s.candTo d k 2
    | 7 =>
      let C := s.cand d k
      if !s.thetaNear d k then s.setCand d k { C with near := none }
      else match C.near with
        | none => s.setCand d k { C with near := some s.tb }
        | some t => if t + s.wtrNs d ≤ s.tb then s.candTo d k 2 else s
    | _ =>
      match failed with
      | some f => s.candTo d k f
      | none => if st ≤ 1 then s.candTo d k 2 else s

/-! ## The best candidate (R279, R284) -/

/-- The candidate may be selected (R279). -/
def State.eligCand (s : State) (d k : Nat) : Bool :=
  (s.cstate d k == 3 || s.cstate d k == 4) && !s.bit (R.REF_CSTAT_OUTVOTED d k) && !s.monOnly d k

/-- The better of two candidates: by rank, then by source number. -/
def State.candBefore (s : State) (d i j : Nat) : Bool :=
  keyLt (s.rankKey d i) (s.rankKey d j) || (s.rankKey d i == s.rankKey d j && decide (s.sourceNum d i < s.sourceNum d j))

/-- The eligible candidate that a selection picks. -/
def State.pick (s : State) (d : Nat) : Option Nat :=
  (List.range 16).foldl (fun acc k =>
    if !s.eligCand d k then acc
    else match acc with
      | none => some k
      | some b => if s.candBefore d k b then some k else some b) none

/-- The candidate that a selection may pick: while the alarm stands over three or more members, only members of a majority could be picked, and there is none (R283, R284). -/
def State.best (s : State) (d : Nat) : Option Nat :=
  if s.bit (R.REF_DSTAT_DISAGREE d) && decide (3 ≤ (s.voters d).length) then none else s.pick d

/-- Domain d follows the twin (R318). -/
def State.following (s : State) (d : Nat) : Bool := (s.rd R.TW_STAT_FOLLOWING).testBit d

/-- The candidate a domain answers for: the selected one, or while it follows the twin the shadow selection (R318, R319). -/
def State.effSel (s : State) (d : Nat) : Option Nat := if s.following d then s.best d else s.selOf d

/-! ## Advertised quality (Table 10-4) -/

/-- `HO_SPEC` seconds have passed since the entry to HOLDOVER (R293). -/
def State.hoOver (s : State) (d : Nat) : Bool :=
  (s.ref d).hoDone || (match (s.ref d).hoTb with | some t => decide (t + s.rd (R.REF_DHOLD2_HO_SPEC d) * 1000000000 ≤ s.tb) | none => false)

/-- clockClass, clockAccuracy and offsetScaledLogVariance that domain d advertises: `REF_DADV`. -/
def State.adv (s : State) (d : Nat) : Nat × Nat × Nat :=
  let free := (s.rd (R.REF_DQUAL_FREE_CLASS d), 0xFE, 0xFFFF)
  let own (k : Nat) : Nat × Nat × Nat := ((s.cqual d k).1, s.cacc d k, (s.cqual d k).2.2)
  match (s.dom d).tstate with
  | .free => free
  | .acquire => match s.effSel d with | some k => if s.ckind d k = 0 then own k else free | none => free
  | .locked => match s.effSel d with | some k => own k | none => free
  | .holdover =>
    if (s.dom d).unqual || s.hoOver d then (s.rd (R.REF_DQUAL_DEG_CLASS d), 0xFE, 0xFFFF)
    else (s.rd (R.REF_DQUAL_HO_CLASS d), (s.ref d).held.2.1, (s.ref d).held.2.2)

/-! ## Timing states -/

/-- MODE names the timing state (R61). -/
def Mode.timing : Mode → Bool
  | .free | .acquire | .locked | .holdover => true
  | .strap | .boot | .dock | .proving | .doze | .recover | .opened | .halt => false

/-- Domain d takes a timing state, and for the orbit domain the mode follows (R61, Table 2-9); leaving LOCKED aborts a proving run that did not begin in FREE or HOLDOVER (R333). -/
def State.domState (s : State) (d : Nat) (t : TState) (cause detail : Nat) : State :=
  let D := s.dom d
  let R := s.ref d
  let s1 := (s.setDom d { D with tstate := t, lockedSeen := D.lockedSeen || decide (t = .locked), histBad := D.histBad || decide (t ≠ .locked)
                                 unqual := D.unqual && decide (t = .holdover) }).setRef d
    { R with hoTb := if t = .holdover then R.hoTb else none, hoDone := R.hoDone && decide (t = .holdover), good := none, wide := none }
  if d = s1.orbit.grid.dom && s1.mode.timing then s1.toMode t.mode cause detail
  else if d = s1.orbit.grid.dom && s1.mode == .proving && !s1.prv.loose && t != .locked then s1.prvAbort.toMode t.mode 0x15 0
  else s1

/-- The samples of the holdover window (R290, R291): `EXCLUDE` and `AVG` in whole samples, rounded up, the sum at most 65 536 s. -/
def State.hoWindow (s : State) (d : Nat) : List Int :=
  let ex := (s.rd (R.REF_DHOLD_EXCLUDE d) + 3) / 4
  let avg0 := s.rd (R.REF_DHOLD_AVG d)
  let av := ((if avg0 = 0 then 4 else avg0) + 3) / 4
  ((((s.ref d).hist.drop ex).take (min av (16384 - ex))).filter (·.2)).map (·.1)

/-- The history is valid (R291). -/
def State.histValid (s : State) (d : Nat) : Bool :=
  decide (s.rd (R.REF_DHOLD2_HOLD_MIN d) ≤ 4 * (s.hoWindow d).length) && !(s.hoWindow d).isEmpty

/-- The mean of rate words, to the nearest unit. -/
def meanInt (l : List Int) : Int := (2 * l.foldl (· + ·) 0 + (l.length : Int)) / ((2 * l.length : Nat) : Int)

/-- Deselect: the candidate leaves SELECTED for QUALIFIED, the build-out and any force end. -/
def State.deselect (s : State) (d : Nat) : State :=
  match s.selOf d with
  | none => s.setBit (R.REF_DSTAT_FORCED d) false
  | some k =>
    let s1 := ((s.setBit (R.REF_DSTAT_SELV d) false).setBit (R.REF_DSTAT_FORCED d) false).wr (R.REF_DSTAT_SEL d) 0
    let s2 := if s1.cstate d k = 4 then s1.candTo d k 3 else s1
    s2.setRef d { s2.ref d with bo := 0 }

/-- Enter HOLDOVER (R291): the rate word of the window's mean where the history is valid, else the mean of the last 10 s. A domain with its loop open keeps its rate word (R295). `compute` is off on entry to RECOVER (R296); `keep` keeps the selection, whose servo input is only gated (R238). -/
def State.enterHoldover (s : State) (d cause detail : Nat) (compute keep : Bool) : State :=
  let held := s.adv d
  let w := s.hoWindow d
  let valid := s.histValid d
  let rate := if valid then meanInt w else s.rateMean d 10000000000
  let s1 := (if keep then s else s.deselect d).domState d .holdover cause detail
  let s2 := s1.setRef d { s1.ref d with hoTb := some s1.tb, hoDone := false, hoValid := valid, held := held }
  let unq := !(valid && s2.hqual)
  let s3 := s2.setDom d { s2.dom d with unqual := unq }
  let s4 := s3.setBit (R.REF_DHIST_HOLD d) true
  let s5 := if unq then s4.setBit (R.REF_DHIST_UNQ d) true else s4
  let s6 := if !compute || (s5.dom d).hostLoop then s5
    else
      let h := BitVec.ofInt 48 rate
      (((s5.setRate d rate).wr (R.REF_DHVALID_SEC d) (min 65535 (4 * w.length))).wr (R.REF_DHRATE_LO_RATE d) (h.toNat % 4294967296)).wr (R.REF_DHRATE_HI_RATE d) (h.toNat / 4294967296)
  s6.syncVec (24 + d)

/-- The domain loses its reference with no candidate to replace it (Table 2-9). -/
def State.loseRef (s : State) (d cause detail : Nat) : State :=
  match (s.dom d).tstate with
  | .locked => s.enterHoldover d cause detail true false
  | .acquire => if s.histValid d then s.enterHoldover d cause detail true false else (s.deselect d).domState d .free cause detail
  | .holdover => s.deselect d
  | .free => s.deselect d

/-- A holdover that began unqualified becomes qualified when the conditions come to hold (R291): the history is judged by the window of the entry. -/
def State.requalify (s : State) (d : Nat) : State :=
  let D := s.dom d
  if D.tstate = .holdover && D.unqual && s.hqual && (s.ref d).hoValid then s.setDom d { D with unqual := false } else s

/-! ## The servo (R278, R286, R289) -/

/-- The servo input of domain d is gated (R51, R238). -/
def State.servoGated (s : State) (d : Nat) : Bool :=
  s.sys.refclkLost || (match s.selOf d with
    | some k => (match s.cport d k with | some p => s.bit (R.PTP_PSTAT_PD_GATED p) | none => false)
    | none => false)

/-- Bandwidths of Table 10-3 in mHz. -/
def bwTable : List Nat :=
  [1, 2, 5, 10, 20, 50, 100, 200, 500, 1000, 2000, 5000, 10000, 20000, 50000, 100000, 200000, 500000, 1000000, 2000000, 4000000]

/-- `BW_EFF` (R289): 0 with nothing selected. -/
def State.bwEff (s : State) (d : Nat) : Nat :=
  let bw := min 20 (s.rd (R.REF_DCFG_BW d))
  let set := if (s.dom d).tstate = .locked then bw else max bw (min 20 (s.rd (R.REF_DCFG_ACQ_BW d)))
  match s.selOf d with
  | none => 0
  | some k =>
    if s.ckind d k = 3 then set
    else ((List.range (set + 1)).filter fun c => decide (20 * bwTable.getD c 0 ≤ (s.cand d k).updates)).length - 1

/-! ## The build-out (R286) -/

/-- `BO_RATE`; 0 acts as 1. -/
def State.boRate (s : State) (d : Nat) : Nat := max 1 (s.rd (R.REF_DQUAL_BO_RATE d))

/-- The build-out as of now: that of a time candidate moves towards 0 at `BO_RATE` ns per second. -/
def State.buildOut (s : State) (d : Nat) : Int :=
  let R := s.ref d
  match s.selOf d with
  | none => 0
  | some k =>
    if s.fOnly d k then R.bo
    else
      let mv : Int := ((s.boRate d * 65536 * (s.tb - R.boTb) / 1000000000 : Nat) : Int)
      if R.bo ≥ 0 then max 0 (R.bo - mv) else min 0 (R.bo + mv)

/-- `REF_DBO`: in ns, rounded towards zero. -/
def State.buildOutNs (s : State) (d : Nat) : Int := Int.tdiv (s.buildOut d) 65536

/-! ## The PLL (R287 to R289) -/

/-- The natural frequency in 10^-9 rad/s of the type-2 loop with damping factor 4 whose -3 dB bandwidth is that of a code: 2π × bandwidth / √(33 + √1090). -/
def pllW (bw : Nat) : Int := 773318 * ((bwTable.getD bw 0 : Nat) : Int)

/-- The proportional term, 2 × 4 × ω, as a rate word, of a phase input in 2^-16 ns. -/
def pllProp (bw : Nat) (e : Int) : Int := 8 * pllW bw * e * 4294967296 / 1000000000000000000

/-- What the integrator gains, ω² × e over `dt` ns, as a rate word. -/
def pllGain (bw : Nat) (e : Int) (dt : Nat) : Int := pllW bw * pllW bw * e * (dt : Int) * 4294967296 / 1000000000000000000000000000000000000

/-- A frequency in 2^-4 ppb as a rate word. -/
def rateOfFreq (f : Int) : Int := f * 281474976710656 / 16000000000

/-- What a phase request has not yet moved of domain d, in 2^-16 ns: the PLL's phase input leaves it out (R287). -/
def State.phasePending (s : State) (d : Nat) : Int :=
  ((s.dom d).slewRem + (match (s.dom d).step with | some (δ, _) => δ | none => 0)) / 4294967296

/-- The phase input of the PLL for candidate k, in 2^-16 ns: θ less the build-out (R286) and less the phase request in progress. -/
def State.pllInput (s : State) (d k : Nat) : Int := (s.cand d k).theta - s.buildOut d - s.phasePending d

/-- The frequency input of a PTP reference: the estimate of a locked tracker whose peer shows a congruent clock (R230). -/
def State.lineFreq (s : State) (d k : Nat) : Option Int :=
  let p := s.csrc d k
  if s.ckind d k = 0 && s.bit (R.PTP_PSTAT_FINE_LOCK p) && (s.ptp p).congruent then some (s.trackerFreq p) else none

/-- The rate word that domain d runs at from the next TIME edge. -/
def State.rateNow (s : State) (d : Nat) : Int := (s.dom d).rateNext.getD (s.dom d).rate

/-- The PLL starts at the present rate word with no phase input (R287). -/
def State.pllStart (s : State) (d : Nat) : State :=
  s.setRef d { s.ref d with integ := s.rateNow d, pllTb := s.tb, pllErr := 0, good := none, wide := none }

/-- The lock criteria of R288 after an update: the phase `e` in 2^-16 ns and the frequency error `fe` as a rate word against their limits; `only` leaves the phase out. -/
def State.lockTrack (s : State) (d : Nat) (e fe : Int) (only : Bool) : State :=
  let ph := s.rd (R.REF_DLOCK_LOCK_PH d) * 65536
  let good := (only || decide (e.natAbs ≤ ph)) && decide (fe.natAbs * 1000000000 ≤ s.rd (R.REF_DLOCK_LOCK_FR d) * 281474976710656)
  let R := s.ref d
  s.setRef d { R with good := if good then some (R.good.getD s.tb) else none, wide := if 4 * ph < e.natAbs then some (R.wide.getD s.tb) else none }

/-- The PLL takes an offset of its selected candidate (R289): a frequency input stands for the integrator. Where between two updates the integrator takes the phase is a free value. -/
def State.servo (s : State) (d : Nat) : State :=
  let t := (s.dom d).tstate
  match s.selOf d with
  | none => s
  | some k =>
    if !s.mode.fwd || s.servoGated d || (s.dom d).hostLoop || !(t = .acquire || t = .locked) then s
    else
      let R := s.ref d
      let e := s.pllInput d k
      let bw := s.bwEff d
      let u : Int := ((Config.servoPoint s.freeCount % 1025 : Nat) : Int)
      let i := clampRate (match s.lineFreq d k with
        | some f => rateOfFreq f
        | none => R.integ + pllGain bw ((R.pllErr * (1024 - u) + e * u) / 1024) (s.tb - R.pllTb))
      let rate := i + pllProp bw e
      let s1 := { s.setRate d rate with freeCount := s.freeCount + 1 }
      (s1.setRef d { R with integ := i, pllTb := s.tb, pllErr := e }).lockTrack d e (rateOfFreq (s.cfreq d k) - clampRate rate) (s.fOnly d k)

/-! ## Offset updates (R275, R278) -/

/-- How long updates are kept: twice the longest SETTLE (R238), which is longer than 16 s. -/
def keepNs : Nat := 510000000000

/-- A candidate's offset is measured anew; the servo acts on it where the candidate is selected. The candidate's phase against TIME goes on from the last one where θ is known modulo `per` only (0: it is known whole). -/
def State.candUpdate (s : State) (d k : Nat) (θ per : Int) : State :=
  let C := s.cand d k
  let y0 : Int := θ + (((s.dom d).time / 4294967296 : Nat) : Int) - ((s.tb * 65536 : Nat) : Int)
  let y := match C.ms with
    | (_, _, last) :: _ => if per = 0 then y0 else last + (y0 - last + per / 2) % per - per / 2
    | [] => y0
  let s1 := s.setCand d k { C with theta := θ, ms := (s.tb, θ, y) :: C.ms.filter fun m => decide (s.tb ≤ m.1 + keepNs) }
  if s1.selOf d = some k then s1.servo d else s1
def State.candOffset (s : State) (d k : Nat) (θ : Int) : State := s.candUpdate d k θ 0

/-- The unwrapped phase `x` of a frequency-only candidate's signal, in 2^-16 ns: 0 at its first update and when it is selected. -/
def State.candPhase (s : State) (d k : Nat) (x : Int) : State :=
  let s1 := if (s.cand d k).ms.isEmpty then s.setCand d k { s.cand d k with base := x } else s
  s1.candOffset d k (x - (s1.cand d k).base)

/-- A tracker measurement on port p is the update of the SyncE candidates on it: the time that its recovered clock counts, less the domain's step-free count. -/
def State.refLine (s : State) (p : Nat) : State :=
  match (s.tracker p).last with
  | none => s
  | some (n, t48) =>
    (List.range 128).foldl (fun s j =>
      let d := j / 16
      let k := j % 16
      if s.bit (R.REF_CCFG_EN d k) && s.ckind d k == 1 && s.csrc d k == p then
        s.candPhase d k (((n * (s.link p).mode.edges1024 / 100 : Nat) : Int) / 4294967296 - s.sfAt d t48 / 4294967296)
      else s) s

/-- The phase of REFCLK, against which TIME runs. -/
def State.refRefclk (s : State) (d k : Nat) : State :=
  if s.bit (R.REF_CCFG_EN d k) && s.ckind d k == 3 then
    s.candPhase d k (((s.tb * 65536 : Nat) : Int) - (((s.dom d).sf / 4294967296 : Nat) : Int))
  else s

/-- A rising edge of pin p is the update of the TIN candidates on it: θ is the nearest multiple of `TPER` of the domain less the domain's time (R276, R278). -/
def State.refTin (s : State) (p : Nat) : State :=
  match (s.tin p).rose with
  | none => s
  | some t48 =>
    (List.range 128).foldl (fun s j =>
      let d := j / 16
      let k := j % 16
      if s.bit (R.REF_CCFG_EN d k) && s.ckind d k == 2 && s.cpin d k == p then
        let per : Int := ((s.tper d k * 65536 : Nat) : Int)
        let r := (s.domAt d t48 / 4294967296) % per
        s.candUpdate d k (if 2 * r ≥ per then per - r else -r) per
      else s) s

/-! ## Vote (R283) -/

/-- Two members agree. -/
def State.agree (s : State) (d i j : Nat) : Bool := decide ((s.cfreq d i - s.cfreq d j).natAbs < 16 * s.limSoft d)

/-- A member is in the majority. -/
def State.inMajority (s : State) (d i : Nat) : Bool :=
  let V := s.voters d
  decide (V.length < 2 * (V.filter fun j => i == j || s.agree d i j).length)

/-- The disagreement alarm, as the vote finds it. -/
def State.disagrees (s : State) (d : Nat) : Bool :=
  match s.voters d with
  | [] => false
  | [_] => false
  | [i, j] => !s.agree d i j
  | V => !(V.any (s.inMajority d))

/-- The vote: `OUTVOTED`, `UNCORR` and the alarm are computed anew. -/
def State.vote (s : State) (d : Nat) : State :=
  let V := s.voters d
  let alarm := s.disagrees d
  let s1 := (List.range 16).foldl (fun t k =>
    let out := decide (3 ≤ V.length) && V.contains k && !s.inMajority d k
    let unc := V.contains k && (V.length == 1 || (V.length == 2 && alarm))
    let t1 := if out && !t.bit (R.REF_CSTAT_OUTVOTED d k) then t.setBit (R.REF_CHIST_OUTVOTED d k) true else t
    (t1.setBit (R.REF_CSTAT_OUTVOTED d k) out).setBit (R.REF_CSTAT_UNCORR d k) unc) s
  let s2 := if alarm && !s1.bit (R.REF_DSTAT_DISAGREE d) then (s1.setBit (R.REF_DHIST_DISAGREE d) true).syncVec (24 + d) else s1
  s2.setBit (R.REF_DSTAT_DISAGREE d) alarm

/-! ## Selection (R284 to R287) -/

/-- A phase request of the firmware for candidate k (R195, R199): a refusal disqualifies it. -/
def State.request (s : State) (d k : Nat) (δ : Int) : State × Bool :=
  match s.adjust d δ with
  | (s1, true) => (s1.candTo d k 7, true)
  | (s1, false) => (s1, false)

/-- Follow candidate k: the registers, history bits, count and log of a switch. -/
def State.follow (s : State) (d k : Nat) : State :=
  let old := match s.selOf d with | some j => j | none => Config.noSlot % 256
  if s.selOf d = some k then s
  else
    let s1 := match s.selOf d with | some j => if s.cstate d j = 4 then s.candTo d j 3 else s | none => s
    let s2 := (((s1.setBit (R.REF_DSTAT_SELV d) true).wr (R.REF_DSTAT_SEL d) k).candTo d k 4).setBit (R.REF_CHIST_SELECTED d k) true
    let s3 := ((s2.setBit (R.REF_DHIST_SWITCH d) true).count (.refSwitches d)).log 8 d (old + 256 * k)
    s3.syncVec (24 + d)

/-- The candidate's θ as the PLL sees it at its selection: 0 for a frequency-only one (R278). -/
def State.selTheta (s : State) (d k : Nat) : Int := if s.fOnly d k then 0 else (s.cand d k).theta

/-- Select candidate k; the flag says that its step was refused and it is disqualified. A forced switch of a LOCKED domain goes to ACQUIRE (R285). -/
def State.selectCand (s : State) (d k : Nat) (force : Bool) : State × Bool :=
  let zero (s : State) : State := if s.fOnly d k then s.setCand d k { s.cand d k with theta := 0, base := (s.cand d k).theta + (s.cand d k).base } else s
  match (s.dom d).tstate with
  | .free | .holdover =>
    let s1 := (zero (s.follow d k)).domState d .acquire (if force then 0x0F else 8) k
    let s2 := (s1.setRef d { s1.ref d with bo := 0, boTb := s1.tb }).pllStart d
    if s2.fOnly d k then (s2, false) else s2.request d k ((s2.cand d k).theta * 4294967296)
  | .acquire | .locked =>
    let a := match s.selOf d with | some j => (s.cand d j).theta | none => storeGet (fun _ => 0) s.twin.theta d
    let b := s.selTheta d k - a
    let s1 := zero (s.follow d k)
    let s2 := if force && (s1.dom d).tstate = .locked then s1.domState d .acquire 0x0F k else s1
    if s2.fOnly d k || b.natAbs * 4294967296 ≤ s2.thresh d then
      let D := s2.dom d
      ((s2.setRef d { s2.ref d with bo := b, boTb := s2.tb }).setDom d { D with histBad := D.histBad || (b != 0 && !s2.fOnly d k) }, false)
    else (s2.setRef d { s2.ref d with bo := 0, boTb := s2.tb }).request d k (b * 4294967296)

/-- Selection may be made (R295, R318, Table 2-10). -/
def State.maySelect (s : State) (d : Nat) : Bool := s.mode.fwd && !(s.dom d).hostLoop && !s.sys.refclkLost && !s.following d

/-- Evaluate the events of R284; a refused step selects again, at most `n` times. -/
def State.evaluate (s : State) (d : Nat) : Nat → State
  | 0 => s
  | n + 1 =>
    let s0 := match s.selOf d with
      | some k => if s.bit (R.REF_DSTAT_FORCED d) && !(s.cstate d k == 3 || s.cstate d k == 4) then s.setBit (R.REF_DSTAT_FORCED d) false else s
      | none => s
    if !s0.maySelect d || s0.bit (R.REF_DSTAT_FORCED d) then s0
    else
      let best := s0.best d
      let alarm := s0.bit (R.REF_DSTAT_DISAGREE d)
      let go (k : Nat) : State :=
        match s0.selectCand d k false with
        | (s1, true) => s1.evaluate d n
        | (s1, false) => s1
      match s0.selOf d, best with
      | none, none => (s0.setBit (R.REF_DHIST_NOCAND d) true).syncVec (24 + d)
      | none, some k => if alarm then s0 else go k
      | some j, none => (if s0.eligCand d j then s0 else (s0.loseRef d 0x0B j).setBit (R.REF_DHIST_NOCAND d) true).syncVec (24 + d)
      | some j, some k =>
        if !s0.eligCand d j then go k
        else if !alarm && !s0.bit (R.REF_DCFG_NONREV d) && keyLt (s0.rankKey d k) (s0.rankKey d j) then go k
        else s0

/-! ## An evaluation -/

/-- What the firmware finds of a candidate. -/
def State.candMeasure (s : State) (d : Nat) (m : RefMeas) : State :=
  s.setCand d m.slot { s.cand d m.slot with updates := m.updates }

/-- A candidate's estimate of f is kept for dR (R280). -/
def State.candEstimate (s : State) (d k : Nat) : State :=
  match (if s.bit (R.REF_CCFG_EN d k) then s.cfit d k else none) with
  | some f => s.setCand d k { s.cand d k with fs := (s.tb, f) :: pruneFs s.tb (s.dwin d) (s.cand d k).fs }
  | none => s

/-- The limits in force on REFCLK, in 2^-4 ppb (R292): ±1 ppm with a warm OCXO, else ±60 ppm. -/
def State.refLimit (s : State) : Nat := if s.limset = 2 then 16000 else 960000

/-- REFCLK against the orbit domain's selected candidate (R292): `REF_REFCLK_OFF`, and since when it has been within its limits. -/
def State.refclkOff (s : State) : State :=
  let d := s.orbit.grid.dom
  match s.selOf d with
  | some k =>
    if s.ckind d k = 3 then s
    else
      let ok := decide ((s.cfreq d k).natAbs ≤ s.refLimit)
      { s.wr R.REF_REFCLK_OFF_OFF (sat32 (-(s.cfreq d k))) with sys := { s.sys with inRange := if ok then some (s.sys.inRange.getD s.tb) else none } }
  | none => s

/-- The conditions of R290 that make the sample in progress invalid now. -/
def State.histBadNow (s : State) (d : Nat) : Bool :=
  let D := s.dom d
  D.tstate != .locked || D.slewRem != 0 || s.servoGated d ||
    (match s.selOf d with
     | some k => s.cstate d k == 5 || (s.bit (R.REF_DSTAT_DISAGREE d) && s.bit (R.REF_CSTAT_UNCORR d k)) || (!s.fOnly d k && s.buildOut d != 0)
     | none => false)

/-- Mark the sample in progress. -/
def State.histMark (s : State) (d : Nat) : State :=
  if s.histBadNow d then s.setDom d { s.dom d with histBad := true } else s

/-- The firmware's evaluation of domain d (R281, R283, R284): measurements, tests, vote and selection. A candidate without a measurement in the list is judged by those it has. -/
def State.refEval (s : State) (d : Nat) (ms : List RefMeas) : State :=
  let s0 := ms.foldl (fun s m => s.candMeasure d m) s
  let s1 := (List.range 16).foldl (fun t k => (t.refRefclk d k).candEstimate d k) s0
  let sig (k : Nat) : Bool := match ms.find? fun m => m.slot.val == k with | some m => m.signal | none => s1.ckind d k == 3 || decide (2 ≤ s1.cstate d k)
  let s2 := (List.range 16).foldl (fun t k => s1.candStep t d k (sig k)) s1
  let s3 := (s2.vote d).histMark d
  (((s3.evaluate d 17).vote d).requalify d).refclkOff.histMark d

/-! ## History (R290) -/

/-- One 4 s sample of domain d; a domain that follows the twin keeps the mirrored history instead (R318). -/
def State.histSample (s : State) (d : Nat) : State :=
  if s.following d then s else
  let s1 := s.histMark d
  let D := s1.dom d
  let R := s1.ref d
  let s2 := s1.setRef d { R with hist := ((s1.rateMean d 4000000000, !D.histBad) :: R.hist).take 16384, sampleTb := s1.tb }
  (s2.setDom d { D with histBad := false }).histMark d

end Sys2Proof.Machine
end

