-- ==== Sys2Proof/Machine/PtpFw.lean ====
section
/-! DEFINITION. The firmware's PTP (R216 to R222, R230 to R239, R242 to R245): messages received and terminated, messages originated, measurements of offset and path delay, and the reception of frames at a port. -/

namespace Sys2Proof.Machine

/-! ## Offsets -/

/-- A measured offsetFromMaster of instance d on port p, in 2^-16 ns: the candidate's θ is its negation (R278). -/
def State.offsetMeasured (s : State) (p d : Nat) (off : Int) : State :=
  let s1 := s.setPtp p { s.ptp p with offset := storeSet (fun _ => 0) (s.ptp p).offset d off }
  match s1.ptpCand d p with
  | some k => s1.candOffset d k (-off)
  | none => s1

/-- A Sync is complete: t1, t2 and the correction with A_p in it (R232). -/
def State.syncDone (s : State) (p d : Nat) (t1 t2 corr : Int) : State :=
  let P := s.ptp p
  let s1 := s.setPtp p { P with t1s := storeSet (fun _ => 0) P.t1s d t1, t2s := storeSet (fun _ => 0) P.t2s d t2
                                scorr := storeSet (fun _ => 0) P.scorr d corr, sync := storeSet (fun _ => none) P.sync d none }
  s1.offsetMeasured p d (t2 - t1 - corr - ((s.mpd p : Nat) : Int))

/-! ## Path delay (R233, R238) -/

/-- The references carried on port p: domain and slot. -/
def State.carried (s : State) (p : Nat) : List (Nat × Nat) :=
  ((List.range 128).map fun j => (j / 16, j % 16)).filter fun x => s.bit (R.REF_CCFG_EN x.1 x.2) && s.cport x.1 x.2 == some p

/-- M_p is written (R233). -/
def State.setMpd (s : State) (p : Nat) (m : Int) : State :=
  let v := m.toNat
  (s.wr (R.PTP_MPD_NS_NS p) (v / 65536)).wr (R.PTP_MPD_FRAC_FRAC p) (v % 65536)

/-- A path delay step: the event is counted, every reference carried on p is gated, and a LOCKED domain that follows one goes to HOLDOVER (R238). A further step during SETTLE restarts it and keeps the value before the first. -/
def State.pdStep (s : State) (p : Nat) (old new : Int) : State :=
  let P := s.ptp p
  let (base, first) := match P.settle with | some (b, f, _) => (b, f) | none => (old, s.tb)
  let s1 := ((s.count (.port p 0x61)).setPtp p { P with settle := some (base, first, s.tb), dRtt := 2 * (new - base) }).setBit (R.PTP_PSTAT_PD_GATED p) true
  (List.range 8).foldl (fun s d =>
    match s.selOf d with
    | some k =>
      if s.cport d k = some p && (s.dom d).tstate == .locked then
        let s2 := s.enterHoldover d 0x0D p true true
        s2.setRef d { s2.ref d with gatedBy := some p }
      else s.histMark d
    | none => s) s1

/-- A measurement of M_p in 2^-16 ns, compared with the one before. -/
def State.mpdMeasured (s : State) (p : Nat) (m : Int) : State :=
  let old : Int := ((s.mpd p : Nat) : Int)
  let lim := max 1 (s.rd (R.PTP_PDCFG_PDSTEP p)) * 65536
  let known := (s.ptp p).known
  let s1 := (s.setMpd p m).setPtp p { s.ptp p with known := true }
  if known && decide (lim < (m - old).natAbs) then s1.pdStep p old m else s1

/-- Saturate to 16 bits. -/
def sat16 (v : Int) : Nat := (BitVec.ofInt 16 (if v > 32767 then 32767 else if v < -32768 then -32768 else v)).toNat

/-- `SETTLE` in ns (Table 8-9). -/
def State.settleNs (s : State) (p : Nat) : Nat := max 1 (s.rd (R.PTP_PDCFG_SETTLE p)) * 1000000000

/-- Twice the median offset of a candidate, -θ in 2^-16 ns, over its updates after `t0` and up to `t1`. -/
def State.offMedian2 (s : State) (d k t0 t1 : Nat) : Option Int :=
  let l := ((s.cand d k).ms.filter fun m => decide (t0 < m.1) && decide (m.1 ≤ t1)).map fun m => -m.2.1
  if l.isEmpty then none else some (median2 l)

/-- Twice the change of a candidate's median offset, from the SETTLE before the first step to the SETTLE that ends now, in 2^-16 ns (R238). -/
def State.offChange2 (s : State) (p d k first last : Nat) : Option Int :=
  match s.offMedian2 d k (first - s.settleNs p) first, s.offMedian2 d k last s.tb with
  | some b, some a => some (a - b)
  | _, _ => none

/-- Another qualified reference of the domain kept its offset within `PDTOL`. -/
def State.pdCorroborated (s : State) (p d k first last : Nat) : Bool :=
  (List.range 16).any fun j => j != k && (s.cstate d j == 3 || s.cstate d j == 4) &&
    (match s.offChange2 p d j first last with | some x => decide (x.natAbs ≤ s.rd (R.PTP_PDCFG_PDTOL p) * 131072) | none => false)

/-- One reference at the end of SETTLE (R238): the correction is latched, or the alarm raised and the reference suspect; one without a median on both sides is not corroborated. -/
def State.settleRef (s : State) (p d k first last : Nat) : State :=
  let J := match s.offChange2 p d k first last with | some x => x * 1000 / 131072 | none => 0
  let D := (s.ptp p).dRtt * 1000
  let tol : Int := ((s.rd (R.PTP_PDCFG_PDTOL p) : Nat) : Int)
  if (s.offChange2 p d k first last).isSome && s.pdCorroborated p d k first last &&
      decide (10 * (((J.natAbs * 131072 : Nat) : Int) - ((D.natAbs : Nat) : Int)).natAbs ≤ (tol * 20 * 1000 * 65536 + ((D.natAbs : Nat) : Int)).toNat) then
    ((s.wr (R.PTP_ASYM_LATCH_PS p) (BitVec.ofInt 32 (s.sgnFld (R.PTP_ASYM_LATCH_PS p) + J)).toNat).setBit (R.PTP_PSTAT_ASYM_LATCHED p) true).log 9 p
      (sat16 J + 65536 * sat16 (D / 65536))
  else
    ((((s.setBit (R.PTP_PSTAT_PD_ALARM p) true).setBit (R.REF_CSTAT_SUSPECT d k) true).setBit (R.REF_CHIST_SUSPECT d k) true)).syncVec (32 + p / 8)

/-- The gate on domain d is released: it goes to ACQUIRE (Table 2-9) on the candidate that it kept, unless REFCLK is lost or the mode is RECOVER, where the candidates must requalify first (R51, R65). -/
def State.gateOff (s : State) (p d : Nat) : State :=
  let R := s.ref d
  if R.gatedBy = some p then
    let s1 := s.setRef d { R with gatedBy := none }
    match s1.selOf d with
    | some k => if (s1.dom d).tstate = .holdover && s1.cstate d k = 4 && !s1.sys.refclkLost && s1.mode != .recover then (s1.domState d .acquire 0x0E p).pllStart d else s1
    | none => s1
  else s

/-- TIME passes to the end of SETTLE on port p: every reference is judged, the gate is released, and a domain that it held goes to ACQUIRE (R238, Table 2-9). -/
def State.settleEnd (s : State) (p : Nat) : State :=
  match (s.ptp p).settle with
  | none => s
  | some (_, first, last) =>
    let s0 := s.passN (last + s.settleNs p - s.tb)
    let s1 := (s0.carried p).foldl (fun s x => s.settleRef p x.1 x.2 first last) s0
    let s2 := (s1.setPtp p { s1.ptp p with settle := none, dRtt := 0 }).setBit (R.PTP_PSTAT_PD_GATED p) false
    (List.range 8).foldl (fun s d => s.gateOff p d) s2

/-! ## Messages originated -/

/-- Bytes of a message of the firmware, TLVs not counted. -/
def ptpSize (ty : Nat) : Nat := if ty = 11 then 64 else if ty = 2 || ty = 3 || ty = 9 || ty = 10 then 54 else if ty = 12 then 50 else 44

/-- The transports on which port p sends: those enabled, UDP only with an address (R217, Table 13-7). -/
def State.fwTransports (s : State) (p : Nat) : List Nat :=
  (List.range 3).filter fun t => (s.rd (R.PTP_PORT_TRANSPORT p)).testBit t && (t == 0 || s.portAddr p (t == 2) != 0)

/-- Where a message received by unicast came from; a group address has the lowest bit of its first byte set. -/
def State.peerOf (s : State) (p : Nat) (k : Pkt) : Option PtpPeer :=
  if k.dst.getLsbD 0 then none
  else (s.ptpTransport p k).map fun t => { transport := t, mac := k.src, ip := match k.ip with | some h => h.src | none => 0 }

/-- The frame of a message on a transport, to a unicast peer or the multicast addresses (PRESUMED from IEEE 1588-2019). -/
def State.fwPkt (s : State) (p t : Nat) (m : PtpMsg) (body : List Byte) (size : Nat) (dest : Option PtpPeer) : Pkt :=
  let pd := PtpPdelay m || s.rd (R.PTP_INST_PROFILE (s.fwDom p m)) == 3
  let group : Nat := if t = 0 then (if pd then 0x0E0000C28001 else 0x000000191B01) else if t = 1 then (if pd then 0x6B00005E0001 else 0x8101005E0001)
    else (if pd then 0x6B0000003333 else 0x810100003333)
  let ip : Option IpHdr := if t = 0 then none else some
    { v6 := t == 2, src := .ofNat 128 (s.portAddr p (t == 2))
      dst := (match dest with | some q => q.ip | none => .ofNat 128 (if t = 1 then (if pd then 0x6B0000E0 else 0x810100E0) else (if pd then 0x6B * 256 ^ 15 + 0x02FF else 0x81 * 256 ^ 15 + 256 ^ 14 + 0x0EFF)))
      proto := 17, dscp := 0, sport := .ofNat 16 (if PtpEvent m then 319 else 320), dport := .ofNat 16 (if PtpEvent m then 319 else 320)
      total := .ofNat 16 (if t = 1 then 28 + size else 8 + size), offset := 14 }
  { dst := (match dest with | some q => q.mac | none => .ofNat 48 group), src := .ofNat 48 (s.dsetNat 0x17 (s.fwDom p m) p), vlans := [], rtag := none, hsr := none, prp := none
    etype := if t = 0 then 0x88F7 else if t = 1 then 0x0800 else 0x86DD, ip := ip, prov := none, ptp := some m, body := body }

/-- The claim that the firmware's messages carry (R242), and the echo of port p (R243). -/
def State.fwClaim (s : State) : Option (BitVec 16) := if s.role = .solo then none else some (.ofNat 16 s.ownClaim)
def State.clfGroup (s : State) (p : Nat) : Nat := s.rd ⟨A.CLF_PMAP (p / 8), 4 * (p % 8), 3⟩
def State.echoOf (s : State) (p : Nat) : Option (BitVec 16) :=
  if s.bit (R.CLF_HI_VALID (s.clfGroup p)) then some (.ofNat 16 (s.rd (R.CLF_HI_CLAIM (s.clfGroup p)))) else none

/-- Sign a message of an instance with `AUTH` = 1 (R245), whose TLVs before the signature are `tail`. Of several keyIDs bound to the instance's SPP the first bound is used (DESIGN CHOICE, log entry 154). -/
def State.fwSign (s : State) (d : Nat) (m : PtpMsg) (tail : List Byte) : State × PtpMsg :=
  if !s.bit (R.PTP_INST_AUTH d) then (s, m)
  else
    let spp := s.rd (R.PTP_INST_AUX_SPP d)
    match s.binds.find? fun b => b.1 == spp with
    | none => (s, m)
    | some b => s.fwResign { m with auth := some { spp := .ofNat 8 spp, keyId := .ofNat 32 b.2.1, covered := [], icv := [] } } tail

/-- A message of instance d leaves port p for the egress queue of `TCLASS`, to a unicast peer or once on each transport (R217, R222); its claim TLVs follow its own (R242, R243). -/
def State.fwSend (s : State) (p d : Nat) (m : PtpMsg) (body : List Byte) (dest : Option PtpPeer := none) : State :=
  let ty := m.mtype.toNat
  let echoes := s.bit (R.PTP_PORT_TWIN p) && (ty == 1 || ty == 2 || ty == 3)
  let m1 := { m with claim := s.fwClaim, echo := if echoes then s.echoOf p else none }
  let tail := body ++ claimTail m1 echoes
  let (s1, m2) := s.fwSign d m1 tail
  let size := ptpSize ty + (match m2.path with | some l => 4 + 8 * l.length | none => 0) + tail.length + (if m2.auth.isSome then 26 else 0)
  ((s1.fwTransports p).filter fun t => match dest with | some q => q.transport == t | none => true).foldl (fun s t =>
    s.fwJoin p (s.rd (R.PTP_INST_AUX_TCLASS d)) (s.fwPkt p t m2 tail size dest) (size + (if t = 0 then 18 else if t = 1 then 46 else 66))) s1

/-- A plain message of instance d on port p. -/
def State.fwMsg (s : State) (p d : Nat) (ty : Nat) (seq : BitVec 16) : PtpMsg :=
  { mtype := .ofNat 4 ty, malformed := false, domNum := .ofNat 8 (s.rd (R.PTP_INST_DOMNUM d)), sdoId := .ofNat 12 (s.rd (R.PTP_INST_SDOID d))
    seqId := seq, twoStep := false, ident := s.portIdent d p, corr := 0, origin := 0, reqIdent := 0, ann := none, l1 := none
    claim := none, echo := none, auth := none }

/-- The next sequenceId of a message type. -/
def State.fwSeq (s : State) (p d ty : Nat) : State × BitVec 16 :=
  let P := s.ptp p
  let n := storeGet (fun _ => 0) P.seqs (16 * d + ty)
  (s.setPtp p { P with seqs := storeSet (fun _ => 0) P.seqs (16 * d + ty) ((n + 1) % 65536) }, .ofNat 16 n)

/-- The parent of instance d: the foreign master that its domain follows, in LOCKED or ACQUIRE on a PTP candidate. -/
def State.fwParent (s : State) (d : Nat) : Option Foreign :=
  match s.effSel d with
  | some k => if s.ckind d k = 0 && ((s.dom d).tstate == TState.locked || (s.dom d).tstate == TState.acquire) then s.foreignOf (s.csrc d k) d else none
  | none => none

/-- What an Announce of instance d carries (R293, R294): the parent's grandmaster where the domain follows a PTP candidate, else the own clock with the quality of Table 10-4. -/
def State.fwAnn (s : State) (p d : Nat) : PtpAnn :=
  let q := s.adv d
  let acc := if s.portCoarse p then 0xFE else q.2.1
  match s.fwParent d with
  | some f => { f.ann with cls := .ofNat 8 q.1, acc := .ofNat 8 acc, var := .ofNat 16 q.2.2, steps := f.ann.steps + 1 }
  | none => { prio1 := .ofNat 8 (s.dsetNat 0x01 d 0), prio2 := .ofNat 8 (s.dsetNat 0x02 d 0), cls := .ofNat 8 q.1, acc := .ofNat 8 acc, var := .ofNat 16 q.2.2
              gm := .ofNat 64 (s.dsetNat 0x06 d 0), steps := 0 }

/-- The PATH_TRACE TLV of an Announce (R217; its use PRESUMED from IEEE 1588-2019): the parent's with the own clock identity after it, and under profile 3 a grandmaster's own. -/
def State.fwPath (s : State) (d : Nat) : Option (List (BitVec 64)) :=
  let own : BitVec 64 := .ofNat 64 (s.dsetNat 0x06 d 0)
  match s.fwParent d with
  | some f => f.path.map (· ++ [own])
  | none => if s.rd (R.PTP_INST_PROFILE d) = 3 then some [own] else none

/-- Words as bytes, low byte first. -/
def wordsBytes (l : List Word) : List Byte := l.flatMap fun (w : Word) => (List.range 4).map fun (i : Nat) => BitVec.setWidth 8 (w >>> (8 * i))

/-- The firmware sends a message of a type where its instance and port call for it: Sync, Announce and metadata as master; Delay_Req where a foreign master is heard and the port uses delay request-response; Pdelay_Req on peer-to-peer ports and under `LINKDLY`, where an exchange without an answer leaves M_p at 0 (R233); Signaling with the L1_SYNC TLV, which reports the tracker's estimate (R230). Sequence numbers are kept by instance and type. -/
def State.fwOriginate (s : State) (p d ty : Nat) : State :=
  let tc := s.tcType d != 0
  let ok := s.mode.fwd && (s.mode != .doze || s.timingPort p) && s.bit (R.PTP_INST_EN d) && (s.rd (R.PTP_PORT_INST p)).testBit d && s.portUp p
  let del := s.rd (R.PTP_PORT_DELAY p)
  let master := !tc && s.portState d p == 6 && s.asCapable p d
  let two := !s.bit (R.PTP_PORT_ONESTEP p) || s.rd (R.PTP_INST_PROFILE d) == 3
  if !ok then s
  else
    let (s1, q) := s.fwSeq p d ty
    let m := s1.fwMsg p d ty q
    if ty = 0 then (if master then s1.fwSend p d { m with twoStep := two } [] else s)
    else if ty = 11 then (if master then s1.fwSend p d { m with ann := some (s1.fwAnn p d), path := s1.fwPath d } [] else s)
    else if ty = 1 then (match s.foreignOf p d with | some f => if !tc && del == 0 then s1.fwSend p d m [] f.peer else s | none => s)
    else if ty = 2 then
      (if del == 1 || (del == 0 && tc && s.bit (R.PTP_PORT_LINKDLY p)) then
        let s2 := if del == 0 && (s1.ptp p).pseq.isSome then (s1.setMpd p 0).setPtp p { s1.ptp p with known := false } else s1
        (s2.setPtp p { s2.ptp p with pseq := some (q.toNat, false) }).fwSend p d m [] else s)
    else if ty = 12 then s1.fwSend p d { m with l1 := some { congruent := s.bit (R.PTP_PORT_TXSYN p), rate := if s.bit (R.PTP_PSTAT_FINE_LOCK p) then some (s.trackerFreq p) else none } } []
    else if ty = 13 then (if master && s.rd (R.PTP_INST_PROFILE d) == 4 then s1.fwSend p d m (wordsBytes (s.dset 0x20 d 0)) else s)
    else s

/-! ## Messages received -/

/-- An Announce: the best foreign master heard on the port is kept (Table 10-1); one whose PATH_TRACE TLV names this clock is ignored. -/
def State.announce (s : State) (p d : Nat) (m : PtpMsg) (peer : Option PtpPeer) : State :=
  match m.ann with
  | none => s
  | some a =>
    let f : Foreign := { ident := m.ident, ann := a, tb := s.tb, path := m.path, peer := peer }
    let loop := match m.path with | some l => l.contains (.ofNat 64 (s.dsetNat 0x06 d 0)) | none => false
    let take := match s.liveForeign p d with
      | some o => o.ident == m.ident || keyLt (annKey a m.ident.toNat) (annKey o.ann o.ident.toNat)
      | none => true
    if take && !loop && m.ident != s.portIdent d p then s.setPtp p { s.ptp p with foreign := storeSet (fun _ => none) (s.ptp p).foreign d (some f) } else s

/-- The message comes from the foreign master of the port. -/
def State.fromMaster (s : State) (p d : Nat) (m : PtpMsg) : Bool :=
  match s.foreignOf p d with | some f => f.ident == m.ident | none => false

/-- A Management message (R217): GET is answered, SET and COMMAND with NOT_SUPPORTED. -/
def State.fwManage (s : State) (p d : Nat) (m : PtpMsg) (peer : Option PtpPeer) : State :=
  match m.mgmt with
  | some .get => { s.fwSend p d { s.fwMsg p d 13 m.seqId with mgmt := some .response } (Config.ptpBytes s.freeCount) peer with freeCount := s.freeCount + 1 }
  | some .set | some .command => s.fwSend p d { s.fwMsg p d 13 m.seqId with mgmt := some .notSupported } [] peer
  | some .response | some .ack | some .notSupported | none => s

/-- The firmware takes a message of instance d received in frame `k` on port p at the instant `t48` on TIME. -/
def State.fwTake (s : State) (p d : Nat) (k : Pkt) (m : PtpMsg) (t48 : Int) : State :=
  let t := s.domAt d t48 / 4294967296
  let o : Int := (m.origin : Int) * 65536
  let P := s.ptp p
  match m.mtype.toNat with
  | 0 =>
    if !s.fromMaster p d m || !s.asCapable p d then s
    else
      let P1 := { P with syncTb := storeSet (fun _ => none) P.syncTb d (some s.tb) }
      if m.twoStep then
        s.setPtp p { P1 with sync := storeSet (fun _ => none) P.sync d (some m.seqId), t2s := storeSet (fun _ => 0) P.t2s d t, scorr := storeSet (fun _ => 0) P.scorr d m.corr }
      else (s.setPtp p P1).syncDone p d o t (m.corr + to16 (s.asym p))
  | 8 =>
    if s.fromMaster p d m && storeGet (fun _ => none) P.sync d == some m.seqId then
      s.syncDone p d o (storeGet (fun _ => 0) P.t2s d) (storeGet (fun _ => 0) P.scorr d + m.corr + to16 (s.asym p))
    else s
  | 1 =>
    if s.portState d p = 6 then
      s.fwSend p d { s.fwMsg p d 9 m.seqId with origin := (t / 65536).toNat, corr := m.corr - t % 65536, reqIdent := m.ident } [] (s.peerOf p k)
    else s
  | 9 =>
    if m.reqIdent == s.portIdent d p && (m.seqId.toNat + 1) % 65536 == storeGet (fun _ => 0) P.seqs (16 * d + 1) && s.rd (R.PTP_PORT_DELAY p) == 0 then
      s.mpdMeasured p ((storeGet (fun _ => 0) P.t2s d - storeGet (fun _ => 0) P.t1s d + o - storeGet (fun _ => 0) P.t3s d - storeGet (fun _ => 0) P.scorr d - m.corr) / 2)
    else s
  | 11 => if s.asCapable p d then s.announce p d m (s.peerOf p k) else s
  | 12 => match m.l1 with | some l => s.setPtp p { P with congruent := l.congruent } | none => s
  | 13 => s.fwManage p d m (s.peerOf p k)
  | _ => s

/-- The time from this port's request to its response as the responder's clock counts it: under profile 3 by the neighborRateRatio that the locked tracker gives (R218). -/
def State.peerSpan (s : State) (p d : Nat) (x : Int) : Int :=
  if s.rd (R.PTP_INST_PROFILE d) = 3 && s.bit (R.PTP_PSTAT_FINE_LOCK p) then x + x * (rateOfFreq (s.trackerFreq p) - s.rho d) / 281474976710656 else x

/-- The peer delay messages, whatever the domain (R233). -/
def State.fwPdelay (s : State) (p : Nat) (m : PtpMsg) (t48 : Int) : State :=
  let d := s.pdDom p
  let t := s.domAt d t48 / 4294967296
  let o : Int := (m.origin : Int) * 65536
  let P := s.ptp p
  let mine := m.reqIdent == s.portIdent d p
  if m.mtype = 2 then
    let two := !s.bit (R.PTP_PORT_ONESTEP p) || s.rd (R.PTP_INST_PROFILE d) == 3
    let r : PtpMsg := { s.fwMsg p d 3 m.seqId with
      twoStep := two, origin := (if two then (t / 65536).toNat else 0), corr := (if two then - (t % 65536) else m.corr)
      reqIdent := m.ident, domNum := m.domNum, sdoId := m.sdoId }
    (s.setPtp p { P with r2 := t, rcorr := m.corr }).fwSend p d r []
  else if m.mtype = 3 then
    if mine && P.pseq == some (m.seqId.toNat, false) then
      if m.twoStep then s.setPtp p { P with p4 := t, p2 := o, pcorr := m.corr, pseq := some (m.seqId.toNat, true) }
      else (s.setPtp p { P with p4 := t, pseq := none }).mpdMeasured p ((s.peerSpan p d (t - P.p1) - m.corr) / 2)
    else s
  else if mine && P.pseq == some (m.seqId.toNat, true) then
    (s.setPtp p { P with pseq := none }).mpdMeasured p ((s.peerSpan p d (P.p4 - P.p1) - (o - P.p2) - P.pcorr - m.corr) / 2)
  else s

/-! ## Reception at a port -/

/-- The claim filter of a port that faces a twin pair (R243). -/
def State.claimFilter (s : State) (p : Nat) (m : PtpMsg) : State × Bool :=
  if !s.bit (R.PTP_PORT_TWIN p) then (s, true)
  else match m.claim with
    | none => (s.count (.port p 0x5D), false)
    | some c => match s.clfJudge (s.clfGroup p) c.toNat with
      | (s1, true) => (s1, true)
      | (s1, false) => (s1.count (.port p 0x5D), false)

/-- A PTP frame on a PTP port (R221, Table 8-3). `ovf` says that the firmware has no capacity for it (R220). -/
def State.ptpReceive (s : State) (p : Nat) (r : RxFrame) (m : PtpMsg) (ovf : Bool) : State :=
  let s0 := s.count (.port p 0x58)
  match s0.claimFilter p m with
  | (s1, false) => s1
  | (s1, true) =>
    let inst := s1.rxInst p r.pkt m
    match (match inst with | some d => s1.authCheck d m | none => .ok) with
    | .fail => s1.count (.port p 0x5E)
    | .noKey => s1.count (.port p 0x5F)
    | .ok =>
      if m.malformed then s1.count (.port p 0x5B)
      else
        let s2 := match m.echo with | some c => s1.twinEcho c.toNat | none => s1
        let (s3, t48) := if PtpEvent m then s2.rxStamp p r else (s2, ((s2.rxNow * nsUnit : Nat) : Int))
        let runs := s3.mode.fwd && (s3.mode != .doze || s3.timingPort p)
        if PtpPdelay m then
          (if ovf then s3.count (.fwOvf (s3.pdDom p)) else if runs then s3.fwPdelay p m t48 else s3)
        else match inst with
          | some d =>
            if s3.tcType d = 0 then (if ovf then s3.count (.fwOvf d) else if runs then s3.fwTake p d r.pkt m t48 else s3)
            else
              let watch := runs && (m.mtype == 11 || ((m.mtype == 0 || m.mtype == 8) && s3.bit (R.PTP_INST_AUX_TC_SYNT d) && s3.rd (R.PTP_INST_AUX_TC_SYNC_PORT d) == p))
              let s4 := if !watch then s3 else if ovf then s3.count (.fwOvf d) else s3.fwTake p d r.pkt m t48
              s4.ingress p r true false (s4.sfAt d t48)
          | none => s3.ingress p r true false 0

/-- The frame is the in-band agent's (R379): it leaves the ingress line at stage 1. -/
def State.agentFrame (s : State) (p : Nat) (k : Pkt) : Bool :=
  s.agent.en && s.agent.port == p && k.dst == s.agent.mac && k.etype == 0x88B5 && !(storeGet (fun _ => []) s.keys s.agent.slot).isEmpty

/-- A whole frame passes the MAC (Table 4-1 stage 1) and what follows. A frame that reaches a queue in DOZE wakes the device (Table 12-6). -/
def State.macReceive (s : State) (p : Nat) (r : RxFrame) (ovf : Bool) : State :=
  let (s1, bad) := s.macCount p r
  let ptp := match r.pkt.ptp with | some m => if s1.ptpPort p && (s1.ptpTransport p r.pkt).isSome then some m else none | none => none
  let s2 := if !bad && s1.agentFrame p r.pkt then s1
    else match ptp with
      | some m => if bad then s1 else s1.ptpReceive p r m ovf
      | none => s1.ingress p r false bad 0
  if s.mode = .doze && decide (s2.voqs ≠ s1.voqs) then s2.wake 4 else s2

/-- A frame reaches the ingress of port p (R111, R177): through the merge sublayer where preemption is enabled. -/
def State.receiveNow (s : State) (p : Nat) (how : MmRx) (r : RxFrame) (ovf : Bool) : State :=
  let mm := s.bit (R.PORT_PREEMPT_EN p) && (s.link p).mode.merges
  if !(s.mode.fwd || s.mode = .recover) || !s.portUp p then s
  else match how with
    | .whole => s.macReceive p r ovf
    | .assembled n => if mm then (((s.countBy (.port p 0x52) n).count (.port p 0x53))).macReceive p r ovf else s
    | .assyErr n => if mm then (s.countBy (.port p 0x52) n).count (.port p 0x54) else s
    | .smdErr => if mm then s.count (.port p 0x55) else s
    | .verify => if mm then s.emit (.mpacket p true) else s
    | .respond => if mm && s.rd (R.PORT_PREEMPT_STATUS p) == 2 then s.wr (R.PORT_PREEMPT_STATUS p) 3 else s

/-- A port receives. In P1 the frame waits in the receive store of its octet, which begins to wake (R349). -/
def State.receive (s : State) (p : Fin 64) (how : MmRx) (r : RxFrame) (ovf : Bool) : State :=
  if !(s.mode.fwd || s.mode = .recover) || !s.portUp p then s
  else
    let P : Power := { s.power with rxTb := storeSet (fun _ => 0) s.power.rxTb (p / 8) s.tb }
    if s.octPower (p / 8) = 1 then
      State.octExit { s with power := { P with rxHeld := P.rxHeld ++ [{ port := p, how := how, frame := r, ovf := ovf, tb := s.tb }] } } (p / 8)
    else State.receiveNow { s with power := P } p how r ovf

/-- FRAME_RECEIVE: the actions due now apply before the frame (R121). -/
def execFrameReceive (p : Fin 64) (how : MmRx) (r : RxFrame) (ovf : Bool) (s : State) : Host.Outcome State Fault Refusal := .next ((s.actsNow 72).receive p how r ovf)
def execPtpFrameReceive (p : Fin 64) (r : RxFrame) (ovf : Bool) (s : State) : Host.Outcome State Fault Refusal := .next ((s.actsNow 72).receive p .whole r ovf)

/-- TC_ENTRY_EXPIRE: TIME passes until the oldest held correction of the port has been held for 1 s, and it is discarded (R236). -/
def execTcEntryExpire (p : Fin 64) (s : State) : Host.Outcome State Fault Refusal :=
  .next (match (s.ptp p).tc with
    | [] => s
    | e :: r => let s1 := s.passN (e.tb + tcLife - s.tb); s1.setPtp p { s1.ptp p with tc := r })

def execPtpMessageSend (p : Fin 64) (d : Fin 8) (ty : BitVec 4) (s : State) : Host.Outcome State Fault Refusal := .next (s.fwOriginate p d ty.toNat)
def execPdSettleEnd (p : Fin 64) (s : State) : Host.Outcome State Fault Refusal := .next (s.settleEnd p)

end Sys2Proof.Machine
end

