-- ==== Sys2Proof/Machine/Engine.lean ====
section
/-! DEFINITION. The instructions of the orbit engines (R156 to R160, Tables 5-8 to 5-12): one meaning each. `e` names the engine, `w` the fields of the fetched word. -/

namespace Sys2Proof.Machine

/-! ## Plain -/

/-- NOP: does nothing, one cycle. -/
def execNop (e : Fin 9) (w : PlainArgs) (s : State) : Host.Outcome State Fault Refusal :=
  .next (s.issue e 0 w.legal (fun E => .seq E 1))

/-- END completes the run (Table 5-8): its PUT writes show, `RUNS` counts, FIRST and OVR fall, and its actions become the list for the next Orbit. -/
def State.endRun (s : State) (e : Nat) : State :=
  let E := s.eng e
  let (s1, t) := s.sampleIssue e 1
  let s2 := ((s1.showPuts e E.puts).count (.eng e 0)).noteCyc e (E.cyc + 1)
  let E2 := s2.eng e
  (s2.setEng e { E2 with running := false, cyc := E.cyc + 1, puts := [], stack := [], first := false, ovr := false, filling := [], pendList := sortActs E.filling }).sampleDone e t

/-- END: ends the run, one cycle. -/
def execEndRun (e : Fin 9) (w : PlainArgs) (s : State) : Host.Outcome State Fault Refusal :=
  .next (if !(s.eng e).canIssue then s else if !w.legal then s.engFault e 2 (s.eng e).pc else s.endRun e)

/-- RET pops an address; an empty stack faults with code 5. -/
def retRes (E : Engine) : EngRes :=
  match E.stack with
  | [] => .fault 5
  | a :: t => .jump { E with stack := t } a 2

/-- RET: two cycles. -/
def execRet (e : Fin 9) (w : PlainArgs) (s : State) : Host.Outcome State Fault Refusal :=
  .next (s.issue e 0x0B w.legal retRes)

/-! ## ALU (Table 5-9) -/

/-- g[GD] = f(a, b) with a = g[GA] and b the second operand. -/
def aluRes (w : AluArgs) (cycles : Nat) (f : Word → Word → Word) (E : Engine) : EngRes :=
  .seq (E.setG w.gd (f (E.getG w.ga) (E.opB w.i w.gb w.imm))) cycles

/-- The shift count, b[4:0]. -/
def shCount (b : Word) : Nat := b.toNat % 32

def execAdd (e : Fin 9) (w : AluArgs) (s : State) : Host.Outcome State Fault Refusal :=
  .next (s.issue e 4 w.legal (aluRes w 1 (fun a b => a + b)))
def execSub (e : Fin 9) (w : AluArgs) (s : State) : Host.Outcome State Fault Refusal :=
  .next (s.issue e 4 w.legal (aluRes w 1 (fun a b => a - b)))
def execAndOp (e : Fin 9) (w : AluArgs) (s : State) : Host.Outcome State Fault Refusal :=
  .next (s.issue e 4 w.legal (aluRes w 1 (fun a b => a &&& b)))
def execOrOp (e : Fin 9) (w : AluArgs) (s : State) : Host.Outcome State Fault Refusal :=
  .next (s.issue e 4 w.legal (aluRes w 1 (fun a b => a ||| b)))
def execXorOp (e : Fin 9) (w : AluArgs) (s : State) : Host.Outcome State Fault Refusal :=
  .next (s.issue e 4 w.legal (aluRes w 1 (fun a b => a ^^^ b)))
def execShl (e : Fin 9) (w : AluArgs) (s : State) : Host.Outcome State Fault Refusal :=
  .next (s.issue e 4 w.legal (aluRes w 1 (fun a b => a <<< shCount b)))
def execShr (e : Fin 9) (w : AluArgs) (s : State) : Host.Outcome State Fault Refusal :=
  .next (s.issue e 4 w.legal (aluRes w 1 (fun a b => a >>> shCount b)))
def execSar (e : Fin 9) (w : AluArgs) (s : State) : Host.Outcome State Fault Refusal :=
  .next (s.issue e 4 w.legal (aluRes w 1 (fun a b => a.sshiftRight (shCount b))))
/-- MUL: bits [31:0] of the product, four cycles. -/
def execMul (e : Fin 9) (w : AluArgs) (s : State) : Host.Outcome State Fault Refusal :=
  .next (s.issue e 4 w.legal (aluRes w 4 (fun a b => a * b)))
def execMinu (e : Fin 9) (w : AluArgs) (s : State) : Host.Outcome State Fault Refusal :=
  .next (s.issue e 4 w.legal (aluRes w 1 (fun a b => if a.toNat ≤ b.toNat then a else b)))
def execMaxu (e : Fin 9) (w : AluArgs) (s : State) : Host.Outcome State Fault Refusal :=
  .next (s.issue e 4 w.legal (aluRes w 1 (fun a b => if a.toNat ≤ b.toNat then b else a)))

/-- MOVI: g[GD] = IMM. -/
def execMovi (e : Fin 9) (w : MoviArgs) (s : State) : Host.Outcome State Fault Refusal :=
  .next (s.issue e 5 w.legal (fun E => .seq (E.setG w.gd w.imm) 1))

/-! ## Branches (Table 5-10): two cycles if taken, one if not -/

def brRes (w : BrArgs) (c : Word → Word → Bool) (E : Engine) : EngRes :=
  if c (E.getG w.ga) (E.opB w.i w.gb w.imm) then .jump E w.tgt.toNat 2 else .seq E 1

/-- JMP: always; a JMP with GA, GB, I or IMM not 0 faults with code 2. -/
def execJmp (e : Fin 9) (w : BrArgs) (s : State) : Host.Outcome State Fault Refusal :=
  .next (s.issue e 8 w.legalJmp (fun E => .jump E w.tgt.toNat 2))
def execBeq (e : Fin 9) (w : BrArgs) (s : State) : Host.Outcome State Fault Refusal :=
  .next (s.issue e 8 w.legal (brRes w (fun a b => a == b)))
def execBne (e : Fin 9) (w : BrArgs) (s : State) : Host.Outcome State Fault Refusal :=
  .next (s.issue e 8 w.legal (brRes w (fun a b => a != b)))
def execBltu (e : Fin 9) (w : BrArgs) (s : State) : Host.Outcome State Fault Refusal :=
  .next (s.issue e 8 w.legal (brRes w (fun a b => a.ult b)))
def execBgeu (e : Fin 9) (w : BrArgs) (s : State) : Host.Outcome State Fault Refusal :=
  .next (s.issue e 8 w.legal (brRes w (fun a b => !a.ult b)))
def execBlts (e : Fin 9) (w : BrArgs) (s : State) : Host.Outcome State Fault Refusal :=
  .next (s.issue e 8 w.legal (brRes w (fun a b => a.slt b)))
def execBges (e : Fin 9) (w : BrArgs) (s : State) : Host.Outcome State Fault Refusal :=
  .next (s.issue e 8 w.legal (brRes w (fun a b => !a.slt b)))
def execBany (e : Fin 9) (w : BrArgs) (s : State) : Host.Outcome State Fault Refusal :=
  .next (s.issue e 8 w.legal (brRes w (fun a b => a &&& b != 0)))
def execBnone (e : Fin 9) (w : BrArgs) (s : State) : Host.Outcome State Fault Refusal :=
  .next (s.issue e 8 w.legal (brRes w (fun a b => a &&& b == 0)))

/-- DBNZ decrements g[GA] and jumps unless the result is 0. -/
def dbnzRes (w : DbnzArgs) (E : Engine) : EngRes :=
  let v := E.getG w.ga - 1
  if v = 0 then .seq (E.setG w.ga v) 1 else .jump (E.setG w.ga v) w.tgt.toNat 2

def execDbnz (e : Fin 9) (w : DbnzArgs) (s : State) : Host.Outcome State Fault Refusal :=
  .next (s.issue e 9 w.legal (dbnzRes w))

/-- CALL pushes the address of the next instruction, modulo the 12-bit address; with eight entries on the stack it faults with code 4. -/
def callRes (w : CallArgs) (E : Engine) : EngRes :=
  if E.stack.length ≥ 8 then .fault 4
  else .jump { E with stack := ((E.pc + 1) % 4096) :: E.stack } w.tgt.toNat 2

def execCall (e : Fin 9) (w : CallArgs) (s : State) : Host.Outcome State Fault Refusal :=
  .next (s.issue e 0x0A w.legal (callRes w))

/-! ## Data -/

/-- LD.L: the low half of a word of the running bank. -/
def execLdL (e : Fin 9) (w : LdArgs) (s : State) : Host.Outcome State Fault Refusal :=
  .next (s.issue e 0x0C w.legal (fun E => .seq (E.setG w.gd (s.reg (bankAddr e E.bank (E.ldAddr w)))) 2))

/-- LD.H: the high half. -/
def execLdH (e : Fin 9) (w : LdArgs) (s : State) : Host.Outcome State Fault Refusal :=
  .next (s.issue e 0x0C w.legal (fun E => .seq (E.setG w.gd (s.reg (bankAddr e E.bank (E.ldAddr w) + 4))) 2))

/-- The value that GET selects: `QFREE` and `CYCLE` at the GET, every other value as latched at the start of the run (Table 5-12). -/
def Engine.getVal (E : Engine) (sel : Nat) : Word :=
  if sel = 0x0C then .ofNat (1024 - E.filling.length)
  else if sel = 0x0D then .ofNat E.cyc
  else storeGet (fun _ => 0) E.inputs sel

def execGet (e : Fin 9) (w : GetArgs) (s : State) : Host.Outcome State Fault Refusal :=
  .next (s.issue e 0x10 w.legal (fun E => .seq (E.setG w.gd (E.getVal w.sel.toNat)) 2))

/-- PUT: held until the run completes END. -/
def execPut (e : Fin 9) (w : PutArgs) (s : State) : Host.Outcome State Fault Refusal :=
  .next (s.issue e 0x11 w.legal (fun E =>
    .seq { E with puts := storeIns E.puts w.sel.toNat (E.getG w.ga) } 1))

/-- The log entry and the interrupt of an EVT; beyond four in a run it is counted in `EVT_DROP` and writes nothing (Table 5-8). -/
def State.evtEffect (s : State) (e : Nat) (w : EvtArgs) : State :=
  let E := s.eng e
  if E.evts ≥ 4 then s.count (.eng e 9)
  else
    let i := s.rd R.EVL_HEAD_INDEX
    let s1 := s.logAs (e + 1) (Config.eventSev w.code.toNat).toNat w.int w.code.toNat (Config.evtParam i 0).toNat (Config.evtParam i 1).toNat
    let s2 := s1.setEng e { s1.eng e with evts := E.evts + 1 }
    if w.int then
      (s2.wr R.GLB_ISRC_ENG_EVT (s2.rd R.GLB_ISRC_ENG_EVT ||| 2 ^ e)).syncVec (48 + e)
    else s2

/-- EVT: four cycles. An EVT beyond the fourth does not raise the interrupt either. -/
def execEvt (e : Fin 9) (w : EvtArgs) (s : State) : Host.Outcome State Fault Refusal :=
  .next (if (s.eng e).canIssue && w.legal then (s.evtEffect e w).issue e 0x12 true (fun E => .seq E 4)
    else s.issue e 0x12 w.legal (fun E => .seq E 4))

/-! ## Actions (Table 5-11): one cycle -/

def execGate (e : Fin 9) (w : GateArgs) (s : State) : Host.Outcome State Fault Refusal :=
  .next (s.issueAct e 0x20 w.legal (ownPort e w.port.toNat) (some w.port.toNat) (fun E => E.actOff w.orr w.go w.off)
    (.gate w.port.toNat w.state.toNat w.hold.toNat))
def execSgate (e : Fin 9) (w : SgateArgs) (s : State) : Host.Outcome State Fault Refusal :=
  .next (s.issueAct e 0x21 w.legal true none (fun E => E.actOff w.orr w.go w.off) (.sgate w.handle.toNat w.opn))
def execLaunch (e : Fin 9) (w : LaunchArgs) (s : State) : Host.Outcome State Fault Refusal :=
  .next (s.issueAct e 0x22 w.legal (ownPort e w.port.toNat) (some w.port.toNat) (fun E => E.actOff w.orr w.go w.off)
    (.launch w.port.toNat w.cls.toNat))
/-- INJ: engine 8 may inject on any port. -/
def execInj (e : Fin 9) (w : InjArgs) (s : State) : Host.Outcome State Fault Refusal :=
  .next (s.issueAct e 0x23 w.legal (e.val == 8 || ownPort e w.port.toNat) (some w.port.toNat)
    (fun E => E.actOff w.orr w.go w.off) (.inj w.port.toNat w.tmpl.toNat))
/-- TOUT: engine 8 only. -/
def execTout (e : Fin 9) (w : ToutArgs) (s : State) : Host.Outcome State Fault Refusal :=
  .next (s.issueAct e 0x24 w.legal (e.val == 8) none (fun E => E.toutOff w) (.tout w.pin.toNat w.lvl))
def execCapt (e : Fin 9) (w : CaptArgs) (s : State) : Host.Outcome State Fault Refusal :=
  .next (s.issueAct e 0x25 w.legal true none (fun E => E.actOff w.orr w.go w.off) (.capt w.dom.toNat w.slot.toNat))
def execMark (e : Fin 9) (w : MarkArgs) (s : State) : Host.Outcome State Fault Refusal :=
  .next (s.issueAct e 0x26 w.legal true none (fun E => E.actOff w.orr w.go w.off) (.mark w.group.toNat))
/-- RSWAP: engine 8 only. -/
def execRswap (e : Fin 9) (w : RswapArgs) (s : State) : Host.Outcome State Fault Refusal :=
  .next (s.issueAct e 0x27 w.legal (e.val == 8) none (fun E => E.actOff w.orr w.go w.off) .rswap)

/-! ## Commands about runs -/

/-- A run that has used its budget without END is stopped (R146): `OVERRUN`, `ENG_STAT.OVR`. -/
def execRunOverrun (e : Fin 9) (s : State) : Host.Outcome State Fault Refusal :=
  .next (if (s.eng e).running then
      (((s.abandonRun e (s.eng e).budget).count (.eng e 1)).setBit (R.ENG_STAT_OVR e) true)
    else s)

/-- Request a swap for one engine; one already pending is left (R153). -/
def State.swapReq (s : State) (e : Nat) : State :=
  if (s.eng e).swap.isSome then s else s.setEng e { s.eng e with swap := some s.tb }

/-- A write of `ENG_SWAP.REQ`: every engine named in it (R153). -/
def execEngSwapReq (v : Word) (s : State) : Host.Outcome State Fault Refusal :=
  .next ((List.range 9).foldl (fun s e => if v.getLsbD e then s.swapReq e else s) s)

/-- Writing 1 to `ENG_STAT.FAULT` clears it; runs withheld by a fault of code 1 to 6 resume at the first Orbit start at least 2 µs later (R160). -/
def State.faultClear (s : State) (e : Nat) : State :=
  let s1 := if s.bit (R.ENG_STAT_FAULT e) && (s.eng e).held && s.rd (R.ENG_STAT_FCODE e) != 7 then
      s.setEng e { s.eng e with resumeFrom := some s.tb } else s
  (s1.setBit (R.ENG_STAT_FAULT e) false).syncVec (48 + e)

def execEngFaultClear (e : Fin 9) (s : State) : Host.Outcome State Fault Refusal := .next (s.faultClear e)

end Sys2Proof.Machine
end

