-- ==== Sys2Proof/Machine/HubRows.lean ====
section
/-! DEFINITION. The commands of the counter hub and of sampling (R398, R400, R403). -/

namespace Sys2Proof.Machine

def execHubDumpWrite (ok : Bool) (s : State) : Host.Outcome State Fault Refusal := .next (s.hubWrite ok)

/-- SMP_ENABLE: a write of `SMP_CFG` with `EN` = 1. -/
def execSmpEnable (v : Word) (s : State) : Host.Outcome State Fault Refusal := .next (s.smpWrite (v ||| 1))

end Sys2Proof.Machine
end

