-- ==== Sys2Proof/Machine/MbCore.lean ====
section
/-! DEFINITION. The mailbox below its commands (R358 to R365, R376 to R380): each partner's registers, the response of a message, where it goes, and the messages whose response waits for a mode. -/

namespace Sys2Proof.Machine

def State.mb (s : State) (p : Nat) : Mb := storeGet (fun _ => {}) s.mbs p
def State.setMb (s : State) (p : Nat) (x : Mb) : State := { s with mbs := storeSet (fun _ => {}) s.mbs p x }

/-- Where partner p's registers and buffers stand: the host's in BAR4, the board controller's beyond every BAR (R376, R378). -/
def mbOff (p : Nat) : Nat := if p = 0 then 0 else 0x2000000 + 0x10000 * p
def mbFld (p : Nat) (f : Fld) : Fld := { f with addr := f.addr + mbOff p }
def reqBuf (p : Nat) : Nat := 0x8001000 + mbOff p
def rspBuf (p : Nat) : Nat := 0x8002000 + mbOff p

/-- A partner's largest message in bytes (Table 13-1). -/
def mbLimit (p : Nat) : Nat := if p = 1 then 512 else if p = 3 then 1024 else 4096

/-- Status codes (Table 13-4). -/
def St.OK : Nat := 0
def St.BUSY : Nat := 1
def St.MODE : Nat := 2
def St.OWNER : Nat := 3
def St.OPCODE : Nat := 4
def St.PARAM : Nat := 5
def St.RANGE : Nat := 6
def St.FULL : Nat := 7
def St.CHECK : Nat := 8
def St.REFUSED : Nat := 9
def St.ABORTED : Nat := 10
def St.RECOVERED : Nat := 11
def St.LOCKED : Nat := 12
def St.SOURCE : Nat := 13
def St.FORM : Nat := 14
def St.UNREACHABLE : Nat := 15

/-- The bytes of words, little-endian. -/
def bytesOf (ws : List Word) : List Nat := ws.flatMap wordBytes

/-- `CHECK` of a message: the CRC-32C with header word 3 taken as 0 (Table 13-3). -/
def mbCheck (ws : List Word) : Word := .ofNat (crc32c (bytesOf (ws.set 3 0)))

/-- The words of a response: `recs` are its records' opcode, status and result, in order (Table 13-3). -/
def mbResponse (tag seq status failIdx : Nat) (recs : List (Nat × Nat × List Word)) : List Word :=
  let body := recs.flatMap fun r => .ofNat (r.1 + 256 * r.2.1 + 65536 * (4 * r.2.2.length)) :: r.2.2
  let ws := [.ofNat (1 + 256 * recs.length + 65536 * (16 + 4 * body.length)), .ofNat tag,
    .ofNat (status + 256 * failIdx + 65536 * seq), 0] ++ body
  ws.set 3 (mbCheck ws)

/-- Put a response into a partner's buffer (R376). -/
def State.mbFill (s : State) (p : Nat) (ws : List Word) : State :=
  let lo := rspBuf p
  let s1 := { s with regs := storeMap resetWord (fun a w => if lo ≤ a && a < lo + 0x1000 then resetWord a else w) s.regs }
  ((s1.setWords lo ws).setBit (mbFld p R.MB_STATUS_RSP_READY) true).syncVec 0

/-- The bytes under an agent frame's ICV: the nonce and the message (R379). -/
def agentBytes (nonce : Word) (ws : List Word) : List Byte := (bytesOf (nonce :: ws)).map (.ofNat 8)

/-- The ICV of an agent frame under the agent's key. -/
def State.agentIcv (s : State) (nonce : Word) (ws : List Word) : List Byte :=
  (hmac (storeGet (fun _ => []) s.keys s.agent.slot) (agentBytes nonce ws)).take 16

/-- A response leaves by its partner's transport; the firmware writes no further one into a buffer that has not been freed (R376, R379, R380). -/
def State.mbPost (s : State) (p : Nat) (ws : List Word) : State :=
  let M := s.mb p
  if p = 2 then s.emit (.relayRsp ws)
  else if p = 3 then s.emit (.agent M.peer M.nonce ws (s.agentIcv M.nonce ws))
  else if s.bit (mbFld p R.MB_STATUS_RSP_READY) then s.setMb p { M with rspQ := M.rspQ ++ [ws] }
  else s.mbFill p ws

/-- `MB_RSP_ACK`: the buffer is freed, and the next response that waits is written. -/
def State.mbAck (s : State) (p : Nat) : State :=
  if !s.bit (mbFld p R.MB_STATUS_RSP_READY) then s
  else
    let s1 := (s.setBit (mbFld p R.MB_STATUS_RSP_READY) false).syncVec 0
    match (s1.mb p).rspQ with
    | [] => s1
    | ws :: t => (s1.setMb p { s1.mb p with rspQ := t }).mbFill p ws

/-- The status of a message: that of its first failed record. -/
def Msg.status (m : Msg) : Nat := match m.fail with | some f => f.2 | none => 0
def Msg.failIdx (m : Msg) : Nat := match m.fail with | some f => f.1 | none => 0

/-- Close a partner's message: its response is posted and the partner has none in progress. -/
def State.mbClose (s : State) (p : Nat) : State :=
  match (s.mb p).msg with
  | none => s
  | some m =>
    (s.setMb p { s.mb p with msg := none, wait := none }).mbPost p (mbResponse m.tag m.seq m.status m.failIdx m.recs.reverse)

/-- The response of a partner's waiting message: its one record completes with a status and a result. -/
def State.mbComplete (s : State) (p : Nat) (st : Nat) (res : List Word) : State :=
  match (s.mb p).msg with
  | none => s
  | some m =>
    let op := (s.mb p).wait.getD 0
    (s.setMb p { s.mb p with msg := some { m with recs := (op, st, if st = 0 then res else []) :: m.recs, fail := if st = 0 then none else some (0, st) } }).mbClose p

/-- A message whose response waits for a mode completes when the mode has come, or fails with MODE once it can no longer come (Table 13-5). -/
def State.mbPollAt (s : State) (p : Nat) : State :=
  match (s.mb p).wait with
  | some 0x11 =>
    if s.mode = .dock then s.mbComplete p St.OK []
    else if s.power.modeNext.isSome then s else s.mbComplete p St.MODE []
  | some 0x14 =>
    if s.mode = .proving then s.mbComplete p St.OK [s.reg A.PRV_STAT]
    else if s.prv.request.isSome then s else s.mbComplete p St.MODE []
  | some 0x15 =>
    if s.mode = .opened then s.mbComplete p St.OK [R.SEC_STAT_DEBUG_LOCK.put (s.reg A.SEC_STAT) (if Config.debugLock then 1 else 0)]
    else if s.sys.erasing then s else s.mbComplete p St.MODE []
  | _ => s

def State.mbPoll (s : State) : State := (List.range 4).foldl State.mbPollAt s

/-- The mailbox is served: the firmware has initialised, the management core runs, and not in a HALT of cause 3 or 4 (R3, R370, R378). -/
def State.mbServes (s : State) : Bool :=
  s.bit R.GLB_FW_VALID && !s.sys.tripped && !(s.mode == .halt && (s.rd R.GLB_MODE_HALT_CAUSE == 3 || s.rd R.GLB_MODE_HALT_CAUSE == 4))

/-! ## The token and the journal (R360, R366, R367) -/

/-- The owner, or none while the token is free. -/
def State.owner (s : State) : Option Nat := if s.bit R.MB_STATUS_HELD then some (s.rd R.MB_STATUS_OWNER) else none

/-- The token passes to a partner or is freed; event 0x000B, 4 standing for a free token (PRESUMED, log entry 35). -/
def State.setOwner (s : State) (o : Option Nat) : State :=
  let s1 := (s.wr R.MB_STATUS_OWNER (o.getD 0)).setBit R.MB_STATUS_HELD o.isSome
  if o = s.owner then s1 else s1.log 0x0B (s.owner.getD 4) (o.getD 4)

/-- The journal notes a sequence number's status: 1 applied, 2 not applied, 3 in progress; the last 256 numbers are held. -/
def State.jot (s : State) (seq p st : Nat) : State :=
  if seq = 0 then s
  else { s with journal := ((seq, p, st) :: s.journal.filter (·.1 != seq)).take 256 }

/-- A new transaction takes the next sequence number, 1 to 0xFFFF. -/
def State.nextSeq (s : State) (p : Nat) : State × Nat :=
  let n := s.rd R.MB_STATUS_NEXTSEQ
  ((s.wr R.MB_STATUS_NEXTSEQ (if n = 65535 then 1 else n + 1)).jot n p 3, n)

end Sys2Proof.Machine
end

