-- ==== Sys2Proof/Machine/ModeOps.lean ====
section
/-! DEFINITION. Changes of mode and what they stop (R61 to R68, Tables 2-10 and 5-6): the abort of a proving run (R333), engines and frames that are dropped, entry to DOCK, HALT and RECOVER, and the resets (R44 to R47). -/

namespace Sys2Proof.Machine

/-! ## What a mode stops -/

/-- What ends with the forwarding modes: a proving run, following, and a DOCK that waits for the exit from P3. -/
def State.leaveFwd (s : State) : State :=
  let s1 := s.prvAbort.unfollow
  { s1 with power := { s1.power with modeNext := none } }

/-- An engine stops; its lists are discarded without being counted (R155, Table 5-6). -/
def State.stopEngine (s : State) (e : Nat) : State :=
  let E := s.eng e
  let s1 := s.sampleDiscard e 6 (E.exec ++ E.pendList ++ E.filling)
  s1.setEng e { s1.eng e with
    started := false, running := false, filling := [], pendList := [], sealed := false, exec := [], puts := []
    stack := [], tagged := false, g := if E.running then E.gSave else E.g }

def State.stopEngines (s : State) : State := (List.range 9).foldl State.stopEngine s

/-- Port p is disabled: a frame in reception is lost and counted (R107; whether there is one is a free value), its link is down, its tracker and a calibration run on its recovered clock end, and nothing is due or under way. -/
def State.portOff (s : State) (p : Nat) : State :=
  let E := s.egr p
  let s0 := if (s.link p).up && Config.rxUnderWay s.freeCount p then s.count (.port p 0x3D) else s
  let s1 := (s0.setLink p { s.link p with up := false }).trackerReset p
  (s1.setEgr p { E with due := [], tx := none, susp := none, paused := 0, xoff := 0 }).calLinkLost p

/-- Ports are disabled and frames discarded (Table 2-9): buffers, cells, queues and transmissions are empty, and no lane trains. -/
def State.dropFrames (s : State) : State :=
  let s1 := (List.range 64).foldl State.portOff s
  { s1 with
    freeCount := s1.freeCount + 1, voqs := [], accts := [], inters := [], egrFull := [], wires := [], reasms := [], egrQs := []
    power := { s1.power with trainWait := [], trainGrant := [], busyTb := s1.tb, rxHeld := [] } }

/-! ## DOCK, HALT, RECOVER -/

/-- Enter DOCK by command (Table 2-9): `LOCKED_SEEN` of every domain returns to 0 (Table 13-5). -/
def State.toDock (s : State) (cause detail : Nat) : State :=
  let s1 := s.leaveFwd.stopEngines.dropFrames
  ((List.range 8).foldl (fun s d => s.setDom d { s.dom d with lockedSeen := false }) s1).toMode .dock cause detail

/-- Every calibration run is aborted (R263). -/
def State.calAbortAll (s : State) : State := (List.range 10).foldl State.calAbort s

/-- The role becomes SOLO, with the event of a change where it was another (R66, R309), and no change of role waits. -/
def State.soloRole (s : State) : State :=
  let s1 := if s.role = .solo then s else s.setRole .solo s.ownClaim
  { s1 with twin := { s1.twin with roleNext := none } }

/-- Enter HALT (Table 2-9): `HALT_CAUSE` is written at the entry; a further cause in HALT changes nothing. -/
def State.toHalt (s : State) (haltCause cause detail : Nat) : State :=
  if s.mode = .halt then s
  else
    let s1 := (((s.leaveFwd.unpark 8).stopEngines).dropFrames).calAbortAll
    let s2 := { s1 with sys := { s1.sys with hot := decide (haltCause = 1), haltErase := s1.sys.erasing } }
    (s2.wr R.GLB_MODE_HALT_CAUSE haltCause).toMode .halt cause detail

/-! ## Heat (R42, R355) -/

/-- The thermal alarm is raised. -/
def State.raiseAlarm (s : State) : State :=
  (({ s with sys := { s.sys with alarm := true } }).setBit R.GLB_ISRC_THERM true).syncVec 3

/-- A die sensor's reading is taken (R42): from 100 °C it raises the alarm, once; from 112 °C it enters HALT, or is noted there (R46); the alarm and each reading from 112 °C are logged. The channels that the sensor serves become pending where R261 calls for a run. -/
def State.sense (s : State) (k : Nat) (t : Int) : State :=
  let s1 := s.setTemp k t
  let s2 := if t < 400 || s1.sys.alarm then s1 else s1.raiseAlarm
  let s3 := (if t < 448 && (t < 400 || s1.sys.alarm) then s2 else s2.log 0x0E k t.toNat).calScan k
  if t < 448 then s3
  else if s3.mode = .halt then { s3 with sys := { s3.sys with hot := true } }
  else s3.toHalt 1 0x1F k

/-- On entry to RECOVER a domain in ACQUIRE or LOCKED passes to HOLDOVER at the rate word it holds (R65, R296), and pending steps are discarded (R201). -/
def State.recoverDom (s : State) (d : Nat) : State :=
  let s1 := s.setDom d { s.dom d with step := none }
  match (s1.dom d).tstate with
  | .acquire | .locked => s1.enterHoldover d 0 0 false false
  | .free | .holdover => s1

/-- A trigger of RECOVER (R45, R68, Table 2-9): 1 watchdog, 2 table error, 3 brown-out trip. In RECOVER it is the second and leads to HALT; none is entered while `SEC_STAT.OPEN` reads 1. -/
def State.toRecover (s : State) (cause last : Nat) : State :=
  if s.bit R.SEC_STAT_OPEN then s
  else if s.mode = .recover then s.toHalt 6 0x1D 0
  else if !(s.mode = .dock || s.mode.fwd) then s
  else
    let dock := decide (s.mode = .dock)
    let s1 := ((s.leaveFwd.unpark 8).toMode .recover cause 0).wr R.GLB_RCV_LAST last
    let s2 := { s1 with sys := { s1.sys with fromDock := dock } }
    (List.range 8).foldl State.recoverDom s2

/-! ## Straps (R23 to R26) -/

/-- A reserved code is among the straps (R25): CFG2:0 from 5 to 7, CFG9:8 = 3. -/
def strapsBad (c : BitVec 11) : Bool := decide (5 ≤ c.toNat % 8) || c.toNat / 256 % 4 == 3

/-- The registers whose reset value the straps give: `GLB_STRAP`, `TW_CFG.PRIMARY`, `PWR_BUDGET` and `SEC_STAT.DBG_STRAP`. -/
def State.strapRegs (s : State) : State :=
  let c := s.sys.straps
  let s1 := (s.wr R.GLB_STRAP_CFG c.toNat).setBit R.GLB_STRAP_ERR (strapsBad c)
  let s2 := (s1.setBit R.TW_CFG_PRIMARY (!c.getLsbD 4)).wr R.PWR_BUDGET_CLASS (c.toNat / 256 % 4)
  (s2.wr R.PWR_BUDGET_CAP s2.classW).setBit R.SEC_STAT_DBG_STRAP (c.getLsbD 7)

/-- Everything is reset and STRAP begins (R44, Table 2-1): the straps and VDD_TIO are sampled, and `LAST_RESET` gives the source, 0 power-on or 1 RESET_N. At power-on VDD_CORE has risen through the monitor's release level; RESET_N leaves the monitor as VDD_CORE holds it (R29, log entry 141). The TOUT pins go to high impedance and CLKOBS low (R21). What the block has given out, its waiting commands, the model's count of free values, and the levels on pins stay. The change of mode to STRAP is the first entry of the log that begins anew (R63); Table 2-9a gives it no cause. -/
def State.fullReset (s : State) (src : Nat) (straps : BitVec 11) (vtio33 : Bool) : State :=
  let off := s.pinsOff
  let r : State := { State.reset with
    out := .clkobs 0 0 0 :: off.out, freeCount := s.freeCount, pending := s.pending
    tins := (List.range 8).foldl (fun m p => storeSet (fun _ => {}) m p { pin := (s.tin p).pin }) []
    sys := { straps := straps, vtio33 := vtio33, temps := s.sys.temps, warm := s.sys.warm, tripped := decide (src = 1) && s.sys.tripped }
    pcie := { perst := s.pcie.perst } }
  State.toMode { r.strapRegs.wr R.GLB_MODE_LAST_RESET src with mode := s.mode } .strap Config.strapCause.toNat (Config.strapCause.toNat / 256)

/-! ## Warm reset (R44, R46, R47) -/

/-- The bits of a register word that a warm reset keeps: the S suffix, the repair map, of a TDC channel its table and grade, and the lock bits of the PLLs. -/
def keepMask (a : Nat) : Nat :=
  (match findDesc a with | some d => d.keep | none => 0) |||
    (if 0x3001000 ≤ a && a < 0x3001000 + 84 * 0x20 && (a - 0x3001000) % 0x20 = 0 then 0x18 else if a = A.CLK_STAT then 0x80007FF else 0)

/-- A warm reset leaves a word's kept bits and resets the others. -/
def keptWord (a : Nat) (w : Word) : Word :=
  let k : Word := .ofNat (keepMask a)
  (w &&& k) ||| (resetWord a &&& ~~~k)

/-- A domain continues at the rate word it held; its slew and pending step are cancelled (R47, R201). -/
def keptDom (D : Domain) : Domain :=
  { time := D.time, sf := D.sf, rate := D.rate, rateNext := D.rateNext, epoch := D.epoch, rateLog := D.rateLog }

/-- A warm reset is refused while `SEC_STAT.OPEN` reads 1, and in HALT once a sensor has reached 112 °C, until all have cooled (R46). -/
def State.warmRefused (s : State) : Bool := s.bit R.SEC_STAT_OPEN || (s.mode == .halt && s.sys.hot)

/-- What a warm reset keeps, in BOOT; every other register and state returns to reset, the endpoint's configuration among it; its link stays trained (log entry 37). -/
def State.afterWarm (s : State) : State :=
  { State.reset with
    mode := .boot, regs := storeMap resetWord keptWord s.regs
    out := s.out, freeCount := s.freeCount, pending := s.pending
    sys := { straps := s.sys.straps, vtio33 := s.sys.vtio33, timebase := s.sys.timebase, tripped := s.sys.tripped, refclkLost := s.sys.refclkLost
             warm := s.sys.warm, temps := s.sys.temps, alarm := s.sys.alarm, warmBoot := s.sys.timebase, refQual := true }
    pcie := { perst := s.pcie.perst, training := s.pcie.training }
    clk := { core := s.clk.core }
    tb := s.tb, orbNum := s.orbNum, orbit := s.orbit
    domains := (List.range 8).foldl (fun m d => storeSet (fun _ => {}) m d (keptDom (s.dom d))) []
    tdcs := storeMap (fun _ => {}) (fun _ (x : TdcChan) => { seed := x.seed }) s.tdcs
    tins := (List.range 8).foldl (fun m p => storeSet (fun _ => {}) m p { pin := (s.tin p).pin }) [] }

/-- A warm reset from a source as `LAST_RESET` gives it: 2 register, 3 mailbox, 4 I²C. A refusal is logged; there is none to take in STRAP (Table 2-9). The role becomes SOLO (R66), a change that the surviving log records (R309, R386). -/
def State.warmReset (s : State) (src : Nat) : State :=
  if s.mode = .strap then s
  else if s.warmRefused then s.log 2 src 0
  else
    let s1 := ((s.toMode .boot 2 src).pinsOff.emit (.clkobs 0 0 0)).soloRole
    let s2 := s1.afterWarm.strapRegs.wr R.GLB_MODE_LAST_RESET src
    if s2.sys.alarm then s2.setBit R.GLB_ISRC_THERM true else s2

end Sys2Proof.Machine
end

