-- ==== Sys2Proof/Machine/BootOps.lean ====
section
/-! DEFINITION. BOOT: repairs (R53 to R56), the ROM defaults (R381), the end of BOOT (R52, R141), and entry to the forwarding modes (Table 2-9, R67, R308). -/

namespace Sys2Proof.Machine

/-! ## The repair map (R56) -/

/-- A map entry (Table 2-6): `field` is `ORIGIN`. -/
def mkRepair (kind unit index spare : Nat) (field : Bool) : Word :=
  .ofNat (spare % 256 + index % 4096 * 256 + unit % 16 * 1048576 + kind % 16 * 16777216 + (if field then 1073741824 else 0) + 2147483648)

def repKind (w : Word) : Nat := (R.REPAIR_MAP_KIND 0).get w
def repUnit (w : Word) : Nat := (R.REPAIR_MAP_UNIT 0).get w
def repIndex (w : Word) : Nat := (R.REPAIR_MAP_INDEX 0).get w
def repSpare (w : Word) : Nat := (R.REPAIR_MAP_SPARE 0).get w
def repField (w : Word) : Bool := (R.REPAIR_MAP_ORIGIN 0).get w == 1

/-- The map's entries in order. -/
def State.repairs (s : State) : List Word :=
  ((List.range 128).map fun i => s.reg (A.REPAIR_MAP i)).filter fun w => (R.REPAIR_MAP_VALID 0).get w == 1

/-- The CRC-16 over entries (Table 2-7). -/
def repairCrc (l : List Word) : Nat := crc16 (l.flatMap wordBytes)

/-- Write the map and `REPAIR_STAT`. -/
def State.setRepairs (s : State) (l : List Word) : State :=
  let s1 := s.setWords (A.REPAIR_MAP 0) (l ++ List.replicate (128 - l.length) 0)
  ((s1.wr R.REPAIR_STAT_COUNT l.length).wr R.REPAIR_STAT_FACTORY (l.filter fun w => !repField w).length).wr R.REPAIR_STAT_CHECK (repairCrc l)

/-- The spare of a kind and unit is taken by a repair, or lost. -/
def spareTaken (l : List Word) (kind unit spare : Nat) : Bool :=
  l.any fun w => (repKind w == kind && repUnit w == unit && repSpare w == spare) ||
    (repKind w == 5 && repSpare w == kind && repUnit w == unit && repIndex w == spare)

/-- The spares that a unit of a kind may move to (Table 2-4). -/
def sparesOf (kind index : Nat) : List Nat :=
  if kind = 1 then [16] else if kind = 2 then List.range 8 else if kind = 3 then [64] else [calSpare (calGroup index)]

/-- What the tests of a BOOT have found so far: the map, the most severe outcome, disabled octets, missing banks by octet, failed TDC channels. -/
structure BootAcc where
  map : List Word
  sev : Nat := 0
  off : List Nat := []
  missing : List Nat := []
  failed : List Nat := []
  added : Bool := false

/-- A unit for which no spare remains (Table 2-4). -/
def BootAcc.lose (x : BootAcc) (kind unit index : Nat) : BootAcc :=
  if kind = 1 then { x with sev := max x.sev 2, missing := unit :: x.missing }
  else if kind = 2 then (if unit < 8 then { x with sev := max x.sev 2, off := unit :: x.off } else { x with sev := 3 })
  else if kind = 3 then { x with sev := 3 }
  else { x with sev := max x.sev 2, failed := index :: x.failed }

/-- Move a failed unit onto the first free spare of its kind, or take its outcome; a full map has no room (R53, R56). -/
def BootAcc.repair (x : BootAcc) (kind unit index : Nat) : BootAcc :=
  match (if x.map.length < 128 then (sparesOf kind index).find? fun k => !spareTaken x.map kind unit k else none) with
  | some k => { x with map := x.map ++ [mkRepair kind unit index k true], sev := max x.sev 1, added := true }
  | none => x.lose kind unit index

/-- A spare fails: it is entered as lost where it is not in the map already and the map has room, and the unit it carried fails again, with no spare left where the map was full (R53). The entry of the repair that it carried leaves the map (DESIGN CHOICE, log entry 13). -/
def BootAcc.loseSpare (x : BootAcc) (kind unit spare : Nat) : BootAcc :=
  let carries (w : Word) : Bool := repKind w == kind && repUnit w == unit && repSpare w == spare
  let known (w : Word) : Bool := repKind w == 5 && repSpare w == kind && repUnit w == unit && repIndex w == spare
  let full := decide (128 ≤ x.map.length)
  let m := x.map.filter fun w => !carries w
  let y : BootAcc :=
    if full || x.map.any known then { x with map := m, sev := max x.sev 1 }
    else { x with map := m ++ [mkRepair 5 unit spare kind true], added := true, sev := max x.sev 1 }
  match x.map.find? carries with
  | some w => if full then y.lose kind unit (repIndex w) else y.repair kind unit (repIndex w)
  | none => y

/-- The kind, unit and index of a failure, and whether it is of a spare; an egress memory has no spare. -/
def BootAcc.take (x : BootAcc) (f : BistUnit) : BootAcc :=
  let known (kind unit index : Nat) : Bool := x.map.any fun w => repKind w == kind && repUnit w == unit && repIndex w == index
  let go (kind unit index : Nat) : BootAcc := if known kind unit index then x else x.repair kind unit index
  match f with
  | .bank o b => if b.val = 16 then x.loseSpare 1 o 16 else go 1 o b
  | .egress o => { x with sev := max x.sev 2, off := o.val :: x.off }
  | .row e r => go 2 e r
  | .spareRow e r => x.loseSpare 2 e r
  | .path j => if j.val = 64 then x.loseSpare 3 0 64 else go 3 0 j
  | .tdc c => if 74 ≤ c.val then x.loseSpare 4 0 c else go 4 0 c

/-- Octets disabled: those named, and those with fewer than 12 good banks. -/
def BootAcc.octOff (x : BootAcc) (o : Nat) : Bool := x.off.contains o || decide (4 < x.missing.count o)

/-- A bit mask of the octets that satisfy a predicate. -/
def octMask (p : Nat → Bool) : Nat := (List.range 8).foldl (fun m o => if p o then m + 2 ^ o else m) 0

/-- A BOOT collection passes (R269): 2^16 samples, each count from 0.2 to 3 times the mean of 128 (R260), and a lap of 820 to 1230 ps. -/
def bootTdcOk (counts : List Nat) (lap : Nat) : Bool :=
  counts.length == 512 && counts.all (fun n => decide (26 ≤ n) && decide (n ≤ 384)) && counts.foldl (· + ·) 0 == 65536 && decide (820 ≤ lap) && decide (lap ≤ 1230)

/-- The channels whose collection fails: each fails the BIST step of R53. -/
def bootTdcFails (tdc : List (Fin 84 × List Nat × Nat)) : List BistUnit :=
  (tdc.filter fun y => !bootTdcOk y.2.1 y.2.2).map fun y => .tdc y.1

/-- The table of a BOOT collection: B[k] = S[k]. -/
def bootSums (counts : List Nat) : List Nat :=
  (counts.foldl (fun (acc : List Nat × Nat) n => (acc.1 ++ [acc.2], acc.2 + n)) ([], 0)).1

/-- The TDC channels' states after BOOT (`TDC_CHSTAT`): failed, repaired by a spare, or working; a spare free, repairing or failed. A channel without a table gets one of BOOT grade (R269), a free value where BOOT's collection is not given. -/
def State.bootTdc (s : State) (x : BootAcc) (tdc : List (Fin 84 × List Nat × Nat)) : State :=
  let n := s.freeCount
  let s1 := (List.range 84).foldl (fun s c =>
    let rep := x.map.find? fun w => repKind w == 4 && repIndex w == c
    let car := x.map.find? fun w => repKind w == 4 && repSpare w == c
    let lost := x.map.any fun w => repKind w == 5 && repSpare w == 4 && repIndex w == c
    let (st, sub) := if x.failed.contains c || lost then (1, 0)
      else match car with
        | some w => (3, repIndex w)
        | none => match rep with | some w => (0, repSpare w) | none => (if 74 ≤ c then 2 else 0, 0)
    let t := (s.wr (R.TDC_CHSTAT_STATE c) st).wr (R.TDC_CHSTAT_SUBST c) sub
    if st != 1 && t.rd (R.TDC_CHSTAT_GRADE c) == 0 then
      let t1 := t.wr (R.TDC_CHSTAT_GRADE c) 1
      match tdc.find? fun y => y.1.val == c with
      | some y => t1.setBins c (bootSums y.2.1)
      | none => t1.setTdc c { t1.tdc c with seed := some n }
    else t) s
  (List.range 9).foldl State.calScan { s1 with freeCount := n + 1 }

/-- The outcome of BOOT's tests in the registers (Table 2-5, Table 2-7) and in what the parts of the device have left (Table 2-4). -/
def State.bootOutcome (s : State) (x : BootAcc) (tdc : List (Fin 84 × List Nat × Nat)) : State :=
  let off := octMask x.octOff
  let s1 := (s.setRepairs x.map).bootTdc x tdc
  let s2 := ((s1.setBit R.GLB_BOOT_DONE true).wr R.GLB_BOOT_RESULT x.sev).setBit R.GLB_BOOT_FIELD_NEW x.added
  let s3 := ((s2.setBit R.GLB_BOOT_TDC_FAIL (!x.failed.isEmpty || x.map.any fun w => repKind w == 5 && repSpare w == 4)).wr R.GLB_BOOT_OCTET_OFF off).wr R.GLB_BOOT_REDUCED (octMask fun o => decide (0 < x.missing.count o))
  (List.range 8).foldl (fun s o =>
    let t := s.wr (R.POOL_STAT_CAP o) (2048 * (16 - min 16 (x.missing.count o)))
    if x.octOff o then t.setOct o 3 else t) s3

/-! ## Entry to the forwarding modes -/

/-- The claim of a unit that returns after falling silent: the ACTIVE's generation as heard, or its own. -/
def State.moonGen (s : State) : Nat := s.twin.genHeard.getD (claimGen s.ownClaim)

/-- The twin joins as the unit enters a forwarding mode with `TW_CFG.EN` = 1 (R308): at its first entry after BOOT it waits in SOLO; a return makes it MOON at the next Orbit start. -/
def State.twinEnter (s : State) : State :=
  if !s.bit R.TW_CFG_EN then s
  else
    let T := s.twin
    { s.setBit R.TW_STAT_PROVED false with twin := { T with entered := true, join := some s.tb, joinHeard := false, roleNext := if T.entered then some (.moon s.moonGen false false) else none } }

/-- DOCK to FREE (Table 2-9): the orbit domain begins in FREE, and the lanes of the octets that are not disabled ask for training in order (R354). -/
def State.startFwd (s : State) (cause : Nat) : State :=
  if s.mode ≠ .dock then s
  else
    let d := s.orbit.grid.dom
    let s1 := (s.deselect d).setDom d { (s.deselect d).dom d with tstate := .free, unqual := false }
    let s2 := s1.toMode .free cause 0
    ((List.range 64).foldl (fun s l => if s.octOff (l / 8) then s else s.trainAsk l) s2).twinEnter

/-! ## ROM defaults (Table 13-11) -/

/-- The registers of the ROM defaults; what the table gives and the reset values already hold is not written again. -/
def State.romDefaults (s : State) : State :=
  let s1 := (List.range 64).foldl (fun s p =>
    ((((((s.wr (R.PORT_SID_ORDER p) 0).wr (R.PORT_SID_MISS p) 0).wr (R.PTP_PORT_INST p) 1).wr (R.PTP_PORT_TRANSPORT p) 1).setBit (R.PTP_PORT_FINE p) true).setBit (R.PTP_PORT_TXSYN p) true).wr (R.PTP_PORT_TXDOM p) 0) s
  let s2 := ((s1.setBit (R.PTP_INST_EN 0) true).wr (R.PTP_INST_TYPE 0) 0).wr (R.PTP_INST_PROFILE 0) 0
  let cnd (s : State) (k kind src : Nat) : State :=
    ((s.wr (R.REF_CCFG_KIND 0 k) kind).wr (R.REF_CCFG_SRC 0 k) src).setBit (R.REF_CCFG_EN 0 k) true
  let s3 := (List.range 8).foldl (fun s k => cnd s k 0 k) s2
  let s4 := cnd ((cnd s3 8 2 0).setReg (A.REF_CTIN 0 8) 1000000000) 15 3 0
  let s5 := ((s4.setBit (R.REF_DCFG_EXTCFG 0) false).setBit (R.TIN_CFG_EN 0) true).wr (R.TIN_CFG_EDGE 0) 1
  let s6 := ((((s5.wr (R.TOUT_CFG_MODE 0) 3).wr (R.TOUT_CFG_DOM 0) 0).setBit (R.TOUT_CFG_QUAL 0) true)).wr (R.TOUT_CFG_MODE 1) 5
  (s6.setTout 0 { s6.tout 0 with write := some s6.tb }).setTout 1 { s6.tout 1 with write := some s6.tb }

/-- The firmware starts the device by itself (R381): the defaults are transaction 1, and START follows. -/
def State.autonomous (s : State) : State :=
  let s1 := s.romDefaults
  let s2 := { s1 with journal := [(1, 0, 1)] }
  (((s2.wr R.MB_STATUS_NEXTSEQ 2).wr R.GLB_RCV_SEQ 1).log 0x11 1 0).startFwd 6

/-! ## The end of BOOT -/

/-- TIME starts where this BOOT starts it (R188): `ns` have passed since. -/
def State.startTime (s : State) (ns : Nat) : State :=
  if s.sys.timebase then s
  else
    let s1 := (List.range 8).foldl (fun s d => s.setDom d { s.dom d with time := (s.dom d).time + ns * nsUnit, sf := (s.dom d).sf + ns * nsUnit }) s
    { s1 with tb := s1.tb + ns, sys := { s1.sys with timebase := true } }

/-- The first point of a grid at or after a time, both in 2^-32 ns (R139). -/
def gridAt (g : Grid) (t : Int) : Int :=
  let p : Int := ((g.period : Nat) : Int)
  g.align + (t - g.align + p - 1) / p * p

/-- After power-on or RESET_N, Orbit 0 starts at the first point of the grid at or after the end of BOOT (R141), however BOOT ends. -/
def State.firstGrid (s : State) : State :=
  if s.orbit.begun then s
  else
    let first := gridAt s.orbit.grid s.orbTime
    { s with orbit := { s.orbit with next := first, epoch := first } }

/-- The firmware has initialised: `GLB_FW` (R3), the token (R360), gates (R181), the slot count (R74), and the Orbit grid. -/
def State.fwUp (s : State) : State :=
  let cfg5 := s.sys.straps.getLsbD 5
  let s1 := (((s.wr R.GLB_FW_MAJOR 1).wr R.GLB_FW_MINOR 4).setBit R.GLB_FW_VALID true).openGates
  let s3 := (s1.setOwner (if cfg5 then none else some 0)).firstGrid
  { s3 with slot := 0, slotTb := s3.tb }

/-- BOOT ends (R52): in HALT at a failed ROM check or RAM test, at once and without the firmware, or on a fatal result; else in DOCK, and with CFG5 = 1 beyond. -/
def State.bootEnd (s : State) (r : BootResult) : State :=
  if s.mode ≠ .boot || s.sys.tripped then s
  else
    let s0 := (s.startTime r.ns).wr R.CLK_STAT_LOCK 0x7FF
    let s1 := s0.setBit R.CLK_STAT_TW_LOCK true
    if !r.romOk then s1.firstGrid.toHalt 3 4 3
    else if !r.ramOk then s1.firstGrid.toHalt 4 4 4
    else
      let x := (r.fails ++ bootTdcFails r.tdc).foldl BootAcc.take { map := if s1.repairs.isEmpty then r.fuses.take 128 else s1.repairs }
      let s2 := (s1.bootOutcome x r.tdc).fwUp
      let s3 := s2.log 3 (s2.reg A.GLB_BOOT).toNat (s2.reg A.REPAIR_STAT).toNat
      if x.sev = 3 then s3.toHalt 2 4 2
      else
        let s4 := (s3.toMode .dock 3 x.sev).clkobsAfter s
        if s4.sys.straps.getLsbD 5 then s4.autonomous else s4

end Sys2Proof.Machine
end

