-- ==== Sys2Proof/Machine/Modes.lean ====
section
/-! DEFINITION. The commands of reset, start-up, faults and clocks (chapter 2, R35, R39, R42, R339, R378): events at the pins and rails, and judgements of the device about itself. -/

namespace Sys2Proof.Machine

/-! ## Resets (R44) -/

def execPowerOn (straps : BitVec 11) (vtio33 : Bool) (s : State) : Host.Outcome State Fault Refusal := .next (s.fullReset 0 straps vtio33)

/-- RESET_N: a low pulse shorter than 100 ns has no effect (R39). -/
def execResetN (lowNs : Nat) (straps : BitVec 11) (vtio33 : Bool) (s : State) : Host.Outcome State Fault Refusal :=
  .next (if lowNs < 100 then s else s.fullReset 1 straps vtio33)

/-- A write of `GLB_RESET` (Table 2-2). -/
def State.resetWrite (s : State) (v : Word) : State :=
  if !v.getLsbD 0 then s
  else if v.toNat / 256 % 256 = 0x5A then s.warmReset 2
  else s.wr R.GLB_RCV_BADKEY (min 15 (s.rd R.GLB_RCV_BADKEY + 1))

def execGlbResetWrite (v : Word) (s : State) : Host.Outcome State Fault Refusal := .next (s.resetWrite v)

/-- WARM_RESET from source 2 + k; that of the mailbox RESET is the one that waits after its response (R370). -/
def execWarmReset (k : Fin 3) (s : State) : Host.Outcome State Fault Refusal :=
  .next (if k.val = 1 && s.sys.resetAt.isNone then s else State.warmReset { s with sys := { s.sys with resetAt := none } } (2 + k.val))

/-- The reset word over I²C: 0x5A starts a warm reset once the firmware has initialised (R378). -/
def execI2cResetWord (v : Word) (s : State) : Host.Outcome State Fault Refusal :=
  .next (if v = 0x5A && s.bit R.GLB_FW_VALID then s.warmReset 4 else s)

/-- The words of the MSI-X table and pending bits: the endpoint's registers in BAR4. -/
def msixWord (a : Nat) : Bool := 0x8003000 ≤ a && a < 0x8004000

/-- PERST_N low resets the endpoint and its configuration space alone; every line stays (R44, R419). -/
def execPerstN (s : State) : Host.Outcome State Fault Refusal :=
  .next { s with regs := storeMap resetWord (fun a w => if msixWord a then resetWord a else w) s.regs
                 pcie := { perst := true, lines := s.pcie.lines } }

/-- Link training starts at the later of the release and the end of STRAP (R39). -/
def execPerstNRelease (s : State) : Host.Outcome State Fault Refusal :=
  .next { s with pcie := { s.pcie with perst := false, training := decide (s.mode ≠ .strap) } }

/-! ## STRAP and BOOT -/

/-- REFCLK_EXCURSION restarts the count of R48; after STRAP it is judged by R51 and R292. -/
def execRefclkExcursion (s : State) : Host.Outcome State Fault Refusal :=
  .next (if s.mode = .strap then { s with sys := { s.sys with refQual := false } } else s)

/-- REFCLK_QUALIFIED: the count of R48 is complete; with valid straps STRAP ends. -/
def State.refQualified (s : State) : State :=
  if s.mode ≠ .strap || s.sys.tripped then s
  else
    let s1 := { s with sys := { s.sys with refQual := true } }
    if strapsBad s.sys.straps then s1
    else ({ s1 with pcie := { s1.pcie with training := !s1.pcie.perst } }).toMode .boot 1 0

def execRefclkQualified (s : State) : Host.Outcome State Fault Refusal := .next s.refQualified

def execBootComplete (r : BootResult) (s : State) : Host.Outcome State Fault Refusal := .next (s.bootEnd r)

/-! ## Brown-out (R45) -/

/-- A trip or release that enters no RECOVER (event 0x0012): in HALT and OPEN, and while `SEC_STAT.OPEN` reads 1. -/
def State.tripLogged (s : State) : Bool := s.bit R.SEC_STAT_OPEN || s.mode = .halt || s.mode = .opened

/-- The monitor trips. `step1` gives, for a trip in BOOT, the ns since the end of step 1 where that had completed (R188). -/
def State.trip (s : State) (step1 : Option Nat) : State :=
  let s1 := { s with sys := { s.sys with tripped := true } }
  if s.tripLogged then s1.log 0x12 s.mode.code 0
  else match s.mode with
    | .strap => { s1 with sys := { s1.sys with refQual := false } }
    | .boot =>
      let s2 := match step1 with | some n => s1.startTime n | none => s1
      { s2 with sys := { s2.sys with warmBoot := s2.sys.timebase } }
    | .dock | .free | .acquire | .locked | .holdover | .proving | .doze | .recover => s1.toRecover 0x1A 3
    | .opened | .halt => s1

def execBrownOutTrip (step1 : Option Nat) (s : State) : Host.Outcome State Fault Refusal :=
  .next (if s.sys.tripped then s else s.trip step1)

/-- BROWN_OUT_RELEASE: what the trip held back goes on. -/
def execBrownOutRelease (s : State) : Host.Outcome State Fault Refusal :=
  .next (if !s.sys.tripped then s
    else
      let s1 := { s with sys := { s.sys with tripped := false } }
      if s.tripLogged then s1.log 0x12 s.mode.code 1 else s1)

/-! ## REFCLK (R35, R51) -/

/-- REFWARM_CHANGE: the accepted level counts with CFG3 = 1 only. -/
def execRefwarmChange (level : Bool) (s : State) : Host.Outcome State Fault Refusal :=
  .next (if !s.ocxo then s else (List.range 8).foldl State.requalify { s with sys := { s.sys with warm := level } })

/-- What the loss of REFCLK does to domain d. -/
def State.refLostDom (s : State) (d : Nat) : State :=
  match (s.dom d).tstate with
  | .locked => s.enterHoldover d 0x0C 0 true false
  | .acquire => if s.histValid d then s.enterHoldover d 0x0C 0 true false else (s.deselect d).domState d .free 0x0C 0
  | .holdover =>
    if (s.dom d).unqual then s
    else ((s.setDom d { s.dom d with unqual := true }).setBit (R.REF_DHIST_UNQ d) true).syncVec (24 + d)
  | .free => s

def State.refLost (s : State) : State :=
  if s.mode = .strap || s.sys.refclkLost then s
  else
    let s1 := { s with sys := { s.sys with refclkLost := true } }
    let s2 := (s1.setBit ⟨A.CLK_STAT, 0, 1⟩ false).setBit ⟨A.CLK_STAT, 16, 1⟩ true
    (List.range 8).foldl State.refLostDom (s2.log 0x10 0 0)

def execRefclkLost (s : State) : Host.Outcome State Fault Refusal := .next s.refLost

/-- Every candidate that has a signal qualifies anew (R51, R65, R292, R296), and a domain in HOLDOVER keeps no selection meanwhile. -/
def State.requalCands (s : State) : State :=
  (List.range 128).foldl (fun s j =>
    let st := s.cstate (j / 16) (j % 16)
    if st = 0 || !s.csignal (j / 16) (j % 16) then s
    else if st != 2 then s.candTo (j / 16) (j % 16) 2
    else s.setCand (j / 16) (j % 16) { s.cand (j / 16) (j % 16) with wtr := s.tb })
    ((List.range 8).foldl (fun s d => if (s.dom d).tstate = .holdover && (s.selOf d).isSome then (s.deselect d).setRef d { (s.deselect d).ref d with gatedBy := none } else s) s)

def State.refReturn (s : State) : State :=
  if !s.sys.refclkLost then s
  else
    let s1 := { s with sys := { s.sys with refclkLost := false } }
    (List.range 8).foldl State.requalify ((s1.setBit ⟨A.CLK_STAT, 0, 1⟩ true).log 0x10 1 0).requalCands

def execRefclkReturn (s : State) : Host.Outcome State Fault Refusal := .next s.refReturn

/-! ## Heat (R42, R355) -/

/-- THERMAL_ALARM: a sensor's reading. -/
def execThermalAlarm (k : Fin 9) (t : Int) (s : State) : Host.Outcome State Fault Refusal := .next (s.sense k t)

/-- THERMAL_ALARM_CLEAR: nine readings; where all are below 95 °C they clear the alarm and what R46 refuses. -/
def execThermalAlarmClear (ts : List Int) (s : State) : Host.Outcome State Fault Refusal :=
  .next (let s1 := (ts.zipIdx.take 9).foldl (fun s x => s.sense x.2 x.1) s
    if (List.range 9).all fun k => decide (s1.temp k < 380) then { s1 with sys := { s1.sys with alarm := false, hot := false } } else s1)

/-- THERMAL_TRIP: a sensor's reading that reaches 112 °C. -/
def execThermalTrip (k : Fin 9) (t : Int) (s : State) : Host.Outcome State Fault Refusal :=
  .next (s.sense k t)

/-! ## Faults of the device (R68) -/

def execWatchdogExpiry (s : State) : Host.Outcome State Fault Refusal := .next (s.toRecover 0x18 1)

/-- A fault with code 7 on the run of engine e (R161): nothing is counted or raised, and runs are withheld until the banks are rewritten. -/
def State.engEcc (s : State) (e : Nat) : State :=
  let E := s.eng e
  if !E.running then s
  else
    let s1 := s.abandonRun e E.cyc
    ((s1.wr (R.ENG_STAT_FCODE e) 7).wr (R.ENG_STAT_FPC e) E.pc).setEng e { s1.eng e with held := true }

/-- ECC_ERROR: a single bit is corrected in place; the rest leads to RECOVER. -/
def execEccError (k : EccKind) (s : State) : Host.Outcome State Fault Refusal :=
  .next (match k with
    | .corrected => s
    | .table => s.toRecover 0x19 2
    | .engine e => (s.engEcc e).toRecover 0x19 2)

/-- RECOVER_TIMEOUT: 1 s without completion, from the monitor's release where that holds RECOVER (R69). -/
def execRecoverTimeout (s : State) : Host.Outcome State Fault Refusal :=
  .next (if s.mode ≠ .recover || s.sys.tripped then s else s.toHalt 5 0x1C 0)

def execPllUnlock (k : Fin 12) (s : State) : Host.Outcome State Fault Refusal := .next (s.pllUnlock k)
def execPllRelock (k : Fin 12) (s : State) : Host.Outcome State Fault Refusal := .next (s.pllRelock k)

end Sys2Proof.Machine
end

