-- ==== Sys2Proof/Machine/TwinAct.lean ====
section
/-! DEFINITION. The twin (R306 to R327): following, hearing, comparison, the judgement, changes of role and what a unit sends each Orbit; and proving runs (R328 to R333). -/

namespace Sys2Proof.Machine

/-- The detail of a cause whose slot is the twin's own, for which Table 2-9a names none. -/
def twinSlotDetail : Nat := Config.noSlot % 256

/-! ## Following (R318) -/

/-- Domain d may follow the twin. A domain whose loop is open is the host's. -/
def State.mayFollow (s : State) (d : Nat) : Bool :=
  s.role == .moon && s.bit R.TW_CFG_EN && s.mode.fwd && s.rd R.TW_STAT_LINK != 0 && !s.twin.lossLink && !s.bit R.TW_STAT_GRIDMIS &&
    !s.bit R.TW_STAT_VERMIS && !s.bit R.TW_STAT_ORPHAN && (s.rd R.TW_CFG_FOLLOW).testBit d && !(s.dom d).hostLoop

/-- Bit d of `TW_STAT.FOLLOWING`. -/
def followBit (d : Nat) : Fld := ⟨A.TW_STAT, 16 + d, 1⟩

/-- Domain d begins to follow: no candidate stands selected, the mirrored history takes the place of its own, and the twin is its reference. -/
def State.startFollow (s : State) (d : Nat) : State :=
  let s1 := (s.deselect d).setBit (followBit d) true
  let s2 := s1.setRef d { s1.ref d with hist := [] }
  match (s2.dom d).tstate with
  | .free | .holdover => s2.domState d .acquire 8 twinSlotDetail
  | .acquire | .locked => s2

/-- Domain d leaves following for its shadow selection, by the hitless switch of R286 from the twin, or for holdover (R321, R325). -/
def State.stopFollow (s : State) (d : Nat) : State :=
  let k := s.best d
  let s1 := s.setBit (followBit d) false
  let s2 := if d = s.orbit.grid.dom then { s1.setBit R.TW_STAT_ALIGNED false with twin := { s1.twin with near := none } } else s1
  let s3 := match (if s2.maySelect d then k else none) with
    | some k => (s2.selectCand d k false).1
    | none => s2.loseRef d 0x0B twinSlotDetail
  { s3 with twin := { s3.twin with theta := storeSet (fun _ => 0) s3.twin.theta d 0 } }

/-- Every domain follows where it may, and only there. -/
def State.refollow (s : State) : State :=
  (List.range 8).foldl (fun s d =>
    if s.following d then (if s.mayFollow d then s else s.stopFollow d)
    else if s.mayFollow d then s.startFollow d else s) s

/-- `ALIGNED`: the orbit domain has followed within 1 µs for 1 s. -/
def State.alignJudge (s : State) : State :=
  let d := s.orbit.grid.dom
  let T := s.twin
  let ok := s.following d && decide ((storeGet (fun _ => 0) T.theta d).natAbs ≤ 65536000)
  let near := if ok then (match T.near with | some t => some t | none => some s.tb) else none
  let s1 := { s with twin := { T with near := near } }
  let al := match near with | some t => decide (t + 1000000000 ≤ s.tb) | none => false
  let s2 := s1.setBit R.TW_STAT_ALIGNED al
  if s2.bit R.PRV_STAT_RUN && s2.prv.step == 2 && s2.role == .moon && !al then { s2 with prv := { s2.prv with unaligned := true } } else s2

/-! ## Proving (R328 to R333) -/

/-- Seconds in ns of TIME. -/
def secNs (n : Nat) : Nat := n * 1000000000

/-- Entry k of `PRV_EXPECT` is met by the sink log of this run (R332). -/
def State.expectMet (s : State) (x : Nat) : Bool :=
  if !s.bit (R.PRV_EXPECT_VALID x) then true
  else
    let n := min 1024 s.prv.logged
    let log := ((List.range n).map fun i => (s.rd R.PRV_LOGPTR_NEXT + 1024 - 1 - i) % 1024).filter fun i =>
      s.bit (R.SINK0_VALID i) && s.rd (R.SINK0_TMPL i) == s.rd (R.PRV_EXPECT_TMPL x)
    let seqs := (log.map fun i => s.rd (R.SINK0_SEQ i)).eraseDups
    let lat (i : Nat) : Nat := ((s.reg (A.SINK0 i + 16)).toNat + 1000000000 - (s.reg (A.SINK0 i + 12)).toNat % 1000000000) % 1000000000
    !seqs.isEmpty && seqs.all fun q =>
      let cs := log.filter fun i => s.rd (R.SINK0_SEQ i) == q
      decide (s.rd (R.PRV_EXPECT_COPIES x) + 1 ≤ (cs.map fun i => s.rd (R.SINK0_IN i)).eraseDups.length) &&
        cs.all fun i => decide (lat i ≤ 1000 * s.rd (R.PRV_EXPECT_MAXLAT x))

/-- Bit k of `PRV_STAT.STEPS`. -/
def stepBit (k : Nat) : Fld := ⟨A.PRV_STAT, 2 + k, 1⟩

/-- The run ends (R324, R328): its result, the proved and failed bits, the revert hold of the Moon's own run, and the mode. -/
def State.prvEnd (s : State) : State :=
  let plan := s.prv.plan
  let pass := s.rd R.PRV_STAT_STEPS &&& plan == plan
  let r := if pass then 1 else 2
  let s1 := (s.wr R.PRV_STAT_RESULT r).setBit R.PRV_STAT_RUN false
  let s2 := if pass then (if s1.bit R.TW_CFG_EN then s1.setBit R.TW_STAT_PROVED true else s1) else s1.twHist 9
  let T := { s2.twin with prov := 0, provLink := none, provPins := none, revReq := false }
  let T1 := if s.prv.revert then (if pass then { T with revHold := some s.tb } else { T with revWait := some s.tb }) else T
  let s3 := { s2 with twin := T1, prv := { due := s2.prv.due, day := s2.prv.day, logged := s2.prv.logged } }
  let s4 := if s.prv.revert && pass then s3.setBit R.TW_STAT_REVPEND true else s3
  (s4.log 0x0A (s4.reg A.PRV_STAT).toNat 0).toMode s4.tstate.mode 0x14 r

/-- The run goes on with the first step of its plan from k on; REPORT takes no time. -/
def State.prvFrom (s : State) (k : Nat) : State :=
  let go (j : Nat) : State :=
    let al := decide (s.role = .moon) && !s.bit R.TW_STAT_ALIGNED
    { s with prv := { s.prv with step := j, stepStart := s.tb, injBad := false, met := none, hearLink := none, hearPins := none
                                 closed := false, unaligned := al, loops := [] } }
  let p := s.prv.plan
  if k = 0 && p.testBit 0 then go 0
  else if k ≤ 1 && p.testBit 1 then go 1
  else if k ≤ 2 && p.testBit 2 then go 2
  else if p.testBit 3 && (List.range 64).all s.expectMet then (s.setBit (stepBit 3) true).prvEnd
  else s.prvEnd

/-- The modes from which PROVING is entered (Table 2-9). -/
def State.prvMayEnter (s : State) : Bool :=
  (s.mode == .free || s.mode == .locked || s.mode == .holdover) && !s.power.devExit

/-- Enter PROVING with a plan (R328): the templates' numbers and the results of the last run return to 0. -/
def State.prvEnter (s : State) (plan cause detail : Nat) (revert : Bool) : State :=
  let loose := decide (s.tstate = .free) || decide (s.tstate = .holdover)
  let s1 := (((s.wr R.PRV_STAT_RESULT 0).wr R.PRV_STAT_STEPS 0).setBit R.PRV_STAT_RUN true)
  let s2 := (List.range 256).foldl (fun s t => s.wr (R.TMPL1_SEQ t) 0) s1
  let s3 := { s2 with prv := { plan := plan % 16, revert := revert, loose := loose, due := s2.prv.due, day := s2.prv.day } }
  (s3.toMode .proving cause detail).prvFrom 0

/-- A run is asked for: it begins at an Orbit start that allows it, and wakes a dozing device (R62, Table 12-6). -/
def State.prvAsk (s : State) (plan cause detail : Nat) (revert : Bool) : State :=
  ({ s with prv := { s.prv with request := some (plan, cause + 256 * detail, revert) } }).wake 8

/-- The day and the second of day of the orbit domain. -/
def State.daySec (s : State) : Nat × Nat := let t := timeSec s.orbDom.time; (t / 86400, t % 86400)

/-- At an Orbit start, a request or a scheduled run that waits begins where entry is allowed (R324, R329). -/
def State.prvOrbit (s : State) : State :=
  if !s.prvMayEnter then s
  else match s.prv.request with
    | some (plan, cd, rev) => { s with prv := { s.prv with request := none } }.prvEnter plan (cd % 256) (cd / 256) rev
    | none =>
      match s.prv.due with
      | some t =>
        if s.tb ≤ t + secNs 3600 then { s with prv := { s.prv with due := none } }.prvEnter (s.rd R.PRV_CFG_PLAN) 0x12 0 false else s
      | none => s

/-- The scheduled run comes due, once a day (R328, R329). -/
def State.prvDue (s : State) : State :=
  let (day, sec) := s.daySec
  if !s.bit R.PRV_SCHED_EN || sec < min 86399 (s.rd R.PRV_SCHED_SOD) || s.prv.day == some day || s.prv.due.isSome then s
  else
    let s1 := { s with prv := { s.prv with due := some s.tb, day := some day } }
    (if s1.mode = .doze then s1.wake 8 else s1).prvOrbit

/-- The wait of a scheduled run runs out (R329). -/
def State.prvSkip (s : State) : State :=
  match s.prv.due with
  | none => s
  | some t =>
    if s.tb < t + secNs 3600 then s
    else
      let s1 := { s with prv := { s.prv with due := none } }.setBit R.PRV_STAT_SKIPPED true
      s1.log 0x0A (R.PRV_STAT_RESULT.put (s1.reg A.PRV_STAT) 0).toNat 0

/-- The CLAIM step has met the twin's PROVING flag: its 2 s begin, and the unit sends its proving claim (Table 11-6). -/
def State.claimMeet (s : State) : State :=
  if !(s.bit R.PRV_STAT_RUN && s.prv.step == 1 && s.prv.met.isNone) then s
  else
    let c := match s.role with
      | .moon => mkClaim (claimGen s.ownClaim + 1) s.unit 1 true
      | .active => mkClaim (claimGen s.ownClaim) s.unit 1 true
      | .solo => 0
    { s with prv := { s.prv with met := some s.orbNum, stepStart := s.tb }, twin := { s.twin with prov := c } }

/-- The twin's proving claim is heard on the link or on the pins; the gate of the lower one closes (R330). -/
def State.provHear (s : State) (pins : Bool) (c : Option Nat) : State :=
  let T := s.twin
  let s1 := { s with twin := if pins then { T with provPins := c } else { T with provLink := c } }
  if c.isNone || !(s1.bit R.PRV_STAT_RUN && s1.prv.step == 1 && s1.prv.met.isSome) then s1
  else
    let P := s1.prv
    let P1 := if pins then { P with hearPins := (match P.hearPins with | some n => some n | none => some s.orbNum) }
      else { P with hearLink := (match P.hearLink with | some n => some n | none => some s.orbNum) }
    { s1 with prv := { P1 with closed := P1.closed || !s1.holdsProv } }

/-- The Moon withdraws its proving claim after 1 s (Table 11-6). -/
def State.provWithdraw (s : State) : State :=
  if s.bit R.PRV_STAT_RUN && s.prv.step == 1 && s.prv.met.isSome && s.role == .moon && decide (s.prv.stepStart + secNs 1 ≤ s.tb) then
    { s with twin := { s.twin with prov := 0 } }
  else s

/-- The CLAIM step passes. -/
def State.claimPass (s : State) : Bool :=
  match s.prv.met, s.prv.hearLink, s.prv.hearPins with
  | some m, some a, some b => decide (a ≤ m + 2) && decide (b ≤ m + 2) && (s.role != .active || s.prv.closed)
  | _, _, _ => false

/-- The TIMING step passes: the candidates agree, every edge of the loopback pairs within the step was seen in time, and a MOON stayed `ALIGNED`. -/
def State.timingPass (s : State) : Bool :=
  let tol := (s.rd R.PRV_CFG_TOL_NS : Nat) * 65536
  let doms := (List.range 8).all fun d =>
    match s.effSel d with
    | none => true
    | some j => (List.range 16).all fun k => s.cstate d k != 3 || s.fOnly d k || decide (((s.cand d k).theta - (s.cand d j).theta).natAbs ≤ tol)
  let stop : Int := (((s.prv.stepStart + secNs (max 1 (s.rd R.PRV_CFG_TIMING_T))) * nsUnit : Nat) : Int)
  let pairs := s.prv.loops.all fun x => decide (stop < x.2)
  doms && pairs && !(s.role == .moon && s.prv.unaligned)

/-- The duration of the step in progress in ns (Table 11-6); 0 s acts as 1 s. -/
def State.stepNs (s : State) : Nat :=
  secNs (match s.prv.step with | 0 => max 1 (s.rd R.PRV_CFG_PATH_T) | 1 => 2 | _ => max 1 (s.rd R.PRV_CFG_TIMING_T))

/-- A step's duration has passed; before that, nothing. -/
def State.prvStepEnd (s : State) : State :=
  if !s.bit R.PRV_STAT_RUN || decide (s.tb < s.prv.stepStart + s.stepNs) then s
  else match s.prv.step with
    | 0 => (if s.prv.injBad then s else s.setBit (stepBit 0) true).prvFrom 1
    | 1 =>
      if s.prv.met.isNone then s
      else
        let s1 := if s.claimPass then s.setBit (stepBit 1) true else s
        { s1 with twin := { s1.twin with prov := 0, provLink := none, provPins := none } }.prvFrom 2
    | _ => (if s.timingPass then s.setBit (stepBit 2) true else s).prvFrom 3

/-- The CLAIM step has waited 10 s for the twin in vain. -/
def State.claimTimeout (s : State) : State :=
  if s.bit R.PRV_STAT_RUN && s.prv.step == 1 && s.prv.met.isNone && decide (s.prv.stepStart + secNs 10 ≤ s.tb) then s.prvFrom 2 else s

/-- The end of an Orbit: the number of each template injected in it advances (R330). -/
def State.prvSeqs (s : State) : State :=
  let s1 := s.prv.injected.foldl (fun s t => s.wr (R.TMPL1_SEQ t) (s.rd (R.TMPL1_SEQ t) + 1)) s
  { s1 with prv := { s1.prv with injected := [] } }

/-! ## Changes of role (R309) -/

/-- A change of role aborts a proving run (R333). -/
def State.abortRun (s : State) : State :=
  let s1 := s.prvAbort
  if s1.mode = .proving then s1.toMode s1.tstate.mode 0x15 0 else s1

/-- Take a role and a claim; an unchanged role is no change. -/
def State.takeRole (s : State) (r : Role) (claim : Nat) (orphan : Bool) : State :=
  let s1 := if s.role = r then s.wr R.TW_CLAIM_OWN claim else s.abortRun.setRole r claim
  let s2 := s1.setBit R.TW_STAT_ORPHAN orphan
  ({ s2 with twin := { s2.twin with revHold := none, revReq := false } }).setBit R.TW_STAT_REVPEND false

/-- The Comet functions and their `SEQ`. -/
def State.comets (s : State) : List (Nat × Nat) :=
  s.regs.filterMap fun x =>
    if 0x23C0000 ≤ x.1 && x.1 < 0x23D0000 && (x.1 - 0x23C0000) % 16 == 0 then
      let f := (x.1 - 0x23C0000) / 16
      if s.bit (R.SGEN0_COMET f) && s.bit (R.SGEN0_VALID f) then some (f, s.rd (R.SGEN1_SEQ f)) else none
    else none

/-- The Comet counters of the unit that takes control (R306). -/
def State.cometTake (s : State) : State :=
  s.twin.comet.foldl (fun s x =>
    let d := (x.2 + 65536 - s.rd (R.SGEN1_SEQ x.1)) % 65536
    let s1 := if d = 32768 then s.twHist 5 else s
    if 0 < d && d ≤ 32768 then s1.wr (R.SGEN1_SEQ x.1) x.2 else s1) s

/-- An Eclipse or a revert takes effect (R321, R324, R327). -/
def State.eclipse (s : State) (revert : Bool) : State :=
  let gen := if s.bit R.TW_STAT_ORPHAN then s.twin.genHeard.getD (claimGen s.ownClaim) else claimGen s.ownClaim
  let c := mkClaim (gen + 1) s.unit 1 false
  let s1 := ((s.takeRole .active c false).cometTake).refollow
  let s2 := if revert then (s1.log 6 1 c).twHist 7 else ((s1.count .eclipses).log 6 0 c).twHist 0
  (s2.wr R.TW_STAT_DIVK 0).wake 32

/-- The change of role that waits takes effect at this Orbit start; in STRAP, BOOT and OPEN the role is SOLO and none is taken (R9). -/
def State.roleOrbit (s : State) : State :=
  let s0 := { s with twin := { s.twin with roleNext := none } }
  match (if s.mode = .strap || s.mode = .boot || s.mode = .opened then none else s.twin.roleNext) with
  | none => s0
  | some .eclipse => s0.eclipse false
  | some .revert => s0.eclipse true
  | some (.active gen) => s0.takeRole .active (mkClaim gen s0.unit 1 false) false
  | some (.moon gen orphan demoted) =>
    let s1 := s0.takeRole .moon (mkClaim gen s0.unit 0 false) orphan
    let s2 := if demoted then s1.twHist 1 else s1
    let s3 := if orphan then { s2.twHist 6 with twin := { s2.twin with echoHigh := some s2.tb } } else s2
    s3.refollow

/-! ## Hearing the twin (R308, R316, R323, R327) -/

/-- A normal claim of the twin is heard on the link or on the pins. -/
def State.claimHear (s : State) (c : Nat) : State :=
  if c = 0 || claimPrv c || c = s.ownClaim || !s.bit R.TW_CFG_EN then s
  else
    let s1 := s.twinHear c
    let T := s1.twin
    match s1.role with
    | .solo =>
      if s1.mode.fwd && claimAct c == 1 then { s1 with twin := { T with roleNext := some (.moon (claimGen c) false false), join := none } } else s1
    | .active =>
      if claimHigher c s1.ownClaim then { s1 with twin := { T with roleNext := some (.moon (claimGen c) false true) } } else s1
    | .moon =>
      let s2 := s1.setBit R.TW_STAT_ORPHAN false
      if claimAct c = 1 then { s2.wr R.TW_CLAIM_OWN (mkClaim (claimGen c) s2.unit 0 false) with twin := { T with join := none } }
      else { s2 with twin := { T with joinHeard := true } }

/-- The orbit grid as a heartbeat carries it. -/
def State.gridHeart (s : State) : BitVec 3 × Nat × Int := (.ofNat 3 s.orbit.grid.dom, s.orbit.grid.period, s.orbit.grid.align)

/-- The request of a revert proving run in the twin's heartbeat (R324): an ACTIVE that can enters PROVING at the next Orbit start; one that is itself PRIMARY shows the error of two. -/
def State.revHear (s : State) (req : Bool) : State :=
  let was := s.twin.revHeard
  let s1 := { s with twin := { s.twin with revHeard := req } }
  if !req || was || s1.role ≠ .active then s1
  else if s1.bit R.TW_CFG_PRIMARY then s1.twHist 8
  else if s1.prvMayEnter || s1.mode = .doze then s1.prvAsk 6 0x13 1 false
  else s1

/-- A heartbeat (Table 11-2, R310). -/
def State.heartHear (s : State) (h : TwHeart) : State :=
  let s1 := { s with twin := { s.twin with heardLink := true, last := some h } }
  let s2 := if s1.role = .moon && claimAct h.claim.toNat = 1 then
      (s1.setBit R.TW_STAT_GRIDMIS (s1.gridHeart != (h.dom, h.period, h.align))).setBit R.TW_STAT_VERMIS (s1.reg A.GLB_FW != h.fw)
    else s1
  let s3 := s2.claimHear h.claim.toNat
  let s4 := s3.provHear false (if h.prov = 0 then none else some h.prov.toNat)
  let s5 := if h.mode = 7 then s4.claimMeet else s4
  s5.revHear h.revReq

/-- Mirroring is on (R310, R318). -/
def State.mirrors (s : State) : Bool := s.role == .moon && !s.bit R.TW_STAT_VERMIS && !s.bit R.TW_STAT_ORPHAN

/-- A domain mirror: kept, with the holdover history sample where the domain follows. -/
def State.mirrorHear (s : State) (m : TwMirror) : State :=
  if !s.mirrors then s
  else
    let s1 := { s with twin := { s.twin with mirrors := storeSet (fun _ => none) s.twin.mirrors m.dom (some m) } }
    match (if s1.following m.dom then m.hist else none) with
    | some x => s1.setRef m.dom { s1.ref m.dom with hist := (x :: (s1.ref m.dom).hist).take 16384, sampleTb := s1.tb }
    | none => s1

/-- A Comet mirror, compared with the unit's own counters at this Orbit start (Table 11-3). -/
def State.cometHear (s : State) (l : List (Nat × Nat)) : State :=
  if !s.mirrors then s
  else
    let tol := s.rd R.TW_TOL_CTOL
    let bad := l.any fun x =>
      let own := match s.twin.cometOwn.find? fun y => y.1 == x.1 with | some y => y.2 | none => s.rd (R.SGEN1_SEQ x.1)
      let d := (x.2 + 65536 - own) % 65536
      decide (tol < min d (65536 - d))
    { s with twin := { s.twin with comet := l, cometBad := bad } }

/-! ## Comparison (R319, R320) -/

/-- The domains that follow. -/
def State.followed (s : State) : List Nat := (List.range 8).filter s.following

/-- Domains whose shadow candidate has strayed. -/
def State.timeDiv (s : State) : List Nat :=
  s.followed.filter fun d =>
    match s.best d with
    | some k => !s.fOnly d k && decide (s.rd R.TW_TOL_TIME_NS * 65536 < (s.cand d k).theta.natAbs)
    | none => false

/-- Domains whose Announces or Syncs differ. -/
def State.ptpDiv (s : State) (o : TwOutput) : List Nat :=
  s.followed.filter fun d =>
    (o.anns.any fun x => x.1.val == d &&
      (let a := s.fwAnn x.2.1 d
       let b := x.2.2
       !(a.cls == b.cls && a.acc == b.acc && a.var == b.var && a.gm == b.gm && a.steps == b.steps))) ||
    (o.syncs.any fun x => x.1.val == d && decide (s.rd R.TW_TOL_TIME_NS < (x.2.2.1 - x.2.2.2).natAbs))

/-- Rising edges without a partner within `TW_TOL.TOUT`. -/
def State.toutDiv (s : State) (o : TwOutput) : Bool :=
  let tol := s.rd R.TW_TOL_TOUT * 65536
  let near (x y : Fin 8 × Int) : Bool := x.1 == y.1 && decide (1000 * (x.2 - y.2).natAbs ≤ tol)
  (o.edges.any fun x => !(s.twin.ownPrev.edges.any (near x))) || (s.twin.ownPrev.edges.any fun x => !(o.edges.any (near x)))

/-- The shadow candidate of a domain is corroborated. -/
def State.corroborated (s : State) (d : Nat) : Bool :=
  match s.best d with
  | some k => !s.bit (R.REF_CSTAT_UNCORR d k) && !s.bit (R.REF_CSTAT_OUTVOTED d k)
  | none => false

/-- The ACTIVE's output record of the last Orbit is compared with the Moon's own (Table 11-3); a divergence gives a verdict, or is only recorded (R320). -/
def State.outputHear (s : State) (o : TwOutput) : State :=
  if !s.mirrors || !s.bit R.TW_STAT_ALIGNED || s.bit R.TW_STAT_GRIDMIS || s.twin.output.isSome then s
  else
    let td := s.timeDiv
    let pd := s.ptpDiv o
    let tt := s.toutDiv o
    let cb := s.twin.cometBad
    let kinds := (if td.isEmpty then 0 else 1) + (if pd.isEmpty then 0 else 2) + (if tt then 4 else 0) + (if cb then 8 else 0)
    let s1 := { s with twin := { s.twin with output := some o } }.wr R.TW_DIV_KIND kinds
    if kinds = 0 then s1.wr R.TW_STAT_DIVK 0
    else
      let n := s1.rd R.TW_STAT_DIVK + 1
      let s2 := s1.wr R.TW_STAT_DIVK (min 15 n)
      let s3 := if s2.twin.revHold.isSome then { s2 with twin := { s2.twin with revHold := some s2.tb } } else s2
      if max 1 (s3.rd R.TW_TOL_K) ≤ n && s3.tstate = .locked && s3.bit R.TW_STAT_PROVED && (tt || cb || (td ++ pd).any s3.corroborated) then
        { s3 with twin := { s3.twin with roleNext := some .eclipse } }
      else s3.twHist 5

/-! ## Timing over the link (R311, R318) -/

/-- A timing exchange arrives with the TDC code of its edge on lane `l`, and is timestamped as R225 has it for the lanes' mode, 25GBASE-R with RS-FEC, at the first bit of its block (log entry 106): θ of the twin by domain, and the domains that follow are steered. -/
def State.timingHear (s : State) (l code : Nat) (tx rx : List Int) : State :=
  let (s1, m) := s.measure (64 + l) code
  let iv : Int := match m with | some (i, _) => i | none => 0
  let fix : Int := psTo48 259840 + ((65 * PortMode.r25.ui * nsUnit / 1000000000 : Nat) : Int)
  let t48 : Int := ((s1.tb * nsUnit : Nat) : Int) - iv - fix
  let t4 := (List.range 8).map fun d => s1.domAt d t48 / 4294967296
  let asym := psTo48 (s1.sgnFld R.TW_ASYM_PS) / 4294967296
  let s2 := { s1 with twin := { s1.twin with exRx := t4 } }
  if s2.twin.exTx.isEmpty || rx.isEmpty then s2
  else
    (s2.followed.foldl (fun s d =>
      let θ := ((rx.getD d 0 - s2.twin.exTx.getD d 0) + (tx.getD d 0 - t4.getD d 0)) / 2 + asym
      let s3 := { s with twin := { s.twin with theta := storeSet (fun _ => 0) s.twin.theta d θ } }
      if s3.sys.refclkLost then s3
      else
        let ff := match storeGet (fun _ => none) s3.twin.mirrors d with | some m => m.rate.toInt | none => s3.rateNow d
        let rate := ff + pllProp (min 20 (s3.rd R.TW_CFG_FBW)) θ
        (s3.setRate d rate).lockTrack d θ (ff - clampRate rate) false) s2).alignJudge

/-- A timing exchange is sent: the unit's times by domain at the encoder, and those at which the twin's last one came. -/
def State.timingSend (s : State) : State :=
  if !(s.bit R.TW_CFG_EN && s.mode.fwd && s.role != .solo) then s
  else
    let t48 : Int := ((s.tb * nsUnit + Config.txPoint s.freeCount : Nat) : Int) + psTo48 23040
    let tx := (List.range 8).map fun d => s.domAt d t48 / 4294967296
    let s1 := { s with freeCount := s.freeCount + 1, twin := { s.twin with exTx := tx } }
    (s1.emit (.twin 0 (.timing tx s.twin.exRx))).emit (.twin 1 (.timing tx s.twin.exRx))

/-! ## Arrival -/

/-- A record arrives on lane l with a code of its TDC channel. -/
def State.recordHear (s : State) (l code : Nat) (r : TwinRec) : State :=
  if !s.mode.afterBoot then s
  else
    let s1 := (s.wr R.TW_STAT_LINK (s.rd R.TW_STAT_LINK ||| 2 ^ l))
    let s2 := { s1 with twin := { s1.twin with laneHeard := s1.twin.laneHeard ||| 2 ^ l } }
    if !s2.bit R.TW_CFG_EN then s2
    else match r with
      | .heart h => s2.heartHear h
      | .mirror m => s2.mirrorHear m
      | .comet c => s2.cometHear c
      | .output o => s2.outputHear o
      | .timing tx rx => s2.timingHear l code tx rx

/-- The 40 bits of a claim-pin frame (R312). -/
def claimFrame (claim orb flags : Nat) : BitVec 40 :=
  let w := claim % 65536 + orb % 256 * 65536 + flags % 256 * 16777216
  .ofNat 40 (w + 4294967296 * crc8 (wordBytes (.ofNat w)))

/-- A claim-pin frame arrives; a wrong CRC makes it invalid (R313). -/
def State.pinHear (s : State) (b : BitVec 40) : State :=
  let c := b.toNat % 65536
  let orb := b.toNat / 65536 % 256
  let flags := b.toNat / 16777216 % 256
  if !s.mode.afterBoot || b ≠ claimFrame c orb flags then s
  else
    let s1 := s.setBit R.TW_STAT_PINS true
    let s2 := { s1 with twin := { s1.twin with heardPins := true } }
    if !s2.bit R.TW_CFG_EN then s2
    else
      let s3 := if flags.testBit 2 then s2.claimMeet else s2
      if claimPrv c then s3.provHear true (some c)
      else (if orb % 2 = 1 then s3.provHear true none else s3).claimHear c

/-! ## The judgement (R313, R320, R324, R325) -/

/-- The Moon begins to ask for a revert proving run (R324, step 1). -/
def State.revertAsk (s : State) : State :=
  let T := s.twin
  let rested := match T.revWait with | some t => decide (t + secNs (s.rd R.TW_TIME_REVERT_HOLD) ≤ s.tb) | none => true
  if s.role = .moon && s.bit R.TW_CFG_PRIMARY && s.bit R.TW_CFG_REVERT && s.bit R.TW_STAT_ALIGNED && !s.bit R.TW_STAT_ORPHAN && s.tstate = .locked && T.heardLink && T.heardPins
      && T.revHold.isNone && !T.revReq && !s.bit R.PRV_STAT_RUN && rested && T.roleNext.isNone then
    { s with twin := { T with revReq := true, revWait := none } }.prvAsk 6 0x13 0 true
  else s

/-- Paths after this judgement: the new losses set `TWLINK` and `PINLOSS`. -/
def State.judgePaths (s : State) : State :=
  let T := s.twin
  let m0 := if T.laneHeard.testBit 0 then 0 else min 8 (T.miss0 + 1)
  let m1 := if T.laneHeard.testBit 1 then 0 else min 8 (T.miss1 + 1)
  let mp := if T.heardPins && !T.pinReport then 0 else min 8 (T.missPins + 1)
  let ll := decide (8 ≤ m0) && decide (8 ≤ m1)
  let lp := T.pinReport || decide (8 ≤ mp)
  let link := s.rd R.TW_STAT_LINK &&& ((if 8 ≤ m0 then 0 else 1) + (if 8 ≤ m1 then 0 else 2))
  let s0 := (s.wr R.TW_STAT_LINK link).setBit R.TW_STAT_PINS (s.bit R.TW_STAT_PINS && !lp)
  let s1 := [64, 65].foldl (fun s c => if s.chanLink c then s else s.calLinkLost c) s0
  let s2 := { s1 with twin := { T with miss0 := m0, miss1 := m1, missPins := mp, lossLink := ll, lossPins := lp } }
  let s3 := if ll && !T.lossLink then s2.twHist 3 else s2
  let s4 := if lp && !T.lossPins then s3.twHist 4 else s3
  if s4.twin.revHold.isSome && ((ll && !T.lossLink) || (lp && !T.lossPins)) then { s4 with twin := { s4.twin with revHold := some s4.tb } } else s4

/-- A unit that is MOON without hearing its twin becomes an orphan (R325, R308). -/
def State.orphan (s : State) : State :=
  let s1 := (s.setBit R.TW_STAT_ORPHAN true).twHist 6
  { s1 with twin := { s1.twin with echoHigh := some s1.tb, roleNext := none, join := none, revHold := none, revReq := false } }.setBit R.TW_STAT_REVPEND false

/-- The judgement of an Orbit. -/
def State.judge (s : State) : State :=
  if !s.bit R.TW_CFG_EN || !s.mode.fwd then s
  else
    let T := s.twin
    let heard := T.heardLink || T.heardPins
    let s1 := s.judgePaths
    let one := T.lossLink || T.lossPins
    let s2 := if s1.role ≠ .moon || s1.bit R.TW_STAT_ORPHAN then s1
      else if !heard && s1.bit R.TW_STAT_ALIGNED && !one then
        { s1.twHist 2 with twin := { s1.twin with roleNext := some .eclipse } }
      else if one && s1.twin.lossLink && s1.twin.lossPins && !(T.lossLink && T.lossPins) then s1.orphan
      else if s1.twin.lossLink && s1.twin.lossPins && s1.twin.join.isNone then { s1 with twin := { s1.twin with join := some s1.tb, joinHeard := false } }
      else s1
    let s3 := s2.revertAsk.refollow
    { s3 with twin := { s3.twin with heardLink := false, heardPins := false, laneHeard := 0, pinReport := false } }

/-! ## Waits -/

/-- The join wait in ns (R308). -/
def State.joinNs (s : State) : Nat := secNs (max 1 (s.rd R.TW_TIME_JOIN)) * (if s.role = .solo && !s.bit R.TW_CFG_PRIMARY then 2 else 1)

/-- The join wait runs out. `tie` gives the PRIMARY of a twin that decides in the same Orbit. A Moon that has heard no twin since the wait began becomes an orphan; one that has heard another Moon stays as it is (R67, R308). -/
def State.joinTimeout (s : State) (tie : Option Bool) : State :=
  let T := s.twin
  match T.join with
  | none => s
  | some t =>
    if s.tb < t + s.joinNs || !s.mode.fwd then s
    else
      let s1 := { s with twin := { T with join := none } }
      let gen := match T.genHeard with | some g => g + 1 | none => 1
      let act (s : State) : State := { s with twin := { s.twin with roleNext := some (.active gen) } }
      let moon (s : State) : State := { s with twin := { s.twin with roleNext := some (.moon gen false false) } }
      match s.role with
      | .solo =>
        if T.roleNext.isSome then s1
        else match tie with
          | none => act s1
          | some p =>
            if p = s1.bit R.TW_CFG_PRIMARY then (if s1.unit = 0 then act (s1.twHist 8) else moon (s1.twHist 8))
            else if p then moon s1 else act s1
      | .moon => if T.joinHeard || s1.bit R.TW_STAT_ORPHAN then s1 else s1.orphan.refollow
      | .active => s1

/-- The revert hold runs out (R324, step 4). -/
def State.revertDue (s : State) : State :=
  match s.twin.revHold with
  | some t =>
    if s.role = .moon && decide (t + secNs (s.rd R.TW_TIME_REVERT_HOLD) ≤ s.tb) then
      ({ s with twin := { s.twin with revHold := none, roleNext := some .revert } }).setBit R.TW_STAT_REVPEND false
    else s
  | none => s

/-- An orphan Moon raises its claim (R327). -/
def State.orphanRaise (s : State) : State :=
  let d := s.orbit.grid.dom
  let ref := match s.selOf d with
    | some k => s.ckind d k != 3 && !s.bit (R.REF_CSTAT_UNCORR d k) && !s.bit (R.REF_CSTAT_OUTVOTED d k)
    | none => false
  let quiet := match s.twin.echoHigh with | some t => decide (t + secNs (max 1 (s.rd R.TW_TIME_ORPHAN_HOLD)) ≤ s.tb) | none => true
  if s.role = .moon && s.bit R.TW_STAT_ORPHAN && s.mode.fwd && s.tstate = .locked && ref && quiet then { s with twin := { s.twin with roleNext := some .eclipse } } else s

/-- The twin slot empties after `CWIN` without a refresh (R316). -/
def State.slotExpire (s : State) : State :=
  match s.twin.slot with
  | some (_, t) =>
    if t + 100000000 * max 1 (s.rd R.TW_CFG_CWIN) ≤ s.tb then
      (({ s with twin := { s.twin with slot := none } }).wr R.TW_CLAIM_TWIN 0).setBit R.TW_STAT_HEARD false
    else s
  | none => s

/-- A slot of claim filter group g empties after `WIN` ms without a refresh (R315). -/
def State.clfExpire (s : State) (g : Nat) (prv : Bool) : State :=
  let age := storeGet (fun _ => ({} : ClfAge)) s.clfAges g
  let t := if prv then age.phi else age.hi
  if t + 1000000 * max 1 (s.rd (R.CLF_CFG_WIN g)) ≤ s.tb then
    (if prv then (s.wr (R.CLF_PHI_CLAIM g) 0).setBit (R.CLF_PHI_VALID g) false else (s.wr (R.CLF_HI_CLAIM g) 0).setBit (R.CLF_HI_VALID g) false)
  else s

/-! ## What a unit sends at an Orbit start (R312, Table 11-2) -/

/-- A record leaves on both lanes (R311). -/
def State.twinSend (s : State) (r : TwinRec) : State := (s.emit (.twin 0 r)).emit (.twin 1 r)

/-- The domain mirror of domain d. -/
def State.mkMirror (s : State) (d : Fin 8) : TwMirror :=
  let D := s.dom d
  { dom := d, rate := .ofInt 48 D.rate, time := D.time, epoch := .ofNat 32 D.epoch, tstate := .ofNat 3 D.tstate.code
    sel := (s.selOf d).map (Fin.ofNat 16), cands := (List.range 16).map fun k => .ofNat 3 (s.cstate d k)
    hist := (if s.tb < (s.ref d).sampleTb + s.orbit.grid.period / 4294967296 then (s.ref d).hist.head? else none) }

/-- The flags of a claim-pin frame. -/
def State.claimFlags (s : State) : Nat :=
  (if s.mode.fwd then 1 else 0) + (if s.bit R.TW_STAT_ALIGNED then 2 else 0) + (if s.mode = .proving then 4 else 0) + (if s.bit R.TW_STAT_ORPHAN then 8 else 0)

/-- Heartbeat and claim frame of a unit with a role, and the ACTIVE's mirrors and output record. -/
def State.twinOrbitSend (s : State) : State :=
  if !(s.bit R.TW_CFG_EN && s.mode.fwd && s.role != .solo) then s
  else
    let g := s.gridHeart
    let s1 := s.twinSend (.heart { claim := .ofNat 16 s.ownClaim, prov := .ofNat 16 s.twin.prov, orbit := .ofNat 64 s.orbNum, mode := .ofNat 4 s.mode.code
                                   tstate := .ofNat 3 s.tstate.code, aligned := s.bit R.TW_STAT_ALIGNED, fw := s.reg A.GLB_FW
                                   dom := g.1, period := g.2.1, align := g.2.2, revReq := s.twin.revReq })
    let c := if s.prv.met.isSome && s.twin.prov != 0 && s.orbNum % 2 = 1 then s.twin.prov else s.ownClaim
    let s2 := s1.emit (.claim (claimFrame c s.orbNum s.claimFlags))
    if s.role ≠ .active then s2
    else
      let s3 := ((List.range 8).filter (s.rd R.TW_CFG_FOLLOW).testBit).foldl (fun s d => s.twinSend (.mirror (s.mkMirror (Fin.ofNat 8 d)))) s2
      (s3.twinSend (.comet s3.twin.cometOwn)).twinSend (.output s3.twin.ownPrev)

/-- The twin's part of an Orbit start: what was given out passes on, the role changes, domains follow, and the records leave. -/
def State.twinOrbit (s : State) : State :=
  let s0 := s.provWithdraw.roleOrbit
  let s1 := { s0 with twin := { s0.twin with own := {}, ownPrev := s0.twin.own, output := none, cometOwn := s0.comets } }
  s1.refollow.alignJudge

end Sys2Proof.Machine
end

