-- ==== Sys2Proof/Machine/OrbitOps.lean ====
section
/-! DEFINITION. The start of an Orbit (R139 to R155, R183 to R185, R350, R351): re-anchoring, swaps, starts and stops of engines, the runs that begin, and compiled gate lists. -/

namespace Sys2Proof.Machine

/-! ## The grid (R139 to R143) -/

/-- The grid that the registers name, with the bounds of Table 5-15. -/
def State.regGrid (s : State) : Grid :=
  let ns := min 1000000000 (max 31250 (s.rd R.ORB_PERIOD_NS_NS))
  let frac := if ns = 1000000000 then 0 else s.rd R.ORB_PERIOD_FRAC_FRAC
  let sec := s.rd R.ORB_ALIGN_SEC_LO_SEC + 4294967296 * s.rd R.ORB_ALIGN_SEC_HI_SEC
  { dom := s.rd R.ORB_CFG_DOM, period := ns * 4294967296 + frac
    align := (sec * 1000000000 + min 999999999 (s.rd R.ORB_ALIGN_NS_NS)) * 4294967296 + s.rd R.ORB_ALIGN_FRAC_FRAC }

/-- P in 2^-32 ns, and the length of the current Orbit in the same unit. -/
def State.orbP (s : State) : Int := ((s.orbit.grid.period : Nat) : Int)
def State.orbL (s : State) : Int := s.orbit.next - s.orbit.start

/-- The step that domain d applies at this Orbit start, in 2^-48 ns (R197). -/
def State.stepAt (s : State) (d : Nat) : State × Int :=
  match s.stepDue d, s.applyStep d with
  | some δ, (s1, true) => ((s1.judgeLate d).resyncPins d, δ)
  | _, (s1, _) => (s1, 0)

/-- Every absolute-time trigger that is due at the unstepped time of a domain with a due step fires first (R197, R203). -/
def State.fireDue (s : State) : State :=
  (List.range 8).foldl (fun s d => if (s.stepDue d).isSome then (s.trgDue d).hlsDue d else s) s

/-- After the steps, the triggers that one of them has passed, or brought to their time, fire (R197, R203). -/
def State.fireStepped (s s0 : State) : State :=
  (List.range 8).foldl (fun s d => if (s.dom d).epoch != (s0.dom d).epoch then (s.trgDue d).hlsDue d else s) s

/-- All due steps; the step of the orbit domain is handed on. -/
def State.stepsAt (s : State) : State × Int :=
  (List.range 8).foldl (fun r d =>
    let (s1, δ) := r.1.stepAt d
    (s1, if d = s.orbit.grid.dom then δ else r.2)) (s, 0)

/-- A grid written at least 2 µs ago takes effect (R143). -/
def State.gridDue (s : State) : Bool :=
  match s.orbit.gridWrite with
  | some t => decide (t + twoUs ≤ s.tb)
  | none => false

/-- The start of the Orbit that begins now, as it stands after a step, and the end of that Orbit: re-anchored after a step of the orbit domain or with a new grid (R142), else one period on. -/
def State.anchor (s : State) (δ : Int) (stepped fresh : Bool) : State :=
  let O := s.orbit
  let g := if fresh then s.regGrid else O.grid
  let st : Int := if fresh && g.dom != O.grid.dom then (((s.dom g.dom).time / 65536 : Nat) : Int) else O.start + δ / 65536
  let p : Int := ((g.period : Nat) : Int)
  let O1 := { O with grid := g, start := st, gridWrite := if fresh then none else O.gridWrite }
  if stepped || fresh then
    let nx := gridAt g (st + p)
    let long := decide (p < nx - st)
    let s1 := { s with orbit := { O1 with next := nx, epoch := nx - (((s.orbNum + 1 : Nat) : Int)) * p, stretched := long } }
    if long then s1.setBit R.ORB_STAT_STRETCH true else s1
  else { s with orbit := { O1 with next := st + p, stretched := false } }

/-! ## Gate lists (R183 to R185) -/

def State.glist (s : State) (p : Nat) : Option GateList := storeGet (fun _ => none) s.glists p
def State.gpend (s : State) (p : Nat) : Option GateList := storeGet (fun _ => none) s.gpends p
def State.setGlist (s : State) (p : Nat) (l : Option GateList) : State := { s with glists := storeSet (fun _ => none) s.glists p l }
def State.setGpend (s : State) (p : Nat) (l : Option GateList) : State := { s with gpends := storeSet (fun _ => none) s.gpends p l }

/-- O for a list with X0 (R184): the first base + N × cycle time at or after X0 + P that lies on the grid. A cycle of m × P meets the grid at every N, one of P / k at every k-th. -/
def State.opStart (s : State) (l : GateList) (x0 : Int) : Int :=
  let p := s.orbP
  let cyc : Int := if l.div then p else p * ((l.mul : Nat) : Int)
  let d := x0 + p - l.base
  if d ≤ 0 then l.base else l.base + (d + cyc - 1) / cyc * cyc

/-- Port p's pending list takes its operative start, which the `PORT_GL_START` registers give. -/
def State.timeGlist (s : State) (p : Nat) (l : GateList) (x0 : Int) : State :=
  let o := s.opStart l x0
  let n := (o / 4294967296).toNat
  (((s.setGpend p (some { l with x0 := some x0, start := some o })).setReg (A.PORT_GL_START_SEC_LO p) (.ofNat (n / 1000000000))).setReg
    (A.PORT_GL_START_SEC_HI p) (.ofNat (n / 1000000000 / 4294967296 % 65536))).setReg (A.PORT_GL_START_NS p) (.ofNat (n % 1000000000))

/-- After a step of the orbit domain, pending lists are timed again, keeping X0 (R185). -/
def State.retime (s : State) : State :=
  (List.range 64).foldl (fun s p =>
    match s.gpend p with
    | none => s
    | some l =>
      let l := if l.base < s.orbTime then { l with past := true } else l
      let s1 := (if l.base < s.orbTime then s.setBit (R.PORT_GLIST_PAST p) true else s).setGpend p (some l)
      match l.x0 with
      | some x0 => s1.timeGlist p l x0
      | none => s1) s

/-- The lists of engine e's ports are deleted (R183). -/
def State.dropGlists (s : State) (e : Nat) : State :=
  (List.range 8).foldl (fun s m =>
    let p := 8 * e + m
    (((s.setGlist p none).setGpend p none).setBit (R.PORT_GLIST_PEND p) false).setBit (R.PORT_GLIST_COMPILED p) false) s

/-- The `GATE` actions of one repetition of a list that begins at offset `at0`, for the part of it from `lo` to below `hi`: all in ns. -/
def listActs (p : Nat) (at0 lo hi : Nat) : Nat → List (Nat × Nat × Nat) → List Act
  | _, [] => []
  | t, (st, hold, dur) :: r =>
    let rest := listActs p at0 lo hi (t + dur) r
    if lo ≤ t && t < hi then { off := 64 * (at0 + t - lo), kind := .gate p st hold } :: rest else rest

/-- The actions of port p's list for the Orbit that starts at `nx`. A list without entries deletes the port's: its gates open fully at O (R373). -/
def State.glistActs (s : State) (p : Nat) (nx : Int) : List Act :=
  match s.glist p with
  | none => []
  | some l =>
    let o := l.start.getD nx
    if s.absent p then []
    else if l.entries.isEmpty then [{ off := 0, kind := .gate p 255 0 }]
    else if l.div then
      (List.range l.mul).flatMap fun j => listActs p (s.orbit.grid.period * j / l.mul / 4294967296) 0 1000000001 0 l.entries
    else
      let j := ((nx - o) / s.orbP % ((l.mul : Nat) : Int)).toNat
      listActs p 0 (s.orbit.grid.period * j / 4294967296) (s.orbit.grid.period * (j + 1) / 4294967296) 0 l.entries

/-- Port p's pending list is for the next Orbit. -/
def State.glistDue (s : State) (p : Nat) : Bool :=
  match s.gpend p with
  | some l => (match l.start with | some o => decide (o ≤ s.orbit.next) | none => false)
  | none => false

/-- A swap ends the hold of a fault of code 1 to 6, where a write of `FAULT` has not ended it already (R160). -/
def State.swapFrees (s : State) (e : Nat) : Option Nat :=
  let E := s.eng e
  if E.held && s.rd (R.ENG_STAT_FCODE e) != 7 then some (E.resumeFrom.getD s.tb) else E.resumeFrom

/-- The pending lists of an octet's ports whose Orbit is the next one are swapped in, in one program (R184). -/
def State.takeGlists (s : State) : State :=
  (List.range 8).foldl (fun s e =>
    let ps := ((List.range 8).map fun m => 8 * e + m).filter s.glistDue
    if ps.isEmpty then s
    else (ps.foldl (fun s p => (s.setGlist p (s.gpend p)).setGpend p none) s).setEng e { s.eng e with bank := !(s.eng e).bank, compiled := true, first := true, resumeFrom := s.swapFrees e }) s

/-- `PEND` ends and `COMPILED` begins at O; a list without entries is gone. -/
def State.showGlists (s : State) : State :=
  (List.range 64).foldl (fun s p =>
    match s.glist p with
    | some l =>
      if l.start.getD s.orbit.start ≤ s.orbit.start then
        let s1 := (s.setBit (R.PORT_GLIST_PEND p) (s.gpend p).isSome).setBit (R.PORT_GLIST_COMPILED p) (!l.entries.isEmpty)
        if l.entries.isEmpty then s1.setGlist p none else s1
      else s
    | none => s) s

/-! ## The runs (R144, R145, R152 to R155) -/

/-- B (R145), with the ENG frequency in force. -/
def State.budget (s : State) : Nat :=
  let L := s.orbL.toNat
  let (n, d) := s.engHz
  (L * 9995 - 96 * 10000 * 4294967296) * n / (10000 * 4294967296 * d * 1000000)

/-- The link-up bits of ports lo to lo + n − 1. -/
def State.upBits (s : State) (lo n : Nat) : Nat := ((List.range n).map fun k => if s.portUp (lo + k) then 2 ^ k else 0).sum

/-- The values that GET returns, latched at the start of a run (R144, Table 5-12). -/
def State.latchInputs (s : State) (e : Nat) : Store Word :=
  let E := s.eng e
  let o := s.orbNum + 1
  let links : Nat × Nat := if e = 8 then (s.upBits 0 32, s.upBits 32 32) else (s.upBits (8 * e) 8, 0)
  [(0x00, .ofNat o), (0x01, .ofNat (o / 4294967296)), (0x02, .ofNat (s.rd R.ORB_PERIOD_NS_NS)), (0x03, .ofNat s.orbLen), (0x04, .ofNat e),
   (0x05, .ofNat s.mode.code), (0x06, .ofNat s.tstate.code), (0x07, .ofNat s.role.code),
   (0x08, flagsWord E.first E.ovr s.orbit.stretched (E.lastEpoch != none && E.lastEpoch != some s.orbDom.epoch)), (0x09, .ofNat s.orbDom.epoch),
   (0x0A, .ofNat links.1), (0x0B, .ofNat links.2)] ++
  ((List.range 8).map fun i => (0x10 + i, s.reg (A.ENG_HOSTIN e i))) ++
  ((List.range 8).map fun i => (0x18 + i, .ofNat ((s.reg (A.ENG_CAPT0 e i + 8)).toNat % 1073741824)))

/-- A run begins at address 0 of the active bank. -/
def State.beginRun (s : State) (e : Nat) : State :=
  let E := s.eng e
  let B := s.budget
  let s1 := s.wr (R.ENG_BUDGET_CYC e) B
  s1.setEng e { E with running := true, pc := 0, stack := [], cyc := 0, evts := 0, filling := [], puts := [], gSave := E.g, budget := B
                       inputs := s.latchInputs e, lastEpoch := some s.orbDom.epoch }

/-- A run of a compiled program: its list is complete well within its budget (R183). -/
def State.compiledRun (s : State) (e : Nat) : State :=
  let acts := (List.range 8).flatMap fun m => s.glistActs (8 * e + m) s.orbit.next
  let cyc := min s.budget (Config.compiledCyc s.freeCount)
  let s1 := (({ s with freeCount := s.freeCount + 1 }.wr (R.ENG_BUDGET_CYC e) s.budget).count (.eng e 0)).noteCyc e cyc
  s1.setEng e { s1.eng e with first := false, ovr := false, cyc := cyc, pendList := sortActs acts, lastEpoch := some s.orbDom.epoch }

/-- The value that `ENG_CTRL.EN` held 2 µs ago; it is ignored for the engine of a disabled octet (R155). -/
def State.enAt (s : State) (e : Nat) : Bool :=
  if e < 8 && s.octOff e then false
  else match (s.eng e).enLog.find? fun x => decide (x.1 + twoUs ≤ s.tb) with
    | some x => x.2
    | none => false

/-- The mode has been a forwarding mode for 2 µs. -/
def State.fwdLong (s : State) : Bool := match s.sys.fwdSince with | some t => decide (t + twoUs ≤ s.tb) | none => false

/-- Engine e starts or stops (R154, R155); none starts once OPEN_DEBUG has been accepted (R385). -/
def State.startStop (s : State) (e : Nat) : State :=
  let E := s.eng e
  let v := s.enAt e
  if E.started && !v then s.setEng e { E with started := false }
  else if !E.started && v && s.mode.fwd && s.fwdLong && !s.bit R.SEC_STAT_OPEN then s.setEng e { E with started := true, g := [], first := true }
  else s

/-- A swap requested at least 2 µs ago takes effect (R153); an engine that a fault of code 1 to 6 holds may resume (R160), and a compiled program gives way to what the other bank holds. -/
def State.swapAt (s : State) (e : Nat) : State :=
  let E := s.eng e
  match E.swap with
  | some t =>
    if t + twoUs ≤ s.tb then
      let s1 := s.setEng e { E with bank := !E.bank, first := true, swap := none, compiled := false
                                    resumeFrom := s.swapFrees e }
      if E.compiled then s1.dropGlists e else s1
    else s
  | none => s

/-- Engine e may run: a fault does not hold it, or held it until 2 µs ago. -/
def State.engReady (s : State) (e : Nat) : Bool :=
  match (s.eng e).resumeFrom with
  | some t => decide (t + twoUs ≤ s.tb)
  | none => !(s.eng e).held

/-- Engine e's run for the next Orbit begins, where R155 and Table 5-6 let it. -/
def State.runAt (s : State) (e : Nat) : State :=
  let E := s.eng e
  if !(E.started && s.engReady e && (s.mode.fwd || s.mode == .recover) && !(e < 8 && s.octPower e == 2)) then s
  else
    let s1 := s.setEng e { E with held := false, resumeFrom := none }
    if E.compiled then s1.compiledRun e else s1.beginRun e

/-- What engine e does at an Orbit start: the completed list is executed from now on, and the next run begins. -/
def State.engOrbit (s : State) (e : Nat) : State :=
  let E := s.eng e
  let s1 := s.setEng e { E with exec := E.pendList, pendList := [], sealed := false }
  ((s1.startStop e).swapAt e).runAt e

/-- A run that has not ended by the Orbit's end has overrun (R146). -/
def State.overrun (s : State) (e : Nat) : State :=
  if (s.eng e).running then
    (((s.abandonRun e (s.eng e).budget).count (.eng e 1)).setBit (R.ENG_STAT_OVR e) true)
  else s

/-! ## P3 (R350, R351) -/

/-- Octet o holds a designated timing port. -/
def State.timingOct (s : State) (o : Nat) : Bool := (List.range 8).any fun m => s.timingPort (8 * o + m)

/-- The conditions of R351. -/
def State.p3Ready (s : State) : Bool :=
  (s.mode == .free || s.mode == .acquire || s.mode == .locked || s.mode == .holdover) && !s.power.devExit &&
    decide (400 ≤ s.rd R.PWR_LTR_DEV_LTR) &&
    ((List.range 64).all fun p => !s.portUp p || s.timingPort p) &&
    ((List.range 8).all fun o => s.octOff o || s.timingOct o || decide (40 ≤ s.rd (R.PWR_LTR_OCT_LTR o))) &&
    s.voqs.all (fun x => x.2.q.isEmpty) && s.inters.all (fun x => x.2.cells.isEmpty) && decide (s.power.busyTb + 16000 ≤ s.tb)

/-- Octet o parks in P2: the list sealed for this Orbit is discarded, and a calibration run is aborted (R350). -/
def State.park (s : State) (o : Nat) : State :=
  let E := s.eng o
  let s1 := s.sampleDiscard o 6 (E.exec ++ E.pendList)
  let s2 := s1.setEng o { s1.eng o with exec := [], pendList := [], sealed := false, tagged := false }
  ({ s2 with power := { s2.power with exiting := s2.power.exiting.filter (· != o) } }.setOct o 2).calAbort o

/-- The device enters P3 and the mode becomes DOZE. -/
def State.p3Enter (s : State) : State :=
  if !s.p3Ready then s
  else
    let s1 := (List.range 8).foldl (fun s o => if s.octOff o || s.timingOct o then s else s.park o) s
    (s1.setBit R.PWR_STAT_P3 true).toMode .doze 0x16 0

/-! ## The Orbit start -/

/-- `FAB_ORBIT_SLOT`: the slot in progress and the CORE cycle within it. -/
def State.orbSlot (s : State) : State :=
  (s.wr R.FAB_ORBIT_SLOT_SLOT (s.slot % 64)).wr R.FAB_ORBIT_SLOT_CYCLE (min 31 ((s.tb - s.slotTb) * s.clk.core / 1000))

/-- An Orbit can start: TIME runs, and Orbit 0 has a start (R141). -/
def State.orbitsRun (s : State) : Bool := s.sys.timebase && (s.orbit.begun || s.mode.afterBoot)

/-- What is left of the Orbit that ends: its actions take effect, its runs end, and its time passes. -/
def State.orbitEnd (s : State) : State :=
  let s1 := s.flush.passTo s.orbit.grid.dom (s.orbit.next * 65536)
  (List.range 9).foldl State.overrun s1.prvSeqs

/-- The Orbit is numbered (R7), steps and grids take effect (R142, R197), and pending gate lists are timed anew after a step. -/
def State.orbitBegin (s : State) : State :=
  let n := if s.orbit.begun then s.orbNum + 1 else 0
  let s1 := { s with orbNum := n, orbit := { s.orbit with begun := true, start := s.orbit.next, startTb := s.tb } }.fireDue
  let stepped := (s1.stepDue s1.orbit.grid.dom).isSome && (s1.stepAt s1.orbit.grid.dom).1.orbDom.epoch != s1.orbDom.epoch
  let (s2, δ) := s1.stepsAt
  let s3 := (s2.anchor δ stepped s2.gridDue).fireStepped s1
  if stepped then s3.retime else s3

/-- LIST_SEAL: TIME passes to 64 ns before the next Orbit; the lists of runs that have ended are sealed (R145). -/
def State.listSeal (s : State) : State :=
  if !s.orbit.begun then s
  else
    let s1 := s.passTo s.orbit.grid.dom (s.orbit.next * 65536 - ((64 * nsUnit : Nat) : Int))
    (List.range 9).foldl (fun s e => if (s.eng e).running then s else s.setEng e { s.eng e with sealed := true }) s1

end Sys2Proof.Machine
end

