-- ==== Sys2Proof/Machine/Power.lean ====
section
/-! DEFINITION. The commands of clocks and power (R338 to R355). -/

namespace Sys2Proof.Machine

/-- An action that is a launch, or with `inj` an injection, on a port that `ports` admits. -/
def ActKind.starts (ports : Nat → Bool) (inj : Bool) : ActKind → Bool
  | .launch p _ => ports p
  | .inj p _ => inj && ports p
  | .gate _ _ _ | .sgate _ _ | .tout _ _ | .capt _ _ | .mark _ | .rswap => false

/-- A `LAUNCH`, with `inj` also an `INJ`, or an armed host launch slot on a port that `ports` admits is due within `ns` (R349, Table 12-6), as the executing and the sealed lists and the slots have it. -/
def State.startWithin (s : State) (ports : Nat → Bool) (ns : Nat) (inj : Bool) : Bool :=
  let soon (start : Int) (a : Act) : Bool := a.kind.starts ports inj && decide (actAt start a ≤ (s.orbDom.time : Int) + ((ns * nsUnit : Nat) : Int))
  (s.engines.any fun x => x.2.exec.any (soon s.orbit.start) || (x.2.sealed && x.2.pendList.any (soon s.orbit.next))) ||
  (s.regs.any fun x => x.2.getLsbD 31 && decide (A.HLS1 0 0 ≤ x.1) && decide (x.1 ≤ A.HLS1 63 3)) &&
    anyBelow 256 fun j => ports (j / 4) && s.bit (R.HLS1_ARM (j / 4) (j % 4)) &&
      decide (s.hlsTime (j / 4) (j % 4) ≤ (s.dom (s.rd (R.HLS1_DOM (j / 4) (j % 4)))).time + ns * nsUnit)

/-- What keeps octet o out of P1, or takes it out (R349): a tolerance below 2 µs, a frame received within the last 1 µs, a frame in its queues, or a start on its ports within 2 µs. -/
def State.p1Wakes (s : State) (o : Nat) : Bool :=
  decide (s.rd (R.PWR_LTR_OCT_LTR o) < 2) || decide (s.tb < storeGet (fun _ => 0) s.power.rxTb o + 1000) ||
    (List.range 64).any (fun k => !(s.egrQ (64 * o + k)).q.isEmpty) || s.startWithin (fun p => p / 8 == o) 2000 true

/-- OCTET_P1_ENTER: an octet that nothing keeps awake (R349). -/
def State.p1Enter (s : State) (o : Nat) : State :=
  let quiet := (List.range 64).all fun k =>
    (s.egrQ (64 * o + k)).q.isEmpty && (List.range 64).all fun d => (s.voq (voqKey (8 * o + k / 8) d (k % 8))).q.isEmpty
  let mc := (List.range 64).all fun k => (s.voq (mcKey (8 * o + k / 8) (k % 8))).q.isEmpty
  if s.mode.fwd && s.octPower o == 0 && !s.p1Wakes o && quiet && mc then s.setOct o 1 else s

def execOctetP1Enter (o : Fin 8) (s : State) : Host.Outcome State Fault Refusal := .next (s.p1Enter o)

/-- The exit of octet o from P1 begins where R349 calls for it. -/
def State.p1Exit (s : State) (o : Nat) : State := if s.octPower o = 1 && s.p1Wakes o then s.octExit o else s

def execOctetP1Exit (o : Fin 8) (s : State) : Host.Outcome State Fault Refusal := .next (s.p1Exit o)

/-- A start within 400 µs on a port that is not designated wakes the device (Table 12-6). -/
def State.timedWakes (s : State) : Bool := s.startWithin (fun p => !s.timingPort p) 400000 false

/-- P3_WAKE for event k of Table 12-6, in the order of the bits of `PWR_WAKE`; TIMED is an event only where such a start is due. -/
def execP3Wake (k : Fin 7) (s : State) : Host.Outcome State Fault Refusal :=
  .next (if k.val = 6 && !s.timedWakes then s else s.wake (2 ^ k.val))

/-- The frames in the receive store of octet o reach the ingress, in the order of their arrival (R349). -/
def State.takeHeld (s : State) (o : Nat) : State :=
  let mine := s.power.rxHeld.filter fun x => x.port.val / 8 == o
  let s1 := { s with power := { s.power with rxHeld := s.power.rxHeld.filter fun x => x.port.val / 8 != o } }
  mine.foldl (fun s x =>
    let s2 := { s with power := { s.power with rxAt := some x.tb } }.receiveNow x.port x.how x.frame x.ovf
    { s2 with power := { s2.power with rxAt := none } }) s1

/-- Octet o's exit completes, and what waited for it goes on. -/
def State.octWake (s : State) (o : Nat) : State :=
  if s.power.exiting.contains o then (s.octExitDone o).takeHeld o else s

/-- The device has left P3: DOCK follows where it was asked for in DOZE (Table 2-9). -/
def State.devExitDone (s : State) : State :=
  if !s.power.devExit then s
  else
    let s1 := { s with power := { s.power with devExit := false, modeNext := none } }
    let s2 := if s1.power.exiting.any (fun k => s1.octPower k == 2) then s1 else s1.setBit R.PWR_STAT_EXITING false
    match s.power.modeNext with
    | some (.dock, cause, detail) => s2.toDock cause detail
    | _ => s2

/-- TIME passes to the end of the exit of octet o, or of the device for 8. -/
def State.exitTo (s : State) (o : Nat) : State := if s.exitEnd o ≤ s.tb then s else s.goTo (s.exitEnd o)

/-- POWER_EXIT_COMPLETE of an octet, or of the device where none is named: TIME passes to the end of the latency of Table 12-5 (R345, R348). -/
def execPowerExitComplete (o : Option (Fin 8)) (s : State) : Host.Outcome State Fault Refusal :=
  .next (match o with
    | some o => if s.power.exiting.contains o.val then (s.exitTo o).octWake o else s
    | none => if s.power.devExit then (s.exitTo 8).devExitDone.mbPoll else s)

/-- What the power controller does by itself now, if anything: an exit that has taken its latency completes, an octet leaves or enters P1, or the device leaves P3 for a start that comes due (R345, R349, Table 12-6). -/
def State.powerActs (s : State) : Option State :=
  if s.power.devExit && decide (s.exitEnd 8 ≤ s.tb) then some s.devExitDone.mbPoll
  else if s.mode == .doze && s.timedWakes then some (s.wake 64)
  else (List.range 8).findSome? fun o =>
    if s.power.exiting.contains o then (if s.exitEnd o ≤ s.tb then some (s.octWake o) else none)
    else if s.octPower o == 1 then (if s.p1Wakes o then some (s.octExit o) else none)
    else if decide (2 ≤ s.rd (R.PWR_LTR_OCT_LTR o)) && (s.p1Enter o).octPower o == 1 then some (s.p1Enter o) else none

def execArbiterGrant (s : State) : Host.Outcome State Fault Refusal := .next s.arbGrant

/-- LANE_TRAINING_FAIL: the lane gives up its grant (R354). -/
def execLaneTrainingFail (l : Fin 64) (s : State) : Host.Outcome State Fault Refusal :=
  .next (if s.power.trainGrant.contains l.val then s.trainDone l else s)

def execLvfCtrlWrite (v : Word) (s : State) : Host.Outcome State Fault Refusal := .next (s.lvfWrite v)

/-- LVF_ACK: a write whose `ACK` is 0 confirms nothing. -/
def execLvfAck (v : Word) (s : State) : Host.Outcome State Fault Refusal := .next (if v.getLsbD 0 then s.lvfAck else s)

def execClkobsCfgWrite (v : Word) (s : State) : Host.Outcome State Fault Refusal := .next (s.clkobsWrite v)

def execCoreClockRestart (s : State) : Host.Outcome State Fault Refusal := .next s.coreRestart

end Sys2Proof.Machine
end

