-- ==== Sys2Proof/Machine/Twin.lean ====
section
/-! DEFINITION. The commands of the twin and of proving (R308 to R329). -/

namespace Sys2Proof.Machine

/-- TWIN_RECORD_RECEIVE: a record of Table 11-2 on lane TWl, with the TDC code of its edge. -/
def execTwinRecordReceive (l : Fin 2) (code : BitVec 12) (r : TwinRec) (s : State) : Host.Outcome State Fault Refusal :=
  .next (s.recordHear l code.toNat r)

def execClaimFrameReceive (b : BitVec 40) (s : State) : Host.Outcome State Fault Refusal := .next (s.pinHear b)

/-- CLAIM_PIN_LOSS: no transition for 4 µs (R37); the next judgement takes it up (R313). -/
def execClaimPinLoss (s : State) : Host.Outcome State Fault Refusal :=
  .next ({ s with twin := { s.twin with pinReport := true } }.setBit R.TW_STAT_PINS false)

def execTwinJudge (s : State) : Host.Outcome State Fault Refusal := .next s.judge
def execTwinJoinTimeout (tie : Option Bool) (s : State) : Host.Outcome State Fault Refusal := .next (s.joinTimeout tie)
def execRevertHoldExpire (s : State) : Host.Outcome State Fault Refusal := .next s.revertDue
def execOrphanHoldExpire (s : State) : Host.Outcome State Fault Refusal := .next s.orphanRaise
def execTwinSlotExpire (s : State) : Host.Outcome State Fault Refusal := .next s.slotExpire
def execClfSlotExpire (g : Fin 8) (prv : Bool) (s : State) : Host.Outcome State Fault Refusal := .next (s.clfExpire g prv)
def execTimingExchangeSend (s : State) : Host.Outcome State Fault Refusal := .next s.timingSend

def execProvingScheduleDue (s : State) : Host.Outcome State Fault Refusal := .next s.prvDue
def execProvingSkipped (s : State) : Host.Outcome State Fault Refusal := .next s.prvSkip
def execProvingStepEnd (s : State) : Host.Outcome State Fault Refusal := .next s.prvStepEnd
def execClaimStepTimeout (s : State) : Host.Outcome State Fault Refusal := .next s.claimTimeout

end Sys2Proof.Machine
end

