-- ==== Sys2Proof/Machine/RegOps.lean ====
section
/-! DEFINITION. A write of a register word as its table gives it (R13), whoever writes: the plain effect on its RW and W1C bits, and for each register whose rule gives a write more than that, the rule's effect. MBUS requests and mailbox register items both come here. -/

namespace Sys2Proof.Machine

/-- The plain effect of writing `v` to the bits of `m`: RW bits take the value, W1C bits written with 1 clear, the rest stay (R13). -/
def State.putReg (s : State) (a : Nat) (m v : Word) : State :=
  match findDesc a with
  | none => s
  | some d =>
    let rw := BitVec.ofNat 32 d.rw &&& m
    let clr := BitVec.ofNat 32 d.w1c &&& m &&& v
    let w := s.reg a
    s.setReg a (((w &&& ~~~rw) ||| (v &&& rw)) &&& ~~~clr)

/-- The word that a write of the bits of `m` leaves for a register's own rule to judge. -/
def State.merged (s : State) (a : Nat) (m v : Word) : Word := (s.reg a &&& ~~~m) ||| (v &&& m)

/-- Judge some lines. -/
def State.syncVecs (s : State) (l : List Nat) : State := l.foldl State.syncVec s

/-- `EVL_RD` moves to the oldest entry held while more than 4096 stand unread (R387). -/
def State.evlRdMove (s : State) : State :=
  if 4096 < (s.rd R.EVL_HEAD_INDEX + 4294967296 - s.rd R.EVL_RD_INDEX) % 4294967296 then
    s.wr R.EVL_RD_INDEX s.evlOldest
  else s

/-- Empty the MBUS error log (Table 15-6). -/
def State.mbeClear (s : State) : State :=
  (List.range 32).foldl (fun s k => s.setReg (A.MBE_ENT0 0 + 4 * k) 0) (s.setReg A.MBE_STAT 0)

/-- A write of `GLB_IREARM`: every vector named sends its message again while its line is 1 (R418). -/
def State.rearm (s : State) (base : Nat) (v : Word) : State :=
  (List.range 32).foldl (fun s k => if v.getLsbD k && s.line (base + k) then s.deliver (base + k) else s) s

/-- Writes to the global block (Table 15-4). -/
def State.writeGlb (s : State) (a : Nat) (m v : Word) : State :=
  if a = A.GLB_RESET then s.resetWrite (v &&& m)
  else if a = A.EVL_RD then (s.putReg a m v).evlRdMove
  else if a = A.MBE_CLR then (if (v &&& m).getLsbD 0 then s.mbeClear else s)
  else if a = A.GLB_IREARM_LO then s.rearm 0 (v &&& m)
  else if a = A.GLB_IREARM_HI then s.rearm 32 (v &&& m)
  else if a = A.GLB_ISRC || a = A.GLB_IEN then (s.putReg a m v).syncVecs [1, 2, 3, 48, 49, 50, 51, 52, 53, 54, 55, 56]
  else s.putReg a m v

/-- A write of one of a counter's words: the lowest sets it, the higher is held, and a counter of one word has no higher one (R395). -/
def State.writeCtr (s : State) (a : Nat) (m v : Word) : State :=
  match Ctr.at a with
  | some c => s.ctrWriteLow c (s.merged a m v)
  | none =>
    match Ctr.at (a - 4) with
    | some c => if c.hiBits = 0 then s.putReg a m v else s.ctrHold c (v &&& m)
    | none => s.putReg a m v

/-- The word after the lowest of a 32-bit counter of a port reads 0 and takes no write (R393). -/
def noHigh (a : Nat) : Bool := match Ctr.at (a - 4) with | some c => c.hiBits == 0 | none => false

/-- Writes to an octet's region (Table 15-3). -/
def State.writeOct (s : State) (a : Nat) (m v : Word) : State :=
  let o := (a - 0x1000000) / 0x100000
  let off := a % 0x100000
  let p := 8 * o + (if 0x8000 ≤ off then (off - 0x8000) / 0x800 else if 0x4000 ≤ off && off < 0x5000 then (off - 0x4000) / 0x40 else off % 0x1000 / 0x100) % 8
  if off / 0x100 != 0x28 && s.absent p then s
  else if 0x8000 ≤ off then (if noHigh a then s else s.writeCtr a m v)
  else if 0x5000 ≤ off then
    let s1 := (s.putReg a m v).syncVec (32 + o)
    if a = A.PTP_PORT p && !s1.bit (R.PTP_PORT_FINE p) then s1.trackerReset p else s1
  else if 0x4000 ≤ off then
    let k := off % 0x40 / 0x10
    let w := off % 0x10 / 4
    if w = 1 then s.hlsWrite p k (s.merged a m v)
    else if w ≠ 3 && s.bit (R.HLS1_ARM p k) then s
    else s.putReg a m v
  else if 0x3000 ≤ off then (s.setShaper (8 * p + off % 0x100 / 0x20) (s.credits p (off % 0x100 / 0x20))).putReg a m v
  else if a = A.PORT_PREEMPT p then
    let s1 := s.putReg a m v
    if s1.rd (R.PORT_PREEMPT_EN p) ≠ s.rd (R.PORT_PREEMPT_EN p) || s1.rd (R.PORT_PREEMPT_VERIFY_DIS p) ≠ s.rd (R.PORT_PREEMPT_VERIFY_DIS p) then s1.mmVerify p else s1
  else if off < 0x2800 && 0x40 ≤ off % 0x100 && off % 0x100 < 0xC0 then (s.putReg a m v).xoffScan o
  else s.putReg a m v

/-- Writes to the fabric's region: a bank swap request, and the reservation banks, of which the active one takes no write (R99, Table 3-12). -/
def State.writeFab (s : State) (a : Nat) (m v : Word) : State :=
  if a = A.FAB_CTRL then (if (v &&& m).getLsbD 0 then s.rsvRequest else s)
  else if 0x2001000 ≤ a && a < 0x2009000 && (a - 0x2001000) / 0x4000 = s.rd R.FAB_CTRL_RSV_ACTIVE then s
  else s.putReg a m v

/-- Writes to the stream region: a context's fills are brought up to now before its settings change, and a context made valid starts full (R134, R135). -/
def State.writeStr (s : State) (a : Nat) (m v : Word) : State :=
  if 0x2280000 ≤ a && a < 0x22C0000 then
    let x := (a - 0x2280000) / 0x20
    let s1 := (s.setBucket x (s.refill x)).putReg a m v
    if s1.bit (R.CTX0_VALID x) && !s.bit (R.CTX0_VALID x) then s1.bucketFull x else s1
  else if (0x2300000 ≤ a && a < 0x2380000) || 0x2480000 ≤ a then s.writeCtr a m v
  else s.putReg a m v

/-- Writes to a domain's registers (R193, R201, R215). -/
def State.writeDom (s : State) (d : Nat) (a : Nat) (m v : Word) : State :=
  let r := a % 0x100
  let s1 :=
    if r = 0x20 then s.rateLoWrite d (v &&& m)
    else if r = 0x24 then s.rateHiWrite d (v &&& m)
    else if r = 0x44 then s.stepReqWrite d (s.merged a m v)
    else if r = 0x40 || r = 0x48 then (if s.loopOpen d then s.putReg a m v else s.ignoreWrite d)
    else s.putReg a m v
  s1.syncVec (16 + d)

/-- Writes to the time domain region (R214). -/
def State.writeTim (s : State) (a : Nat) (m v : Word) : State :=
  if a < 0x2801000 then s.writeDom (a % 0x1000 / 0x100 % 8) a m v
  else if a = A.TB_SNAP then (if (v &&& m).getLsbD 0 then s.snapRequest else s)
  else if 0x2810000 ≤ a && a < 0x2810200 then
    let p := a % 0x200 / 0x40
    let s1 := s.putReg a m v
    if a % 0x40 < 0x14 then s1.setTout p { s1.tout p with write := some s.tb } else s1
  else if 0x2820000 ≤ a && a < 0x2820200 then (s.putReg a m v).calPinTaken.syncVec (40 + a % 0x200 / 0x40)
  else if 0x2830000 ≤ a && a < 0x2830100 then
    let k := a % 0x100 / 0x10
    let w := a % 0x10 / 4
    if w = 1 then s.trgWrite k (s.merged a m v)
    else if !s.bit (R.TRG1_ARM k) then (s.putReg a m v).syncVec 9
    else if w = 3 then (s.putReg a (m &&& 7) v).syncVec 9
    else s
  else s.putReg a m v

/-- A write of `IVL_CFG`: it acts after the edges that came before it, and one that leaves `EN` at 0 drops unpaired edges (Table 9-7); a pin that it takes ends a run on that pin's channel (R267). -/
def State.ivlCfgWrite (s : State) (u : Nat) (m v : Word) : State :=
  let s1 := ((s.ivlTake u).ivlDrop u).putReg (A.IVL_CFG u) m v
  if s1.bit (R.IVL_CFG_EN u) then s1.calPinTaken else s1.setIvl u { s1.ivl u with start := none, stop := none }

/-- Writes to the TDC region (R273); with a new `CAL_DT` more channels may be pending (R261). -/
def State.writeTdc (s : State) (a : Nat) (m v : Word) : State :=
  if 0x3000E00 ≤ a && a < 0x3000E80 && a % 0x20 = 0 then s.ivlCfgWrite (a % 0x80 / 0x20) m v
  else if 0x3000E00 ≤ a && a < 0x3000E80 && a % 0x20 = 4 then ((s.ivlTake (a % 0x80 / 0x20)).ivlDrop (a % 0x80 / 0x20)).putReg a m v
  else if a = A.TDC_CALCFG then (List.range 9).foldl State.calScan (s.putReg a m v)
  else if 0x3001000 ≤ a && a < 0x3001A80 then (s.putReg a m v).syncVec 8
  else s.putReg a m v

/-- A write of `REF_CCFG`: a slot disabled or given another kind or source starts anew as a candidate (R278, R280). -/
def State.ccfgWrite (s : State) (d k : Nat) (m v : Word) : State :=
  let s1 := s.putReg (A.REF_CCFG d k) m v
  let same := s1.bit (R.REF_CCFG_EN d k) && s1.ckind d k == s.ckind d k && s1.csrc d k == s.csrc d k
  if same || !s.bit (R.REF_CCFG_EN d k) then s1 else (s1.wr (R.REF_CSTAT_STATE d k) 0).setCand d k {}

/-- Writes to the reference selection region (R297): a new `BO_RATE` acts on what remains of a build-out (R286). -/
def State.writeRef (s : State) (a : Nat) (m v : Word) : State :=
  let r := (a - 0x3801000) % 0x400
  let d := (a - 0x3801000) / 0x400 % 8
  let s1 :=
    if 0x3801000 ≤ a && r = 0x1C then (s.setRef d { s.ref d with bo := s.buildOut d, boTb := s.tb }).putReg a m v
    else if 0x3801000 ≤ a && 0x100 ≤ r && r < 0x300 && (r - 0x100) % 0x20 = 0 then s.ccfgWrite d ((r - 0x100) / 0x20) m v
    else s.putReg a m v
  if a < 0x3801000 then s1.syncVec 4 else s1.syncVec (24 + (a - 0x3801000) / 0x400 % 8)

/-- Writes to the twin and proving region: `TW_CFG.EN` changes only in DOCK (Table 11-9). -/
def State.writeTwn (s : State) (a : Nat) (m v : Word) : State :=
  if a = A.TW_CFG then s.putReg a (if s.mode = .dock then m else m &&& 0xFFFFFFFE) v
  else (s.putReg a m v).syncVec 5

/-- A write of the grid registers: in DOCK only, to take effect at a later Orbit start; elsewhere it is ignored and sets `ORB_STAT.WIGN` (R143). -/
def State.gridWrite (s : State) (a : Nat) (m v : Word) : State :=
  if s.mode = .dock then
    let s1 := s.putReg a m v
    { s1 with orbit := { s1.orbit with gridWrite := some s1.tb } }
  else s.setBit R.ORB_STAT_WIGN true

/-- A write of `ENG_CTRL`: a change of `EN` is noted with its instant (R155). -/
def State.engCtrlWrite (s : State) (e : Nat) (m v : Word) : State :=
  let s1 := s.putReg (A.ENG_CTRL e) m v
  if s1.bit (R.ENG_CTRL_EN e) = s.bit (R.ENG_CTRL_EN e) then s1
  else s1.setEng e { s1.eng e with enLog := (s1.tb, s1.bit (R.ENG_CTRL_EN e)) :: (s1.eng e).enLog }

/-- A write of `ENG_STAT`: `FAULT` and `OVR` clear (R160, Table 5-15). -/
def State.engStatWrite (s : State) (e : Nat) (m v : Word) : State :=
  let s1 := s.putReg (A.ENG_STAT e) (m &&& 8) v
  if (v &&& m).getLsbD 2 then s1.faultClear e else s1

/-- Writes to the orbit region: the active bank of an engine takes none (R152). -/
def State.writeOrb (s : State) (a : Nat) (m v : Word) : State :=
  if a ≤ A.ORB_ALIGN_FRAC then s.gridWrite a m v
  else if a = A.ENG_SWAP then (List.range 9).foldl (fun s e => if (v &&& m).getLsbD e then s.swapReq e else s) s
  else if 0x5001000 ≤ a && a < 0x5001900 then
    let e := a % 0x1000 / 0x100
    if a % 0x100 = 0 then s.engCtrlWrite e m v
    else if a % 0x100 = 4 then s.engStatWrite e m v
    else if 0xC0 ≤ a % 0x100 then s.writeCtr a m v
    else s.putReg a m v
  else if 0x5100000 ≤ a then
    if (s.eng ((a - 0x5100000) / 0x10000)).bank = a.testBit 15 then s else s.putReg a m v
  else s.putReg a m v

/-- Writes to the counter hub's region (R405). -/
def State.writeHub (s : State) (a : Nat) (m v : Word) : State :=
  if a = A.SMP_CFG then s.smpWrite (s.merged a m v) else (s.putReg a m v).syncVec 7

/-- Writes to the power and clock region (R356). -/
def State.writePwr (s : State) (a : Nat) (m v : Word) : State :=
  if a = A.CLK_CFG then
    let s1 := s.putReg a m v
    { s1 with clk := { s1.clk with divWrite := some s1.tb } }
  else if a = A.CLKOBS_CFG then s.clkobsWrite (s.merged a m v)
  else if 0x7000100 ≤ a && a < 0x7000120 then (s.putReg a m v).ltrOct (a % 0x20 / 4)
  else if a = A.PWR_LTR_DEV then (s.putReg a m v).ltrDev
  else if a = A.LVF_CTRL then s.lvfWrite (s.merged a m v)
  else if a = A.LVF_ACK then (if (v &&& m).getLsbD 0 then s.lvfAck else s)
  else (s.putReg a m v).syncVec 6

/-- A write of a vector's control word: unmasking sends the message that is pending (R419). -/
def State.msixCtlWrite (s : State) (k : Nat) (a : Nat) (m v : Word) : State :=
  let s1 := s.putReg a m v
  if s1.bit (pbaFld k) && !s1.bit (maskFld k) then s1.deliver k else s1

/-- Writes to BAR4 but for the doorbell and the acknowledgement: the request buffer takes none while `REQ_BUSY` is 1 (R376, Table 13-12). -/
def State.writeBar4 (s : State) (a : Nat) (m v : Word) : State :=
  if 0x8001000 ≤ a && a < 0x8002000 then (if s.bit R.MB_STATUS_REQ_BUSY then s else s.setReg a (s.merged a m v))
  else if 0x8003000 ≤ a && a < 0x8003400 && a % 0x10 = 0xC then s.msixCtlWrite (a % 0x400 / 0x10) a m v
  else (s.putReg a m v).syncVec 0

/-- The effect of a write by the region of its address. -/
def State.writeAt (s : State) (a : Nat) (m v : Word) : State :=
  if a < 0x1000000 then s.writeGlb a m v else if a < 0x1800000 then s.writeOct a m v
  else if a < 0x2200000 then s.writeFab a m v else if a < 0x2800000 then s.writeStr a m v
  else if a < 0x3000000 then s.writeTim a m v else if a < 0x3800000 then s.writeTdc a m v
  else if a < 0x4000000 then s.writeRef a m v else if a < 0x5000000 then s.writeTwn a m v
  else if a < 0x6000000 then s.writeOrb a m v else if a < 0x7000000 then s.writeHub a m v
  else if a < 0x8000000 then s.writePwr a m v else s.writeBar4 a m v

/-- A write has something to change in the word: a write of read-only bits is ignored (R13). -/
def writable (a : Nat) (m : Word) : Bool :=
  match findDesc a with
  | some d => (BitVec.ofNat 32 (d.rw ||| d.w1c) &&& m) != 0
  | none => false

/-- A write of the bits of `m` of the register at `a` (R13); what a read had latched of a word that it changes is not what the word holds now. -/
def State.regWrite (s : State) (a : Nat) (m v : Word) : State :=
  let s1 := s.writeAt a m v
  if !writable a m then s1
  else { s1 with bus := { s1.bus with words := storeSet (fun _ => none) s1.bus.words a none } }

end Sys2Proof.Machine
end

