-- ==== Sys2Proof/Machine/Live.lean ====
section
/-! DEFINITION. What a register word reads as now: the stored word with the fields that other state gives put in (the tables' RO fields), and the groups of words that the read of their first word latches (R163, R214, R246, R273, R296). -/

namespace Sys2Proof.Machine

/-- A signed value as a 32-bit word, saturating. -/
def sat32Word (v : Int) : Word := BitVec.ofInt 32 (max (-2147483648) (min 2147483647 v))

/-- A flag's bit. -/
def flag (b : Bool) : Nat := if b then 1 else 0

/-- Half of the lines as a word, `GLB_ISTAT`. -/
def State.lineWord (s : State) (base : Nat) : Word :=
  .ofNat ((List.range 32).foldl (fun n k => if s.line (base + k) then n + 2 ^ k else n) 0)

/-- The hottest sensor, the lowest of equals. -/
def State.hottest (s : State) : Nat := (List.range 9).foldl (fun b k => if s.temp b < s.temp k then k else b) 0

/-- `GLB_TEMP` (Table 15-8). -/
def State.tempWord (s : State) : Word :=
  .ofNat ((BitVec.ofInt 10 (s.temp s.hottest)).toNat + 4096 * s.hottest + 65536 * flag s.sys.alarm)

/-- Words of the global block that other state gives. -/
def State.liveGlb (s : State) (a : Nat) : Word :=
  let w := s.reg a
  if a = A.GLB_MODE then R.GLB_MODE_STRAP_WAIT.put s.glbMode (flag (s.mode == .strap && !s.sys.refQual))
  else if a = A.SEC_STAT then R.SEC_STAT_DEBUG_LOCK.put w (flag Config.debugLock)
  else if a = A.REPAIR_DIE then Config.dieTag
  else if a = A.KEY_STAT then .ofNat ((List.range 32).foldl (fun n k => if storeGet (fun _ => []) s.keys k = [] then n else n + 2 ^ k) 0)
  else if a = A.KEY_BIND then .ofNat s.binds.length
  else if a = A.GLB_ISTAT_LO then s.lineWord 0
  else if a = A.GLB_ISTAT_HI then s.lineWord 32
  else if a = A.GLB_TEMP then s.tempWord
  else w

/-- `PTP_PSTAT` (Table 8-9). -/
def State.pstatWord (s : State) (p : Nat) : Word :=
  let w := s.reg (A.PTP_PSTAT p)
  let w := (R.PTP_PSTAT_TX_CLAMP p).put w (flag (s.txClamp p))
  let w := (R.PTP_PSTAT_COARSE p).put w (flag (s.portCoarse p))
  match s.echoOf p with
  | some c => (R.PTP_PSTAT_ECHO p).put ((R.PTP_PSTAT_ECHO_V p).put w 1) c.toNat
  | none => (R.PTP_PSTAT_ECHO p).put ((R.PTP_PSTAT_ECHO_V p).put w 0) 0

/-- Words of an octet that other state gives. -/
def State.liveOct (s : State) (a : Nat) : Word :=
  let o := (a - 0x1000000) / 0x100000
  let off := a % 0x100000
  let p := 8 * o + off % 0x1000 / 0x100 % 8
  let w := s.reg a
  if off = 0x2800 then (R.POOL_STAT_FREE o).put w (s.poolFree o)
  else if off = 0x2804 then
    .ofNat (s.sharedFree o % 65536 + 65536 * min 32767 (s.poolReserved o) + 2147483648 * flag (s.overcommit o))
  else if 0x2000 ≤ off && off < 0x2800 then
    let c := (off % 0x100 - 0x40) / 0x10
    if a = A.PORT_PREEMPT p then (R.PORT_PREEMPT_ACTIVE p).put ((R.PORT_PREEMPT_STATUS p).put w (s.mmStatus p)) (flag (s.mmActive p))
    else if a = A.PORT_GSTAT p then (R.PORT_GSTAT_SUSP p).put w (flag (s.egr p).susp.isSome)
    else if 0x40 ≤ off % 0x100 && off % 0x100 < 0xC0 && off % 0x10 = 8 then
      let k := s.acct (acctKey p c)
      .ofNat (k.used % 65536 + 65536 * (k.hdr % 8192) + 2147483648 * flag ((s.egr p).xoff.testBit c))
    else w
  else if 0x3000 ≤ off && off < 0x4000 then
    let c := off % 0x100 / 0x20
    if off % 0x20 = 0x14 then BitVec.ofInt 32 ((s.credits p c).c / (creditUnit : Int))
    else if off % 0x20 = 0x18 then BitVec.ofInt 32 ((s.credits p c).p / (creditUnit : Int))
    else w
  else if 0x5000 ≤ off && off < 0x5800 then
    if a = A.PTP_PSTAT p then s.pstatWord p
    else if a = A.PTP_MPD_NS p || a = A.PTP_MPD_FRAC p then (if s.mpdOff p then 0 else w)
    else if a = A.TSQ_STAT p then (R.TSQ_STAT_COUNT p).put w (s.egr p).tsq.length
    else w
  else w

/-- The identification entries in use, `ST_STAT.SID_USED`: those with `VALID` and a `KIND` that Table 4-7 does not make unused. -/
def State.sidUsed (s : State) : Nat :=
  (s.regs.filter fun x => 0x2200000 ≤ x.1 && x.1 < 0x2280000 && x.1 % 0x20 == 0 && x.2.getLsbD 31 &&
    decide (1 ≤ x.2.toNat % 8) && decide (x.2.toNat % 8 ≤ 5)).length

/-- A change of the stream tables. -/
def Change.stream : Change → Bool
  | .commit => true
  | _ => false

/-- Words of the fabric and stream regions that other state gives. -/
def State.liveFab (s : State) (a : Nat) : Word :=
  let w := s.reg a
  if a = A.FAB_SLOT then .ofNat (s.slot % 64 + 64 * (s.slot / 64 % 67108864))
  else if a = A.FAB_STAT then
    match s.repairs.find? fun x => repKind x == 3 with
    | some x => R.FAB_STAT_SPARE_FOR.put (R.FAB_STAT_SPARE_USED.put w 1) (repIndex x)
    | none => w
  else if a = A.ST_STAT then
    R.ST_STAT_COMMIT_PEND.put (R.ST_STAT_SID_USED.put w s.sidUsed) (flag (s.txns.any fun t => t.changes.any Change.stream))
  else if 0x22C0000 ≤ a && a < 0x2300000 then
    let x := (a - 0x22C0000) / 0x10
    if a % 0x10 = 0 then .ofNat ((s.bucket x).c / fillUnit) else if a % 0x10 = 4 then .ofNat ((s.bucket x).p / fillUnit) else w
  else w

/-- `DOM_STAT`, with the fields that the domain gives. -/
def State.domStat (s : State) (d : Nat) : Word :=
  let w := s.reg (A.DOM_STAT d)
  let w := (R.DOM_STAT_STEP_PEND d).put w (flag (s.dom d).step.isSome)
  let w := (R.DOM_STAT_SLEWING d).put w (flag ((s.dom d).slewRem != 0))
  (R.DOM_STAT_LOCKED_SEEN d).put w (flag (s.dom d).lockedSeen)

/-- A word of `DOM_STEPREQ` reads as the pending step, and as written while none is pending (DEDUCED, log entry 32). -/
def State.stepReqWord (s : State) (d a : Nat) : Word :=
  match (s.dom d).step with
  | none => s.reg a
  | some (δ, _) =>
    let m := δ.natAbs
    if a = A.DOM_STEPREQ_SEC_LO d then .ofNat (timeSec m)
    else if a = A.DOM_STEPREQ_NS d then .ofNat (timeNs m)
    else .ofNat (timeSec m / 4294967296 % 65536 + 1073741824 * flag (decide (δ < 0)))

/-- Words of a domain's registers. -/
def State.liveDom (s : State) (d a : Nat) : Word :=
  let D := s.dom d
  let r := a % 0x100
  let rate := (BitVec.ofInt 48 (D.rateNext.getD D.rate)).toNat
  if r < 0x10 then (timeWords D.time).getD (r / 4) 0
  else if r = 0x10 then .ofNat (D.sf / nsUnit)
  else if r = 0x14 then .ofNat (D.sf / nsUnit / 4294967296)
  else if r = 0x18 then .ofNat D.epoch
  else if r = 0x20 then .ofNat D.lowHalf
  else if r = 0x24 then .ofNat (rate / 4294967296)
  else if r = 0x2C then (R.DOM_CTRL_HOSTLOOP d).put (s.reg a) (flag D.hostLoop)
  else if r = 0x30 then s.domStat d
  else if r = 0x34 then sat32Word (Int.tdiv D.slewRem (nsUnit : Int))
  else if 0x40 ≤ r && r ≤ 0x48 then s.stepReqWord d a
  else s.reg a

/-- `TOUT_STAT` (Table 7-8). -/
def State.toutStat (s : State) (p : Nat) : Word :=
  let X := s.tout p
  let w := s.reg (A.TOUT_STAT p)
  let w := (R.TOUT_STAT_LVL p).put w (flag (X.cfg.out X.level == some true))
  let w := (R.TOUT_STAT_MUTED p).put w (flag (s.muted p))
  (R.TOUT_STAT_BADCFG p).put w (flag (X.cfg.mode == 4 && freqBad X.cfg))

/-- Words of the time domain region that other state gives. -/
def State.liveTim (s : State) (a : Nat) : Word :=
  let w := s.reg a
  if a < 0x2800800 then s.liveDom (a % 0x1000 / 0x100) a
  else if a = A.TB_CYC_LO then .ofNat s.tb
  else if a = A.TB_CYC_HI then .ofNat (s.tb / 4294967296)
  else if 0x2810000 ≤ a && a < 0x2810200 then (if a % 0x40 = 0x14 then s.toutStat (a % 0x200 / 0x40) else w)
  else if 0x2820000 ≤ a && a < 0x2820200 then
    let p := a % 0x200 / 0x40
    let r := a % 0x40
    if r = 4 then (R.TIN_STAT_PIN p).put ((R.TIN_STAT_COUNT p).put w (s.tin p).queue.length) (flag (s.tin p).pin)
    else if 0x10 ≤ r && r < 0x20 then (tinWords (s.tin p).queue.head?).getD ((r - 0x10) / 4) 0
    else w
  else w

/-- Words of the TDC region that other state gives. -/
def State.liveTdc (s : State) (a : Nat) : Word :=
  let w := s.reg a
  if 0x3001000 ≤ a && a < 0x3001A80 then
    let c := (a - 0x3001000) / 0x20
    if a % 0x20 = 0 then
      let w1 := (R.TDC_CHSTAT_STALE c).put w (flag (s.calStale c))
      if c < 64 && s.absent c && (R.TDC_CHSTAT_STATE c).get w == 0 then (R.TDC_CHSTAT_STATE c).put w1 5 else w1
    else if a % 0x20 = 8 then (R.TDC_CHCRC_CRC c).put w (binCrc (s.binTable c))
    else w
  else if 0x3010000 ≤ a then .ofNat (s.bin ((a - 0x3010000) / 0x800) (a % 0x800 / 4))
  else w

/-- Words of the reference selection region that other state gives. -/
def State.liveRef (s : State) (a : Nat) : Word :=
  let w := s.reg a
  if a = A.REF_GLB then R.REF_GLB_LIMSET.put (R.REF_GLB_HQUAL.put w (flag s.hqual)) s.limset
  else if a < 0x3801000 then w
  else
    let d := (a - 0x3801000) / 0x400 % 8
    let r := a % 0x400
    if r = 0x20 then
      let w := (R.REF_DSTAT_STATE d).put w (s.dom d).tstate.code
      let w := (R.REF_DSTAT_UNQUAL d).put w (flag ((s.dom d).tstate == .holdover && (s.dom d).unqual))
      let w := (R.REF_DSTAT_GATED d).put w (flag (s.servoGated d))
      (R.REF_DSTAT_BW_EFF d).put w (s.bwEff d)
    else if r = 0x38 then sat32Word (s.buildOutNs d)
    else if r = 0x3C then let (c, acc, v) := s.adv d; .ofNat (c % 256 + 256 * (acc % 256) + 65536 * (v % 65536))
    else if 0x100 ≤ r && r < 0x300 then
      let k := (r - 0x100) / 0x20
      if r % 0x20 = 0xC then
        let w := (R.REF_CSTAT_COARSE d k).put w (flag (s.ccoarse d k))
        let w := (R.REF_CSTAT_FONLY d k).put w (flag (s.fOnly d k))
        if !s.bit (R.REF_CCFG_EN d k) then w
        else (R.REF_CSTAT_RACC d k).put ((R.REF_CSTAT_RCLASS d k).put w (s.cqual d k).1) (s.cacc d k)
      else if r % 0x20 = 0x14 then sat32Word (s.cfreq d k)
      else if r % 0x20 = 0x18 then sat32Word ((s.cand d k).theta / 65536)
      else if r % 0x20 = 0x1C then .ofNat ((s.cand d k).theta % 65536).toNat
      else w
    else w

/-- Words of the twin region that other state gives. -/
def State.liveTwn (s : State) (a : Nat) : Word :=
  let w := s.reg a
  if a = A.TW_STAT then
    R.TW_STAT_HEARD.put (R.TW_STAT_HOLDS.put (R.TW_STAT_ROLE.put w s.role.code) (flag s.holdsClaim)) (flag s.twinSlot.isSome)
  else if a = A.TW_CLAIM then R.TW_CLAIM_TWIN.put w (s.twinSlot.getD 0)
  else if 0x4000100 ≤ a && a < 0x4000180 then
    let g := a % 0x80 / 0x10
    let t := storeGet (fun _ => ({} : ClfAge)) s.clfAges g
    let age (t : Nat) (w : Word) : Word :=
      if w.getLsbD 16 && decide (s.tb < t + 1000000 * max 1 (s.rd (R.CLF_CFG_WIN g))) then (R.CLF_HI_AGE 0).put w (min 32767 ((s.tb - t) / 1000000)) else 0
    if a % 0x10 = 4 then age t.hi w else if a % 0x10 = 8 then age t.phi w else w
  else w

/-- The four words of `ORB_EPOCH`, in 2^-32 ns: seconds towards minus infinity, ns and fraction. -/
def epochWords (e : Int) : List Word :=
  let ns := e / 4294967296
  [BitVec.ofInt 32 (ns / 1000000000), .ofNat (ns / 1000000000 / 4294967296 % 65536).toNat,
   .ofNat (ns % 1000000000).toNat, .ofNat (e % 4294967296).toNat]

/-- Words of the orbit region that other state gives. -/
def State.liveOrb (s : State) (a : Nat) : Word :=
  let w := s.reg a
  if a = A.ORB_NUM_LO then .ofNat s.orbNum
  else if a = A.ORB_NUM_HI then .ofNat (s.orbNum / 4294967296)
  else if A.ORB_EPOCH_SEC_LO ≤ a && a ≤ A.ORB_EPOCH_FRAC then (epochWords s.orbit.epoch).getD ((a - A.ORB_EPOCH_SEC_LO) / 4) 0
  else if a = A.ENG_SWAP then .ofNat (65536 * s.swapPend)
  else if 0x5001000 ≤ a && a < 0x5001900 && a % 0x100 = 4 then s.engStat (a % 0x1000 / 0x100)
  else w

/-- Words of the power region that other state gives. -/
def State.livePwr (s : State) (a : Nat) : Word :=
  let w := s.reg a
  if a = A.CLKOBS_CFG then R.CLKOBS_CFG_BAD.put w (flag s.obsBad)
  else if a = A.PWR_BUDGET then R.PWR_BUDGET_CHARGE.put w s.charge16
  else if a = A.PWR_ARB then
    .ofNat (s.power.trainWait.length + 256 * s.power.calWait.length + 65536 * (s.power.trainGrant.length + s.power.calGrant.length)
      + 16777216 * flag s.sys.alarm + 33554432 * flag s.overCap)
  else w

/-- Words of BAR4 and the hub that other state gives. -/
def State.liveRest (s : State) (a : Nat) : Word :=
  let w := s.reg a
  if a = A.HUB_STAT then R.HUB_STAT_BUSY.put w (flag (s.hub.dumps != []))
  else if a = A.MB_STATUS then R.MB_STATUS_ALIVE.put w (s.rd R.GLB_FW_VALID)
  else w

/-- What the word at `a` reads as. -/
def State.live (s : State) (a : Nat) : Word :=
  if a < 0x1000000 then s.liveGlb a else if a < 0x1800000 then s.liveOct a
  else if a < 0x2800000 then s.liveFab a
  else if a < 0x3000000 then s.liveTim a else if a < 0x3800000 then s.liveTdc a
  else if a < 0x4000000 then s.liveRef a else if a < 0x5000000 then s.liveTwn a
  else if a < 0x6000000 then s.liveOrb a else if 0x7000000 ≤ a && a < 0x8000000 then s.livePwr a else s.liveRest a

/-! ## Latching reads (R163, R214, R246, R297) -/

/-- The groups whose first word latches the others: (base, strides of its arrays, words). -/
def latchGroups : List (Nat × List (Nat × Nat) × Nat) :=
  [(0x2800000, [(8, 0x100)], 4), (0x2800010, [(8, 0x100)], 2), (0x2800040, [(8, 0x100)], 3), (0x2801000, [], 2),
   (0x2801100, [(8, 0x10)], 4), (0x2801180, [], 2), (0x2820010, [(8, 0x40)], 4), (0x2830000, [(16, 0x10)], 3),
   (0x5000020, [], 2), (0x5000028, [], 4), (0x5001040, [(9, 0x100), (8, 0x10)], 4),
   (0x100201C, [(8, 0x100000), (8, 0x100)], 3), (0x1004000, [(8, 0x100000), (8, 0x40), (4, 0x10)], 3),
   (0x100501C, [(8, 0x100000), (8, 0x100)], 2), (0x1005030, [(8, 0x100000), (8, 0x100)], 5),
   (0x380102C, [(8, 0x400)], 2), (0x3801118, [(8, 0x400), (16, 0x20)], 2)]

/-- The group whose first word lies at `a`, by its number of words. -/
def latchLen (a : Nat) : Option Nat :=
  (latchGroups.find? fun g => g.1 ≤ a && hitDims g.2.1 (a - g.1)).map (·.2.2)

/-- `a` is a further word of a group. -/
def latchTail (a : Nat) : Bool :=
  [1, 2, 3, 4].any fun i => 4 * i ≤ a && (match latchLen (a - 4 * i) with | some n => decide (i < n) | none => false)

/-- The bits of a further word that belong to the group's value: of word 1 of a launch or trigger slot only the seconds do (R186, R214). -/
def latchMask (a : Nat) : Word :=
  if (0x1000000 ≤ a && a < 0x1800000 && 0x4000 ≤ a % 0x100000 && a % 0x100000 < 0x5000 || 0x2830000 ≤ a && a < 0x2830100) && a % 0x10 = 4 then 0xFFFF
  else 0xFFFFFFFF

/-- The word at `a`, the heads of the transmit timestamp queues among them. -/
def State.groupWord (s : State) (a : Nat) : Word :=
  let off := a % 0x100000
  if 0x1000000 ≤ a && a < 0x1800000 && 0x5000 ≤ off && off < 0x5800 && 0x30 ≤ a % 0x100 && a % 0x100 < 0x44 then
    (tsqWords (s.egr (8 * ((a - 0x1000000) / 0x100000) + off % 0x1000 / 0x100)).tsq.head?).getD ((a % 0x100 - 0x30) / 4) 0
  else s.live a

/-- The state with the latched copy of a word set. -/
def State.setLatched (s : State) (a : Nat) (w : Option Word) : State :=
  { s with bus := { s.bus with words := storeSet (fun _ => none) s.bus.words a w } }

/-- Read the first word of a group of `n`: its other words are latched (R214). -/
def State.latchRead (s : State) (a n : Nat) : State × Word :=
  ((List.range (n - 1)).foldl (fun t i => t.setLatched (a + 4 * (i + 1)) (some (s.groupWord (a + 4 * (i + 1))))) s, s.groupWord a)

/-- A further word of a group reads as latched; live before its first latch (DESIGN CHOICE, log entry 33). -/
def State.latched (s : State) (a : Nat) : Word :=
  match storeGet (fun _ => none) s.bus.words a with
  | some w => (w &&& latchMask a) ||| (s.groupWord a &&& ~~~latchMask a)
  | none => s.groupWord a

end Sys2Proof.Machine
end

