-- ==== Sys2Proof/Machine/SidOps.lean ====
section
/-! DEFINITION. Placing identification entries (R115): the firmware's search for room, which moves entries between their two buckets. -/

namespace Sys2Proof.Machine

/-- An entry as placed: its words 0 to 7, and those of its continuation for an IPv6 pair. -/
abbrev SidEnt : Type := List Word

/-- The units of an entry. -/
def sidSize (x : SidEnt) : Nat := x.length / 8

/-- `KIND`, `PORTKEY`, `PORT` and the key of an entry's words. -/
def sidKind (x : SidEnt) : Nat := (x.getD 0 0).toNat % 8
def sidKeyOf (x : SidEnt) : SidKey :=
  let nat (l : List Word) : List Nat := l.map (·.toNat)
  { kind := sidKind x, words := nat ((x.drop 1).take 6), cont := nat ((x.drop 9).take 6) }
def sidPort (x : SidEnt) : Option Nat :=
  let w := (x.getD 0 0).toNat
  if w / 8 % 2 = 1 then some (w / 16 % 64) else none

/-- The same key (R115). -/
def sidSame (x y : SidEnt) : Bool := sidKeyOf x == sidKeyOf y && sidPort x == sidPort y

/-- The words of entry e. -/
def State.sidEnt (s : State) (e : Nat) : SidEnt := (List.range 8).map fun i => s.reg (A.SID_ENT0 e + 4 * i)

/-- Entry e is unused (Table 4-7). -/
def State.sidFree (s : State) (e : Nat) : Bool :=
  let x := s.sidEnt e
  !(x.getD 0 0).getLsbD 31 || sidKind x == 0 || 6 ≤ sidKind x

/-- The entries held by bucket `b` (0 to 1023 of set 0, 1024 to 2047 of set 1), each with its index. -/
def State.sidHeld (s : State) (b : Nat) : List (Nat × SidEnt) :=
  ((List.range 8).map (8 * b + ·)).filterMap fun e =>
    if s.sidFree e then none
    else
      let x := s.sidEnt e
      if sidKind x = 4 && e % 2 = 0 then some (e, x ++ s.sidEnt (e + 1))
      else if sidKind x = 5 && e % 2 = 1 && sidKind (s.sidEnt (e - 1)) = 4 && !s.sidFree (e - 1) then none
      else some (e, x)

/-- The two buckets of a key. -/
def sidHomes (x : SidEnt) : List Nat :=
  let k := (sidKeyOf x).bytes
  [crc32c k % 1024, 1024 + crc32 k % 1024]

def State.sidRoom (s : State) (b : Nat) : Nat := 8 - ((s.sidHeld b).map fun x => sidSize x.2).sum

/-- Words of an entry put in place, or cleared. -/
def State.sidPut (s : State) (e : Nat) (x : SidEnt) : State := s.setWords (A.SID_ENT0 e) x
def State.sidClear (s : State) (e : Nat) (n : Nat) : State := s.sidPut e (List.replicate (8 * n) 0)

/-- A free place in a bucket for an entry of this size. -/
def State.sidHole (s : State) (b n : Nat) : Option Nat :=
  ((List.range 8).map (8 * b + ·)).find? fun e =>
    if n = 1 then s.sidFree e else e % 2 == 0 && s.sidFree e && s.sidFree (e + 1)

/-- Place entries in a bucket that are all out of it, and for which it has room: pairs come first, so that each finds its place. -/
def State.sidLay (s : State) (b : Nat) : List SidEnt → State
  | [] => s
  | x :: t => match s.sidHole b (sidSize x) with
    | some e => (s.sidPut e x).sidLay b t
    | none => s.sidLay b t

/-- Place an entry in a bucket that has room for it: where only single places are left for a pair, the bucket's entries are laid out anew, pairs first. -/
def State.sidPlace (s : State) (b : Nat) (x : SidEnt) : State :=
  match s.sidHole b (sidSize x) with
  | some e => s.sidPut e x
  | none =>
    let held := (s.sidHeld b).map (·.2)
    let s1 := s.sidClear (8 * b) 8
    s1.sidLay b (x :: (held.filter (sidSize · == 2)) ++ held.filter (sidSize · == 1))

/-- What a search hands on: the buckets it has visited, and the table if it found room. -/
abbrev SidTry : Type := List Nat × Option State

/-- Try to move one of the entries of bucket `b` to its other bucket, in turn. -/
def sidTry (room : State → Nat → Nat → List Nat → SidTry) (s : State) (b : Nat) : List (Nat × SidEnt) → List Nat → SidTry
  | [], seen => (seen, none)
  | (e, x) :: t, seen =>
    match (sidHomes x).find? (· != b) with
    | none => sidTry room s b t seen
    | some b2 =>
      if sidKind x = 5 || (seen.contains b2 && s.sidRoom b2 < sidSize x) then sidTry room s b t seen
      else
        match room s b2 (sidSize x) seen with
        | (seen1, some s1) =>
          -- the move of other entries may have taken this one along
          if s1.sidEnt e = s.sidEnt e then (seen1, some ((s1.sidClear e (sidSize x)).sidPlace b2 x)) else (seen1, some s1)
        | (seen1, none) => sidTry room s b t seen1

/-- Make room for `n` units in bucket `b` by moving entries to their other buckets, along a path that visits no bucket twice; `fuel` bounds its length. -/
def sidMake : Nat → State → Nat → Nat → List Nat → SidTry
  | 0, _, _, _, seen => (seen, none)
  | fuel + 1, s, b, n, seen =>
    if n ≤ s.sidRoom b then (seen, some s)
    else
      match sidTry (sidMake fuel) s b (s.sidHeld b) (b :: seen) with
      | (seen1, none) => (seen1, none)
      | (seen1, some s1) =>
        if n ≤ s1.sidRoom b then (seen1, some s1)
        else match sidTry (sidMake fuel) s1 b (s1.sidHeld b) [b] with
          | (seen2, some s2) => (seen2, if n ≤ s2.sidRoom b then some s2 else none)
          | (seen2, none) => (seen2, none)

/-- The index of the entry with this key. -/
def State.sidIndex (s : State) (x : SidEnt) : Option Nat :=
  ((sidHomes x).flatMap s.sidHeld).findSome? fun y => if sidSame x y.2 then some y.1 else none

/-- Every bucket that moves may reach from the buckets `bs`. -/
def State.sidReach (s : State) : Nat → List Nat → List Nat
  | 0, bs => bs
  | n + 1, bs =>
    let more := ((bs.flatMap fun b => (s.sidHeld b).flatMap fun y => sidHomes y.2).eraseDups).filter (!bs.contains ·)
    if more.isEmpty then bs else s.sidReach n (bs ++ more)

/-- An arrangement in which every entry lies in one of its buckets, if there is one: each entry with the buckets it may take, and what is placed so far. -/
def sidArrange : List (SidEnt × List Nat) → List (Nat × SidEnt) → Option (List (Nat × SidEnt))
  | [], placed => some placed
  | (x, bs) :: t, placed => bs.findSome? fun b =>
      if ((placed.filter (·.1 == b)).map fun y => sidSize y.2).sum + sidSize x ≤ 8 then sidArrange t ((b, x) :: placed) else none

/-- The whole of what the entry's buckets reach is arranged anew with it: the search is complete (R115). A continuation without its entry stays in its bucket. -/
def State.sidFit (s : State) (x : SidEnt) : Option State :=
  let bs := s.sidReach 2048 (sidHomes x).eraseDups
  let held := bs.flatMap fun b => (s.sidHeld b).map fun y => (y.2, if sidKind y.2 = 5 then [b] else (sidHomes y.2).eraseDups)
  (sidArrange ((x, (sidHomes x).eraseDups) :: held) []).map fun pl =>
    bs.foldl (fun s b =>
      let xs := (pl.filter (·.1 == b)).map (·.2)
      (s.sidClear (8 * b) 8).sidLay b (xs.filter (sidSize · == 2) ++ xs.filter (sidSize · == 1))) s

/-- Insert an entry: the table and its index, with whether it replaced one; none where the table is full (R115). -/
def State.sidInsert (s : State) (x : SidEnt) : Option (State × Nat × Bool) :=
  match s.sidIndex x with
  | some e => some (s.sidPut e x, e, true)
  | none =>
    let hs := sidHomes x
    match (hs.find? fun b => sidSize x ≤ s.sidRoom b) with
    | some b => let s1 := s.sidPlace b x; (s1.sidIndex x).map fun e => (s1, e, false)
    | none =>
      let moved := hs.findSome? fun b =>
        match sidMake 2048 s b (sidSize x) [] with
        | (_, some s1) => if sidSize x ≤ s1.sidRoom b then let s2 := s1.sidPlace b x; (s2.sidIndex x).map fun e => (s2, e, false) else none
        | (_, none) => none
      match moved with
      | some r => some r
      | none => match s.sidFit x with
        | some s1 => (s1.sidIndex x).map fun e => (s1, e, false)
        | none => none

/-- Delete an entry by its key: the table, its index and whether it was there. -/
def State.sidDelete (s : State) (x : SidEnt) : State × Nat × Bool :=
  match s.sidIndex x with
  | some e => (s.sidClear e (sidSize x), e, true)
  | none => (s, 0, false)

/-- The entries that differ between two tables. -/
def sidDiff (s t : State) : List Nat :=
  ((s.regs ++ t.regs).filterMap fun x =>
    if 0x2200000 ≤ x.1 && x.1 < 0x2280000 && s.reg x.1 != t.reg x.1 then some ((x.1 - 0x2200000) / 0x20) else none).eraseDups

end Sys2Proof.Machine
end

