-- ==== Sys2Proof/Machine/MbItems.lean ====
section
/-! DEFINITION. Changes of a transaction: what each does when it is applied (R366), the registers that each item command may write (Table 13-6), and the reading of item lists (R371, R372). -/

namespace Sys2Proof.Machine

/-! ## Stream objects (R374) -/

/-- Words of a table set to 0. -/
def State.zeroWords (s : State) (a n : Nat) : State := s.setWords a (List.replicate n 0)

/-- A context takes its words: fills are brought up to now and cut to the new bursts, and one that is new or reused starts full (R134); a delete clears its counters and leaves `STICKY` (R131). -/
def State.putCtx (s : State) (x : Nat) (w : Option (List Word)) : State :=
  let s1 := s.setBucket x (s.refill x)
  match w with
  | some ws =>
    let s2 := s1.setWords (A.CTX0 x) ws
    if s2.bit (R.CTX0_VALID x) && !s.bit (R.CTX0_VALID x) then s2.bucketFull x else s2
  | none => (s1.zeroWords (A.CTX0 x) 8).zeroWords (0x2300000 + 0x40 * x) 9

/-- A recovery function takes its word: new or changed, it will take any number (R304); a delete clears its counters. -/
def State.putRec (s : State) (f : Nat) (w : Option (List Word)) : State :=
  match w with
  | some ws =>
    let s1 := s.setWords (A.SREC0 f) ws
    if s1.reg (A.SREC0 f) = s.reg (A.SREC0 f) then s1 else s1.takeAny f
  | none => (s.zeroWords (A.SREC0 f) 1).zeroWords (0x2480000 + 0x40 * f) 10

/-- An indexed object (R374) takes its words, or is deleted: 1 context, 2 group, 3 generation function, 4 recovery function. -/
def State.putObj (s : State) (kind i : Nat) (w : Option (List Word)) : State :=
  match kind with
  | 1 => s.putCtx i w
  | 2 => s.setWords (0x2380000 + 8 * i) (w.getD [0, 0])
  | 3 => (match w with | some ws => s.setWords (A.SGEN0 i) ws | none => s.zeroWords (A.SGEN0 i) 3)
  | _ => s.putRec i w

/-! ## Register items -/

/-- The port whose pages of its octet's region hold the address (R109). -/
def portOf (a : Nat) : Nat := 8 * ((a - 0x1000000) / 0x100000) + a % 0x1000 / 0x100

/-- The address lies in port page `page` of an octet's region. -/
def inPage (a page : Nat) : Bool := 0x1000000 ≤ a && a < 0x1800000 && a % 0x100000 / 0x1000 == page && a % 0x1000 < 0x800

/-- The bits of a register that a write may touch: RW and W1C, or RW only. -/
def descMask (a : Nat) : Option Word := (findDesc a).map fun d => .ofNat (d.rw ||| d.w1c)
def descRw (a : Nat) : Option Word := (findDesc a).map fun d => .ofNat d.rw

/-- The bits that an item command may mask in a register that Table 13-6 gives it; none where the register is not one of them. -/
def State.itemMask (s : State) (op a : Nat) : Option Word :=
  let r := a % 0x100
  match op with
  | 0x20 =>
    if a = A.FAB_CTRL then some 1
    else if a = A.FAB_TRANSIT || (0x2000100 ≤ a && a < 0x2000140) then descMask a
    else if 0x2001000 ≤ a && a < 0x2009000 then (if (a - 0x2001000) / 0x4000 = s.rd R.FAB_CTRL_RSV_ACTIVE then none else descMask a)
    else if inPage a 2 && (r ≤ 8 || (0x40 ≤ r && r < 0xC0 && r % 0x10 < 8)) then descMask a
    else none
  | 0x21 =>
    if inPage a 3 || (inPage a 2 && (r = 0x0C || r = 0x10 || r = 0x28 || (0xC0 ≤ r && r ≤ 0xE8))) then descMask a else none
  | 0x28 =>
    if 0x2840000 ≤ a && a < 0x2840800 && r ≤ 4 then descMask a
    else if inPage a 5 && (r ≤ 0x10 || r = 0x24) then descMask a
    else if inPage a 5 && r = 0x2C then some 0x7F7000
    else none
  | 0x29 => if a = A.REF_GLB then some 0x20 else if 0x3801000 ≤ a && a < 0x3803000 then descRw a else none
  | 0x2C =>
    if (0x2810000 ≤ a && a < 0x2810200 && a % 0x40 ≤ 0x10) || (0x2820000 ≤ a && a < 0x2820200 && a % 0x40 = 0) then descMask a else none
  | 0x2D =>
    if a = A.TW_CFG || a = A.TW_TOL || a = A.TW_TIME || a = A.TW_ASYM || a = A.TW_IEN || (0x4000040 ≤ a && a < 0x4000080)
      || (0x4000100 ≤ a && a < 0x4001000 && a % 0x10 = 0) then descMask a
    else none
  | 0x2E =>
    if a = A.PRV_CFG || a = A.PRV_SCHED || a = A.PRV_EDGE_LO || a = A.PRV_EDGE_HI || (0x4001100 ≤ a && a < 0x4001200) || (0x4100000 ≤ a && a < 0x4120000) then descMask a
    else none
  | 0x19 =>
    if a = A.CLK_CFG || a = A.CLKOBS_CFG || (0x7000100 ≤ a && a ≤ A.PWR_TPORT_HI) || a = A.LVF_CTRL then descMask a
    else if a = A.PWR_WAKE then some 0x80
    else if a = A.PWR_BUDGET then some 0x3F0
    else if a = A.LVF_ACK then some 1
    else none
  | _ => none

/-- The delay mechanism of a profile (Table 8-2): peer-to-peer. -/
def profileP2p (prof : Nat) : Bool := prof == 1 || prof == 3

/-- PTP_SET selects the profile of instance d (R218): the defaults and device choices of Table 8-2, in the instance, its data sets and its ports. -/
def State.selectProfile (s : State) (d prof : Nat) : State :=
  let s1 := s.wr (R.PTP_INST_DOMNUM d) (if prof = 4 then 127 else 0)
  let s2 := if prof = 3 then s1.wr (R.PTP_INST_SDOID d) 0x100 else s1
  let own (k : Nat) : Bool := k % 8 == d && (k / 512 == 0x10 || k / 512 == 0x11 || k / 512 == 0x18)
  let s3 := { s2 with dsets := storeMap (fun _ => none) (fun k x => if own k then none else x) s2.dsets }
  (List.range 64).foldl (fun s p =>
    if !(s.rd (R.PTP_PORT_INST p)).testBit d then s
    else
      let t := s.wr (R.PTP_PORT_DELAY p) (if profileP2p prof then 1 else 0)
      if prof = 3 then (t.wr (R.PTP_PORT_TRANSPORT p) 1).setBit (R.PTP_PORT_ONESTEP p) false
      else if prof = 4 || prof = 5 then t.wr (R.PTP_PORT_TRANSPORT p) 2 else t) s3

/-- A register item is applied (R371), with what PTP_SET does beside: a profile's choices (R218), and a latched asymmetry returns to 0 (R239). -/
def State.itemWrite (s : State) (a : Nat) (m v : Word) : State :=
  if 0x2840000 ≤ a && a < 0x2840800 && a % 0x100 = 0 then
    let d := a % 0x1000 / 0x100
    let s1 := if (m &&& 0x70) != 0 then s.selectProfile d ((R.PTP_INST_PROFILE d).get (s.merged a m v)) else s
    s1.regWrite a m v
  else if inPage a 5 && (a % 0x100 = 4 || a % 0x100 = 8) then (s.regWrite a m v).setReg (A.PTP_ASYM_LATCH (portOf a)) 0
  else if inPage a 5 && a % 0x100 = 0xC then s.setReg a 0
  else s.regWrite a m v

/-! ## Changes -/

/-- A chunk of an image goes into the inactive bank; with the first flag the bank is cleared before (R375). -/
def State.loadChunk (s : State) (e : Nat) (first last : Bool) (addr : Nat) (ws : List Word) : State :=
  let b := !(s.eng e).bank
  let lo := bankAddr e b 0
  let s1 := if first then { s with regs := storeMap resetWord (fun a w => if lo ≤ a && a < lo + 0x8000 then 0 else w) s.regs } else s
  let s2 := s1.setWords (bankAddr e b addr) ws
  let E := s2.eng e
  let ok := last || (!first && (if b then E.image1 else E.image0))
  s2.setEng e (if b then { E with image1 := ok } else { E with image0 := ok })

/-- The loop of domain d opens, or closes and resumes from FREE (R295). -/
def State.loopSet (s : State) (d : Nat) (opn : Bool) : State :=
  if (s.dom d).hostLoop = opn then s
  else if opn then
    let s1 := s.deselect d
    (s1.setDom d { s1.dom d with hostLoop := true }).domState d .free 0x10 0
  else s.setDom d { s.dom d with hostLoop := false }

/-- The registers of a grid (Table 5-15). -/
def State.putGrid (s : State) (g : Grid) : State :=
  let ns := g.align / 4294967296
  let sec := ns / 1000000000
  let s1 := s.setWords A.ORB_CFG [.ofNat g.dom, .ofNat (g.period / 4294967296), .ofNat g.period, .ofNat sec, .ofNat (sec / 4294967296), .ofNat (ns % 1000000000), .ofNat g.align]
  { s1 with orbit := { s1.orbit with gridWrite := some s1.tb } }

/-- One change of a transaction takes effect. A gate list took its place when it was committed (R184), and the stream tables' commit adds nothing to its objects. -/
def State.applyChange (s : State) (c : Change) : State :=
  match c with
  | .item a m v => s.itemWrite a (.ofNat m) (.ofNat v)
  | .dset k ws => { s with dsets := storeSet (fun _ => none) s.dsets k (some ws) }
  | .sid e ws => s.setWords (A.SID_ENT0 e) ws
  | .obj kind i w => s.putObj kind i w
  | .commit => s
  | .grid g => s.putGrid g
  | .load e first last addr ws => s.loadChunk e first last addr ws
  | .swap m => (List.range 9).foldl (fun s e => if m.testBit e then s.swapReq e else s) s
  | .glist _ _ => s
  | .adjust d op v =>
    if op = 2 then s.setRate d v
    else if op = 1 then (s.adjust d (v * 4294967296 - (((s.dom d).time : Nat) : Int))).1
    else (s.adjust d (v * 4294967296)).1
  | .loop d opn => s.loopSet d opn

/-! ## Reading items -/

/-- What staging a record gives: a failure's status and result words, or the changes and the result words. -/
abbrev Staged : Type := Except (Nat × List Word) (List Change × List Word)

def fail {α : Type} (st : Nat) : Except (Nat × List Word) α := .error (st, [])
def refuse {α : Type} (why : Nat) : Except (Nat × List Word) α := .error (St.REFUSED, [.ofNat why])

/-- A point of the core supply whose charge exceeds the cap (R341). -/
def State.lvfOver (s : State) (w : Word) : Bool :=
  (R.LVF_CTRL_EN).get w == 1 && decide (10 * s.capW < lvfTotal ((R.LVF_CTRL_POINT).get w))

/-- A register item (R371): the refusals that concern it alone, then the change. -/
def State.regItem (s : State) (op : Nat) (a : Nat) (m v : Word) : Except (Nat × List Word) Change :=
  match s.itemMask op a with
  | none => fail St.RANGE
  | some ok =>
    if 0x1000000 ≤ a && a < 0x1800000 && s.absent (portOf a) then fail St.RANGE
    else if m &&& ~~~ok != 0 then fail St.PARAM
    else if op = 0x2D && a = A.TW_CFG && s.mode ≠ .dock && (s.merged a m v).getLsbD 0 != s.bit R.TW_CFG_EN then refuse 10
    else if op = 0x19 && a = A.LVF_CTRL && s.lvfOver (s.merged a m v) then refuse 7
    else .ok (.item a m.toNat v.toNat)

/-- The number of value words of a data-set item (Table 13-7); none for an undefined item. -/
def dsetNw (id n : Nat) : Option Bool :=
  if (1 ≤ id && id ≤ 5) || id = 7 || id = 8 || (0x10 ≤ id && id ≤ 0x15) || id = 0x18 || id = 0x19 then some (n == 1)
  else if id = 6 || id = 0x17 then some (n == 2)
  else if id = 0x16 then some (n == 4)
  else if id = 0x20 then some (1 ≤ n && n ≤ 16)
  else none

/-- The values of a data-set item lie within Table 8-1 and the width of the data set's member. -/
def dsetIn (id : Nat) (ws : List Word) : Bool :=
  let w := ws.getD 0 0
  let u := w.toNat
  let i := w.toInt
  if (1 ≤ id && id ≤ 4) || id = 8 || id = 0x14 then decide (u ≤ 255)
  else if id = 5 then decide (u ≤ 65535)
  else if id = 7 || id = 0x19 then decide (u ≤ 1)
  else if id = 0x10 then decide (-7 ≤ i) && decide (i ≤ 1)
  else if id = 0x11 then decide (-3 ≤ i) && decide (i ≤ 4)
  else if id = 0x12 || id = 0x13 then decide (-7 ≤ i) && decide (i ≤ 5)
  else if id = 0x18 then decide (u ≤ 100000)
  else if id = 0x17 then decide ((ws.getD 1 0).toNat ≤ 65535)
  else true

/-- A data-set item of PTP_SET (R372). -/
def State.dsetItem (s : State) (h : Word) (ws : List Word) : Except (Nat × List Word) Change :=
  let n := h.toNat
  let d := n / 4 % 8
  let p := n / 32 % 64
  let id := n / 65536 % 256
  if n / 2048 % 32 ≠ 0 then fail St.PARAM
  else match dsetNw id ws.length with
    | none => fail St.PARAM
    | some false => fail St.RANGE
    | some true =>
      if 0x10 ≤ id && id ≠ 0x20 && s.absent p then fail St.RANGE
      else if dsetIn id ws then .ok (.dset (dsetKey id d p) ws) else fail St.RANGE

/-- The changes of a list of items, each judged after those before it. -/
def State.stageItems (op : Nat) : Nat → State → List Word → List Change → Except (Nat × List Word) (List Change)
  | 0, _, _, _ => fail St.FORM
  | _ + 1, _, [], acc => .ok acc.reverse
  | n + 1, s, h :: t, acc =>
    let kind := h.toNat % 4
    if kind = 0 then
      match t with
      | m :: v :: t1 =>
        match s.regItem op h.toNat m v with
        | .ok c => State.stageItems op n (s.applyChange c) t1 (c :: acc)
        | .error e => .error e
      | _ => fail St.FORM
    else if kind = 1 && op = 0x28 then
      let nw := h.toNat / 16777216
      if t.length < nw || nw = 0 then fail St.FORM
      else
        match s.dsetItem h (t.take nw) with
        | .ok c => State.stageItems op n (s.applyChange c) (t.drop nw) (c :: acc)
        | .error e => .error e
    else fail St.PARAM

end Sys2Proof.Machine
end

