-- ==== Sys2Proof/Machine/MbStage.lean ====
section
/-! DEFINITION. Staging the commands of class C (R366, R368, R374, R375, R183), and the rules that are checked against the staged whole. -/

namespace Sys2Proof.Machine

/-- The state with the changes that are committed and those that are staged: what the rules of a transaction are checked against. -/
def State.shadow (s : State) (cs : List Change) : State := ((s.txns.flatMap (·.changes)) ++ cs).foldl State.applyChange s

/-! ## STREAM_EDIT (R374) -/

/-- Distinct objects of a kind among those staged. -/
def objCount (objs : List Nat) (kind : Nat) : Nat := (objs.filter (· / 65536 == kind)).length

/-- Note an object as changed by the transaction. -/
def addObj (objs : List Nat) (kind i : Nat) : List Nat := if objs.contains (65536 * kind + i) then objs else (65536 * kind + i) :: objs

/-- How many objects of a kind exist, their words, and how many of them one transaction may hold (R368). -/
def objLimit (kind : Nat) : Nat := if kind = 1 then 8192 else 4096
def objWords (kind : Nat) : Nat := if kind = 1 then 8 else if kind = 4 then 1 else 2
def objAddr (kind i : Nat) : Nat := if kind = 1 then A.CTX0 i else if kind = 2 then 0x2380000 + 8 * i else if kind = 3 then A.SGEN0 i else A.SREC0 i
def objMost (kind : Nat) : Nat := if kind = 0 then 512 else 256

/-- Reserved bits of an object's words are 0. -/
def objClean (a : Nat) : List Word → Bool
  | [] => true
  | w :: t => (w &&& ~~~((descRw a).getD 0)) == 0 && objClean (a + 4) t

/-- What staging a list of stream operations has gathered. -/
structure EditAcc where
  shadow : State
  objs : List Nat
  changes : List Change := []
  words : List Word := []
  deriving DecidableEq, Repr

/-- Take a change of the tables into the gathered ones. -/
def EditAcc.take (x : EditAcc) (c : Change) : EditAcc := { x with shadow := x.shadow.applyChange c, changes := x.changes ++ [c] }

/-- An identification entry as a command carries it: 7 words, 14 for an IPv6 key, each entry's word 7 being 0. -/
def sidOfWords (ws : List Word) : SidEnt := if ws.length = 14 then ws.take 7 ++ [0] ++ ws.drop 7 ++ [0] else ws ++ [0]

/-- An identification insert or delete: the entries that differ afterwards are the change (R115). -/
def EditAcc.sidOp (x : EditAcc) (del : Bool) (e : SidEnt) : Except (Nat × List Word) EditAcc :=
  let put (t : State) (i : Nat) (hit changed : Bool) : EditAcc :=
    let y := (sidDiff x.shadow t).foldl (fun (y : EditAcc) k => y.take (.sid k (t.sidEnt k))) x
    { y with words := y.words ++ [.ofNat (i + 16384 * flag hit)], objs := if changed then addObj y.objs 0 i else y.objs }
  if del then
    let (t, i, hit) := x.shadow.sidDelete e
    .ok (put t i hit hit)
  else
    match x.shadow.sidInsert e with
    | some (t, i, hit) => .ok (put t i hit true)
    | none => fail St.FULL

/-- The words of an identification operation are valid: a key format, no reserved bit, and for an insert `VALID` set. -/
def sidClean (del : Bool) (ws : List Word) : Bool :=
  let k := (ws.getD 0 0).toNat % 8
  objClean (A.SID_ENT0 0) (ws.take 7) && 1 ≤ k && k ≤ 4 && (del || (ws.getD 0 0).getLsbD 31) &&
    (ws.length != 14 || (objClean (A.SID_ENT0 0) (ws.drop 7) && (ws.getD 7 0).toNat % 8 == 5))

/-- Read and stage the operations of a STREAM_EDIT. `del` holds the command to writes or to deletes where a row names one of them. -/
def stageEdit : Nat → EditAcc → List Word → Except (Nat × List Word) EditAcc
  | 0, _, _ => fail St.FORM
  | _ + 1, x, [] => .ok x
  | n + 1, x, h :: t =>
    let kind := h.toNat % 8
    let del := h.getLsbD 3
    let i := h.toNat / 65536 % 8192
    if 5 ≤ kind || (h &&& 0xE000FFF0) != 0 then fail St.PARAM
    else if kind = 0 then
      let len := if (t.getD 0 0).toNat % 8 = 4 then 14 else 7
      if t.length < len then fail St.FORM
      else if !sidClean del (t.take len) then fail St.PARAM
      else
        match x.sidOp del (sidOfWords (t.take len)) with
        | .ok y => if objMost 0 < objCount y.objs 0 then fail St.FULL else stageEdit n y (t.drop len)
        | .error e => .error e
    else if objLimit kind ≤ i then fail St.RANGE
    else
      let len := if del then 0 else objWords kind
      if t.length < len then fail St.FORM
      else if !objClean (objAddr kind i) (t.take len) then fail St.PARAM
      -- R119: a unicast context names one of ports 0 to 63
      else if kind = 1 && !del && (R.CTX0_DKIND 0).get (t.getD 0 0) == 0 && decide (64 ≤ (R.CTX0_DEST 0).get (t.getD 0 0)) then fail St.RANGE
      else
        let y := x.take (.obj kind i (if del then none else some (t.take len)))
        let y := { y with objs := addObj y.objs kind i }
        if objMost kind < objCount y.objs kind then fail St.FULL else stageEdit n y (t.drop len)

/-! ## Orbit commands -/

/-- Nonnegative time words of a command: seconds low and high, ns and fraction. -/
def wordsNs (lo hi ns : Word) : Nat := (lo.toNat + 4294967296 * (hi.toNat % 65536)) * 1000000000 + ns.toNat

/-- ORBIT_SET: the grid of Table 5-15, its fields clamped as there. The values that act are the ones stored, so that a value out of range reads back as it acts; the spec says only as which value it acts (DESIGN CHOICE, log entry 151). -/
def stageGrid (ws : List Word) : Staged :=
  if ws.length ≠ 7 then fail St.FORM
  else
    let w (k : Nat) : Word := ws.getD k 0
    if !((List.range 7).all fun k => w k &&& ~~~((descRw (A.ORB_CFG + 4 * k)).getD 0) == 0) then fail St.PARAM
    else
      let ns := min 1000000000 (max 31250 (w 1).toNat)
      let frac := if ns = 1000000000 then 0 else (w 2).toNat
      let al := ((w 3).toNat + 4294967296 * ((w 4).toNat % 65536)) * 1000000000 + min 999999999 (w 5).toNat
      .ok ([.grid { dom := (w 0).toNat % 8, period := ns * 4294967296 + frac, align := al * 4294967296 + (w 6).toNat }], [])

/-- The bytes of a bank image. -/
def State.bankBytes (s : State) (e : Nat) (b : Bool) : List Nat := bytesOf ((List.range 8192).map fun k => s.reg (bankAddr e b 0 + 4 * k))

/-- ORBIT_LOAD (R375): judged on the shadow; `mine` are this message's changes. -/
def State.stageLoad (sh : State) (mine : List Change) (ws : List Word) : Staged :=
  let h := (ws.getD 0 0).toNat
  let e := h % 16
  let first := (ws.getD 0 0).getLsbD 4
  let last := (ws.getD 0 0).getLsbD 5
  let addr := h / 65536 % 4096
  let n := (ws.getD 1 0).toNat
  if ws.length < 3 || ws.length ≠ 3 + 2 * n then fail St.FORM
  else if (ws.getD 0 0) &&& 0xF000FFC0 != 0 then fail St.PARAM
  else if 9 ≤ e || (e < 8 && sh.octOff e) || 4096 < addr + n then fail St.RANGE
  else if (sh.eng e).swap.isSome then fail St.BUSY
  else if mine.any (fun c => match c with | .load k _ _ _ _ => k == e | _ => false) then fail St.FULL
  else
    let c : Change := .load e first last addr (ws.drop 3)
    if last && crc32c ((sh.applyChange c).bankBytes e (!(sh.eng e).bank)) ≠ (ws.getD 2 0).toNat then fail St.CHECK
    else .ok ([c], [])

/-- An engine's inactive image is complete. -/
def State.imageOk (s : State) (e : Nat) : Bool := if (s.eng e).bank then (s.eng e).image0 else (s.eng e).image1

/-- ORBIT_SWAP (R375): its result is filled in at close. -/
def State.stageSwap (sh : State) (ws : List Word) : Staged :=
  if ws.length ≠ 1 then fail St.FORM
  else
    let m := (ws.getD 0 0).toNat
    if 512 ≤ m then fail St.PARAM
    else
      let es := (List.range 9).filter m.testBit
      if es.any fun e => (sh.eng e).swap.isSome then fail St.BUSY
      else if es.any fun e => !sh.imageOk e then fail St.CHECK
      else .ok ([.swap m], [0, 0])

/-! ## GATE_LIST_SET (R183) -/

/-- The entries of a list: gate states and hold operation, then the duration. -/
def gateEntries : List Word → Option (List (Nat × Nat × Nat))
  | [] => some []
  | [_] => none
  | w :: d :: t =>
    match gateEntries t with
    | some r => if 1024 ≤ w.toNat || w.toNat / 256 % 4 = 3 then none else some ((w.toNat % 256, w.toNat / 256 % 4, d.toNat) :: r)
    | none => none

/-- The cycle time in 2^-32 ns times `k` for P / k, so that it is whole. -/
def State.listCycle (s : State) (l : GateList) : Nat := if l.div then s.orbit.grid.period else s.orbit.grid.period * l.mul

/-- The durations in the same unit. -/
def listSum (l : GateList) : Nat := ((l.entries.map fun e => e.2.2).sum) * 4294967296 * (if l.div then l.mul else 1)

/-- The actions that a list of port p issues in each of the Orbits of its cycle, counted from the grid's ALIGN: its entries k times, or those that fall into one period of m. -/
def State.listActions (s : State) (p : Nat) (l : GateList) : List Nat :=
  let t := s.setGlist p (some { l with start := some l.base })
  (List.range (if l.div then 1 else l.mul)).map fun j => (t.glistActs p ((s.orbit.grid.align : Int) + ((s.orbit.grid.period * j : Nat) : Int))).length

/-- In no Orbit do the lists issue more than `most` actions together with `acc` others: the Orbits considered are those that give the remainder `r` modulo `M`, and each list repeats after as many Orbits as it has counts. -/
def actsWithin (most : Nat) : List (List Nat) → Nat → Nat → Nat → Bool
  | [], acc, _, _ => decide (acc ≤ most)
  | cs :: t, acc, M, r =>
    decide (acc + ((cs :: t).map fun l => l.foldl max 0).sum ≤ most) ||
      (List.range (Nat.lcm M cs.length / M)).all fun k =>
        actsWithin most t (acc + cs.getD ((r + M * k) % cs.length) 0) (Nat.lcm M cs.length) (r + M * k)

/-- The rules of R183 for a list of port p; the lists of the octet's other ports count in the actions. -/
def State.listOk (s : State) (p : Nat) (l : GateList) : Bool :=
  let g := s.orbit.grid
  let q (m : Nat) : Option GateList := match s.gpend m with | some x => some x | none => s.glist m
  let all := (List.range 8).filterMap fun m =>
    let k := 8 * (p / 8) + m
    (if k = p then some l else q k).map (s.listActions k)
  -- the compiled program issues one action a cycle at most, and needs one more for END (R157)
  let B := (((g.period * 9995 - 96 * 10000 * 4294967296) * s.engHz.1) / (10000 * 4294967296 * s.engHz.2 * 1000000))
  1 ≤ l.mul && l.mul ≤ 64 && (l.base - (g.align : Int)) % ((g.period : Nat) : Int) == 0 &&
    decide (listSum l ≤ s.listCycle l) && actsWithin (min 1024 (B - 1)) all 0 1 0

/-- GATE_LIST_SET: its result is filled in at close. -/
def State.stageGlist (sh : State) (ws : List Word) : Staged :=
  let h := ws.getD 0 0
  let n := h.toNat / 65536
  if ws.length < 5 || ws.length ≠ 5 + 2 * n then fail St.FORM
  else if (h &&& 0x00008080) != 0 || (ws.getD 2 0).toNat ≥ 65536 || (ws.getD 3 0).toNat ≥ 1000000000 then fail St.PARAM
  else if 256 < n then fail St.RANGE
  else
    let p := h.toNat % 64
    let mul := h.toNat / 256 % 128
    match gateEntries (ws.drop 5) with
    | none => fail St.PARAM
    | some es =>
      let l : GateList := { div := h.getLsbD 6, mul := mul, entries := es
                            base := (((wordsNs (ws.getD 1 0) (ws.getD 2 0) (ws.getD 3 0)) * 4294967296 + (ws.getD 4 0).toNat : Nat) : Int) }
      if sh.absent p || sh.octOff (p / 8) then fail St.RANGE
      else if mul = 0 || 64 < mul then fail St.RANGE
      else if !sh.listOk p l then refuse 5
      else if (sh.eng (p / 8)).started && !(sh.eng (p / 8)).compiled then refuse 6
      else .ok ([.glist p l], [0, 0, 0, 0])

/-! ## Domains -/

/-- DOMAIN_ADJUST (R373): a signed time in 2^-16 ns, or a rate word, which is refused with the loop closed. -/
def State.stageAdjust (sh : State) (ws : List Word) : Staged :=
  if ws.length ≠ 5 then fail St.FORM
  else
    let h := (ws.getD 0 0).toNat
    let d := h % 8
    let op := h / 16 % 4
    let lo := ws.getD 1 0
    let hi := ws.getD 2 0
    if (ws.getD 0 0) &&& 0xFFFFFFC8 != 0 || op = 3 then fail St.PARAM
    else if op = 2 then
      if hi.toNat ≥ 65536 then fail St.PARAM
      else if !(sh.dom d).hostLoop then refuse 9
      else .ok ([.adjust d 2 (rateOfBits (hi.toNat * 4294967296 + lo.toNat))], [])
    else if (hi &&& 0xBFFF0000) != 0 || (ws.getD 3 0).toNat ≥ 1000000000 || (ws.getD 4 0).toNat ≥ 65536 then fail St.PARAM
    else
      let m := wordsNs lo hi (ws.getD 3 0) * 65536 + (ws.getD 4 0).toNat
      .ok ([.adjust d op (if hi.getLsbD 30 then -((m : Nat) : Int) else ((m : Nat) : Int))], [])

/-- DOMAIN_LOOP (R295). -/
def stageLoop (ws : List Word) : Staged :=
  if ws.length ≠ 1 then fail St.FORM
  else if (ws.getD 0 0) &&& 0xFFFFFEF8 != 0 then fail St.PARAM
  else .ok ([.loop ((ws.getD 0 0).toNat % 8) ((ws.getD 0 0).getLsbD 8)], [])

/-! ## The staged whole -/

/-- The register items of a transaction, at most 1024 in all (R368). -/
def itemCount (cs : List Change) : Nat := (cs.filter fun c => match c with | .item _ _ _ => true | _ => false).length

/-- Reason 1: a set of admission parameters over-commits an octet (R84). -/
def admBad (sh : State) (cs : List Change) : Bool :=
  cs.any fun c => match c with
    | .item a _ _ => inPage a 2 && a % 0x10 == 0 && 0x40 ≤ a % 0x100 && a % 0x100 < 0xC0 && sh.overcommit (portOf a / 8)
    | _ => false

/-- Reason 2: a port's enabled instances require different delay mechanisms (R218). -/
def delayBad (sh : State) : Bool :=
  (List.range 64).any fun p =>
    let ds := (List.range 8).filter fun d => (sh.rd (R.PTP_PORT_INST p)).testBit d && sh.bit (R.PTP_INST_EN d)
    ds.any (fun d => profileP2p (sh.rd (R.PTP_INST_PROFILE d))) && ds.any (fun d => !profileP2p (sh.rd (R.PTP_INST_PROFILE d)))

/-- Reason 3: two enabled instances have the same domainNumber and sdoId (R216). -/
def pairBad (sh : State) : Bool :=
  let pair (d : Nat) : Nat × Nat := (sh.rd (R.PTP_INST_DOMNUM d), sh.rd (R.PTP_INST_SDOID d))
  (List.range 8).any fun d => (List.range d).any fun e => sh.bit (R.PTP_INST_EN d) && sh.bit (R.PTP_INST_EN e) && pair d == pair e

/-- Reason 4: the rules of R276 for the enabled candidates of a domain. -/
def candBad (sh : State) : Bool :=
  (List.range 8).any fun d =>
    let ks := (List.range 16).filter fun k => sh.bit (R.REF_CCFG_EN d k)
    decide (8 < (ks.filter fun k => sh.ckind d k == 1).length) ||
      (ks.any fun k => (List.range k).any fun j => ks.contains j && sh.ckind d j == sh.ckind d k && sh.sourceNum d j == sh.sourceNum d k) ||
      (ks.any fun k => sh.ckind d k == 2 && !(sh.bit (R.TIN_CFG_EN (sh.cpin d k)) && edgeSel (sh.rd (R.TIN_CFG_EDGE (sh.cpin d k))) true))

/-- The Comet functions, and reason 8: one whose context has another tag format (R305). -/
def State.cometFns (s : State) : List Nat :=
  (s.regs.filter fun x => 0x23C0000 ≤ x.1 && x.1 < 0x23D0000 && x.1 % 0x10 == 0 && x.2.getLsbD 6 && x.2.getLsbD 31).map fun x => (x.1 - 0x23C0000) / 0x10
def cometBad (sh : State) : Bool :=
  let fs := sh.cometFns
  sh.regs.any fun x => 0x2280000 ≤ x.1 && x.1 < 0x22C0000 && x.1 % 0x20 == 0 &&
    (let c := (x.1 - 0x2280000) / 0x20
     sh.bit (R.CTX0_VALID c) && sh.bit (R.CTX1_SGENV c) && fs.contains (sh.rd (R.CTX2_SGEN c)) && sh.rd (R.CTX1_TAGFMT c) != 0)

/-- The first rule of the staged whole that a record of operation `op` is charged with: its status and result. -/
def wholeRule (sh : State) (cs : List Change) (op : Nat) : Option (Nat × List Word) :=
  let no (why : Nat) : Option (Nat × List Word) := some (St.REFUSED, [.ofNat why])
  if op = 0x20 && admBad sh cs then no 1
  else if op = 0x28 && delayBad sh then no 2
  else if op = 0x28 && pairBad sh then no 3
  else if op = 0x29 && candBad sh then no 4
  else if op = 0x23 && decide (256 < sh.cometFns.length) then some (St.FULL, [])
  else if op = 0x23 && cometBad sh then no 8
  else none

/-- Stage one record of class C for a message with the changes and objects staged so far: its changes, result and objects. -/
def State.stage (s : State) (op : Nat) (mine : List Change) (objs : List Nat) (ws : List Word) : Except (Nat × List Word) (List Change × List Word × List Nat) :=
  let sh := s.shadow mine
  let plain (r : Staged) : Except (Nat × List Word) (List Change × List Word × List Nat) :=
    match r with
    | .ok (cs, w) => .ok (cs, w, objs)
    | .error e => .error e
  match op with
  | 0x22 =>
    match stageEdit (ws.length + 1) { shadow := sh, objs := objs } ws with
    | .ok x => .ok (x.changes, x.words, x.objs)
    | .error e => .error e
  | 0x23 => if ws.isEmpty then .ok ([.commit], [.ofNat objs.length], objs) else fail St.FORM
  | 0x24 => plain (stageGrid ws)
  | 0x25 => plain (sh.stageLoad mine ws)
  | 0x26 => plain (sh.stageSwap ws)
  | 0x27 => plain (sh.stageGlist ws)
  | 0x2A => plain (sh.stageAdjust ws)
  | 0x2B => plain (stageLoop ws)
  | _ =>
    match State.stageItems op (ws.length + 1) sh ws [] with
    | .ok cs => if 1024 < itemCount (mine ++ cs) then fail St.FULL else .ok (cs, [], objs)
    | .error e => .error e

end Sys2Proof.Machine
end

