-- ==== Sys2Proof/Machine/MbRun.lean ====
section
/-! DEFINITION. The commands of classes S, T and X (Tables 13-5 and 13-8): what each does, its status and its result. A command whose response waits for a mode answers no status yet. -/

namespace Sys2Proof.Machine

/-- The outcome of a command: the state, and its status and result unless it waits. -/
abbrev Ran : Type := State × Option (Nat × List Word)

def ranOk (s : State) (res : List Word) : Ran := (s, some (St.OK, res))
def ranNo (s : State) (st : Nat) : Ran := (s, some (st, []))

/-- The parameters of a command with a fixed layout: their number and the bits that are not reserved. -/
def params (s : State) (ms ws : List Word) (f : Ran) : Ran :=
  if ws.length ≠ ms.length then ranNo s St.FORM
  else if (ms.zip ws).any fun x => x.2 &&& ~~~x.1 != 0 then ranNo s St.PARAM
  else f

/-! ## Status (S) -/

/-- The alarms of STATUS word 5. -/
def State.alarms (s : State) : Nat :=
  let any8 (f : Nat → Bool) : Nat := flag ((List.range 8).any f)
  flag s.sys.alarm + 2 * flag s.sys.refclkLost + 4 * R.REF_GLB_RANGE_NOW.get (s.live A.REF_GLB)
    + 8 * flag s.twin.lossLink + 16 * flag s.twin.lossPins + 32 * any8 (fun d => s.bit (R.REF_DSTAT_DISAGREE d))
    + 64 * any8 (fun d => (s.dom d).unqual) + 128 * flag ((List.range 9).any fun e => s.bit (R.ENG_STAT_FAULT e))
    + 256 * flag ((List.range 84).any fun c => s.bit (R.TDC_CHSTAT_CAL_BAD c)) + 512 * flag (s.rd R.MBE_STAT_COUNT != 0)
    + 1024 * flag (s.rd R.GLB_BOOT_RESULT == 2) + 2048 * flag (s.rd R.EVL_LOST_COUNT != 0)

/-- STATUS (Table 13-8). -/
def State.runStatus (s : State) (ws : List Word) : Ran :=
  params s [] ws (ranOk s
    [s.live A.GLB_MODE, s.reg A.GLB_FW, .ofNat s.orbNum, .ofNat (s.orbNum / 4294967296),
     .ofNat (s.rd R.GLB_RCV_SEQ + 65536 * s.rd R.MB_STATUS_OWNER + 262144 * s.rd R.MB_STATUS_HELD), .ofNat s.alarms,
     .ofInt 32 (s.temp s.hottest), s.reg A.EVL_HEAD])

/-- The words of `n` event entries from index `i`. -/
def State.evlRead (s : State) (i : Nat) : Nat → List Word
  | 0 => []
  | n + 1 => ((List.range 8).map fun k => s.reg (evlAddr i k)) ++ s.evlRead (i + 1) n

/-- EVENT_READ: `room` is what the response of this partner still holds, in bytes. -/
def State.runEvents (s : State) (room : Nat) (ws : List Word) : Ran :=
  params s [0xFFFFFFFF, 0xFFFFFFFF] ws (
    let head := s.rd R.EVL_HEAD_INDEX
    let i := (ws.getD 0 0).toNat
    let behind := (head + 4294967296 - i) % 4294967296
    let held := (head + 4294967296 - s.evlOldest) % 4294967296
    let n := if behind ≤ held then behind else if behind < 2147483648 then held else 0
    let n := min (min n (ws.getD 1 0).toNat) ((room - 12) / 32)
    let first := if behind ≤ held then i else s.evlOldest
    ranOk s (.ofNat s.evlOldest :: .ofNat head :: s.evlRead first n))

/-- JOURNAL_READ (R367). -/
def State.runJournal (s : State) (ws : List Word) : Ran :=
  params s [0xFFFF] ws (
    let n := (ws.getD 0 0).toNat
    match s.journal.find? (·.1 == n) with
    | some (_, p, st) => ranOk s [.ofNat (st + 4 * p + 65536 * n)]
    | none => ranOk s [.ofNat (65536 * n)])

/-- PTP_STATUS (Table 13-8): the parent is the master of the port that is slave or uncalibrated, else the instance itself. -/
def State.runPtp (s : State) (ws : List Word) : Ran :=
  params s [7] ws (
    let d := (ws.getD 0 0).toNat
    let st (k : Nat) : Word := .ofNat ((List.range 8).map fun j => s.portState d (8 * k + j) * 16 ^ j).sum
    let states := (List.range 8).map st
    let two (v : Nat) : List Word := [.ofNat v, .ofNat (v / 4294967296)]
    let slave := (List.range 64).find? fun p => s.portState d p == 9 || s.portState d p == 8
    match slave.bind fun p => (s.foreignOf p d).map fun f => (p, f) with
    | some (p, f) =>
      let q : Word := .ofNat (f.ann.cls.toNat + 256 * f.ann.acc.toNat + 65536 * f.ann.var.toNat)
      ranOk s (states ++ two (f.ident.toNat / 65536) ++ [.ofNat (f.ident.toNat % 65536 + 65536 * f.ann.steps.toNat)] ++ two f.ann.gm.toNat
        ++ [q, sat32Word (Int.tdiv (storeGet (fun _ => 0) (s.ptp p).offset d) 65536), .ofNat (s.mpd p / 65536)])
    | none =>
      let own := s.dsetNat 0x06 d 0
      let q : Word := .ofNat (s.dsetNat 0x03 d 0 + 256 * s.dsetNat 0x04 d 0 + 65536 * s.dsetNat 0x05 d 0)
      ranOk s (states ++ two own ++ [0] ++ two own ++ [q, 0, 0]))

/-- Words of bytes, little-endian. -/
def wordsOf : List Byte → List Word
  | a :: b :: c :: d :: t => (d ++ c ++ b ++ a) :: wordsOf t
  | _ => []

/-- ATTEST (R383): an HMAC under the device key over the challenge, the die tag and `GLB_FW`. -/
def State.runAttest (s : State) (ws : List Word) : Ran :=
  params s (List.replicate 8 0xFFFFFFFF) ws (
    let m := (bytesOf (ws ++ [Config.dieTag, s.reg A.GLB_FW])).map (BitVec.ofNat 8)
    ranOk s (Config.dieTag :: s.reg A.GLB_FW :: wordsOf (hmac ((List.range 32).map Config.deviceKey) m)))

/-! ## The token (T) -/

/-- TOKEN_GIVE (R360). -/
def State.runGive (s : State) (ws : List Word) : Ran :=
  params s [7] ws (let w := ws.getD 0 0
                   ranOk (s.setOwner (if w.getLsbD 2 then none else some (w.toNat % 4))) [])

/-- TOKEN_TAKE (R360): from a free token, or by the board controller's force. -/
def State.runTake (s : State) (p : Nat) (ws : List Word) : Ran :=
  params s [1] ws (
    if s.owner.isNone || (p = 1 && (ws.getD 0 0).getLsbD 0) then ranOk (s.setOwner (some p)) [] else ranNo s St.OWNER)

/-! ## Modes (X) -/

def State.runStart (s : State) (ws : List Word) : Ran := params s [] ws (ranOk (s.startFwd 5) [])

/-- DOCK: at once, or from DOZE once the device has left P3 (R62). -/
def State.runDock (s : State) (ws : List Word) : Ran :=
  params s [] ws (
    if s.mode = .doze then
      let s1 := s.unpark 8
      ({ s1 with power := { s1.power with modeNext := some (.dock, 7, 0) } }, none)
    else ranOk (s.toDock 7 0) [])

/-- RESET: the warm reset begins 1 ms after the response (R370). -/
def State.runReset (s : State) (ws : List Word) : Ran := params s [] ws (ranOk { s with sys := { s.sys with resetAt := some s.tb } } [])

/-- HALT: in HALT it has no effect (R370). -/
def State.runHalt (s : State) (p : Nat) (ws : List Word) : Ran := params s [] ws (ranOk (s.toHalt 7 0x20 p) [])

/-- PROVE (R328, R333): a run begins where Table 2-9 lets it, once a dozing device has woken. -/
def State.runProve (s : State) (ws : List Word) : Ran :=
  params s [0xF1] ws (
    let w := ws.getD 0 0
    if w.getLsbD 0 then (let s1 := s.abortRun; ranOk s1 [s1.reg A.PRV_STAT])
    else if s.mode = .acquire || s.mode = .proving || s.prv.request.isSome then ranNo s St.BUSY
    else
      let plan := w.toNat / 16 % 16
      if s.prvMayEnter then (let s1 := s.prvEnter plan 0x11 0 false; ranOk s1 [s1.reg A.PRV_STAT])
      else (s.prvAsk plan 0x11 0 false, none))

/-! ## Opening debug (R384, R385) -/

/-- Words of the registers from `lo` to below `hi` that satisfy `f` become 0. -/
def State.eraseRegs (s : State) (lo hi : Nat) (f : Nat → Bool) : State :=
  { s with regs := storeMap resetWord (fun a w => if lo ≤ a && a < hi && f a then 0 else w) s.regs }

/-- What the acceptance of OPEN_DEBUG erases: keys, programs, PTP secrets, stream tables, the journal, and transactions not yet applied. -/
def State.openErase (s : State) : State :=
  let s1 := (s.setBit R.SEC_STAT_OPEN true).setBit R.SEC_STAT_DEVKEY false
  let s2 := { s1 with keys := [], binds := [] }
  let s3 := (List.range 9).foldl (fun s e =>
    let t := (s.stopEngine e).dropGlists e
    t.setEng e { t.eng e with image0 := false, image1 := false, compiled := false }) s2
  let s4 := s3.eraseRegs 0x5100000 0x5190000 (fun _ => true)
  let s5 := (List.range 8).foldl (fun s d => (s.setBit (R.PTP_INST_AUTH d) false).wr (R.PTP_INST_AUX_SPP d) 0) s4
  let s6 := { s5 with
    ptps := storeMap (fun _ => {}) (fun _ (x : PtpPort) => { x with tc := [] }) s5.ptps
    agent := { s5.agent with en := false, slot := 0, nonce := 0 }
    seqHists := [], journal := [] }
  let s7 := ((s6.eraseRegs 0x2200000 0x22C0000 (fun _ => true)).eraseRegs 0x2380000 0x2390000 (fun _ => true)).eraseRegs 0x23C0000 0x2440000
    fun a => a < 0x2400000 && a % 0x10 < 8 || 0x2400000 ≤ a
  let s8 := s7.txns.foldl (fun (s : State) t =>
    (s.setMb t.partner { s.mb t.partner with msg := ((s.mb t.partner).msg).map fun m => { m with recs := [], fail := some (0, St.MODE) } }).mbClose t.partner) s7
  { s8 with txns := [], sys := { s8.sys with erasing := true, haltErase := false } }

/-- OPEN_DEBUG past the checks of mode, source and owner: `DETAIL` 1 for CFG7 and 2 for the fuse; a refusal is logged. -/
def State.runOpen (s : State) (ws : List Word) : Ran :=
  let locked (why : Nat) : Ran := (s.log 0x0C 0x15 St.LOCKED, some (St.LOCKED, [.ofNat why]))
  if !s.sys.straps.getLsbD 7 then locked 1
  else if Config.debugLock then locked 2
  else params s [0xFFFFFFFF] ws (if ws.getD 0 0 = 0x4F50454E then (s.openErase, none) else ranNo s St.PARAM)

/-- The erase is complete (R385 step 8): the mode becomes OPEN with role SOLO, engines stopped, calibration runs aborted (R263) and the TOUT pins at high impedance (R64, R210), unless HALT stands. -/
def State.openDone (s : State) : State :=
  if !s.sys.erasing || s.sys.tripped then s
  else
    let s1 := ({ s with sys := { s.sys with erasing := false } }.setBit R.SEC_STAT_ERASED true)
    let s2 := s1.log 0x0D (s1.reg A.SEC_STAT).toNat 0
    let stands := s2.mode == .halt && (s2.sys.haltErase || (s2.rd R.GLB_MODE_HALT_CAUSE == 1 && (List.range 9).any fun k => decide (380 ≤ s2.temp k)))
    if stands then s2.mbPoll
    else
      let s3 := ((if s2.mode.fwd then s2.leaveFwd.unpark 8 else s2).stopEngines.dropFrames.calAbortAll.pinsOff).soloRole
      (s3.toMode .opened 0x1E 0).mbPoll

/-! ## Calibration, references, power, counters (X) -/

/-- CAL_RUN (R261). -/
def State.runCal (s : State) (ws : List Word) : Ran :=
  params s [0xFFFFFFFF, 0xFFFFFFFF, 0xFFFFFFFF] ws (
    let m := (ws.getD 0 0).toNat + 4294967296 * (ws.getD 1 0).toNat + 18446744073709551616 * (ws.getD 2 0).toNat
    if 2 ^ 84 ≤ m then ranNo s St.RANGE
    else ranOk ((List.range 84).foldl (fun s c => if m.testBit c then s.calPend c else s) s) [])

/-- REF_FORCE (R285): a slot that is QUALIFIED or SELECTED and not monitor-only (R277), or the release of a force. -/
def State.runForce (s : State) (ws : List Word) : Ran :=
  params s [0x1F7] ws (
    let w := ws.getD 0 0
    let d := w.toNat % 8
    let k := w.toNat / 16 % 16
    if w.getLsbD 8 then
      (if s.bit (R.REF_DSTAT_FORCED d) then ranOk ((s.setBit (R.REF_DSTAT_FORCED d) false).evaluate d 16) [] else ranOk s [])
    else if !(s.cstate d k == 3 || s.cstate d k == 4) || s.monOnly d k then ranNo s St.RANGE
    else if (s.dom d).hostLoop || s.following d || s.sys.refclkLost then ranNo s St.BUSY
    else
      let (s1, refused) := if s.selOf d = some k then (s, false) else s.selectCand d k true
      ranOk (if refused then s1.evaluate d 16 else s1.setBit (R.REF_DSTAT_FORCED d) true) [])

/-- REF_CLEAR (R279, R294). -/
def State.runClear (s : State) (ws : List Word) : Ran :=
  params s [0xFFFF0007] ws (
    let w := ws.getD 0 0
    let d := w.toNat % 8
    ranOk ((List.range 16).foldl (fun s k =>
      if w.getLsbD (16 + k) then
        let s1 := s.setBit (R.REF_CSTAT_SUSPECT d k) false
        if s1.cstate d k = 7 then s1.candTo d k 2 else s1
      else s) s) [])

/-- POWER_SET (R371, R352): its items are written at once. -/
def State.runPower (s : State) (ws : List Word) : Ran :=
  match ws with
  | [] => ranNo s St.FORM
  | w :: t =>
    if w &&& 0xFFFFFFFE != 0 then ranNo s St.PARAM
    else
      match State.stageItems 0x19 (t.length + 1) s t [] with
      | .error e => (s, some e)
      | .ok cs =>
        let s1 := cs.foldl State.applyChange s
        ranOk (if w.getLsbD 0 then s1.wake 16 else s1) []

/-- COUNTER_SET (Table 13-8): the ring's base, its size, the period and the group mask, and the BAR2 window; latches are numbered anew (R398). -/
def State.runCounter (s : State) (ws : List Word) : Ran :=
  params s [(descRw A.HUB_RING_LO).getD 0, (descRw A.HUB_RING_HI).getD 0, 0xFFFF, 0xFFFFFF, 0xFFFFFFFF, 0xFFFFFFFF, 1] ws (
    let w (k : Nat) : Word := ws.getD k 0
    let s1 := (((s.setReg A.HUB_RING_LO (w 0)).setReg A.HUB_RING_HI (w 1)).setReg A.HUB_SIZE (w 2)).setReg A.HUB_PERIOD (w 3)
    let s2 := ((s1.setReg A.HUB_GMASK_LO (w 4)).setReg A.HUB_GMASK_HI (w 5)).setBit R.HUB_STAT_USER ((w 6).getLsbD 0)
    ranOk { s2 with hub := { s2.hub with seq := 0 } } [])

/-! ## Restores (X) -/

/-- What a restore of repairs gathers: the map, the state, the entries applied, programs cleared, and the indices not applied. -/
structure Restore where
  map : List Word
  st : State
  count : Nat := 0
  cleared : Bool := false
  lost : Nat := 0
  deriving DecidableEq, Repr

/-- An instruction row moves to a spare: both are cleared (R59). -/
def State.clearRow (s : State) (e r : Nat) : State :=
  let b := decide (256 ≤ r)
  let s1 := s.zeroWords (bankAddr e b (16 * (r % 256))) 32
  let E := s1.eng e
  s1.setEng e (if b then { E with image1 := false } else { E with image0 := false })

/-- One saved entry (R58): factory entries are ignored, one in the map already is kept, and one whose spare is taken, or for which the map has no room, is reported. -/
def Restore.take (x : Restore) (i : Nat) (w : Word) : Restore :=
  let k := repKind w
  let e := mkRepair k (repUnit w) (repIndex w) (repSpare w) true
  if !repField w || x.map.contains e then x
  else if (if k = 5 then spareTaken x.map (repSpare w) (repUnit w) (repIndex w) else spareTaken x.map k (repUnit w) (repSpare w)) || 128 ≤ x.map.length then
    { x with lost := x.lost + 2 ^ i }
  else
    let s1 := match k with
      | 2 => x.st.clearRow (repUnit w) (repIndex w)
      | 4 => ((x.st.wr (R.TDC_CHSTAT_STATE (repIndex w)) 0).wr (R.TDC_CHSTAT_SUBST (repIndex w)) (repSpare w)).wr (R.TDC_CHSTAT_STATE (repSpare w)) 3
      | 5 => if repSpare w = 4 then x.st.wr (R.TDC_CHSTAT_STATE (repIndex w)) 1 else x.st
      | _ => x.st
    let s2 := if k = 4 then s1.wr (R.TDC_CHSTAT_SUBST (repSpare w)) (repIndex w) else s1
    { x with map := x.map ++ [e], st := s2, count := x.count + 1, cleared := x.cleared || k == 2 }

/-- A saved entry names an existing unit and a spare that may serve it (Table 2-6). -/
def repairOk (w : Word) : Bool :=
  let k := repKind w
  let u := repUnit w
  let i := repIndex w
  let p := repSpare w
  (R.REPAIR_MAP_VALID 0).get w == 1 && w &&& 0x30000000 == 0 &&
    (match k with
     | 1 => u < 8 && i < 16 && p == 16
     | 2 => u < 9 && i < 512 && p < 8
     | 3 => u == 0 && i < 64 && p == 64
     | 4 => u == 0 && i < 74 && p == calSpare (calGroup i)
     | 5 => (p == 1 && u < 8 && i == 16) || (p == 2 && u < 9 && i < 8) || (p == 3 && u == 0 && i == 64) || (p == 4 && u == 0 && 74 ≤ i && i < 84)
     | _ => false)

/-- REPAIR_RESTORE (R58, R59). -/
def State.runRepair (s : State) (ws : List Word) : Ran :=
  let st := ws.getD 1 0
  let n := st.toNat % 256
  let es := ws.drop 2
  if ws.length < 2 || es.length ≠ n then ranNo s St.FORM
  else if 128 < n then ranNo s St.RANGE
  else if ws.getD 0 0 ≠ Config.dieTag || repairCrc es ≠ st.toNat / 65536 then ranNo s St.CHECK
  else if es.any fun w => !repairOk w then ranNo s St.PARAM
  else
    let x := (List.range n).foldl (fun (x : Restore) i => x.take i (es.getD i 0)) { map := s.repairs, st := s }
    ranOk (x.st.setRepairs x.map) ([.ofNat (flag x.cleared + 256 * x.count)] ++ (List.range 4).map fun k => .ofNat (x.lost / 4294967296 ^ k))

/-- The two-bit reports of CAL_RESTORE by channel, in words. -/
def calReport (f : Nat → Nat) : List Word := (List.range 6).map fun k => .ofNat (((List.range 16).map fun j => (if 16 * k + j < 84 then f (16 * k + j) else 0) * 4 ^ j).sum)

/-- The saved table of one channel: rejected, kept, ignored (none), or applied (R271). -/
def State.calTake (s : State) (ws : List Word) : State × Nat × Option Nat :=
  let c := (ws.getD 0 0).toNat % 128
  let tbl := (ws.drop 2).flatMap fun w => [w.toNat % 65536, w.toNat / 65536]
  if binCrc tbl ≠ (ws.getD 1 0).toNat then (s, c, some 2)
  else if s.rd (R.TDC_CHSTAT_STATE c) = 1 then (s, c, none)
  else if s.rd (R.TDC_CHSTAT_GRADE c) = 2 && s.tcalDrift c ≤ 4 * s.rd R.TDC_CALCFG_CAL_DT then (s, c, some 1)
  else
    let s1 := ((s.setBins c tbl).wr (R.TDC_CHSTAT_GRADE c) 3).wr (R.TDC_CHSTAT_TCAL c) ((ws.getD 0 0).toNat / 65536 % 1024)
    let s2 := s1.setBit (R.TDC_CHSTAT_PEND c) false
    (if s2.calCalled c then s2.calPend c else s2, c, some 0)

/-- The channels of a CAL_RESTORE in turn. -/
def State.calTakeAll : Nat → State → List Word → (Nat → Nat) → State × (Nat → Nat)
  | 0, s, _, f => (s, f)
  | n + 1, s, ws, f =>
    if ws.isEmpty then (s, f)
    else
      let (s1, c, r) := s.calTake (ws.take 258)
      State.calTakeAll n s1 (ws.drop 258) (match r with | some v => fun k => if k = c then v else f k | none => f)

/-- CAL_RESTORE (R271). -/
def State.runCalRestore (s : State) (ws : List Word) : Ran :=
  let cs := ws.drop 1
  let heads := (List.range (cs.length / 258)).map fun k => (cs.getD (258 * k) 0, cs.getD (258 * k + 1) 0)
  if ws.isEmpty || cs.length % 258 ≠ 0 then ranNo s St.FORM
  else if heads.any fun h => h.1 &&& 0xFC00FF80 != 0 || h.2 &&& 0xFFFF0000 != 0 then ranNo s St.PARAM
  else if heads.any fun h => decide (84 ≤ h.1.toNat % 128) then ranNo s St.RANGE
  else if ws.getD 0 0 ≠ Config.dieTag then ranNo s St.CHECK
  else
    let (s1, f) := State.calTakeAll heads.length s cs (fun k => (Config.calIgnored k).toNat)
    ranOk s1 (calReport f)

/-! ## Keys and the agent (X) -/

/-- KEY_LOAD (R382): 0 load, 1 erase, 2 bind, 3 unbind. -/
def State.runKey (s : State) (ws : List Word) : Ran :=
  let w := ws.getD 0 0
  let slot := w.toNat % 32
  let op := w.toNat / 32 % 8
  let spp := w.toNat / 256 % 256
  let id := (ws.getD 1 0).toNat
  if ws.isEmpty then ranNo s St.FORM
  else if w &&& 0xFFFF0000 != 0 || 4 ≤ op then ranNo s St.PARAM
  else if ws.length ≠ (if op = 0 then 10 else 2) then ranNo s St.FORM
  else if op = 0 then
    let key : List Byte := (bytesOf (ws.drop 2)).map (BitVec.ofNat 8)
    ranOk { s with keys := storeSet (fun _ => []) s.keys slot key } ((wordsOf (hmac key (List.replicate 32 0))).take 1)
  else if op = 1 then ranOk { s with keys := storeSet (fun _ => []) s.keys slot [], binds := s.binds.filter fun b => b.2.2 != slot } []
  else
    let rest := s.binds.filter fun b => !(b.1 == spp && b.2.1 == id)
    if op = 3 then ranOk { s with binds := rest } []
    else if (storeGet (fun _ => []) s.keys slot).isEmpty then ranNo s St.RANGE
    else if 64 ≤ rest.length then ranNo s St.FULL
    else ranOk { s with binds := rest ++ [(spp, id, slot)] } []

/-- AGENT_SET (R379). -/
def State.runAgent (s : State) (ws : List Word) : Ran :=
  params s [0xFFF, 0xFFFFFFFF, 0xFFFF] ws (
    let w := (ws.getD 0 0).toNat
    if s.absent (w % 64) then ranNo s St.RANGE
    else ranOk { s with agent := { s.agent with en := w.testBit 6, port := w % 64, slot := w / 128 % 32
                                                mac := .ofNat 48 ((ws.getD 1 0).toNat + 4294967296 * (ws.getD 2 0).toNat) } } [])

/-- Run a command of class S, T or X; `room` is what the response can still hold. -/
def State.run (s : State) (p op room : Nat) (ws : List Word) : Ran :=
  match op with
  | 0x01 => s.runStatus ws
  | 0x02 => s.runEvents room ws
  | 0x03 => s.runJournal ws
  | 0x04 => s.runPtp ws
  | 0x05 => s.runAttest ws
  | 0x08 => s.runGive ws
  | 0x09 => s.runTake p ws
  | 0x10 => s.runStart ws
  | 0x11 => s.runDock ws
  | 0x12 => s.runReset ws
  | 0x13 => s.runHalt p ws
  | 0x14 => s.runProve ws
  | 0x15 => s.runOpen ws
  | 0x16 => s.runCal ws
  | 0x17 => s.runForce ws
  | 0x18 => s.runClear ws
  | 0x19 => s.runPower ws
  | 0x1A => s.runCounter ws
  | 0x1B => s.runRepair ws
  | 0x1C => s.runCalRestore ws
  | 0x1D => s.runKey ws
  | 0x1E => s.runAgent ws
  | _ => ranNo s St.OPCODE

end Sys2Proof.Machine
end

