-- ==== Sys2Proof/Machine/MbServe.lean ====
section
/-! DEFINITION. Serving the mailbox (R359 to R369, R376 to R380): which commands are accepted, one record after another, the commit of a transaction, its application, messages as they arrive by each transport, and what a recovery does to them. -/

namespace Sys2Proof.Machine

/-! ## Acceptance (R359, R370, R384) -/

/-- Command classes (Table 13-2): 1 S, 2 T, 3 X, 4 C; 0 for an undefined opcode. -/
def opClass (op : Nat) : Nat :=
  if 1 ≤ op && op ≤ 5 then 1
  else if op = 8 || op = 9 then 2
  else if 0x10 ≤ op && op ≤ 0x1E then 3
  else if 0x20 ≤ op && op ≤ 0x2E then 4
  else 0

/-- The modes of Table 13-5 in which a command is accepted. -/
def Mode.takes (m : Mode) (op : Nat) : Bool :=
  match m with
  | .dock => op != 0x11 && op != 0x14
  | .free | .acquire | .locked | .holdover | .proving | .doze => op != 0x10 && op != 0x1B && op != 0x1C && op != 0x24
  | .recover => opClass op == 1
  | .halt => opClass op ≤ 2 || op == 0x12 || op == 0x13 || op == 0x15
  | .opened => (opClass op ≤ 2 || op == 0x13 || op == 0x16 || op == 0x19 || op == 0x1A || opClass op == 4) && op != 5 && op != 0x24
  | .strap | .boot => false

/-- The partners that may issue a command although they do not own the token (Table 13-5). -/
def openTo (p op : Nat) : Bool := opClass op == 1 || op == 9 || (p == 1 && (op == 0x12 || op == 0x13))

/-- A command's acceptance: OK, or the status of the first of these checks that fails. -/
def State.accept (s : State) (p op : Nat) : Nat :=
  if opClass op = 0 then St.OPCODE
  else if op = 5 && (s.mode = .opened || !s.bit R.SEC_STAT_DEVKEY) then St.LOCKED
  else if s.bit R.SEC_STAT_OPEN && !s.bit R.SEC_STAT_ERASED && opClass op ≠ 1 then St.MODE
  else if !s.mode.takes op then St.MODE
  else if 2 ≤ p && (op = 0x15 || op = 0x1D || op = 0x1E) then St.SOURCE
  else if !openTo p op && s.owner ≠ some p then St.OWNER
  else St.OK

/-! ## A message under way -/

/-- The class of a message: that of its first record with a defined opcode, 0 while it has none. -/
def Msg.cls (m : Msg) : Nat := ((m.recs.reverse.map fun r => opClass r.1).find? (· != 0)).getD 0

/-- The message is malformed as a whole: its response is a header only. -/
def Msg.void (m : Msg) : Bool := m.fail.isSome && m.recs.isEmpty

/-- A record that the message may not hold (R362, R374): T or X beside another, S beside C, an end without STREAM_COMMIT. -/
def Msg.formBad (m : Msg) (op : Nat) (last : Bool) : Bool :=
  let c := opClass op
  ((c == 2 || c == 3) && (!last || !m.recs.isEmpty)) || (!m.recs.isEmpty && c != 0 && m.cls != 0 && m.cls != c) ||
    (last && op != 0x23 && (op == 0x22 || m.recs.any fun r => r.1 == 0x22))

/-- Add a record's outcome. -/
def Msg.put (m : Msg) (op st : Nat) (res : List Word) : Msg :=
  { m with recs := (op, st, res) :: m.recs, fail := if m.fail.isSome || st = St.OK then m.fail else some (m.recs.length, st) }

/-- Charge a failure of the staged whole to record `i`: those after it are ABORTED. -/
def Msg.charge (m : Msg) (i st : Nat) (res : List Word) : Msg :=
  let l := m.recs.reverse
  let l1 := (List.range l.length).map fun k => let r := l.getD k (0, 0, []); if k < i then r else if k = i then (r.1, st, res) else (r.1, St.ABORTED, [])
  { m with recs := l1.reverse, fail := some (i, st) }

/-- The last record of an operation. -/
def Msg.lastOf (m : Msg) (op : Nat) : Option Nat :=
  ((List.range m.recs.length).reverse).find? fun i => (m.recs.reverse.getD i (0, 0, [])).1 == op

/-- Check the rules of the staged whole. -/
def State.judgeWhole (s : State) (m : Msg) : Msg :=
  let sh := s.shadow m.changes
  let op := [0x20, 0x28, 0x29, 0x23].find? fun op => (m.lastOf op).isSome && (wholeRule sh m.changes op).isSome
  match op with
  | none => m
  | some op =>
    match m.lastOf op, wholeRule sh m.changes op with
    | some i, some (st, res) => m.charge i st res
    | _, _ => m

/-- The bytes that the response has left. -/
def Msg.room (m : Msg) (p : Nat) : Nat := mbLimit p - 16 - (m.recs.map fun r => 4 + 4 * r.2.2.length).sum

/-- A gate list is committed (R184): it is pending without an X0 until the firmware has loaded its program; `PAST` if its base lies before the orbit domain's time. -/
def State.commitGlist (s : State) (p : Nat) (l : GateList) : State :=
  let past := decide (l.base < s.orbTime)
  let s1 := (s.setGpend p (some { l with past := past })).setBit (R.PORT_GLIST_PEND p) true
  if past then s1.setBit (R.PORT_GLIST_PAST p) true else s1

/-- The gate lists of a transaction, in order. -/
def glistsOf (cs : List Change) : List (Nat × GateList) := cs.filterMap fun c => match c with | .glist p l => some (p, l) | _ => none

/-- Commit a transaction: from now on it will be applied. -/
def State.commit (s : State) (p : Nat) (m : Msg) : State :=
  let gs := glistsOf m.changes
  let s1 := gs.foldl (fun s x => s.commitGlist x.1 x.2) s
  { s1.setMb p { s1.mb p with msg := some m, wait := some 0 } with
    txns := s1.txns ++ [{ partner := p, seq := m.seq, changes := m.changes, tb := s1.tb, loading := !gs.isEmpty }] }

/-- The end of a message: a transaction is judged as a whole and committed or not applied; any other message is answered. -/
def State.finish (s : State) (p : Nat) (m : Msg) : State :=
  if m.cls = 4 || m.seq ≠ 0 then
    let m1 := if m.fail.isSome then m else s.judgeWhole m
    if m1.fail.isSome then
      let s1 := (s.jot m1.seq p 2).setMb p { s.mb p with msg := some m1 }
      (if m1.seq = 0 then s1 else s1.log 0x11 m1.seq m1.status).mbClose p
    else s.commit p m1
  else (s.setMb p { s.mb p with msg := some m }).mbClose p

/-- Stage a record of class C; the first accepted one takes the sequence number (R366). -/
def State.stageRec (s : State) (p op : Nat) (m : Msg) (ws : List Word) : State × Msg :=
  let (s1, m1) := if m.seq = 0 && !m.noSeq then (let r := s.nextSeq p; (r.1, { m with seq := r.2 })) else (s, m)
  match s1.stage op m1.changes m1.objs ws with
  | .error (st, res) =>
    -- a bank image that fails its check stays incomplete (R375)
    let e := (ws.getD 0 0).toNat % 16
    let s2 := if op = 0x25 && st = St.CHECK then s1.setEng e (if (s1.eng e).bank then { s1.eng e with image0 := false } else { s1.eng e with image1 := false }) else s1
    (s2, m1.put op st res)
  | .ok (cs, res, objs) => (s1, { m1.put op St.OK res with changes := m1.changes ++ cs, objs := objs })

/-- One record of a message that is under way. -/
def State.recIn (s : State) (p op : Nat) (last : Bool) (m : Msg) (ws : List Word) : State :=
  let keep (s : State) (m : Msg) : State := if last then s.finish p m else s.setMb p { s.mb p with msg := some m }
  if m.void then keep s m
  else if m.formBad op last then keep s { m with recs := [], changes := [], fail := some (0, St.FORM) }
  else
    let st := s.accept p op
    if m.fail.isSome then keep s { m.put op St.ABORTED [] with noSeq := m.noSeq || st != St.OK }
    else if st ≠ St.OK then
      let s1 := if op = 0x15 && st ≠ St.OPCODE then s.log 0x0C op st else s
      keep s1 { m.put op st (if st = St.LOCKED then [3] else []) with noSeq := true }
    else if opClass op = 4 then (let (s1, m1) := s.stageRec p op m ws; keep s1 m1)
    else
      match s.run p op (m.room p) ws with
      | (s1, some (st, res)) => keep s1 (m.put op st res)
      | (s1, none) => (s1.setMb p { s1.mb p with msg := some m, wait := some op }).mbPollAt p

/-- One command record of partner p: `last` ends its message. A partner whose message waits for its completion is answered with BUSY at once (R365). -/
def State.record (s : State) (p op : Nat) (last : Bool) (ws : List Word) : State :=
  if !s.mbServes then s
  else if (s.mb p).wait.isSome || (s.mb p).relayed.isSome then (if last then s.mbPost p (mbResponse 0 0 St.BUSY 0 []) else s)
  else s.recIn p op last ((s.mb p).msg.getD {}) ws

/-! ## Application (R366, R184) -/

/-- The results that are known when a transaction is applied: the Orbit of a swap, and O and `PAST` of a gate list. -/
def State.fillRecs (s : State) : List (Nat × Nat × List Word) → List (Nat × GateList) → List (Nat × Nat × List Word)
  | [], _ => []
  | (op, st, res) :: t, gs =>
    if op = 0x26 then (op, st, [.ofNat (s.orbNum + 1), .ofNat ((s.orbNum + 1) / 4294967296)]) :: s.fillRecs t gs
    else if op = 0x27 then
      match gs with
      | (p, _) :: r => (op, st, [s.reg (A.PORT_GL_START_SEC_LO p), s.reg (A.PORT_GL_START_SEC_HI p), s.reg (A.PORT_GL_START_NS p), if (match s.gpend p with | some l => l.past | none => false) then 1 else 0]) :: s.fillRecs t r
      | [] => (op, st, res) :: s.fillRecs t []
    else (op, st, res) :: s.fillRecs t gs

/-- Close a transaction that is applied: `GLB_RCV.SEQ`, the journal, the log and the response. -/
def State.closeTxn (s : State) (t : Txn) : State :=
  let s1 := ((s.jot t.seq t.partner 1).wr R.GLB_RCV_SEQ t.seq).log 0x11 t.seq 0
  match (s1.mb t.partner).msg with
  | some m =>
    if m.seq = t.seq then
      let recs := (s1.fillRecs m.recs.reverse (glistsOf t.changes)).reverse
      (s1.setMb t.partner { s1.mb t.partner with msg := some { m with recs := recs } }).mbClose t.partner
    else s1
  | none => s1

/-- The changes of a transaction take effect together; a gate list of it takes X0, an Orbit's start (R184), unless a later transaction has replaced it (R185). -/
def State.applyTxn (x0 : Int) (s : State) (t : Txn) : State :=
  let s1 := t.changes.foldl State.applyChange s
  let s2 := (glistsOf t.changes).foldl (fun s x =>
    match s.gpend x.1 with
    | some l => if l.x0.isNone && !s.txns.any (fun r => (glistsOf r.changes).any fun y => y.1 == x.1) then s.timeGlist x.1 l x0 else s
    | none => s) s1
  s2.closeTxn t

/-- A transaction may be applied at an Orbit start of now (R133, R366). -/
def State.txnDue (s : State) (t : Txn) : Bool := !t.loading && s.mode != .recover && decide (t.tb + twoUs ≤ s.tb)

/-- Apply the committed transactions that are due, in order. -/
def State.applyDue : Nat → State → State
  | 0, s => s
  | n + 1, s =>
    match s.txns with
    | [] => s
    | t :: r => if s.txnDue t then State.applyDue n (State.applyTxn s.orbit.start { s with txns := r } t) else s

/-- The firmware has loaded the compiled program of the first transaction that waits for it: staging ends now (R184). -/
def State.glistLoad (s : State) : State :=
  let rec go : List Txn → List Txn
    | [] => []
    | t :: r => if t.loading then { t with loading := false, tb := s.tb } :: r else t :: go r
  { s with txns := go s.txns }

/-! ## Messages -/

/-- Read `n` records of a request: opcode and parameters; none where `CST`, `PLEN` or the length is wrong. -/
def readRecs : Nat → List Word → Option (List (Nat × List Word))
  | 0, ws => if ws.isEmpty then some [] else none
  | _ + 1, [] => none
  | n + 1, h :: t =>
    let len := h.toNat / 65536
    if h.toNat / 256 % 256 ≠ 0 || len % 4 ≠ 0 || t.length < len / 4 then none
    else (readRecs n (t.drop (len / 4))).map fun r => (h.toNat % 256, t.take (len / 4)) :: r

/-- The words of a message that its `LEN` counts, if `VER`, `LEN`, `NCMD` and the reserved bits of its header are right (Table 13-3). -/
def headOk (p : Nat) (ws : List Word) : Option (List Word) :=
  let h := (ws.getD 0 0).toNat
  let len := h / 65536
  let n := h / 256 % 256
  if h % 256 = 1 && 1 ≤ n && n ≤ 64 && len % 4 = 0 && 16 ≤ len && len ≤ mbLimit p && len / 4 ≤ ws.length
    && (ws.getD 1 0).toNat < 131072 && ws.getD 2 0 = 0 then some (ws.take (len / 4)) else none

/-- The message to the twin: its `RELAY` bit is cleared, and `CHECK` holds for it as sent (log entry 36). -/
def relayWords (ws : List Word) : List Word :=
  let ws1 := ws.set 1 (ws.getD 1 0 &&& 0xFFFEFFFF)
  ws1.set 3 (mbCheck ws1)

/-- The records of a message in order. -/
def State.runRecs (s : State) (p : Nat) : List (Nat × List Word) → State
  | [] => s
  | (op, ws) :: t => (s.record p op t.isEmpty ws).runRecs p t

/-- A class mixture, or a STREAM_EDIT without its commit, among the records of a message. -/
def recsBad (m : Msg) : List (Nat × List Word) → Bool
  | [] => false
  | (op, _) :: t => m.formBad op t.isEmpty || recsBad (m.put op St.OK []) t

/-- A whole message of partner p: its form, its relay, and its records. -/
def State.serveMsg (s : State) (p : Nat) (ws : List Word) : State :=
  let M := s.mb p
  let tag := (ws.getD 1 0).toNat % 65536
  let no (st : Nat) : State := s.mbPost p (mbResponse tag 0 st 0 [])
  if !s.mbServes then s
  else if M.wait.isSome || M.relayed.isSome || M.msg.isSome then no St.BUSY
  else
    match headOk p ws with
    | none => no St.FORM
    | some ws =>
      if p ≠ 0 && ws.getD 3 0 ≠ mbCheck ws then no St.FORM
      else if (ws.getD 1 0).getLsbD 16 then
        (if p = 2 then no St.FORM
         else if s.rd R.TW_STAT_LINK = 0 || s.twin.lossLink then no St.UNREACHABLE
         else (s.emit (.relay (relayWords ws))).setMb p { M with relayed := some tag, relayTb := s.tb })
      else
        match readRecs ((ws.getD 0 0).toNat / 256 % 256) (ws.drop 4) with
        | none => no St.FORM
        | some rs =>
          if recsBad {} rs then no St.FORM
          else (s.setMb p { M with msg := some { tag := tag, noSeq := rs.any fun r => s.accept p r.1 != St.OK } }).runRecs p rs

/-- The response to a relayed message comes back (R380). -/
def State.relayRsp (s : State) (p : Nat) (ws : List Word) : State :=
  if (s.mb p).relayed.isNone then s else (s.setMb p { s.mb p with relayed := none }).mbPost p ws

/-- A relayed message finds no answer within 100 ms (R365); before that nothing happens. -/
def State.relayTimeout (s : State) (p : Nat) : State :=
  match (s.mb p).relayed with
  | none => s
  | some tag => if s.tb < (s.mb p).relayTb + 100000000 then s else (s.setMb p { s.mb p with relayed := none }).mbPost p (mbResponse tag 0 St.UNREACHABLE 0 [])

/-! ## Doorbells and the agent -/

/-- `MB_DOORBELL` of the host or the board controller (R376, R377). -/
def State.doorbell (s : State) (p : Nat) (v : Word) : State :=
  if !v.getLsbD 0 || !s.bit R.GLB_FW_VALID then s
  else if s.bit (mbFld p R.MB_STATUS_REQ_BUSY) then s.setBit (mbFld p R.MB_STATUS_DBLOST) true
  else { s.setBit (mbFld p R.MB_STATUS_REQ_BUSY) true with posted := s.posted ++ [p] }

/-- The firmware copies the first request posted and serves it (R364, R376). -/
def State.servePosted (s : State) : State :=
  match s.posted with
  | [] => s
  | p :: t =>
    let ws := (List.range (mbLimit p / 4)).map fun k => s.reg (reqBuf p + 4 * k)
    ({ s with posted := t }.setBit (mbFld p R.MB_STATUS_REQ_BUSY) false).serveMsg p ws

/-- A frame of the in-band agent (R379): its ICV and its nonce are checked, a failure is logged, and its message is served. -/
def State.agentServe (s : State) (src : BitVec 48) (nonce : Word) (ws : List Word) (icv : List Byte) : State :=
  if !s.mbServes || !s.agent.en || (storeGet (fun _ => []) s.keys s.agent.slot).isEmpty then s
  else if s.agentIcv nonce ws ≠ icv then s.log 0x0C (Config.agentEvent 0).toNat (Config.agentEvent 1).toNat
  else if nonce.toNat ≤ s.agent.nonce then s.log 0x0C (Config.agentEvent 2).toNat (Config.agentEvent 3).toNat
  else
    let s1 := { s with agent := { s.agent with nonce := nonce.toNat } }
    let M := s1.mb 3
    if M.wait.isSome || M.relayed.isSome || M.msg.isSome then
      let rsp := mbResponse ((ws.getD 1 0).toNat % 65536) 0 St.BUSY 0 []
      s1.emit (.agent src nonce rsp (s1.agentIcv nonce rsp))
    else (s1.setMb 3 { M with peer := src, nonce := nonce }).serveMsg 3 ws

/-! ## Recovery (R69, R369) -/

/-- The messages that a recovery finds with an intent record only are not applied: their sequence numbers, the last of them, and the state. -/
def State.dropIntents (s : State) : State × Nat :=
  (List.range 4).foldl (fun (r : State × Nat) p =>
    match (r.1.mb p).msg with
    | some m =>
      if (r.1.mb p).wait = some 0 then r
      else if m.seq ≠ 0 then
        let s1 := (r.1.jot m.seq p 2).setMb p { r.1.mb p with msg := some { m with recs := [], fail := some (0, St.RECOVERED) } }
        (s1.mbClose p, m.seq)
      else r
    | none => r) (s, 0)

/-- RECOVER ends: intents are discarded, the mode becomes DOCK or `TSTATE`, committed transactions are applied from their committed copies, and what left it resumes (Table 2-9, R65, R67). The firmware's rewrite of both banks, from which the 2 µs of R161 run, is taken as done at this instant (DESIGN CHOICE, log entry 152). -/
def State.recovered (s : State) : State :=
  let (s1, lost) := s.dropIntents
  let again := match s1.txns.getLast? with | some t => t.seq | none => 0
  let n := s1.rd R.GLB_RCV_COUNT
  let s2 := (s1.wr R.GLB_RCV_COUNT (min 255 (n + 1))).log 4 (s1.rd R.GLB_RCV_LAST) (lost + 65536 * again)
  let s3 := (if s2.sys.fromDock then s2.toMode .dock 0x1B 0 else s2.toMode s2.tstate.mode 0x1B 0).requalCands
  let s4 := s3.txns.foldl (State.applyTxn s3.orbit.next) { s3 with txns := [] }
  let s5 := (List.range 9).foldl (fun s e => let E := s.eng e; if E.held && s.rd (R.ENG_STAT_FCODE e) == 7 then s.setEng e { E with resumeFrom := some s.tb } else s) s4
  (if s5.mode.fwd then s5.twinEnter else s5).mbPoll

/-- The end of a recovery (R69): DOCK or `TSTATE`, or HALT where a check fails. While the monitor stays tripped the device holds in RECOVER. -/
def State.recoverEnd (s : State) (ok : Bool) : State :=
  if s.mode ≠ .recover || s.sys.tripped then s
  else if ok then s.recovered else s.toHalt 5 0x1C 0

end Sys2Proof.Machine
end

