-- ==== Sys2Proof/Machine/Orbits.lean ====
section
/-! DEFINITION. ORBIT_START, LIST_SEAL and TRANSACTION_APPLY: the Orbit that begins (R140 to R155), lists that are sealed (R145), and the transaction that an Orbit start applies (R366). -/

namespace Sys2Proof.Machine

/-- What takes effect at the start of an Orbit, in order: transactions, the twin's change of role, a proving run, P3, clocks (R338), engines, pins, the hub, and the twin's records; messages that waited for a mode are answered. -/
def State.orbitStart (s : State) : State :=
  if !s.orbitsRun then s
  else
    let s0 := s.orbitEnd.orbitBegin
    let s1 := (State.applyDue s0.txns.length s0).twinOrbit.prvOrbit.p3Enter
    let s2 := s1.takeGlists.showGlists
    let s3 := (List.range 9).foldl State.engOrbit (s2.applyClk.clkobsAfter s2)
    let s4 := ((List.range 8).foldl State.applyCfg s3).markStart
    ((s4.hubTake.hubPeriodic.orbSlot).twinOrbitSend).mbPoll

/-- Orbits start until the transaction at the head of the queue has been applied, at most `n` of them. -/
def State.untilApplied : Nat → Nat → State → State
  | 0, _, s => s
  | n + 1, k, s => if s.txns.length < k then s else State.untilApplied n k s.orbitStart

/-- TRANSACTION_APPLY: TIME passes to the Orbit start that applies the first transaction; nothing happens where none is committed or none can be applied. -/
def State.txnApply (s : State) : State :=
  match s.txns with
  | [] => s
  | t :: _ => if t.loading || s.mode = .recover || !s.orbitsRun then s else State.untilApplied 2 s.txns.length s

def execOrbitStart (s : State) : Host.Outcome State Fault Refusal := .next s.orbitStart
def execListSeal (s : State) : Host.Outcome State Fault Refusal := .next s.listSeal
def execTransactionApply (s : State) : Host.Outcome State Fault Refusal := .next s.txnApply

end Sys2Proof.Machine
end

