-- ==== Sys2Proof/Machine/Mailbox.lean ====
section
/-! DEFINITION. The mailbox rows: one command record each (Tables 13-5 and 13-8), of the partner and with the words that the row carries; and what reaches the mailbox by its transports. -/

namespace Sys2Proof.Machine

/-- A record of opcode `op`. -/
def State.mbRow (s : State) (op : Nat) (m : MbCmd) : Host.Outcome State Fault Refusal := .next (s.record m.partner op m.last m.words)

/-- The words with the bits `mask` of the first replaced: a row that names one use of a command has the flag or operation that makes it so. -/
def forceBits (m : MbCmd) (mask v : Word) : MbCmd := { m with words := m.words.set 0 ((m.words.getD 0 0 &&& ~~~mask) ||| v) }

def execStatus (m : MbCmd) (s : State) : Host.Outcome State Fault Refusal := s.mbRow 0x01 m
def execEventRead (m : MbCmd) (s : State) : Host.Outcome State Fault Refusal := s.mbRow 0x02 m
def execJournalRead (m : MbCmd) (s : State) : Host.Outcome State Fault Refusal := s.mbRow 0x03 m
def execPtpStatus (m : MbCmd) (s : State) : Host.Outcome State Fault Refusal := s.mbRow 0x04 m
def execAttest (m : MbCmd) (s : State) : Host.Outcome State Fault Refusal := s.mbRow 0x05 m
def execTokenGive (m : MbCmd) (s : State) : Host.Outcome State Fault Refusal := s.mbRow 0x08 m
def execTokenRelease (m : MbCmd) (s : State) : Host.Outcome State Fault Refusal := s.mbRow 0x08 (forceBits m 0x4 0x4)
def execTokenTake (m : MbCmd) (s : State) : Host.Outcome State Fault Refusal := s.mbRow 0x09 m
def execStartCmd (m : MbCmd) (s : State) : Host.Outcome State Fault Refusal := s.mbRow 0x10 m
def execDockCmd (m : MbCmd) (s : State) : Host.Outcome State Fault Refusal := s.mbRow 0x11 m
def execResetCmd (m : MbCmd) (s : State) : Host.Outcome State Fault Refusal := s.mbRow 0x12 m
def execHaltCmd (m : MbCmd) (s : State) : Host.Outcome State Fault Refusal := s.mbRow 0x13 m
def execProve (m : MbCmd) (s : State) : Host.Outcome State Fault Refusal := s.mbRow 0x14 m
def execProveAbort (m : MbCmd) (s : State) : Host.Outcome State Fault Refusal := s.mbRow 0x14 (forceBits m 0x1 0x1)
def execOpenDebug (m : MbCmd) (s : State) : Host.Outcome State Fault Refusal := s.mbRow 0x15 m
def execCalRun (m : MbCmd) (s : State) : Host.Outcome State Fault Refusal := s.mbRow 0x16 m
def execRefForce (m : MbCmd) (s : State) : Host.Outcome State Fault Refusal := s.mbRow 0x17 m
def execRefForceRelease (m : MbCmd) (s : State) : Host.Outcome State Fault Refusal := s.mbRow 0x17 (forceBits m 0x100 0x100)
def execRefClear (m : MbCmd) (s : State) : Host.Outcome State Fault Refusal := s.mbRow 0x18 m
def execPowerSet (m : MbCmd) (s : State) : Host.Outcome State Fault Refusal := s.mbRow 0x19 m
def execPowerSetWake (m : MbCmd) (s : State) : Host.Outcome State Fault Refusal := s.mbRow 0x19 (forceBits m 0x1 0x1)
def execCounterSet (m : MbCmd) (s : State) : Host.Outcome State Fault Refusal := s.mbRow 0x1A m
def execRepairRestore (m : MbCmd) (s : State) : Host.Outcome State Fault Refusal := s.mbRow 0x1B m
def execCalRestore (m : MbCmd) (s : State) : Host.Outcome State Fault Refusal := s.mbRow 0x1C m
def execKeyLoad (m : MbCmd) (s : State) : Host.Outcome State Fault Refusal := s.mbRow 0x1D m
def execKeyErase (m : MbCmd) (s : State) : Host.Outcome State Fault Refusal := s.mbRow 0x1D (forceBits m 0xE0 0x20)
def execKeyBind (m : MbCmd) (s : State) : Host.Outcome State Fault Refusal := s.mbRow 0x1D (forceBits m 0xE0 0x40)
def execKeyUnbind (m : MbCmd) (s : State) : Host.Outcome State Fault Refusal := s.mbRow 0x1D (forceBits m 0xE0 0x60)
def execAgentSet (m : MbCmd) (s : State) : Host.Outcome State Fault Refusal := s.mbRow 0x1E m
def execFabricSet (m : MbCmd) (s : State) : Host.Outcome State Fault Refusal := s.mbRow 0x20 m
def execShaperSet (m : MbCmd) (s : State) : Host.Outcome State Fault Refusal := s.mbRow 0x21 m
def execStreamEditWrite (m : MbCmd) (s : State) : Host.Outcome State Fault Refusal := s.mbRow 0x22 (forceBits m 0x8 0x0)
def execStreamEditDelete (m : MbCmd) (s : State) : Host.Outcome State Fault Refusal := s.mbRow 0x22 (forceBits m 0x8 0x8)
def execStreamCommit (m : MbCmd) (s : State) : Host.Outcome State Fault Refusal := s.mbRow 0x23 m
def execOrbitSet (m : MbCmd) (s : State) : Host.Outcome State Fault Refusal := s.mbRow 0x24 m
def execOrbitLoad (m : MbCmd) (s : State) : Host.Outcome State Fault Refusal := s.mbRow 0x25 m
def execOrbitSwap (m : MbCmd) (s : State) : Host.Outcome State Fault Refusal := s.mbRow 0x26 m
def execGateListSet (m : MbCmd) (s : State) : Host.Outcome State Fault Refusal := s.mbRow 0x27 m
def execPtpSet (m : MbCmd) (s : State) : Host.Outcome State Fault Refusal := s.mbRow 0x28 m
def execRefSet (m : MbCmd) (s : State) : Host.Outcome State Fault Refusal := s.mbRow 0x29 m
def execDomainAdjustOffset (m : MbCmd) (s : State) : Host.Outcome State Fault Refusal := s.mbRow 0x2A (forceBits m 0x30 0x0)
def execDomainAdjustSetTime (m : MbCmd) (s : State) : Host.Outcome State Fault Refusal := s.mbRow 0x2A (forceBits m 0x30 0x10)
def execDomainAdjustRate (m : MbCmd) (s : State) : Host.Outcome State Fault Refusal := s.mbRow 0x2A (forceBits m 0x30 0x20)
def execDomainLoopOpen (m : MbCmd) (s : State) : Host.Outcome State Fault Refusal := s.mbRow 0x2B (forceBits m 0x100 0x100)
def execDomainLoopClose (m : MbCmd) (s : State) : Host.Outcome State Fault Refusal := s.mbRow 0x2B (forceBits m 0x100 0x0)
def execTimepinSet (m : MbCmd) (s : State) : Host.Outcome State Fault Refusal := s.mbRow 0x2C m
def execTwinSet (m : MbCmd) (s : State) : Host.Outcome State Fault Refusal := s.mbRow 0x2D m
def execProveSet (m : MbCmd) (s : State) : Host.Outcome State Fault Refusal := s.mbRow 0x2E m

/-! ## Transports and the firmware's own steps -/

/-- `MB_DOORBELL` of the host (0) or the board controller (1). -/
def execMbDoorbell (p : Fin 2) (v : Word) (s : State) : Host.Outcome State Fault Refusal := .next (s.doorbell p v)

/-- `MB_RSP_ACK`: writing 1 frees the buffer. -/
def execMbRspAck (p : Fin 2) (v : Word) (s : State) : Host.Outcome State Fault Refusal := .next (if v.getLsbD 0 then s.mbAck p else s)

/-- A frame of the in-band agent: its source address, nonce, message and ICV (R379). -/
def execAgentFrame (src : BitVec 48) (nonce : Word) (words : List Word) (icv : List Byte) (s : State) : Host.Outcome State Fault Refusal :=
  .next (s.agentServe src nonce words icv)

/-- A message relayed by the twin is served as partner 2's (R380). -/
def execRelayMessage (words : List Word) (s : State) : Host.Outcome State Fault Refusal := .next (s.serveMsg 2 words)

/-- The response to a message that partner p relayed (R380). -/
def execRelayResponse (p : Fin 4) (words : List Word) (s : State) : Host.Outcome State Fault Refusal := .next (s.relayRsp p words)

/-- No answer to partner p's relayed message within 100 ms (R365). -/
def execRelayTimeout (p : Fin 4) (s : State) : Host.Outcome State Fault Refusal := .next (s.relayTimeout p)

/-- The erase of OPEN_DEBUG is complete (R385). -/
def execOpenEraseComplete (s : State) : Host.Outcome State Fault Refusal := .next s.openDone

/-- The firmware has loaded a compiled program (R184). -/
def execGateListLoad (s : State) : Host.Outcome State Fault Refusal := .next s.glistLoad

/-- Recovery ends, its checks passed or failed (R69). -/
def execRecoveryComplete (ok : Bool) (s : State) : Host.Outcome State Fault Refusal := .next (s.recoverEnd ok)

end Sys2Proof.Machine
end

