-- ==== Sys2Proof/Machine/BusOps.lean ====
section
/-! DEFINITION. Reads and writes by the requesters of Table 15-6: 0 BAR0, 1 BAR2, 2 BAR4, 3 the management core, 4 the counter hub, 5 and 6 the board controller at I²C addresses 0x58 and 0x59 (R40), 7 PCIe configuration space (R402, R406, R407 to R416, Table 13-10). -/

namespace Sys2Proof.Machine

/-! ## The MBUS error log (R416) -/

/-- An MBUS error is logged: the first 16 with an entry and an event. -/
def State.mbErr (s : State) (cause req a : Nat) (write : Bool) : State :=
  let n := s.rd R.MBE_STAT_FILL
  let s1 := (s.setBit R.GLB_ISRC_MBERR true).wr R.MBE_STAT_COUNT (min 65535 (s.rd R.MBE_STAT_COUNT + 1))
  let s2 :=
    if n < 16 then
      let s2 := s1.setReg (A.MBE_ENT0 n) (.ofNat (a % 134217728 + (if write then 134217728 else 0) + 268435456 * cause))
      let s3 := (s2.setReg (A.MBE_ENT1 n) (.ofNat (req + 65536 * (s.orbNum % 65536)))).wr R.MBE_STAT_FILL (n + 1)
      s3.log 0x0F cause a
    else s1
  s2.syncVec 2

/-- The requester's number in the log (Table 15-6). -/
def reqCode (q : Nat) : Nat := if 5 ≤ q then 5 else q

/-! ## Which accesses reach a word -/

/-- The size of a requester's space: its BAR (Table 15-2), BAR0 offsets, I²C addresses, or configuration space. -/
def busSize (q : Nat) : Nat := if q = 1 then 0x40000 else if q = 2 then 0x4000 else if q = 5 || q = 6 then 0x10000 else if q = 7 then 0x1000 else 0x8000000

/-- The BAR a requester's addresses belong to. -/
def busBar (q : Nat) : Nat := if q = 1 then 2 else if q = 2 then 4 else 0

/-- The I²C target address that CFG6 sets (R24, R40). -/
def State.i2cAddr (s : State) : Nat := if s.sys.straps.getLsbD 6 then 0x59 else 0x58

/-- Nothing answers: the function is under PERST_N, or its link has not trained, or in D3hot its BARs do not decode (R44, R408); or the I²C address is not the device's (R40). -/
def State.busDead (s : State) (q : Nat) : Bool :=
  if q = 5 || q = 6 then s.i2cAddr != 0x53 + q
  else (q ≤ 2 || q == 7) && (s.pcie.perst || !s.pcie.training || (s.pcie.d3 && q != 7))

/-- The memory window at a BAR0 offset has its clock gated (R343): engine banks and bin tables of a parked or disabled octet, and the stream tables while every octet is. -/
def State.gated (s : State) (a : Nat) : Bool :=
  let off (o : Nat) : Bool := o < 8 && 2 ≤ s.octPower o
  if 0x5100000 ≤ a && a < 0x5190000 then off ((a - 0x5100000) / 0x10000)
  else if 0x3010000 ≤ a && a < 0x303A000 then off (calGroup ((a - 0x3010000) / 0x800))
  else if 0x2200000 ≤ a && a < 0x24C0000 then (List.range 8).all off
  else false

/-- The cause of the error response to an access (Table 15-5), none where it is served. -/
def State.busBad (s : State) (q a : Nat) : Option Nat :=
  if q = 1 || q = 2 || 5 ≤ q then none
  else if s.mode = .boot && 0x1000000 ≤ a then some 5
  else if s.gated a then some 1
  else none

/-- A word of a port's counter window (R393): words 0 to 2 of an event that Table 14-3 does not name read 0 and take no write. -/
def ctrWindow (a : Nat) : Bool := 0x1008000 ≤ a && a < 0x1800000 && 0x8000 ≤ a % 0x100000 && a % 0x100000 < 0xC000 && a % 16 ≠ 12

/-- A register of a port (R109, R186, R393), and that port. -/
def portReg (a : Nat) : Option Nat :=
  let o := 8 * ((a - 0x1000000) / 0x100000)
  let r := a % 0x100000
  if a < 0x1000000 || 0x1800000 ≤ a then none
  else if 0x8000 ≤ r && r < 0xC000 then some (o + (r - 0x8000) / 0x800)
  else if 0x4000 ≤ r && r < 0x4200 then some (o + (r - 0x4000) / 0x40)
  else if (0x2000 ≤ r && r < 0x2800) || (0x3000 ≤ r && r < 0x3800) || (0x5000 ≤ r && r < 0x5800) then some (o + r % 0x1000 / 0x100)
  else none

/-- A word of an absent port (R5). -/
def State.deadWord (s : State) (a : Nat) : Bool := match portReg a with | some p => s.absent p | none => false

/-! ## Reads -/

/-- The reader that a requester is (R394). -/
def readerOf (q : Nat) : Option Nat := if q = 0 then some 0 else if q = 1 then some 1 else if q = 3 then some 3 else none

/-- The word holds a counter of 32 bits or fewer outside the counter windows of ports, contexts, functions and engines (Table 14-4, kinds 2 and 5 to 8). -/
def narrowCtr (a : Nat) : Bool :=
  (0x23C0000 ≤ a && a < 0x23D0000 && a % 0x10 == 8) || (0x3001000 ≤ a && a < 0x3001A80 && 0x10 ≤ a % 0x20 && a % 0x20 < 0x1C) ||
    (0x2820000 ≤ a && a < 0x2820200 && a % 0x40 == 8) || (0x3000C00 ≤ a && a < 0x3000C80 && 4 ≤ a % 0x10 && a % 0x10 < 0xC) ||
    (0x2840000 ≤ a && a < 0x2840800 && a % 0x100 == 8) || (0x3801000 ≤ a && a < 0x3803000 && a % 0x400 == 0x40) ||
    a == A.TW_ECLIPSES || a == A.PRV_LOGPTR || a == A.EVL_LOST || a == A.SMP_LOST || (0x6000030 ≤ a && a < 0x600003C)

/-- The value of the word at a BAR0 offset, and what a plain read of it latches; a read of any counter's lowest word ends what the reader had latched before (R394). -/
def State.readValue (s : State) (q a : Nat) : State × Word :=
  let s := match readerOf q with | some r => if narrowCtr a then s.unlatch r else s | none => s
  match Ctr.at a, Ctr.atHi a, readerOf q with
  | some c, _, some r => s.ctrReadLow r c
  | none, some c, some r => (s, s.ctrReadHigh r c)
  | _, _, r =>
    match latchLen a with
    | some n => s.latchRead a n
    | none =>
      if latchTail a then (s, s.latched a)
      else match r.bind s.ctrLatch with
        | some l => (match Ctr.at l.addr with | some c => (if c.sticky.addr = a then (s, s.ctrReadSticky (r.getD 0) a) else (s, s.live a)) | none => (s, s.live a))
        | none => (s, s.live a)

/-- What reading a word does beside latching: RC fields clear, and heads of queues are removed (R71, R163, R212, R246, R273, R334). -/
def State.readEffect (s : State) (a : Nat) : State :=
  if a = A.GLB_RCV then s.wr R.GLB_RCV_BADKEY 0
  else if a = A.PRV_LOGPTR then s.wr R.PRV_LOGPTR_LOST 0
  else if 0x5001000 ≤ a && a < 0x5001900 && a % 0x100 = 8 then s.wr (R.ENG_MAXCYC_CYC (a % 0x1000 / 0x100)) 0
  else if 0x2820000 ≤ a && a < 0x2820200 && a % 0x40 = 0x1C then s.tinPop (a % 0x200 / 0x40)
  else if 0x3000E00 ≤ a && a < 0x3000E80 && a % 0x20 = 8 then s.ivlRead (a % 0x80 / 0x20)
  else if inPage a 5 && a % 0x100 = 0x40 then s.tsqPop (portOf a)
  else s

/-- A read of a BAR0 offset: the words of absent ports and reserved space read 0 and do nothing (R5, R414). -/
def State.readBar0 (s : State) (q a : Nat) : State × Word :=
  if s.deadWord a || (findDesc a).isNone then (s, 0)
  else
    let (s1, w) := s.readValue q a
    (s1.readEffect a, w)

/-- A read of the counter window (R402): live values in the layout of R393, with the latch of R394; 0 while it is disabled. A selector past `COUNT` reads 0; `VALID` is the selector's own bit, also where it names no counter (DEDUCED, log entry 164). -/
def State.readBar2 (s : State) (a : Nat) : State × Word :=
  let g := a / 0x1000
  let i := a % 0x1000 / 16
  if !s.bit R.HUB_STAT_USER || 64 ≤ i then (s, 0)
  else
    let k := 64 * g + i
    let used := decide (i < s.hubCount g)
    match (if used then s.hubSel k else none) with
    | none => (s, if used && a % 16 / 4 == 2 then .ofNat (2 * s.hubRd (R.HUB_SEL_VALID k)) else 0)
    | some c =>
      let w := a % 16 / 4
      let l := s.ctrLatch 1
      let mine := match l with | some l => l.addr == c.lo.addr && c.hiBits != 0 | none => false
      if w = 0 then (let r := s.ctrReadLow 1 c; (r.1, .ofNat (s.rd c.lo)))
      else if w = 1 then (s, if c.hiBits = 0 then 0 else s.ctrReadHigh 1 c)
      else if w = 2 then (s, .ofNat (2 + flag (match l with | some l => if mine then l.sticky else s.bit c.sticky | none => s.bit c.sticky)))
      else (s, 0)

/-- A read of the I²C map (Table 13-10): before `GLB_FW.VALID` only the straps and the mode answer. -/
def State.readI2c (s : State) (a : Nat) : Word :=
  if a = 0x800 then s.live A.GLB_STRAP
  else if a = 0x804 then s.live A.GLB_MODE
  else if !s.bit R.GLB_FW_VALID then 0
  else if a < 0x200 then s.reg (reqBuf 1 + a)
  else if a < 0x400 then s.reg (rspBuf 1 + a - 0x200)
  else if a = 0x404 then
    let own := s.reg (mbFld 1 R.MB_STATUS_REQ_BUSY).addr
    (s.live A.MB_STATUS &&& 0xFFFFFFF4) ||| (own &&& 0xB)
  else 0

/-! ## Configuration space (R406, R407; where a capability stands is the part's choice, log entry 140) -/

/-- The lanes that the link has (R24, R39): x4 on lanes 0 to 3, or x2 on lanes 0 and 1 with lanes 2 and 3 in electrical idle. -/
def State.pcieWidth (s : State) : Nat := if s.sys.straps.getLsbD 10 then 2 else 4
def State.pcieLane (s : State) (l : Nat) : Bool := !s.pcie.perst && s.pcie.training && decide (l < s.pcieWidth)

/-- The device serial number: the base MAC address with 0xFF, 0xFE in its middle (Table 15-1). -/
def serialNumber : BitVec 64 := (Config.baseMac >>> 24).setWidth 24 ++ 0xFFFE#16 ++ Config.baseMac.setWidth 24

/-- The writable address bits of a BAR's dword: 64-bit, not prefetchable memory of 128 MiB, 256 KiB and 16 KiB (Table 15-2). -/
def barMask (a : Nat) : Word := if a = 0x10 then 0xF8000000 else if a = 0x18 then 0xFFFC0000 else if a = 0x20 then 0xFFFFC000 else 0xFFFFFFFF

/-- The dwords of the capabilities that Table 15-1 settles: power management with D0 and D3hot, No_Soft_Reset and no PME; an endpoint with a Max_Payload_Size of 256 bytes, no function level reset, and its link at 16.0 GT/s with L1; MSI-X with 64 messages, its table and pending bits in BAR4; AER and the serial number. The bits that the table does not settle are free values. -/
def State.readCap (s : State) (a : Nat) : Word :=
  let w := Config.pcieCfg a
  if a = Config.pciePmAt then (w &&& 0x01F0FF00) ||| 0x00030001
  else if a = Config.pciePmAt + 4 then .ofNat (8 + (if s.pcie.d3 then 3 else 0))
  else if a = Config.pcieCapAt then (w &&& 0x3E00FF00) ||| 0x00020010
  else if a = Config.pcieCapAt + 4 then (w &&& 0xEFFFFFF8) ||| 1
  else if a = Config.pcieCapAt + 12 then (w &&& 0xFFFFF000) ||| .ofNat (0x804 + 16 * s.pcieWidth)
  else if a = Config.pcieMsixAt then (w &&& 0x0000FF00) ||| .ofNat (0x003F0011 + (if s.pcie.fmask then 0x40000000 else 0) + (if s.pcie.msixEn then 0x80000000 else 0))
  else if a = Config.pcieMsixAt + 4 then 0x3004
  else if a = Config.pcieMsixAt + 8 then 0x3804
  else if a = Config.pcieAerAt then (w &&& 0xFFFF0000) ||| 1
  else if a = Config.pcieSerialAt then (w &&& 0xFFF00000) ||| 0x10003
  else if a = Config.pcieSerialAt + 4 then serialNumber.setWidth 32
  else if a = Config.pcieSerialAt + 8 then (serialNumber >>> 32).setWidth 32
  else w

/-- A dword of the endpoint's configuration space: the type 0 header, with the identifiers, class, header type and interrupt pin of Table 15-1, the BARs, and the capabilities; the rest is the Base Specification's, a free value. -/
def State.readCfg (s : State) (a : Nat) : Word :=
  if a = 0x00 then 0x64801FD4
  else if a = 0x04 then .ofNat (0x100000 + (if s.pcie.bme then 4 else 0))
  else if a = 0x08 then 0x028000B1
  else if a = 0x0C then 0
  else if 0x10 ≤ a && a < 0x28 then storeGet (fun _ => 0) s.pcie.bars a ||| (if a % 8 = 0 then 4 else 0)
  else if a = 0x2C then 0x64801FD4
  else if a = 0x3C then Config.pcieCfg a &&& 0xFFFF00FF
  else s.readCap a

/-- A read by requester `q` of the word at address `a` of its space; `ecc` says that the word has an uncorrectable error, a single fault of R68. -/
def State.busRead (s : State) (q a : Nat) (ecc : Bool) : Host.Outcome State Fault Refusal :=
  if busSize q ≤ a then .fault (.outsideBar (busBar q) a)
  else if s.busDead q then .next s
  else
    let a := a - a % 4
    match s.busBad q a with
    | some c => .next ((s.mbErr c (reqCode q) a false).emit (.data q a 0xFFFFFFFF))
    | none =>
      if ecc && q != 7 then .next (((s.mbErr 6 (reqCode q) a false).emit (.data q a 0xFFFFFFFF)).toRecover 0x19 2)
      else
        let (s1, w) :=
          if q = 1 then s.readBar2 a
          else if q = 2 then (s, s.live (0x8000000 + a))
          else if q = 5 || q = 6 then (s, s.readI2c a)
          else if q = 7 then (s, s.readCfg a)
          else s.readBar0 q a
        .next (s1.emit (.data q a w))

/-! ## Writes -/

/-- The bits of the bytes enabled. -/
def beMask (be : BitVec 4) : Word :=
  (List.range 4).foldl (fun m k => if be.getLsbD k then m ||| (0xFF <<< (8 * k)) else m) 0

/-- A raw write to an active table, or to a port register of the stream chapter, sets `ST_STAT.RAW` (R135). -/
def rawTable (a : Nat) : Bool :=
  (0x2200000 ≤ a && a < 0x22C0000) || (0x2380000 ≤ a && a < 0x2390000) || (0x23C0000 ≤ a && a < 0x2440000) ||
    (inPage a 2 && 0xC0 ≤ a % 0x100 && a % 0x100 ≤ 0xE8) || inPage a 3

/-- A full word written to a BAR0 offset that is served. -/
def State.writeBar0 (s : State) (q a : Nat) (v : Word) : State :=
  if (findDesc a).isNone then (if ctrWindow a then s else s.mbErr 3 q a true)
  else if s.deadWord a then s
  else
    let s1 := if rawTable a then s.setBit R.ST_STAT_RAW true else s
    s1.regWrite a 0xFFFFFFFF v

/-- A write to the I²C map (Table 13-10): a register takes a write of all four bytes; nothing is taken before `GLB_FW.VALID`. -/
def State.writeI2c (s : State) (a : Nat) (be : BitVec 4) (v : Word) : State :=
  if !s.bit R.GLB_FW_VALID then s
  else if a < 0x200 then (if s.bit (mbFld 1 R.MB_STATUS_REQ_BUSY) then s else s.setReg (reqBuf 1 + a) (s.merged (reqBuf 1 + a) (beMask be) v))
  else if be ≠ 15 then s
  else if a = 0x400 then s.doorbell 1 v
  else if a = 0x404 then (if v.getLsbD 3 then s.setBit (mbFld 1 R.MB_STATUS_DBLOST) false else s)
  else if a = 0x408 then (if v.getLsbD 0 then s.mbAck 1 else s)
  else if a = 0x410 then (if v = 0x5A then s.warmReset 4 else s)
  else s

/-- A BAR4 offset that is not reserved (Table 15-2). -/
def bar4Word (a : Nat) : Bool := a < 0x10 || (0x1000 ≤ a && a < 0x3400) || a = 0x3800 || a = 0x3804

/-- A write to BAR4: the doorbell, the acknowledgement, or a register or buffer, which takes partial words. -/
def State.writeMail (s : State) (a : Nat) (be : BitVec 4) (v : Word) : State :=
  if be ≠ 15 && !(0x1000 ≤ a && a < 0x3000) then s.mbErr 4 2 a true
  else if !bar4Word a then s.mbErr 3 2 a true
  else if a = 0 then s.doorbell 0 v
  else if a = 8 then (if v.getLsbD 0 then s.mbAck 0 else s)
  else s.regWrite (0x8000000 + a) (beMask be) v

/-- Messages that are pending and no longer held back are sent (R419). -/
def State.sendPending (s : State) : State :=
  (List.range 64).foldl (fun s v => if s.bit (pbaFld v) && s.msixOn && !s.msixHeld v then s.deliver v else s) s

/-- A change of a mask or an enable (R419). A vector's mask stands in BAR4; the others are in configuration space. -/
def State.msixChange (s : State) (o : MsixOp) : State :=
  if s.pcie.perst || !s.pcie.training then s
  else match o with
    | .vector k m => if s.pcie.d3 then s else (s.setBit (maskFld k) m).sendPending
    | .function m => { s with pcie := { s.pcie with fmask := m } }.sendPending
    | .busMaster b => { s with pcie := { s.pcie with bme := b } }.sendPending
    | .enable b => { s with pcie := { s.pcie with msixEn := b } }.sendPending

/-- The function enters D3hot or returns to D0 (R408). -/
def State.pciPower (s : State) (d3 : Bool) : State :=
  if s.pcie.perst || !s.pcie.training then s else { s with pcie := { s.pcie with d3 := d3 } }

/-- A write to configuration space: Bus Master Enable and the enables of MSI-X, with their effect on messages held back (R419), the power state, of which only D0 and D3hot are supported (R408), and the BARs' addresses. What else is written there has no effect that the spec gives. -/
def State.writeCfg (s : State) (a : Nat) (be : BitVec 4) (v : Word) : State :=
  if a = 0x04 then (if be.getLsbD 0 then s.msixChange (.busMaster (v.getLsbD 2)) else s)
  else if 0x10 ≤ a && a < 0x28 then
    let old := storeGet (fun _ => 0) s.pcie.bars a
    { s with pcie := { s.pcie with bars := storeSet (fun _ => 0) s.pcie.bars a (((old &&& ~~~(beMask be)) ||| (v &&& beMask be)) &&& barMask a) } }
  else if a = Config.pciePmAt + 4 then
    (if !be.getLsbD 0 then s else if v.toNat % 4 = 0 then s.pciPower false else if v.toNat % 4 = 3 then s.pciPower true else s)
  else if a = Config.pcieMsixAt then (if be.getLsbD 3 then (s.msixChange (.function (v.getLsbD 30))).msixChange (.enable (v.getLsbD 31)) else s)
  else s

/-- A write by requester `q` of the bytes `be` of the word at `a`. A word of BAR0 with some byte enables clear is discarded and logged (R412). -/
def State.busWrite (s : State) (q a : Nat) (be : BitVec 4) (v : Word) : Host.Outcome State Fault Refusal :=
  if busSize q ≤ a then .fault (.outsideBar (busBar q) a)
  else if s.busDead q then .next s
  else
    let a := a - a % 4
    if q = 1 then .next s
    else if q = 2 then .next (s.writeMail a be v)
    else if q = 5 || q = 6 then .next (s.writeI2c a be v)
    else if q = 7 then .next (s.writeCfg a be v)
    else match s.busBad q a with
      | some c => .next (s.mbErr c q a true)
      | none => .next (if be ≠ 15 then s.mbErr 4 q a true else s.writeBar0 q a v)

/-! ## Gates -/

/-- A gate is forced while a transaction is outstanding (R344): it completes with an error. -/
def State.gateForce (s : State) (q a : Nat) (write : Bool) : State :=
  let s1 := s.mbErr 2 q a write
  if write then s1 else s1.emit (.data q a 0xFFFFFFFF)

end Sys2Proof.Machine
end

