-- ==== Sys2Proof/Machine/Bus.lean ====
section
/-! DEFINITION. The bus rows: reads and writes with an effect of their own, every other write, errors, interrupts, and the TAP. -/

namespace Sys2Proof.Machine

/-- MBUS_READ: a read of any word, of its value or of the error response. -/
def execMbusRead (q : Fin 8) (a : Nat) (ecc : Bool) (s : State) : Host.Outcome State Fault Refusal := s.busRead q a ecc

/-- A read of the first word of a multi-word time or count (R214), or of any BAR0 word as such. -/
def execLatchingRead (a : Nat) (s : State) : Host.Outcome State Fault Refusal := s.busRead 0 a false

/-- A read of a counter's lowest word by one of the readers (R394). -/
def execCounterLowRead (q : Fin 6) (a : Nat) (s : State) : Host.Outcome State Fault Refusal := s.busRead q a false

def execTinHeadPop (p : Fin 8) (s : State) : Host.Outcome State Fault Refusal := s.busRead 0 (A.TIN_HEAD3 p) false
def execTsqHeadPop (p : Fin 64) (s : State) : Host.Outcome State Fault Refusal := s.busRead 0 (A.TSQ4 p) false
def execIvlResRead (u : Fin 4) (s : State) : Host.Outcome State Fault Refusal := s.busRead 0 (A.IVL_RES_LO u) false
def execGlbRcvRead (s : State) : Host.Outcome State Fault Refusal := s.busRead 0 A.GLB_RCV false
def execEngMaxcycRead (e : Fin 9) (s : State) : Host.Outcome State Fault Refusal := s.busRead 0 (A.ENG_MAXCYC e) false
def execPrvLogptrRead (s : State) : Host.Outcome State Fault Refusal := s.busRead 0 A.PRV_LOGPTR false

/-- REGISTER_WRITE: a write of the bytes `be` of any word. -/
def execRegisterWrite (q : Fin 8) (a : Nat) (be : BitVec 4) (v : Word) (s : State) : Host.Outcome State Fault Refusal := s.busWrite q a be v

/-- RAW_TABLE_WRITE: a full word written to a stream table (R135). -/
def execRawTableWrite (a : Nat) (v : Word) (s : State) : Host.Outcome State Fault Refusal := s.busWrite 0 a 15 v

/-- Writes of a counter's words (R395): the higher is held, the lowest sets the counter. -/
def execCounterHighWrite (a : Nat) (v : Word) (s : State) : Host.Outcome State Fault Refusal := s.busWrite 0 a 15 v
def execCounterLowWrite (a : Nat) (v : Word) (s : State) : Host.Outcome State Fault Refusal := s.busWrite 0 a 15 v

def execIvlCfgWrite (u : Fin 4) (v : Word) (s : State) : Host.Outcome State Fault Refusal := s.busWrite 0 (A.IVL_CFG u) 15 v
def execMbeClrWrite (v : Word) (s : State) : Host.Outcome State Fault Refusal := s.busWrite 0 A.MBE_CLR 15 v

/-- A write of `GLB_IREARM_LO` or `_HI` (R418). -/
def execGlbIrearmWrite (hi : Bool) (v : Word) (s : State) : Host.Outcome State Fault Refusal :=
  s.busWrite 0 (if hi then A.GLB_IREARM_HI else A.GLB_IREARM_LO) 15 v

def execMsixMaskChange (o : MsixOp) (s : State) : Host.Outcome State Fault Refusal := .next (s.msixChange o)
def execPciPowerStateChange (d3 : Bool) (s : State) : Host.Outcome State Fault Refusal := .next (s.pciPower d3)

/-- CLOCK_GATE_FORCE with requester `q`'s transaction at `a` outstanding. -/
def execClockGateForce (q : Fin 6) (a : Nat) (write : Bool) (s : State) : Host.Outcome State Fault Refusal := .next (s.gateForce q a write)

/-- A TAP instruction (R39): the device's identity, the bypass bit, a boundary scan, and instructions that act only in OPEN, where the spec does not say what they do. -/
def execTapInstruction (i : TapIr) (s : State) : Host.Outcome State Fault Refusal :=
  match i with
  | .idcode => .next (s.emit (.jtag 0x06480A3F))
  | .bypass => .next (s.emit (.jtag 0))
  | .boundary => .next ({ s with freeCount := s.freeCount + 1 }.emit (.jtag (Config.boundaryScan s.freeCount)))
  | .other ir => if s.mode = .opened && s.bit R.SEC_STAT_ERASED then .refused (.debugTap ir) else .next s

end Sys2Proof.Machine
end

