-- ==== Sys2Proof/Machine/Decide.lean ====
section
/-! DEFINITION. Frame-start decisions and ends of transmissions at their instants (R165, R166): the actions and the host launch slots that are due apply first. -/

namespace Sys2Proof.Machine

/-- Slot k of port p is armed and its domain's time stands at or after its time at the instant of the decision (R174). -/
def State.slotDue (s : State) (p k : Nat) : Bool :=
  s.bit (R.HLS1_ARM p k) && decide (((s.hlsTime p k : Nat) : Int) ≤ s.timeAt p (s.rd (R.HLS1_DOM p k)))

/-- The host launch slots of port p that are due fire (R174). -/
def State.hostSlots (s : State) (p : Nat) : State :=
  (List.range 4).foldl (fun s k => if s.slotDue p k then s.hlsFire p k else s) s

/-- Port p's decision, `frac`/25 ns after the last TIME edge: the actions due apply before it (R166), and so do the host slots where the MAC is idle. -/
def State.decideAt (s : State) (p frac : Nat) : State :=
  let s0 := s.actsNow 72
  let s1 := s0.setEgr p { s0.egr p with frac := frac }
  let s2 := (if (s1.egr p).tx.isNone then s1.hostSlots p else s1).decision p
  s2.setEgr p { s2.egr p with frac := 0 }

/-- The transmission of port p ends at its instant, and the next decision is made there; where that instant lies back, the MAC has been idle since and decides now. A frame whose end is not known yet goes on. -/
def State.txFinish (s : State) (p : Nat) : State :=
  match (s.egr p).tx with
  | none => s.decideAt p 0
  | some x =>
    match s.txEndAt p x with
    | none => s.decideAt p 0
    | some t =>
      let s1 := (s.goTo (t / 25)).actsNow 72
      (s1.txEnd p).decideAt p (if s1.tb = t / 25 then t % 25 else 0)

def execFrameStartDecision (p : Fin 64) (s : State) : Host.Outcome State Fault Refusal := .next (s.decideAt p 0)

/-- TX_END: the transmission ends and the next decision is made (R165). -/
def execTxEnd (p : Fin 64) (s : State) : Host.Outcome State Fault Refusal := .next (s.txFinish p)

/-- HOST_LAUNCH_FIRE: TIME passes to the slot's time; the slot fires where the MAC is idle, else at the MAC's next decision (R174). -/
def State.hlsReach (s : State) (p k : Nat) : State :=
  let d := s.rd (R.HLS1_DOM p k)
  let t : Int := ((s.hlsTime p k : Nat) : Int)
  let n := edgesTo (s.slewPpm d) t ((t - ((s.dom d).time : Int)).toNat / 140737488355328 + 2) (s.dom d)
  let s1 := if s.bit (R.HLS1_ARM p k) then (s.goTo (s.tb + n)).actsNow 72 else s
  if (s1.egr p).tx.isNone && s1.slotDue p k then s1.hlsFire p k else s1

def execHostLaunchFire (p : Fin 64) (k : Fin 4) (s : State) : Host.Outcome State Fault Refusal := .next (s.hlsReach p k)

/-- Port p's transmission ends within the TIME cycle that begins now. -/
def State.txDue (s : State) (p : Nat) : Bool :=
  match (s.egr p).tx with
  | none => false
  | some x => match s.txEndAt p x with
    | some t => decide (t < 25 * (s.tb + 1))
    | none => false

/-- A decision of port p now would change what the port sends, holds or has due. -/
def State.decides (s : State) (p : Nat) : Bool :=
  let E := s.egr p
  let armed := s.regs.any fun x => x.1 % 0x10 == 4 && x.2.getLsbD 31 && decide (A.HLS1 p 0 ≤ x.1) && decide (x.1 ≤ A.HLS1 p 3)
  if !armed && E.due.isEmpty && E.susp.isNone && (List.range 8).all fun c => (s.egrQ (8 * p + c)).q.isEmpty then false
  else
    let t := s.decideAt p 0
    t.egresses != s.egresses || t.egrQs != s.egrQs || t.hlsLate != s.hlsLate || t.regs != s.regs

end Sys2Proof.Machine
end

