-- ==== Sys2Proof/Machine/Refs.lean ====
section
/-! DEFINITION. The commands of reference selection (R279 to R292). -/

namespace Sys2Proof.Machine

/-- CANDIDATE_SIGNAL_LOST: from any state except DISABLED to NOSIGNAL (R279); a PTP candidate's foreign master is forgotten. -/
def State.candLost (s : State) (d k : Nat) : State :=
  if s.cstate d k = 0 then s
  else
    let s1 := s.candTo d k 1
    if s1.ckind d k = 0 then
      let p := s1.csrc d k
      s1.setPtp p { s1.ptp p with foreign := storeSet (fun _ => none) (s1.ptp p).foreign d none }
    else s1

def execCandidateSignalLost (d : Fin 8) (k : Fin 16) (s : State) : Host.Outcome State Fault Refusal := .next (s.candLost d k)

/-- CANDIDATE_WTR_EXPIRE: TIME passes to the end of the candidate's wait, and a QUALIFYING candidate becomes QUALIFIED (R279). -/
def execCandidateWtrExpire (d : Fin 8) (k : Fin 16) (s : State) : Host.Outcome State Fault Refusal :=
  .next (if s.cstate d k = 2 then (s.passN ((s.cand d k).wtr + s.wtrNs d - s.tb)).candTo d k 3 else s)

def execRefSelect (d : Fin 8) (ms : List RefMeas) (s : State) : Host.Outcome State Fault Refusal := .next (s.refEval d ms)

/-- `LOCK_T` in ns. -/
def State.lockNs (s : State) (d : Nat) : Nat := max 1 (s.rd (R.REF_DTIME_LOCK_T d)) * 1000000000

/-- The reference of domain d as an event's detail names it: the selected slot, or of a domain that follows the twin no slot (R318). -/
def State.lockDetail (s : State) (d : Nat) : Option Nat :=
  match s.selOf d with
  | some k => some k
  | none => if s.following d then some (Config.noSlot % 256) else none

/-- LOCK_ACHIEVED: where the criteria of R288 hold, TIME passes to the end of `LOCK_T` since they began to, and the domain goes from ACQUIRE to LOCKED. -/
def execLockAchieved (d : Fin 8) (s : State) : Host.Outcome State Fault Refusal :=
  .next (match (s.dom d).tstate, (s.ref d).good, s.lockDetail d with
    | .acquire, some t, some k => (s.passN (t + s.lockNs d - s.tb)).domState d .locked 9 k
    | _, _, _ => s)

/-- LOCK_LOST: where the phase lies beyond four times `LOCK_PH`, TIME passes to the end of `LOCK_T` since it came to, and the domain goes from LOCKED to ACQUIRE (R288). -/
def execLockLost (d : Fin 8) (s : State) : Host.Outcome State Fault Refusal :=
  .next (match (s.dom d).tstate, (s.ref d).wide, s.lockDetail d with
    | .locked, some t, some k => (((s.passN (t + s.lockNs d - s.tb)).domState d .acquire 0x0A k).setBit (R.REF_DHIST_LOCK_LOST d) true).syncVec (24 + d)
    | _, _, _ => s)

/-- HISTORY_SAMPLE: every domain (R290). -/
def execHistorySample (s : State) : Host.Outcome State Fault Refusal := .next ((List.range 8).foldl State.histSample s)

/-- HO_SPEC_EXPIRE: TIME passes to the end of `HO_SPEC` since the entry to HOLDOVER, and the advertised class falls to `DEG_CLASS` (R293). -/
def execHoSpecExpire (d : Fin 8) (s : State) : Host.Outcome State Fault Refusal :=
  .next (match (s.dom d).tstate, (s.ref d).hoTb with
    | .holdover, some t => let s1 := s.passN (t + s.rd (R.REF_DHOLD2_HO_SPEC d) * 1000000000 - s.tb); s1.setRef d { s1.ref d with hoDone := true }
    | _, _ => s)

/-- The orbit domain's selected candidate is a network candidate (R292). -/
def State.netSelected (s : State) : Bool :=
  match s.selOf s.orbit.grid.dom with | some k => s.ckind s.orbit.grid.dom k != 3 | none => false

/-- -f of the orbit domain's selected candidate lies beyond the limits in force (R292). -/
def State.refFar (s : State) : Bool :=
  match s.selOf s.orbit.grid.dom with | some k => decide (s.refLimit < (s.cfreq s.orbit.grid.dom k).natAbs) | none => false

/-- REFCLK_OUT_OF_RANGE: judged only against a network candidate (R292). -/
def execRefclkOutOfRange (s : State) : Host.Outcome State Fault Refusal :=
  .next (if !s.netSelected || !s.refFar then s
    else
      let s0 := { s with sys := { s.sys with inRange := none } }
      let s1 := (s0.setBit R.REF_GLB_RANGE_NOW true).setBit R.REF_GLB_RANGE true
      ((List.range 128).foldl (fun s j =>
        if s.bit (R.REF_CCFG_EN (j / 16) (j % 16)) && s.ckind (j / 16) (j % 16) == 3 then s.candTo (j / 16) (j % 16) 6 else s) s1).syncVec 4)

/-- REFCLK_RANGE_RESTORE: where REFCLK is within limits, TIME passes to the end of the orbit domain's `DWIN` since it came to be, and `RANGE_NOW` falls (R292). -/
def execRefclkRangeRestore (s : State) : Host.Outcome State Fault Refusal :=
  .next (match s.sys.inRange with
    | some t =>
      if !s.netSelected then s
      else (List.range 8).foldl State.requalify ((s.passN (t + s.dwin s.orbit.grid.dom * 1000000000 - s.tb)).setBit R.REF_GLB_RANGE_NOW false)
    | none => s)

end Sys2Proof.Machine
end

