-- ==== Sys2Proof/Machine/Tdc.lean ====
section
/-! DEFINITION. The commands of the time pins' inputs, the TDC channels and their calibration (chapter 9). What is measured (codes, counts, a mean) is the command's operand. -/

namespace Sys2Proof.Machine

/-- TIN_EDGE. During the hold-off the transition is the ignored one of R254. -/
def execTinEdge (p : Fin 8) (rise : Bool) (code : BitVec 12) (s : State) : Host.Outcome State Fault Refusal :=
  .next (if s.holding p (s.tinAt p code.toNat) then s.tinSuppressed p rise else if rise then (s.tinEdge p rise code.toNat).refTin p else s.tinEdge p rise code.toNat)

/-- TIN_TRANSITION_SUPPRESSED: a transition at the present TIME edge is ignored where the hold-off runs; where it does not, no transition is. -/
def execTinTransitionSuppressed (p : Fin 8) (rise : Bool) (s : State) : Host.Outcome State Fault Refusal :=
  .next (if s.holding p ((s.tb * nsUnit : Nat) : Int) then s.tinSuppressed p rise else s)

/-- TIN_HOLDOFF_END: TIME passes to the end of the hold-off that runs, and the pin is armed again. -/
def execTinHoldoffEnd (p : Fin 8) (s : State) : Host.Outcome State Fault Refusal :=
  .next (match (s.tin p).holdTo with
    | none => s
    | some h => let s1 := s.passN ((h + (nsUnit : Nat) - 1) / (nsUnit : Nat) - s.tb).toNat; s1.setTin p { s1.tin p with holdTo := none })

/-- TDC_SCALE_PAIR: the last pair completed serves the measurements that follow (R251). -/
def execTdcScalePair (c : Fin 84) (c1 c2 : BitVec 12) (s : State) : Host.Outcome State Fault Refusal :=
  .next (s.setTdc c { s.tdc c with pair := some (c1.toNat, c2.toNat) })

/-- TRACKER_SAMPLE: the sample is the offset update of the SyncE candidates on the port (Table 10-1). -/
def execTrackerSample (p : Fin 64) (code : BitVec 12) (s : State) : Host.Outcome State Fault Refusal :=
  .next (let s1 := s.trackerSample p code.toNat; if (s1.tracker p).last = (s.tracker p).last then s1 else s1.refLine p)

/-- CAL_PENDING: the die sensor of the channel reads `t` (0.25 °C); the channels that it serves, this one among them, become pending where R261 calls for it. -/
def execCalPending (c : Fin 84) (t : Int) (s : State) : Host.Outcome State Fault Refusal :=
  .next (s.sense (min 8 (calGroup c)) t)

def execCalRunStart (g : Fin 10) (own : BitVec 8) (s : State) : Host.Outcome State Fault Refusal := .next (s.calStart g own)
def execCalShadowEnd (g : Fin 10) (delta : BitVec 16) (s : State) : Host.Outcome State Fault Refusal := .next (s.calShadowed g delta)
def execCalCollectEnd (g : Fin 10) (counts : List Nat) (moved : Bool) (s : State) : Host.Outcome State Fault Refusal :=
  .next (s.calCollected g counts moved)
def execCalComputeEnd (g : Fin 10) (own : BitVec 8) (s : State) : Host.Outcome State Fault Refusal := .next (s.calComputed g own)
def execCalVerifyEnd (g : Fin 10) (mean : Int) (rms : Nat) (s : State) : Host.Outcome State Fault Refusal :=
  .next (s.calVerified g mean rms)
def execCalInplaceEnd (g : Fin 10) (counts : List Nat) (moved : Bool) (s : State) : Host.Outcome State Fault Refusal :=
  .next (s.calInplace g counts moved)

end Sys2Proof.Machine
end

