-- ==== Sys2Proof/Machine/Dispatch.lean ====
section
/-! DEFINITION. The dispatch: one arm per command, each one call of its meaning (R13, R148, R157, R370 and the rest of the table). -/

namespace Sys2Proof.Machine

/-- The effect of a command on everything but the queue. -/
def exec (i : Instr) (s : State) : Host.Outcome State Fault Refusal :=
  match i with
  | .powerOn straps vtio33 => Sys2Proof.Machine.execPowerOn straps vtio33 s
  | .resetN lowNs straps vtio33 => Sys2Proof.Machine.execResetN lowNs straps vtio33 s
  | .refclkExcursion => Sys2Proof.Machine.execRefclkExcursion s
  | .refclkQualified => Sys2Proof.Machine.execRefclkQualified s
  | .bootComplete r => Sys2Proof.Machine.execBootComplete r s
  | .glbResetWrite v => Sys2Proof.Machine.execGlbResetWrite v s
  | .warmReset k => Sys2Proof.Machine.execWarmReset k s
  | .perstN => Sys2Proof.Machine.execPerstN s
  | .brownOutTrip step1 => Sys2Proof.Machine.execBrownOutTrip step1 s
  | .brownOutRelease => Sys2Proof.Machine.execBrownOutRelease s
  | .refwarmChange level => Sys2Proof.Machine.execRefwarmChange level s
  | .refclkLost => Sys2Proof.Machine.execRefclkLost s
  | .refclkReturn => Sys2Proof.Machine.execRefclkReturn s
  | .thermalAlarm k t => Sys2Proof.Machine.execThermalAlarm k t s
  | .thermalAlarmClear ts => Sys2Proof.Machine.execThermalAlarmClear ts s
  | .thermalTrip k t => Sys2Proof.Machine.execThermalTrip k t s
  | .watchdogExpiry => Sys2Proof.Machine.execWatchdogExpiry s
  | .eccError k => Sys2Proof.Machine.execEccError k s
  | .recoveryComplete ok => Sys2Proof.Machine.execRecoveryComplete ok s
  | .recoverTimeout => Sys2Proof.Machine.execRecoverTimeout s
  | .pllUnlock k => Sys2Proof.Machine.execPllUnlock k s
  | .pllRelock k => Sys2Proof.Machine.execPllRelock k s
  | .mbDoorbell p v => Sys2Proof.Machine.execMbDoorbell p v s
  | .mbRspAck p v => Sys2Proof.Machine.execMbRspAck p v s
  | .i2cResetWord v => Sys2Proof.Machine.execI2cResetWord v s
  | .agentFrame src nonce words icv => Sys2Proof.Machine.execAgentFrame src nonce words icv s
  | .relayMessage words => Sys2Proof.Machine.execRelayMessage words s
  | .relayTimeout p => Sys2Proof.Machine.execRelayTimeout p s
  | .transactionApply => Sys2Proof.Machine.execTransactionApply s
  | .status m => Sys2Proof.Machine.execStatus m s
  | .eventRead m => Sys2Proof.Machine.execEventRead m s
  | .journalRead m => Sys2Proof.Machine.execJournalRead m s
  | .ptpStatus m => Sys2Proof.Machine.execPtpStatus m s
  | .attest m => Sys2Proof.Machine.execAttest m s
  | .tokenGive m => Sys2Proof.Machine.execTokenGive m s
  | .tokenRelease m => Sys2Proof.Machine.execTokenRelease m s
  | .tokenTake m => Sys2Proof.Machine.execTokenTake m s
  | .startCmd m => Sys2Proof.Machine.execStartCmd m s
  | .dockCmd m => Sys2Proof.Machine.execDockCmd m s
  | .resetCmd m => Sys2Proof.Machine.execResetCmd m s
  | .haltCmd m => Sys2Proof.Machine.execHaltCmd m s
  | .prove m => Sys2Proof.Machine.execProve m s
  | .proveAbort m => Sys2Proof.Machine.execProveAbort m s
  | .openDebug m => Sys2Proof.Machine.execOpenDebug m s
  | .openEraseComplete => Sys2Proof.Machine.execOpenEraseComplete s
  | .calRun m => Sys2Proof.Machine.execCalRun m s
  | .refForce m => Sys2Proof.Machine.execRefForce m s
  | .refForceRelease m => Sys2Proof.Machine.execRefForceRelease m s
  | .refClear m => Sys2Proof.Machine.execRefClear m s
  | .powerSet m => Sys2Proof.Machine.execPowerSet m s
  | .powerSetWake m => Sys2Proof.Machine.execPowerSetWake m s
  | .counterSet m => Sys2Proof.Machine.execCounterSet m s
  | .repairRestore m => Sys2Proof.Machine.execRepairRestore m s
  | .calRestore m => Sys2Proof.Machine.execCalRestore m s
  | .keyLoad m => Sys2Proof.Machine.execKeyLoad m s
  | .keyErase m => Sys2Proof.Machine.execKeyErase m s
  | .keyBind m => Sys2Proof.Machine.execKeyBind m s
  | .keyUnbind m => Sys2Proof.Machine.execKeyUnbind m s
  | .agentSet m => Sys2Proof.Machine.execAgentSet m s
  | .fabricSet m => Sys2Proof.Machine.execFabricSet m s
  | .shaperSet m => Sys2Proof.Machine.execShaperSet m s
  | .streamEditWrite m => Sys2Proof.Machine.execStreamEditWrite m s
  | .streamEditDelete m => Sys2Proof.Machine.execStreamEditDelete m s
  | .streamCommit m => Sys2Proof.Machine.execStreamCommit m s
  | .orbitSet m => Sys2Proof.Machine.execOrbitSet m s
  | .orbitLoad m => Sys2Proof.Machine.execOrbitLoad m s
  | .orbitSwap m => Sys2Proof.Machine.execOrbitSwap m s
  | .gateListSet m => Sys2Proof.Machine.execGateListSet m s
  | .gateListLoad => Sys2Proof.Machine.execGateListLoad s
  | .ptpSet m => Sys2Proof.Machine.execPtpSet m s
  | .refSet m => Sys2Proof.Machine.execRefSet m s
  | .domainAdjustOffset m => Sys2Proof.Machine.execDomainAdjustOffset m s
  | .domainAdjustSetTime m => Sys2Proof.Machine.execDomainAdjustSetTime m s
  | .domainAdjustRate m => Sys2Proof.Machine.execDomainAdjustRate m s
  | .domainLoopOpen m => Sys2Proof.Machine.execDomainLoopOpen m s
  | .domainLoopClose m => Sys2Proof.Machine.execDomainLoopClose m s
  | .timepinSet m => Sys2Proof.Machine.execTimepinSet m s
  | .twinSet m => Sys2Proof.Machine.execTwinSet m s
  | .proveSet m => Sys2Proof.Machine.execProveSet m s
  | .orbitStart => Sys2Proof.Machine.execOrbitStart s
  | .listSeal => Sys2Proof.Machine.execListSeal s
  | .runOverrun e => Sys2Proof.Machine.execRunOverrun e s
  | .engSwapReq v => Sys2Proof.Machine.execEngSwapReq v s
  | .engFaultClear e => Sys2Proof.Machine.execEngFaultClear e s
  | .nop e w => Sys2Proof.Machine.execNop e w s
  | .endRun e w => Sys2Proof.Machine.execEndRun e w s
  | .add e w => Sys2Proof.Machine.execAdd e w s
  | .sub e w => Sys2Proof.Machine.execSub e w s
  | .andOp e w => Sys2Proof.Machine.execAndOp e w s
  | .orOp e w => Sys2Proof.Machine.execOrOp e w s
  | .xorOp e w => Sys2Proof.Machine.execXorOp e w s
  | .shl e w => Sys2Proof.Machine.execShl e w s
  | .shr e w => Sys2Proof.Machine.execShr e w s
  | .sar e w => Sys2Proof.Machine.execSar e w s
  | .mul e w => Sys2Proof.Machine.execMul e w s
  | .minu e w => Sys2Proof.Machine.execMinu e w s
  | .maxu e w => Sys2Proof.Machine.execMaxu e w s
  | .movi e w => Sys2Proof.Machine.execMovi e w s
  | .jmp e w => Sys2Proof.Machine.execJmp e w s
  | .beq e w => Sys2Proof.Machine.execBeq e w s
  | .bne e w => Sys2Proof.Machine.execBne e w s
  | .bltu e w => Sys2Proof.Machine.execBltu e w s
  | .bgeu e w => Sys2Proof.Machine.execBgeu e w s
  | .blts e w => Sys2Proof.Machine.execBlts e w s
  | .bges e w => Sys2Proof.Machine.execBges e w s
  | .bany e w => Sys2Proof.Machine.execBany e w s
  | .bnone e w => Sys2Proof.Machine.execBnone e w s
  | .dbnz e w => Sys2Proof.Machine.execDbnz e w s
  | .call e w => Sys2Proof.Machine.execCall e w s
  | .ret e w => Sys2Proof.Machine.execRet e w s
  | .ldL e w => Sys2Proof.Machine.execLdL e w s
  | .ldH e w => Sys2Proof.Machine.execLdH e w s
  | .get e w => Sys2Proof.Machine.execGet e w s
  | .put e w => Sys2Proof.Machine.execPut e w s
  | .evt e w => Sys2Proof.Machine.execEvt e w s
  | .gate e w => Sys2Proof.Machine.execGate e w s
  | .sgate e w => Sys2Proof.Machine.execSgate e w s
  | .launch e w => Sys2Proof.Machine.execLaunch e w s
  | .inj e w => Sys2Proof.Machine.execInj e w s
  | .tout e w => Sys2Proof.Machine.execTout e w s
  | .capt e w => Sys2Proof.Machine.execCapt e w s
  | .mark e w => Sys2Proof.Machine.execMark e w s
  | .rswap e w => Sys2Proof.Machine.execRswap e w s
  | .gateEffect e => Sys2Proof.Machine.execGateEffect e s
  | .launchEffect e => Sys2Proof.Machine.execLaunchEffect e s
  | .injEffect e => Sys2Proof.Machine.execInjEffect e s
  | .sgateEffect e => Sys2Proof.Machine.execSgateEffect e s
  | .toutEffect e => Sys2Proof.Machine.execToutEffect e s
  | .captEffect e => Sys2Proof.Machine.execCaptEffect e s
  | .markEffect e => Sys2Proof.Machine.execMarkEffect e s
  | .rswapEffect e => Sys2Proof.Machine.execRswapEffect e s
  | .fabricSlot errs => Sys2Proof.Machine.execFabricSlot errs s
  | .fullBitBroadcast => Sys2Proof.Machine.execFullBitBroadcast s
  | .rsvSwapRequest => Sys2Proof.Machine.execRsvSwapRequest s
  | .rsvBankSwap => Sys2Proof.Machine.execRsvBankSwap s
  | .frameReceive p how r ovf => Sys2Proof.Machine.execFrameReceive p how r ovf s
  | .pfcRepeat p c => Sys2Proof.Machine.execPfcRepeat p c s
  | .pfcReceive p pause stop resume => Sys2Proof.Machine.execPfcReceive p pause stop resume s
  | .pfcTimerExpire p c => Sys2Proof.Machine.execPfcTimerExpire p c s
  | .cellArrive o err => Sys2Proof.Machine.execCellArrive o err s
  | .reseqGapTimeout p mc src c => Sys2Proof.Machine.execReseqGapTimeout p mc src c s
  | .frameStartDecision p => Sys2Proof.Machine.execFrameStartDecision p s
  | .txEnd p => Sys2Proof.Machine.execTxEnd p s
  | .ctUnderrun p => Sys2Proof.Machine.execCtUnderrun p s
  | .mmVerifyTimeout p => Sys2Proof.Machine.execMmVerifyTimeout p s
  | .linkDown p rx => Sys2Proof.Machine.execLinkDown p rx s
  | .linkUp p k deskew => Sys2Proof.Machine.execLinkUp p k deskew s
  | .laneModeTry p => Sys2Proof.Machine.execLaneModeTry p s
  | .ageScan => Sys2Proof.Machine.execAgeScan s
  | .rawTableWrite a v => Sys2Proof.Machine.execRawTableWrite a v s
  | .hostLaunchArm p k v => Sys2Proof.Machine.execHostLaunchArm p k v s
  | .hostLaunchDisarm p k v => Sys2Proof.Machine.execHostLaunchDisarm p k v s
  | .hostLaunchFire p k => Sys2Proof.Machine.execHostLaunchFire p k s
  | .domRateLoWrite d v => Sys2Proof.Machine.execDomRateLoWrite d v s
  | .domRateHiWrite d v => Sys2Proof.Machine.execDomRateHiWrite d v s
  | .domStepreqGo d v => Sys2Proof.Machine.execDomStepreqGo d v s
  | .slewEnd d => Sys2Proof.Machine.execSlewEnd d s
  | .tbSnapRequest => Sys2Proof.Machine.execTbSnapRequest s
  | .tbSnapLatch => Sys2Proof.Machine.execTbSnapLatch s
  | .triggerArm k v => Sys2Proof.Machine.execTriggerArm k v s
  | .triggerDisarm k v => Sys2Proof.Machine.execTriggerDisarm k v s
  | .triggerFire k => Sys2Proof.Machine.execTriggerFire k s
  | .toutGeneratorEdge p => Sys2Proof.Machine.execToutGeneratorEdge p s
  | .toutPulseEnd p => Sys2Proof.Machine.execToutPulseEnd p s
  | .tinEdge p rise code => Sys2Proof.Machine.execTinEdge p rise code s
  | .tinTransitionSuppressed p rise => Sys2Proof.Machine.execTinTransitionSuppressed p rise s
  | .tinHoldoffEnd p => Sys2Proof.Machine.execTinHoldoffEnd p s
  | .tinHeadPop p => Sys2Proof.Machine.execTinHeadPop p s
  | .ivlResRead u => Sys2Proof.Machine.execIvlResRead u s
  | .ivlCfgWrite u v => Sys2Proof.Machine.execIvlCfgWrite u v s
  | .tdcScalePair c c1 c2 => Sys2Proof.Machine.execTdcScalePair c c1 c2 s
  | .trackerSample p code => Sys2Proof.Machine.execTrackerSample p code s
  | .calPending c t => Sys2Proof.Machine.execCalPending c t s
  | .calRunStart g own => Sys2Proof.Machine.execCalRunStart g own s
  | .calShadowEnd g delta => Sys2Proof.Machine.execCalShadowEnd g delta s
  | .calCollectEnd g counts moved => Sys2Proof.Machine.execCalCollectEnd g counts moved s
  | .calComputeEnd g own => Sys2Proof.Machine.execCalComputeEnd g own s
  | .calVerifyEnd g mean rms => Sys2Proof.Machine.execCalVerifyEnd g mean rms s
  | .calInplaceEnd g counts moved => Sys2Proof.Machine.execCalInplaceEnd g counts moved s
  | .ptpFrameReceive p r ovf => Sys2Proof.Machine.execPtpFrameReceive p r ovf s
  | .tcEntryExpire p => Sys2Proof.Machine.execTcEntryExpire p s
  | .ptpMessageSend p d ty => Sys2Proof.Machine.execPtpMessageSend p d ty s
  | .pdSettleEnd p => Sys2Proof.Machine.execPdSettleEnd p s
  | .tsqHeadPop p => Sys2Proof.Machine.execTsqHeadPop p s
  | .candidateSignalLost d k => Sys2Proof.Machine.execCandidateSignalLost d k s
  | .candidateWtrExpire d k => Sys2Proof.Machine.execCandidateWtrExpire d k s
  | .refSelect d ms => Sys2Proof.Machine.execRefSelect d ms s
  | .lockAchieved d => Sys2Proof.Machine.execLockAchieved d s
  | .lockLost d => Sys2Proof.Machine.execLockLost d s
  | .historySample => Sys2Proof.Machine.execHistorySample s
  | .hoSpecExpire d => Sys2Proof.Machine.execHoSpecExpire d s
  | .refclkOutOfRange => Sys2Proof.Machine.execRefclkOutOfRange s
  | .refclkRangeRestore => Sys2Proof.Machine.execRefclkRangeRestore s
  | .twinRecordReceive l code r => Sys2Proof.Machine.execTwinRecordReceive l code r s
  | .claimFrameReceive b => Sys2Proof.Machine.execClaimFrameReceive b s
  | .claimPinLoss => Sys2Proof.Machine.execClaimPinLoss s
  | .twinJudge => Sys2Proof.Machine.execTwinJudge s
  | .twinJoinTimeout tie => Sys2Proof.Machine.execTwinJoinTimeout tie s
  | .revertHoldExpire => Sys2Proof.Machine.execRevertHoldExpire s
  | .orphanHoldExpire => Sys2Proof.Machine.execOrphanHoldExpire s
  | .twinSlotExpire => Sys2Proof.Machine.execTwinSlotExpire s
  | .clfSlotExpire g prv => Sys2Proof.Machine.execClfSlotExpire g prv s
  | .seqResetTimeout f => Sys2Proof.Machine.execSeqResetTimeout f s
  | .provingScheduleDue => Sys2Proof.Machine.execProvingScheduleDue s
  | .provingSkipped => Sys2Proof.Machine.execProvingSkipped s
  | .provingStepEnd => Sys2Proof.Machine.execProvingStepEnd s
  | .claimStepTimeout => Sys2Proof.Machine.execClaimStepTimeout s
  | .octetP1Enter o => Sys2Proof.Machine.execOctetP1Enter o s
  | .octetP1Exit o => Sys2Proof.Machine.execOctetP1Exit o s
  | .p3Wake k => Sys2Proof.Machine.execP3Wake k s
  | .powerExitComplete o => Sys2Proof.Machine.execPowerExitComplete o s
  | .arbiterGrant => Sys2Proof.Machine.execArbiterGrant s
  | .laneTrainingFail l => Sys2Proof.Machine.execLaneTrainingFail l s
  | .clockGateForce q a write => Sys2Proof.Machine.execClockGateForce q a write s
  | .lvfCtrlWrite v => Sys2Proof.Machine.execLvfCtrlWrite v s
  | .lvfAck v => Sys2Proof.Machine.execLvfAck v s
  | .clkobsCfgWrite v => Sys2Proof.Machine.execClkobsCfgWrite v s
  | .counterLowRead q a => Sys2Proof.Machine.execCounterLowRead q a s
  | .counterHighWrite a v => Sys2Proof.Machine.execCounterHighWrite a v s
  | .counterLowWrite a v => Sys2Proof.Machine.execCounterLowWrite a v s
  | .hubDumpWrite ok => Sys2Proof.Machine.execHubDumpWrite ok s
  | .smpEnable v => Sys2Proof.Machine.execSmpEnable v s
  | .glbIrearmWrite hi v => Sys2Proof.Machine.execGlbIrearmWrite hi v s
  | .msixMaskChange o => Sys2Proof.Machine.execMsixMaskChange o s
  | .pciPowerStateChange d3 => Sys2Proof.Machine.execPciPowerStateChange d3 s
  | .mbeClrWrite v => Sys2Proof.Machine.execMbeClrWrite v s
  | .glbRcvRead => Sys2Proof.Machine.execGlbRcvRead s
  | .engMaxcycRead e => Sys2Proof.Machine.execEngMaxcycRead e s
  | .prvLogptrRead => Sys2Proof.Machine.execPrvLogptrRead s
  | .latchingRead a => Sys2Proof.Machine.execLatchingRead a s
  | .registerWrite q a be v => Sys2Proof.Machine.execRegisterWrite q a be v s
  | .perstNRelease => Sys2Proof.Machine.execPerstNRelease s
  | .tapInstruction ir => Sys2Proof.Machine.execTapInstruction ir s
  | .mbusRead q a ecc => Sys2Proof.Machine.execMbusRead q a ecc s
  | .relayResponse p words => Sys2Proof.Machine.execRelayResponse p words s
  | .coreClockRestart => Sys2Proof.Machine.execCoreClockRestart s
  | .timingExchangeSend => Sys2Proof.Machine.execTimingExchangeSend s

end Sys2Proof.Machine
end

