-- ==== Sys2Proof/Machine/Idle.lean ====
section
/-! DEFINITION. What the block does by itself while no command waits: the firmware takes the next posted request, a warm reset that is due begins, an action that is due takes effect, an Orbit starts, lists are sealed, pins, triggers, MACs and the power controller act at their instants, the orbit engines fetch and run the words of their banks, or TIME moves on by one edge. -/

namespace Sys2Proof.Machine

/-- The warm reset of a mailbox RESET is due, 1 ms after its response (R370). -/
def State.resetDue (s : State) : Bool :=
  match s.sys.resetAt with
  | some t => decide (t + 1000000 ≤ s.tb)
  | none => false

/-- The orbit domain has reached the next Orbit's start. -/
def State.orbitDue (s : State) : Bool := s.orbitsRun && decide (s.orbit.next ≤ s.orbTime)

/-- The lists of runs that have ended are to be sealed, 64 ns before the next Orbit (R145). -/
def State.sealDue (s : State) : Bool :=
  s.orbit.begun && decide (s.orbit.next ≤ s.orbTime + 64 * 4294967296) &&
    anyBelow 9 (fun e => !(s.eng e).running && !(s.eng e).sealed)

/-! ## The engines fetch -/

/-- The word at address `i` of engine e's running bank (R156). -/
def State.bankWord (s : State) (e i : Nat) : BitVec 64 :=
  s.reg (bankAddr e (s.eng e).bank i + 4) ++ s.reg (bankAddr e (s.eng e).bank i)

/-- Engine e has reached the ENG cycle of its next instruction: a run begins 32 ns after the Orbit start (R144, log entry 38). -/
def State.issueDue (s : State) (e : Nat) : Bool :=
  let (n, d) := s.engHz
  (s.eng e).running && decide (s.orbit.startTb + 32 ≤ s.tb) && decide ((s.eng e).cyc * d * 1000000 ≤ (s.tb - s.orbit.startTb - 32) * n)

/-- The first engine with an instruction due. -/
def State.engDue (s : State) : Option (Fin 9) := (List.finRange 9).find? fun e => s.issueDue e.val

/-- Engine e's next ENG cycle: its run is stopped where the budget is used (R146); else the word at its address is fetched and acts, and a word that is no instruction faults (R159). -/
def State.engCycle (s : State) (e : Fin 9) : Host.Outcome State Fault Refusal :=
  if !(s.eng e).canIssue then execRunOverrun e s
  else
    match decodeEngine e (s.bankWord e (s.eng e).pc) with
    | .ok i => exec i s
    | .error code => .next (s.engFault e code (s.eng e).pc)

/-! ## Pins, triggers and ports -/

/-- What pin p does by itself now, if anything: its generator's edge, the end of its pulse, or a level that may rise again (R205 to R208). -/
def State.pinActs (s : State) (p : Fin 8) : Option State :=
  if (s.edgeNow p).isSome then some (s.genEdge p)
  else if s.pulseOver p then some (s.pulseEndNow p)
  else
    let t := s.levelRise p
    if (t.tout p).level != (s.tout p).level then some t else none

/-- Trigger slot k is armed and fires at this TIME edge (R203). -/
def State.trgNow (s : State) (k : Nat) : Bool :=
  s.mode.afterBoot && s.bit (R.TRG1_ARM k) &&
    (if s.lateArm k ≠ 0 then decide (s.lateArm k ≤ s.tb) else decide (s.trgTime k ≤ (s.dom (s.rd (R.TRG1_DOM k))).time))

/-- A trigger slot is armed. -/
def State.trgArmed (s : State) : Bool := s.regs.any fun x => decide (A.TRG1 0 ≤ x.1) && decide (x.1 ≤ A.TRG1 15) && x.1 % 0x10 == 4 && x.2.getLsbD 31

/-- What port p's MAC does by itself now: a transmission that ends within this TIME cycle, or a decision that starts, ends or discards something (R165). -/
def State.portActs (s : State) (p : Nat) : Option State :=
  if s.txDue p then some (s.txFinish p) else if s.decides p then some (s.decideAt p 0) else none

/-- What a pin, a trigger slot, a port or the power controller does by itself now, the first of them. -/
def State.selfDue (s : State) : Option State :=
  match (List.finRange 8).findSome? s.pinActs with
  | some t => some t
  | none =>
    match (if s.trgArmed then (List.range 16).find? s.trgNow else none) with
    | some k => some (s.trgFire k)
    | none => match (List.range 64).findSome? s.portActs with
      | some t => some t
      | none => s.powerActs

/-- A step on an empty queue (DESIGN CHOICE, log entry 1). -/
def State.idle (s : State) : Host.Outcome State Fault Refusal :=
  if s.mbServes && !s.posted.isEmpty then .next s.servePosted
  else if s.resetDue then .next (State.warmReset { s with sys := { s.sys with resetAt := none } } 3)
  else match s.actDue with
  | some e => .next (s.takeAct e)
  | none =>
    if s.orbitDue then .next s.orbitStart
    else if s.sealDue then .next s.listSeal
    else match s.selfDue with
    | some t => .next t
    | none => match s.engDue with
      | some e => s.engCycle e
      | none => .next s.slipDue.tick

end Sys2Proof.Machine
end

