-- ==== Sys2Proof/Safety.lean ====
section
/-! DEFINITION. The terms that the statements use: what a command answers, states that agree but for named parts, the conditions under which a family's commands complete, and the canonical form of the registers. -/

namespace Sys2Proof.Machine

/-- Command `c` in state `s` answers a next state, and that state satisfies `P`. -/
def Answers (c : Instr) (s : State) (P : State → Prop) : Prop := ∃ t, exec c s = .next t ∧ P t

/-- Registers and tables are in canonical form: offsets strictly rising, and no word listed that reads as its reset word. -/
def RegsOk (s : State) : Prop := storeWf resetWord s.regs = true

/-- Every register word outside those named reads as before. -/
def RegsFrame (s t : State) (named : List Nat) : Prop := ∀ a, a ∉ named → t.reg a = s.reg a

/-- `t` differs from `s` in registers only. -/
def OnlyRegs (s t : State) : Prop := ∃ r, t = { s with regs := r }

/-- `t` differs from `s` in registers, the endpoint's lines and the outputs only: what writing a register and raising an interrupt can touch. -/
def OnlyBus (s t : State) : Prop := ∃ r p o, t = { s with regs := r, pcie := p, out := o }

/-! ## Engines -/

/-- Engine e issues its next instruction: a run is in progress within its budget, and the address after it is inside the bank. -/
def Issues (s : State) (e : Fin 9) : Prop := (s.eng e).canIssue = true ∧ (s.eng e).pc ≠ 4095

/-- Engine e has become `E` but for what the sampler keeps of it; no other engine has changed; beside engines only registers, lines and outputs may differ, and those only where the engine is sampled. -/
def EngBecomes (s t : State) (e : Fin 9) (E : Engine) : Prop :=
  (∃ l g, t.eng e = { E with lfsr := l, tagged := g }) ∧ (∀ k, k ≠ e.val → t.eng k = s.eng k) ∧
    t = { s with engines := t.engines, regs := t.regs, pcie := t.pcie, out := t.out } ∧
    (s.sampling e = false → t.regs = s.regs ∧ t.pcie = s.pcie ∧ t.out = s.out)

end Sys2Proof.Machine
end

