-- ==== Sys2Proof/WellFormed.lean ====
section
/-! DEFINITION. Well-formed commands: what the spec says of an operand beyond its type (lengths, alignments, thresholds that the event itself names). A meaning is total and does not rest on these checks. -/

namespace Sys2Proof

/-- The largest message of a partner in bytes (Table 13-1). -/
def msgLimit (p : Nat) : Nat := if p = 1 then 512 else if p = 3 then 1024 else 4096

/-- The bytes that a requester's addresses span: a BAR (Table 15-2), BAR0 offsets, the I²C map (Table 13-10) at either target address, or configuration space. -/
def spaceOf (q : Nat) : Nat := if q = 1 then 0x40000 else if q = 2 then 0x4000 else if q = 5 || q = 6 then 0x10000 else if q = 7 then 0x1000 else 0x8000000

/-- A word-aligned address below a limit (R412). -/
def wordIn (limit a : Nat) : Bool := decide (a < limit) && a % 4 == 0

/-- A record of a message no longer than its partner's limit. -/
def MbCmd.wellFormed (m : MbCmd) : Bool := decide (4 * m.words.length ≤ msgLimit m.partner.val)

/-- A frame of at least its header and FCS, 18 bytes, whose tags can be carried in that order: at most two VLAN tags, and not both an R-TAG and an HSR tag (R112, R296). -/
def frameOk (r : RxFrame) : Bool :=
  decide (18 ≤ r.len) && decide (r.pkt.vlans.length ≤ 2) && !(r.pkt.rtag.isSome && r.pkt.hsr.isSome)

/-- No candidate is measured twice in one evaluation. -/
def distinctSlots : List (Fin 16) → Bool
  | [] => true
  | k :: t => !t.contains k && distinctSlots t

/-- The check of a command. -/
def Instr.wellFormed : Instr → Bool
  | .powerOn _ _ => true
  | .resetN lowNs _ _ => decide (100 ≤ lowNs)
  | .refclkExcursion => true
  | .refclkQualified => true
  | .bootComplete r => decide (r.fuses.length ≤ 128)
  | .glbResetWrite _ => true
  | .warmReset _ => true
  | .perstN => true
  | .brownOutTrip _ => true
  | .brownOutRelease => true
  | .refwarmChange _ => true
  | .refclkLost => true
  | .refclkReturn => true
  | .thermalAlarm _ t => decide (400 ≤ t)
  | .thermalAlarmClear ts => ts.length == 9 && ts.all (fun t => decide (t < 380))
  | .thermalTrip _ t => decide (448 ≤ t)
  | .watchdogExpiry => true
  | .eccError _ => true
  | .recoveryComplete _ => true
  | .recoverTimeout => true
  | .pllUnlock _ => true
  | .pllRelock _ => true
  | .mbDoorbell _ _ => true
  | .mbRspAck _ _ => true
  | .i2cResetWord _ => true
  | .agentFrame _ _ words icv => decide (4 * words.length ≤ msgLimit 3) && icv.length == 16
  | .relayMessage words => decide (4 * words.length ≤ msgLimit 2)
  | .relayTimeout _ => true
  | .transactionApply => true
  | .status m => m.wellFormed
  | .eventRead m => m.wellFormed
  | .journalRead m => m.wellFormed
  | .ptpStatus m => m.wellFormed
  | .attest m => m.wellFormed
  | .tokenGive m => m.wellFormed
  | .tokenRelease m => m.wellFormed
  | .tokenTake m => m.wellFormed
  | .startCmd m => m.wellFormed
  | .dockCmd m => m.wellFormed
  | .resetCmd m => m.wellFormed
  | .haltCmd m => m.wellFormed
  | .prove m => m.wellFormed
  | .proveAbort m => m.wellFormed
  | .openDebug m => m.wellFormed
  | .openEraseComplete => true
  | .calRun m => m.wellFormed
  | .refForce m => m.wellFormed
  | .refForceRelease m => m.wellFormed
  | .refClear m => m.wellFormed
  | .powerSet m => m.wellFormed
  | .powerSetWake m => m.wellFormed
  | .counterSet m => m.wellFormed
  | .repairRestore m => m.wellFormed
  | .calRestore m => m.wellFormed
  | .keyLoad m => m.wellFormed
  | .keyErase m => m.wellFormed
  | .keyBind m => m.wellFormed
  | .keyUnbind m => m.wellFormed
  | .agentSet m => m.wellFormed
  | .fabricSet m => m.wellFormed
  | .shaperSet m => m.wellFormed
  | .streamEditWrite m => m.wellFormed
  | .streamEditDelete m => m.wellFormed
  | .streamCommit m => m.wellFormed
  | .orbitSet m => m.wellFormed
  | .orbitLoad m => m.wellFormed
  | .orbitSwap m => m.wellFormed
  | .gateListSet m => m.wellFormed
  | .gateListLoad => true
  | .ptpSet m => m.wellFormed
  | .refSet m => m.wellFormed
  | .domainAdjustOffset m => m.wellFormed
  | .domainAdjustSetTime m => m.wellFormed
  | .domainAdjustRate m => m.wellFormed
  | .domainLoopOpen m => m.wellFormed
  | .domainLoopClose m => m.wellFormed
  | .timepinSet m => m.wellFormed
  | .twinSet m => m.wellFormed
  | .proveSet m => m.wellFormed
  | .orbitStart => true
  | .listSeal => true
  | .runOverrun _ => true
  | .engSwapReq _ => true
  | .engFaultClear _ => true
  | .nop _ _ => true
  | .endRun _ _ => true
  | .add _ _ => true
  | .sub _ _ => true
  | .andOp _ _ => true
  | .orOp _ _ => true
  | .xorOp _ _ => true
  | .shl _ _ => true
  | .shr _ _ => true
  | .sar _ _ => true
  | .mul _ _ => true
  | .minu _ _ => true
  | .maxu _ _ => true
  | .movi _ _ => true
  | .jmp _ _ => true
  | .beq _ _ => true
  | .bne _ _ => true
  | .bltu _ _ => true
  | .bgeu _ _ => true
  | .blts _ _ => true
  | .bges _ _ => true
  | .bany _ _ => true
  | .bnone _ _ => true
  | .dbnz _ _ => true
  | .call _ _ => true
  | .ret _ _ => true
  | .ldL _ _ => true
  | .ldH _ _ => true
  | .get _ _ => true
  | .put _ _ => true
  | .evt _ _ => true
  | .gate _ _ => true
  | .sgate _ _ => true
  | .launch _ _ => true
  | .inj _ _ => true
  | .tout _ _ => true
  | .capt _ _ => true
  | .mark _ _ => true
  | .rswap _ _ => true
  | .gateEffect _ => true
  | .launchEffect _ => true
  | .injEffect _ => true
  | .sgateEffect _ => true
  | .toutEffect _ => true
  | .captEffect _ => true
  | .markEffect _ => true
  | .rswapEffect _ => true
  | .fabricSlot _ => true
  | .fullBitBroadcast => true
  | .rsvSwapRequest => true
  | .rsvBankSwap => true
  | .frameReceive _ _ r _ => frameOk r
  | .pfcRepeat _ _ => true
  | .pfcReceive _ _ _ _ => true
  | .pfcTimerExpire _ _ => true
  | .cellArrive _ _ => true
  | .reseqGapTimeout _ _ _ _ => true
  | .frameStartDecision _ => true
  | .txEnd _ => true
  | .ctUnderrun _ => true
  | .mmVerifyTimeout _ => true
  | .linkDown _ _ => true
  | .linkUp _ _ _ => true
  | .laneModeTry _ => true
  | .ageScan => true
  | .rawTableWrite a _ => wordIn 0x8000000 a
  | .hostLaunchArm _ _ _ => true
  | .hostLaunchDisarm _ _ _ => true
  | .hostLaunchFire _ _ => true
  | .domRateLoWrite _ _ => true
  | .domRateHiWrite _ _ => true
  | .domStepreqGo _ _ => true
  | .slewEnd _ => true
  | .tbSnapRequest => true
  | .tbSnapLatch => true
  | .triggerArm _ _ => true
  | .triggerDisarm _ _ => true
  | .triggerFire _ => true
  | .toutGeneratorEdge _ => true
  | .toutPulseEnd _ => true
  | .tinEdge _ _ _ => true
  | .tinTransitionSuppressed _ _ => true
  | .tinHoldoffEnd _ => true
  | .tinHeadPop _ => true
  | .ivlResRead _ => true
  | .ivlCfgWrite _ _ => true
  | .tdcScalePair _ _ _ => true
  | .trackerSample _ _ => true
  | .calPending _ _ => true
  | .calRunStart _ _ => true
  | .calShadowEnd _ _ => true
  | .calCollectEnd _ counts _ => counts.length == 512
  | .calComputeEnd _ _ => true
  | .calVerifyEnd _ _ _ => true
  | .calInplaceEnd _ counts _ => counts.length == 512
  | .ptpFrameReceive _ r _ => frameOk r && r.pkt.ptp.isSome
  | .tcEntryExpire _ => true
  | .ptpMessageSend _ _ _ => true
  | .pdSettleEnd _ => true
  | .tsqHeadPop _ => true
  | .candidateSignalLost _ _ => true
  | .candidateWtrExpire _ _ => true
  | .refSelect _ ms => distinctSlots (ms.map (·.slot))
  | .lockAchieved _ => true
  | .lockLost _ => true
  | .historySample => true
  | .hoSpecExpire _ => true
  | .refclkOutOfRange => true
  | .refclkRangeRestore => true
  | .twinRecordReceive _ _ _ => true
  | .claimFrameReceive _ => true
  | .claimPinLoss => true
  | .twinJudge => true
  | .twinJoinTimeout _ => true
  | .revertHoldExpire => true
  | .orphanHoldExpire => true
  | .twinSlotExpire => true
  | .clfSlotExpire _ _ => true
  | .seqResetTimeout _ => true
  | .provingScheduleDue => true
  | .provingSkipped => true
  | .provingStepEnd => true
  | .claimStepTimeout => true
  | .octetP1Enter _ => true
  | .octetP1Exit _ => true
  | .p3Wake _ => true
  | .powerExitComplete _ => true
  | .arbiterGrant => true
  | .laneTrainingFail _ => true
  | .clockGateForce q a _ => wordIn (spaceOf q.val) a
  | .lvfCtrlWrite _ => true
  | .lvfAck _ => true
  | .clkobsCfgWrite _ => true
  | .counterLowRead q a => wordIn (spaceOf q.val) a
  | .counterHighWrite a _ => wordIn 0x8000000 a
  | .counterLowWrite a _ => wordIn 0x8000000 a
  | .hubDumpWrite _ => true
  | .smpEnable _ => true
  | .glbIrearmWrite _ _ => true
  | .msixMaskChange _ => true
  | .pciPowerStateChange _ => true
  | .mbeClrWrite _ => true
  | .glbRcvRead => true
  | .engMaxcycRead _ => true
  | .prvLogptrRead => true
  | .latchingRead a => wordIn 0x8000000 a
  | .registerWrite q a _ _ => wordIn (spaceOf q.val) a
  | .perstNRelease => true
  | .tapInstruction _ => true
  | .mbusRead q a _ => wordIn (spaceOf q.val) a
  | .relayResponse _ words => decide (4 * words.length ≤ msgLimit 2)
  | .coreClockRestart => true
  | .timingExchangeSend => true

end Sys2Proof
end

