-- ==== Sys2Proof/Certificates/Slice0/Obligations.lean ====
section
/-! DEFINITION. The statements for the provers. A statement over several families is the conjunction of its parts `Rules.<Name>`, each of which stands by itself. -/

open Sys2Proof Sys2Proof.Machine

/-! ## Steps and words -/

/-- R-: a step takes the command at the front of the queue and answers what the command answers with the queue's rest. -/
def Obligations.StepTakesFrontCommand : Prop :=
  ∀ (c : Instr) (s : State), step { s with pending := c :: s.pending } = exec c s

/-- R156, R159: with no command waiting and nothing else due (no action, Orbit start, seal, pin, trigger or port), the engine whose ENG cycle has come runs the instruction that its bank's word spells, or faults with the code of Table 5-13 where the word spells none (the idle step is the model's choice, log entry 1). -/
def Obligations.IdleStepRunsFetchedWord : Prop :=
  ∀ (s : State) (e : Fin 9), s.pending = [] → s.posted = [] → s.resetDue = false → s.actDue = none → s.orbitDue = false →
    s.sealDue = false → s.selfDue = none → s.engDue = some e → (s.eng e).canIssue = true →
    (∀ i, decodeEngine e (s.bankWord e (s.eng e).pc) = .ok i → step s = exec i s) ∧
    (∀ k, decodeEngine e (s.bankWord e (s.eng e).pc) = .error k → step s = .next (s.engFault e k (s.eng e).pc))

/-- R156: every engine instruction with every operand at every value, reserved bits included, is read back from its word. -/
def Rules.EngineWordsAreRead : Prop :=
  ∀ (i : Instr) (e : Fin 9) (w : BitVec 64), encodeEngine i = some (e, w) → decodeEngine e w = .ok i

/-- R156: a word that spells an instruction is that instruction's word: no two words spell one instruction, and no bit is lost. -/
def Rules.EngineDecodingLosesNoBit : Prop :=
  ∀ (i : Instr) (e : Fin 9) (w : BitVec 64), decodeEngine e w = .ok i → encodeEngine i = some (e, w)

/-- R156: every engine instruction is read back from its word with every operand at every value, reserved bits included, and a word that spells an instruction is that word. -/
def Obligations.EngineWordsRoundTrip : Prop := Rules.EngineWordsAreRead ∧ Rules.EngineDecodingLosesNoBit

/-- R156, Tables 5-7, 5-9 to 5-11: words written out from the formats. -/
def Rules.EngineWordsByTable : Prop :=
  decodeEngine 3 0x0000000000000000 = .ok (.nop 3 ⟨0⟩) ∧
  decodeEngine 3 0x0400000000000000 = .ok (.endRun 3 ⟨0⟩) ∧
  -- ALU SUB, GD 1, GA 2, GB 3
  decodeEngine 3 0x10448C0000000000 = .ok (.sub 3 ⟨1, 2, 3, false, 0, 0⟩) ∧
  -- MOVI, GD 5, IMM 100
  decodeEngine 3 0x1414000000000064 = .ok (.movi 3 ⟨5, 100, 0, 0⟩) ∧
  -- BR BLTU, GA 1, I 1, TGT 0x010, IMM 7
  decodeEngine 3 0x20C4201000000007 = .ok (.bltu 3 ⟨1, 0, true, 0x010, 7, 0⟩) ∧
  -- LD.H, GD 1, GA 2, DISP 0x123
  decodeEngine 3 0x3004A00000000123 = .ok (.ldH 3 ⟨1, 2, 0x123, 0, 0⟩) ∧
  -- GATE, PORT 24, STATE 0x81, HOLD 1, OFF 500
  decodeEngine 3 0x800C40A0000001F4 = .ok (.gate 3 ⟨0, false, 500, 24, 0x81, 1, 0⟩)

/-- R159, Table 5-13: words whose `OP` is undefined fault with code 1, those with an illegal `FN` or `CC` with code 2, and no other word fails to spell an instruction. -/
def Rules.IllegalWordsByCode : Prop :=
  ∀ (e : Fin 9) (w : BitVec 64),
    let op := (bitsAt w 58 6).toNat
    let fn := (bitsAt w 54 4).toNat
    let defined := op ∈ [0x00, 0x01, 0x04, 0x05, 0x08, 0x09, 0x0A, 0x0B, 0x0C, 0x10, 0x11, 0x12, 0x20, 0x21, 0x22, 0x23, 0x24, 0x25, 0x26, 0x27]
    (decodeEngine e w = .error 1 ↔ ¬ defined) ∧
    (decodeEngine e w = .error 2 ↔ (op = 4 ∧ 11 ≤ fn) ∨ (op = 8 ∧ 9 ≤ fn)) ∧
    ((∃ i, decodeEngine e w = .ok i) ↔ defined ∧ ¬ ((op = 4 ∧ 11 ≤ fn) ∨ (op = 8 ∧ 9 ≤ fn)))

/-- R156, R159, Tables 5-7 to 5-11, 5-13: words written out from the formats decode to their instructions, and which words spell no instruction, with the code of the fault of each. -/
def Obligations.EngineWordsOfTheTables : Prop := Rules.EngineWordsByTable ∧ Rules.IllegalWordsByCode

/-! ## The engines' instructions (R157, Tables 5-8 to 5-12) -/

/-- An ALU instruction: g[GD] takes `f` of the operands, in `n` cycles. -/
def AluResult (mk : Fin 9 → AluArgs → Instr) (n : Nat) (f : Word → Word → Word) : Prop :=
  ∀ (e : Fin 9) (w : AluArgs) (s : State), Issues s e → w.legal = true →
    Answers (mk e w) s fun t =>
      let E := s.eng e
      let b := if w.i then w.imm else E.getG w.gb
      EngBecomes s t e { (E.setG w.gd (f (E.getG w.ga) b)) with cyc := E.cyc + n, pc := E.pc + 1 }

/-- Table 5-9: what each ALU function computes, modulo 2^32, and its cycles. -/
def Rules.AluFunctions : Prop :=
  AluResult .add 1 (fun a b => .ofNat (a.toNat + b.toNat)) ∧
  AluResult .sub 1 (fun a b => BitVec.ofInt 32 ((a.toNat : Int) - (b.toNat : Int))) ∧
  AluResult .andOp 1 (fun a b => a &&& b) ∧
  AluResult .orOp 1 (fun a b => a ||| b) ∧
  AluResult .xorOp 1 (fun a b => a ^^^ b) ∧
  AluResult .shl 1 (fun a b => .ofNat (a.toNat * 2 ^ (b.toNat % 32))) ∧
  AluResult .shr 1 (fun a b => .ofNat (a.toNat / 2 ^ (b.toNat % 32))) ∧
  AluResult .sar 1 (fun a b => BitVec.ofInt 32 (a.toInt / 2 ^ (b.toNat % 32))) ∧
  AluResult .mul 4 (fun a b => .ofNat (a.toNat * b.toNat)) ∧
  AluResult .minu 1 (fun a b => .ofNat (min a.toNat b.toNat)) ∧
  AluResult .maxu 1 (fun a b => .ofNat (max a.toNat b.toNat))

/-- A branch: two cycles and TGT where the condition holds, one cycle and the next address where not. -/
def BranchResult (mk : Fin 9 → BrArgs → Instr) (c : Word → Word → Prop) : Prop :=
  ∀ (e : Fin 9) (w : BrArgs) (s : State), (s.eng e).canIssue = true → w.legal = true →
    let E := s.eng e
    let b := if w.i then w.imm else E.getG w.gb
    (c (E.getG w.ga) b → Answers (mk e w) s fun t => EngBecomes s t e { E with cyc := E.cyc + 2, pc := w.tgt.toNat }) ∧
    (¬ c (E.getG w.ga) b → E.pc ≠ 4095 → Answers (mk e w) s fun t => EngBecomes s t e { E with cyc := E.cyc + 1, pc := E.pc + 1 })

/-- Table 5-10 and DBNZ: when each branch jumps. -/
def Rules.BranchConditions : Prop :=
  (∀ (e : Fin 9) (w : BrArgs) (s : State), (s.eng e).canIssue = true → w.legalJmp = true →
    Answers (.jmp e w) s fun t => EngBecomes s t e { s.eng e with cyc := (s.eng e).cyc + 2, pc := w.tgt.toNat }) ∧
  BranchResult .beq (fun a b => a = b) ∧
  BranchResult .bne (fun a b => a ≠ b) ∧
  BranchResult .bltu (fun a b => a.toNat < b.toNat) ∧
  BranchResult .bgeu (fun a b => b.toNat ≤ a.toNat) ∧
  BranchResult .blts (fun a b => a.toInt < b.toInt) ∧
  BranchResult .bges (fun a b => b.toInt ≤ a.toInt) ∧
  BranchResult .bany (fun a b => a &&& b ≠ 0) ∧
  BranchResult .bnone (fun a b => a &&& b = 0) ∧
  (∀ (e : Fin 9) (w : DbnzArgs) (s : State), (s.eng e).canIssue = true → w.legal = true →
    let E := s.eng e
    (E.getG w.ga ≠ 1 → Answers (.dbnz e w) s fun t =>
      EngBecomes s t e { (E.setG w.ga (E.getG w.ga - 1)) with cyc := E.cyc + 2, pc := w.tgt.toNat }) ∧
    (E.getG w.ga = 1 → E.pc ≠ 4095 → Answers (.dbnz e w) s fun t =>
      EngBecomes s t e { (E.setG w.ga 0) with cyc := E.cyc + 1, pc := E.pc + 1 }))

/-- Table 5-8: CALL pushes the address of the next instruction, RET pops one. -/
def Rules.CallAndReturn : Prop :=
  (∀ (e : Fin 9) (w : CallArgs) (s : State), (s.eng e).canIssue = true → w.legal = true → (s.eng e).stack.length < 8 →
    Answers (.call e w) s fun t =>
      EngBecomes s t e { s.eng e with stack := ((s.eng e).pc + 1) % 4096 :: (s.eng e).stack, cyc := (s.eng e).cyc + 2, pc := w.tgt.toNat }) ∧
  (∀ (e : Fin 9) (w : PlainArgs) (s : State) (a : Nat) (r : List Nat), (s.eng e).canIssue = true → w.legal = true → (s.eng e).stack = a :: r →
    Answers (.ret e w) s fun t => EngBecomes s t e { s.eng e with stack := r, cyc := (s.eng e).cyc + 2, pc := a })

/-- Tables 5-8 and 5-10: when branches and DBNZ jump, and what CALL and RET do. -/
def Obligations.ControlFlow : Prop := Rules.BranchConditions ∧ Rules.CallAndReturn

/-- Tables 5-8 and 5-12: NOP, MOVI, LD, GET and PUT. -/
def Rules.DataInstructions : Prop :=
  ∀ (e : Fin 9) (s : State), Issues s e →
    let E := s.eng e
    let next (E' : Engine) (n : Nat) : Engine := { E' with cyc := E.cyc + n, pc := E.pc + 1 }
    (∀ w : PlainArgs, w.legal = true → Answers (.nop e w) s fun t => EngBecomes s t e (next E 1)) ∧
    (∀ w : MoviArgs, w.legal = true → Answers (.movi e w) s fun t => EngBecomes s t e (next (E.setG w.gd w.imm) 1)) ∧
    (∀ w : LdArgs, w.legal = true →
      let k := ((E.getG w.ga).toNat + w.disp.toNat) % 4096
      Answers (.ldL e w) s (fun t => EngBecomes s t e (next (E.setG w.gd ((s.bankWord e k).extractLsb' 0 32)) 2)) ∧
      Answers (.ldH e w) s (fun t => EngBecomes s t e (next (E.setG w.gd ((s.bankWord e k).extractLsb' 32 32)) 2))) ∧
    (∀ w : GetArgs, w.legal = true → Answers (.get e w) s fun t =>
      EngBecomes s t e (next (E.setG w.gd
        (if w.sel = 0x0C then .ofNat (1024 - E.filling.length)
         else if w.sel = 0x0D then .ofNat E.cyc
         else storeGet (fun _ => 0) E.inputs w.sel.toNat)) 2)) ∧
    (∀ w : PutArgs, w.legal = true → Answers (.put e w) s fun t =>
      EngBecomes s t e (next { E with puts := storeIns E.puts w.sel.toNat (E.getG w.ga) } 1))

/-- Tables 5-8, 5-9 and 5-12: what the ALU functions, NOP, MOVI, LD, GET and PUT do. -/
def Obligations.ComputeInstructions : Prop := Rules.AluFunctions ∧ Rules.DataInstructions

/-! ## Runs (R144 to R161) -/

/-- END (Table 5-8): the run ends, its PUT writes show in `ENG_OUT`, `RUNS` counts it, and its actions, in order of offset and then of issue, become the list for the next Orbit; other engines are left. -/
def Rules.EndCompletesTheRun : Prop :=
  ∀ (e : Fin 9) (w : PlainArgs) (s : State), (s.eng e).canIssue = true → w.legal = true →
    Answers (.endRun e w) s fun t =>
      let E := s.eng e
      (t.eng e).running = false ∧ (t.eng e).cyc = E.cyc + 1 ∧ (t.eng e).first = false ∧ (t.eng e).ovr = false ∧
      (t.eng e).puts = [] ∧ (t.eng e).stack = [] ∧ (t.eng e).filling = [] ∧ (t.eng e).g = E.g ∧ (t.eng e).exec = E.exec ∧
      (t.eng e).pendList.Perm E.filling ∧ (t.eng e).pendList.Pairwise (fun a b => a.off ≤ b.off) ∧
      (∀ d, ((t.eng e).pendList.filter fun a => a.off == d) = E.filling.filter fun a => a.off == d) ∧
      (∀ k < 4, t.reg (A.ENG_OUT e k) = E.puts.foldl (fun v p => if p.1 = k then p.2 else v) (s.reg (A.ENG_OUT e k))) ∧
      t.ctr (.eng e 0) = (s.ctr (.eng e 0) + 1) % 2 ^ 48 ∧
      (∀ k, k ≠ e.val → t.eng k = s.eng k) ∧
      t = { s with engines := t.engines, regs := t.regs, pcie := t.pcie, out := t.out }

/-- EVT (Table 5-8): up to the fourth of a run writes one entry of the event log, with the code, source e + 1 and the Orbit's number; a further one is counted in `EVT_DROP` and writes none. Its severity and parameter words are free values. -/
def Rules.EvtWritesTheLog : Prop :=
  ∀ (e : Fin 9) (w : EvtArgs) (s : State), Issues s e → w.legal = true →
    let E := s.eng e
    let i := s.rd R.EVL_HEAD_INDEX
    (E.evts < 4 → Answers (.evt e w) s fun t =>
      (t.eng e).cyc = E.cyc + 4 ∧ (t.eng e).pc = E.pc + 1 ∧ (t.eng e).evts = E.evts + 1 ∧ (t.eng e).g = E.g ∧
      t.rd R.EVL_HEAD_INDEX = (i + 1) % 2 ^ 32 ∧
      (t.reg (evlAddr i 0)).toNat % 65536 = w.code.toNat ∧ (t.reg (evlAddr i 0)).toNat / 65536 % 16 = e.val + 1 ∧
      t.reg (evlAddr i 1) = .ofNat i ∧
      (s.orbit.begun = true → t.reg (evlAddr i 2) = .ofNat s.orbNum ∧ t.reg (evlAddr i 3) = .ofNat (s.orbNum / 2 ^ 32)) ∧
      (w.int = true → (t.rd R.GLB_ISRC_ENG_EVT).testBit e.val = true) ∧
      (∀ k, k ≠ e.val → t.eng k = s.eng k)) ∧
    (4 ≤ E.evts → Answers (.evt e w) s fun t =>
      (t.eng e).cyc = E.cyc + 4 ∧ (t.eng e).pc = E.pc + 1 ∧ (t.eng e).evts = E.evts ∧ (t.eng e).g = E.g ∧
      t.rd R.EVL_HEAD_INDEX = i ∧ (∀ a, 0x20000 ≤ a → a < 0x40000 → t.reg a = s.reg a) ∧
      (∀ k, k ≠ e.val → t.eng k = s.eng k))

/-- Table 5-8: how a run ends, and what EVT writes to the event log. -/
def Obligations.EndAndEvt : Prop := Rules.EndCompletesTheRun ∧ Rules.EvtWritesTheLog

/-- The offset that an action's word gives, in 1/64 ns (R158). -/
def offOf (E : Engine) (orr : Bool) (go : BitVec 4) (off : BitVec 30) : Nat := 64 * (off.toNat + if orr then (E.getG go).toNat else 0)

/-- An action is put at the end of the list being filled, at its offset, in one cycle. -/
def ActionIssued (s : State) (e : Fin 9) (c : Instr) (port : Option Nat) (off : Nat) (k : ActKind) : Prop :=
  let E := s.eng e
  E.filling.length < 1024 → off / 64 + 1 ≤ s.periodNs → (∀ p, port = some p → s.absent p = false) →
    Answers c s fun t => ∃ tag, (E.tagged = true ∨ s.sampling e = false → tag = none) ∧
      EngBecomes s t e { E with cyc := E.cyc + 1, pc := E.pc + 1, filling := E.filling ++ [⟨off, k, false, tag⟩] }

/-- R147, R158, Table 5-11: each action instruction of an engine permitted to issue it puts its action on the list. -/
def Obligations.ActionsAreListed : Prop :=
  ∀ (e : Fin 9) (s : State), Issues s e →
    let E := s.eng e
    (∀ w : GateArgs, w.legal = true → w.port.toNat / 8 = e.val →
      ActionIssued s e (.gate e w) (some w.port.toNat) (offOf E w.orr w.go w.off) (.gate w.port.toNat w.state.toNat w.hold.toNat)) ∧
    (∀ w : SgateArgs, w.legal = true → ActionIssued s e (.sgate e w) none (offOf E w.orr w.go w.off) (.sgate w.handle.toNat w.opn)) ∧
    (∀ w : LaunchArgs, w.legal = true → w.port.toNat / 8 = e.val →
      ActionIssued s e (.launch e w) (some w.port.toNat) (offOf E w.orr w.go w.off) (.launch w.port.toNat w.cls.toNat)) ∧
    (∀ w : InjArgs, w.legal = true → (e = 8 ∨ w.port.toNat / 8 = e.val) →
      ActionIssued s e (.inj e w) (some w.port.toNat) (offOf E w.orr w.go w.off) (.inj w.port.toNat w.tmpl.toNat)) ∧
    (∀ w : ToutArgs, w.legal = true → e = 8 →
      ActionIssued s e (.tout e w) none
        (64 * w.off.toNat + w.fine.toNat + if w.orr then (if w.fr then (E.getG w.go).toNat else 64 * (E.getG w.go).toNat) else 0)
        (.tout w.pin.toNat w.lvl)) ∧
    (∀ w : CaptArgs, w.legal = true → ActionIssued s e (.capt e w) none (offOf E w.orr w.go w.off) (.capt w.dom.toNat w.slot.toNat)) ∧
    (∀ w : MarkArgs, w.legal = true → ActionIssued s e (.mark e w) none (offOf E w.orr w.go w.off) (.mark w.group.toNat)) ∧
    (∀ w : RswapArgs, w.legal = true → e = 8 → ActionIssued s e (.rswap e w) none (offOf E w.orr w.go w.off) .rswap)

/-- A run stopped without END: its actions, PUT writes and stack are gone and its registers are those at its start. -/
def RunStopped (s t : State) (e : Fin 9) : Prop :=
  let E := s.eng e
  (t.eng e).running = false ∧ (t.eng e).g = E.gSave ∧ (t.eng e).filling = [] ∧ (t.eng e).puts = [] ∧ (t.eng e).stack = [] ∧
  (t.eng e).pendList = E.pendList ∧ (t.eng e).exec = E.exec ∧ (t.eng e).ovr = true ∧ (∀ k, k ≠ e.val → t.eng k = s.eng k) ∧
  (∀ k < 4, t.reg (A.ENG_OUT e k) = s.reg (A.ENG_OUT e k))

/-- The run faults with a code at an address (R160): what it did is undone, `FAULT`, `FCODE` and `FPC` say so, and runs are withheld unless `FAULT_RESTART` is 1. -/
def RunFaults (c : Instr) (s : State) (e : Fin 9) (code : Nat) : Prop :=
  Answers c s fun t => RunStopped s t e ∧ t.bit (R.ENG_STAT_FAULT e) = true ∧ t.rd (R.ENG_STAT_FCODE e) = code ∧
    t.rd (R.ENG_STAT_FPC e) = (s.eng e).pc % 4096 ∧
    (t.eng e).held = (if s.bit (R.ENG_CTRL_FAULT_RESTART e) then (s.eng e).held else true)

/-- R156, R159, R160, Table 5-13: illegal words fault with code 2, actions an engine may not issue with code 3, a ninth CALL with 4, a RET on an empty stack with 5, and a run past word 4095 with 6. -/
def Rules.EngineFaults : Prop :=
  ∀ (e : Fin 9) (s : State), (s.eng e).canIssue = true →
    (∀ w : AluArgs, w.legal = false → ∀ mk ∈ [Instr.add, .sub, .andOp, .orOp, .xorOp, .shl, .shr, .sar, .mul, .minu, .maxu], RunFaults (mk e w) s e 2) ∧
    (∀ w : BrArgs, w.legal = false → ∀ mk ∈ [Instr.beq, .bne, .bltu, .bgeu, .blts, .bges, .bany, .bnone], RunFaults (mk e w) s e 2) ∧
    (∀ w : BrArgs, w.legalJmp = false → RunFaults (.jmp e w) s e 2) ∧
    (∀ w : GetArgs, selLegal w.sel.toNat = false → RunFaults (.get e w) s e 2) ∧
    (∀ w : GateArgs, w.hold = 3 → RunFaults (.gate e w) s e 2) ∧
    (∀ w : SgateArgs, w.handle = 0 → RunFaults (.sgate e w) s e 2) ∧
    (∀ w : GateArgs, w.legal = true → w.port.toNat / 8 ≠ e.val → RunFaults (.gate e w) s e 3) ∧
    (∀ w : LaunchArgs, w.legal = true → w.port.toNat / 8 ≠ e.val → RunFaults (.launch e w) s e 3) ∧
    (∀ w : ToutArgs, w.legal = true → e ≠ 8 → RunFaults (.tout e w) s e 3) ∧
    (∀ w : RswapArgs, w.legal = true → e ≠ 8 → RunFaults (.rswap e w) s e 3) ∧
    (∀ w : CallArgs, w.legal = true → 8 ≤ (s.eng e).stack.length → RunFaults (.call e w) s e 4) ∧
    (∀ w : PlainArgs, w.legal = true → (s.eng e).stack = [] → RunFaults (.ret e w) s e 5) ∧
    (∀ w : MoviArgs, w.legal = true → (s.eng e).pc = 4095 → RunFaults (.movi e w) s e 6)

/-- R146: a run that has used its budget is stopped as at a fault, `OVERRUN` counts it, and the next run goes on (nothing is withheld); where no run is in progress nothing happens. -/
def Rules.OverrunStopsTheRun : Prop :=
  ∀ (e : Fin 9) (s : State),
    ((s.eng e).running = true → Answers (.runOverrun e) s fun t =>
      RunStopped s t e ∧ (t.eng e).held = (s.eng e).held ∧ t.bit (R.ENG_STAT_OVR e) = true ∧
      t.ctr (.eng e 1) = min (s.ctr (.eng e 1) + 1) 0xFFFFFFFF) ∧
    ((s.eng e).running = false → Answers (.runOverrun e) s fun t => t = s)

/-- R153: a write of `ENG_SWAP.REQ` makes a swap pending, from now, for each engine named that has none pending, and changes nothing else. -/
def Obligations.SwapRequests : Prop :=
  ∀ (v : Word) (s : State), Answers (.engSwapReq v) s fun t =>
    (∀ e < 9, (v.getLsbD e = true → (s.eng e).swap = none → t.eng e = { s.eng e with swap := some s.tb }) ∧
      ((v.getLsbD e = false ∨ (s.eng e).swap ≠ none) → t.eng e = s.eng e)) ∧
    t = { s with engines := t.engines }

/-- R160: writing 1 to `ENG_STAT.FAULT` clears it and the engine's interrupt cause; runs withheld by a fault of code 1 to 6 may resume from 2 µs later. -/
def Rules.FaultClearResumes : Prop :=
  ∀ (e : Fin 9) (s : State), Answers (.engFaultClear e) s fun t =>
    t.bit (R.ENG_STAT_FAULT e) = false ∧
    (s.bit (R.ENG_STAT_FAULT e) = true → (s.eng e).held = true → s.rd (R.ENG_STAT_FCODE e) ≠ 7 →
      t.eng e = { s.eng e with resumeFrom := some s.tb }) ∧
    (s.bit (R.ENG_STAT_FAULT e) = false ∨ (s.eng e).held = false ∨ s.rd (R.ENG_STAT_FCODE e) = 7 → t.eng e = s.eng e) ∧
    (∀ k, k ≠ e.val → t.eng k = s.eng k) ∧
    (∀ a, a ≠ A.ENG_STAT e → a ≠ 0x8003804 → t.reg a = s.reg a) ∧
    t = { s with engines := t.engines, regs := t.regs, pcie := t.pcie, out := t.out }

/-- R146, R156, R159, R160, Table 5-13: faults by code, the overrun of a budget, and the clearing of a fault. -/
def Obligations.EngineStops : Prop := Rules.EngineFaults ∧ Rules.OverrunStopsTheRun ∧ Rules.FaultClearResumes

/-! ## Actions take effect (R148 to R150, Table 5-3) -/

/-- The head of engine e's executing list is `a`, and of the actions due at this TIME edge it takes effect next: its instant has come, its engine has executed fewer than eight actions in this TIME cycle, and no head that comes before it, by T and then by engine, is due. -/
def HeadDue (s : State) (e : Fin 9) (a : Act) (rest : List Act) : Prop :=
  (s.eng e).exec = a :: rest ∧ s.actDue = some e.val

/-- The action is off the list. -/
def HeadTaken (s t : State) (e : Fin 9) (rest : List Act) : Prop :=
  (t.eng e).exec = rest ∧ (t.eng e).fired = (s.tb, s.firedNow e + 1) ∧ (t.eng e).g = (s.eng e).g ∧ t.tb = s.tb ∧
    ∀ k, k ≠ e.val → t.eng k = s.eng k

/-- GATE: the port's gates take the states named; SGATE: the stream gate opens or closes; CAPT: the domain's time, the domain and the Orbit's number are in the capture slot; RSWAP: the swap of the reservation banks is requested now. -/
def Rules.GateCaptureAndSwapActions : Prop :=
  ∀ (e : Fin 9) (s : State) (a : Act) (rest : List Act), HeadDue s e a rest →
    (∀ p st hold : Nat, p < 64 → st < 256 → a.kind = .gate p st hold → (∀ d ∈ (s.egr p).due, ∀ k, d.slot = some k → k < 4) →
      Answers (.gateEffect e) s fun t => HeadTaken s t e rest ∧ t.rd (R.PORT_GSTAT_STATE p) = st ∧
        (∀ q < 64, q ≠ p → t.rd (R.PORT_GSTAT_STATE q) = s.rd (R.PORT_GSTAT_STATE q)) ∧
        (∀ d ∈ (t.egr p).due, ∀ c, d.cls = some c → c < 8 → (s.rd (R.PORT_GSTAT_STATE p)).testBit c = true → st.testBit c = true)) ∧
    (∀ (h : Nat) (b : Bool), h < 256 → a.kind = .sgate h b →
      Answers (.sgateEffect e) s fun t => HeadTaken s t e rest ∧ (t.reg (A.SG_STATE (h / 32))).getLsbD (h % 32) = b ∧
        (∀ j < 32, j ≠ h % 32 → (t.reg (A.SG_STATE (h / 32))).getLsbD j = (s.reg (A.SG_STATE (h / 32))).getLsbD j)) ∧
    (∀ d k : Nat, d < 8 → k < 8 → a.kind = .capt d k →
      Answers (.captEffect e) s fun t => HeadTaken s t e rest ∧
        t.reg (A.ENG_CAPT0 e k) = .ofNat (timeSec (s.dom d).time) ∧
        (t.reg (A.ENG_CAPT0 e k + 4)).toNat = timeSec (s.dom d).time / 2 ^ 32 % 2 ^ 16 + d * 2 ^ 16 + 2 ^ 31 ∧
        (t.reg (A.ENG_CAPT0 e k + 8)).toNat = timeNs (s.dom d).time ∧
        (t.reg (A.ENG_CAPT0 e k + 12)).toNat = timeFrac (s.dom d).time + s.orbNum % 2 ^ 16 * 2 ^ 16) ∧
    (a.kind = .rswap →
      Answers (.rswapEffect e) s fun t => HeadTaken s t e rest ∧ t.rsvReq = some s.orbitsBegun ∧ t.bit R.FAB_CTRL_RSV_PENDING = true)

/-- LAUNCH: the next frame of the queue that is not due yet becomes due, or the launch is a miss; INJ: in PROVING a valid template's frame becomes due. -/
def Rules.LaunchAndInjectActions : Prop :=
  ∀ (e : Fin 9) (s : State) (a : Act) (rest : List Act), HeadDue s e a rest →
    (∀ p c : Nat, p < 64 → c < 8 → a.kind = .launch p c → s.sends p = true → s.mode ≠ .recover →
      (((s.egr p).due.filter (·.cls == some c)).length < (s.egrQ (8 * p + c)).q.length →
        Answers (.launchEffect e) s fun t => HeadTaken s t e rest ∧
          ((t.egr p).due.filter (·.cls == some c)).length = ((s.egr p).due.filter (·.cls == some c)).length + 1 ∧
          (∀ q, q ≠ p → t.egr q = s.egr q) ∧ (t.egr p).tx = (s.egr p).tx) ∧
      ((s.egrQ (8 * p + c)).q.length ≤ ((s.egr p).due.filter (·.cls == some c)).length →
        Answers (.launchEffect e) s fun t => HeadTaken s t e rest ∧ t.ctr (.eng e 8) = min (s.ctr (.eng e 8) + 1) 0xFFFFFFFF ∧
          t.egresses = s.egresses)) ∧
    (∀ p k : Nat, p < 64 → a.kind = .inj p k → s.mode = .proving → s.bit (R.TMPL0_VALID k) = true → s.bit (R.TMPL0_PCLAIM k) = false →
      s.sends p = true →
      Answers (.injEffect e) s fun t => HeadTaken s t e rest ∧ k ∈ t.prv.injected ∧ t.prv.injBad = s.prv.injBad ∧
        (t.egr p).due.length = (s.egr p).due.length + 1 ∧ (∀ q, q ≠ p → t.egr q = s.egr q))

/-- TOUT: an ENGINE pin takes the level named at the action's instant, within the TIME cycle that ends now or the one it slipped to, where no rise is muted and the last edge lies 4 ns back. MARK: the group is latched for a dump, which takes the next number. -/
def Rules.ToutAndMarkActions : Prop :=
  ∀ (e : Fin 9) (s : State) (a : Act) (rest : List Act), HeadDue s e a rest →
    (∀ (p : Nat) (lvl : Bool), p < 8 → a.kind = .tout p lvl → (s.tout p).cfg.mode = 2 → s.mode.pinsMove = true →
      (lvl = true → s.muted p = false) → (s.tout p).level ≠ lvl → (∀ x, (s.tout p).lastEdge = some x → x + 256 + 64 ≤ 64 * s.tb) →
      (a.slip = true ∨ (s.orbDom.time : Int) - actAt s.orbit.start a < (nsUnit : Int) + s.orbDom.rate) →
      Answers (.toutEffect e) s fun t => HeadTaken s t e rest ∧ (t.tout p).level = lvl ∧ (t.tout p).cfg = (s.tout p).cfg ∧
        (∃ x, (t.tout p).lastEdge = some x ∧ x ≤ 64 * s.tb ∧ 64 * s.tb ≤ x + 64 ∧ Out.pin p ((s.tout p).cfg.out lvl) x ∈ t.out) ∧
        (∀ q, q ≠ p → t.tout q = s.tout q)) ∧
    (∀ g : Nat, g < 64 → a.kind = .mark g → s.hubLatches = true → (∀ d ∈ s.hub.dumps, d.1 ≠ some g) →
      Answers (.markEffect e) s fun t => HeadTaken s t e rest ∧ t.hub.seq = (s.hub.seq + 1) % 2 ^ 32 ∧
        ∃ ws, t.hub.dumps = s.hub.dumps ++ [(some g, ws)])

/-- R148 to R150, Table 5-3: what each action does at its instant. -/
def Obligations.ActionsTakeEffect : Prop := Rules.GateCaptureAndSwapActions ∧ Rules.LaunchAndInjectActions ∧ Rules.ToutAndMarkActions

/-! ## Orbits and transactions (R6, R7, R140 to R145, R366, R184) -/

/-- A power-on, or a RESET_N pulse. -/
def isFullReset : Instr → Bool
  | .powerOn .. | .resetN .. => true
  | _ => false

/-- R7: each Orbit start increases the Orbit number by one (Orbit 0 is the first), whatever else happens at it; a time step that takes effect at it increments its domain's epoch counter; no step of the block but power-on and RESET_N lets the number decrease, and those return it to 0; a warm reset leaves the number, the grid and the Orbit starts. -/
def Obligations.OrbitNumberCountsByOne : Prop :=
  (∀ s : State, s.orbitsRun = true →
    Answers .orbitStart s fun t => t.orbit.begun = true ∧ t.orbNum = (if s.orbit.begun then s.orbNum + 1 else 0)) ∧
  (∀ (s : State) (d : Fin 8) (δ : Int) (x : Nat), s.orbitsRun = true → (∀ e < 9, (s.eng e).exec = []) → s.orbit.next ≤ s.orbTime →
    (s.dom d).step = some (δ, x) → x + 2000 ≤ s.tb → 0 ≤ ((s.dom d).time : Int) + δ → ((s.dom d).time : Int) + δ < (281474976710656 : Int) * secUnit →
      Answers .orbitStart s fun t => (t.dom d).epoch = ((s.dom d).epoch + 1) % 2 ^ 32 ∧ t.orbNum = (if s.orbit.begun then s.orbNum + 1 else 0)) ∧
  (∀ s t : State, (∀ c, s.pending.head? = some c → isFullReset c = false) → step s = .next t → s.orbit.begun = true →
    t.orbit.begun = true ∧ s.orbNum ≤ t.orbNum) ∧
  (∀ (straps : BitVec 11) (vtio33 : Bool) (s : State),
    Answers (.powerOn straps vtio33) s (fun t => t.orbNum = 0) ∧ ∀ ns, 100 ≤ ns → Answers (.resetN ns straps vtio33) s fun t => t.orbNum = 0) ∧
  (∀ (s : State) (k : Fin 3), Answers (.warmReset k) s fun t => t.orbNum = s.orbNum ∧ t.orbit = s.orbit)

/-- R140: with no step pending and no grid written, the Orbit starts at the instant foreseen, exactly, and the next start is P later on the same grid. -/
def Rules.OrbitStartsOnePeriodApart : Prop :=
  ∀ s : State, s.orbitsRun = true → (∀ d, (s.dom d).step = none) → s.orbit.gridWrite = none →
    Answers .orbitStart s fun t =>
      t.orbit.start = s.orbit.next ∧ t.orbit.next = s.orbit.next + (s.orbit.grid.period : Int) ∧ t.orbit.grid = s.orbit.grid ∧
        t.orbit.stretched = false

/-- R145: at the seal the list of every run that has ended is sealed; engines are left otherwise. Before Orbit 0 nothing is sealed. -/
def Rules.ListSeal : Prop :=
  ∀ s : State,
    (s.orbit.begun = true → Answers .listSeal s fun t =>
      ∀ e < 9, t.eng e = if (s.eng e).running then s.eng e else { s.eng e with sealed := true }) ∧
    (s.orbit.begun = false → Answers .listSeal s fun t => t = s)

/-- R366, R367: a committed transaction whose staging ended 2 µs ago is applied at the next Orbit start: it leaves the queue, `GLB_RCV.SEQ` takes its number and the journal says applied. One that the firmware still loads, or any in RECOVER, stays. -/
def Obligations.TransactionIsApplied : Prop :=
  ∀ (s : State) (x : Txn), RegsOk s → s.txns = [x] → s.orbitsRun = true →
    (x.loading = false → s.mode ≠ .recover → x.tb + 2000 ≤ s.tb → x.seq ≠ 0 →
      Answers .transactionApply s fun t => t.txns = [] ∧ t.rd R.GLB_RCV_SEQ = x.seq % 2 ^ 16 ∧ (x.seq, x.partner, 1) ∈ t.journal) ∧
    (x.loading = true ∨ s.mode = .recover → Answers .transactionApply s fun t => t = s)

/-- R184: when the firmware has loaded a compiled program, the first transaction that waited for one has ended its staging now. -/
def Rules.GateListLoadEndsStaging : Prop :=
  ∀ (s : State) (pre post : List Txn) (x : Txn), s.txns = pre ++ x :: post → (∀ y ∈ pre, y.loading = false) → x.loading = true →
    Answers .gateListLoad s fun t => t = { s with txns := pre ++ { x with loading := false, tb := s.tb } :: post }

/-- R140, R145, R184: Orbits start one period apart, lists are sealed, and a loaded gate list ends its staging. -/
def Obligations.OrbitStartsAndSeals : Prop := Rules.OrbitStartsOnePeriodApart ∧ Rules.ListSeal ∧ Rules.GateListLoadEndsStaging

/-! ## Resets, start-up, faults (chapter 2) -/

/-- The state that power-on and RESET_N leave: every part at its reset value, but for the straps and levels sampled, what is outside the device, the model's own queue, outputs and count of free values (log entry 1), and the log entry and flag of a change of mode to STRAP (R63). -/
def IsReset (s t : State) (src : Nat) (straps : BitVec 11) (vtio33 : Bool) : Prop :=
  t.mode = .strap ∧ t.role = .solo ∧ t.tb = 0 ∧ t.orbNum = 0 ∧ t.orbit = {} ∧ t.domains = [] ∧ t.engines = [] ∧ t.links = [] ∧ t.voqs = [] ∧
  t.egrQs = [] ∧ t.keys = [] ∧ t.mbs = [] ∧ t.txns = [] ∧ t.journal = [] ∧ t.twin = {} ∧ t.power = {} ∧ t.clk = {} ∧ t.pending = s.pending ∧
  t.sys.straps = straps ∧ t.sys.vtio33 = vtio33 ∧ t.sys.timebase = false ∧
  t.rd R.GLB_MODE_LAST_RESET = src ∧ t.rd R.GLB_STRAP_CFG = straps.toNat ∧
  (s.mode = .strap → t.rd R.EVL_HEAD_INDEX = 0) ∧
  (s.mode ≠ .strap → t.rd R.EVL_HEAD_INDEX = 1 ∧ (t.reg (evlAddr 0 0)).toNat % 65536 = 1 ∧ (t.reg (evlAddr 0 6)).toNat = s.mode.code ∧ t.bit R.GLB_ISRC_MODE = true) ∧
  (∀ a, a ∉ [A.GLB_MODE, A.GLB_STRAP, A.TW_CFG, A.PWR_BUDGET, A.SEC_STAT, A.GLB_ISRC, A.EVL_HEAD] → (a < 0x20000 ∨ 0x20020 ≤ a) → t.reg a = resetWord a)

/-- R44, Table 2-1: POWER_ON and a RESET_N pulse of at least 100 ns reset everything and enter STRAP; a shorter pulse has no effect. -/
def Obligations.ResetsEnterStrap : Prop :=
  ∀ (straps : BitVec 11) (vtio33 : Bool) (s : State),
    Answers (.powerOn straps vtio33) s (fun t => IsReset s t 0 straps vtio33) ∧
    (∀ ns, 100 ≤ ns → Answers (.resetN ns straps vtio33) s fun t => IsReset s t 1 straps vtio33) ∧
    (∀ ns, ns < 100 → Answers (.resetN ns straps vtio33) s fun t => t = s)

/-- The state after reset: STRAP, SOLO, no Orbit, TIME not running, no engine, every register at its reset word in canonical form, an empty queue (the queue, and the reset words that the spec does not state, are the model's choice, log entries 1 and 39). -/
def Obligations.ResetState : Prop :=
  State.reset.mode = .strap ∧ State.reset.role = .solo ∧ State.reset.tb = 0 ∧ State.reset.orbNum = 0 ∧ State.reset.orbit.begun = false ∧
  State.reset.pending = [] ∧ RegsOk State.reset ∧ (∀ a, State.reset.reg a = resetWord a) ∧ (∀ e, (State.reset.eng e).started = false ∧ (State.reset.eng e).running = false) ∧
  (∀ d, (State.reset.dom d).time = 0 ∧ (State.reset.dom d).rate = 0 ∧ (State.reset.dom d).epoch = 0 ∧ (State.reset.dom d).tstate = .free)

/-- A warm reset has happened: BOOT, its source in `LAST_RESET`, time and Orbits run on, every domain at its time and rate word, keys and queues gone, the endpoint's configuration at reset. -/
def IsWarm (s t : State) (src : Nat) : Prop :=
  t.mode = .boot ∧ t.role = .solo ∧ t.rd R.GLB_MODE_LAST_RESET = src ∧ t.tb = s.tb ∧ t.orbNum = s.orbNum ∧ t.orbit = s.orbit ∧
  (∀ d < 8, (t.dom d).time = (s.dom d).time ∧ (t.dom d).sf = (s.dom d).sf ∧ (t.dom d).rate = (s.dom d).rate ∧ (t.dom d).epoch = (s.dom d).epoch ∧
    (t.dom d).slewRem = 0 ∧ (t.dom d).step = none ∧ (t.dom d).tstate = .free) ∧
  t.engines = [] ∧ t.voqs = [] ∧ t.egrQs = [] ∧ t.keys = [] ∧ t.mbs = [] ∧ t.txns = [] ∧ t.sys.straps = s.sys.straps ∧ t.pcie.bme = false ∧ t.pcie.msixEn = false ∧ t.pcie.bars = [] ∧ t.pending = s.pending

/-- R44, R46, R47, R370, R378: what starts a warm reset, from every mode but STRAP, unless `SEC_STAT.OPEN` or heat refuses it; a wrong key counts in `BADKEY`; a mailbox RESET waits for its response. -/
def Obligations.WarmResets : Prop :=
  ∀ s : State,
    (s.mode ≠ .strap → s.warmRefused = false →
      (∀ v : Word, v.getLsbD 0 = true → v.toNat / 256 % 256 = 0x5A → Answers (.glbResetWrite v) s fun t => IsWarm s t 2) ∧
      (∀ k : Fin 3, (k.val = 1 → s.sys.resetAt.isSome) → Answers (.warmReset k) s fun t => IsWarm s t (2 + k.val)) ∧
      (s.bit R.GLB_FW_VALID = true → Answers (.i2cResetWord 0x5A) s fun t => IsWarm s t 4)) ∧
    (∀ v : Word, v.getLsbD 0 = true → v.toNat / 256 % 256 ≠ 0x5A → Answers (.glbResetWrite v) s fun t =>
      t.rd R.GLB_RCV_BADKEY = min 15 (s.rd R.GLB_RCV_BADKEY + 1) ∧ RegsFrame s t [A.GLB_RCV] ∧ OnlyRegs s t) ∧
    (∀ v : Word, v.getLsbD 0 = false → Answers (.glbResetWrite v) s fun t => t = s) ∧
    (∀ v : Word, v ≠ 0x5A → Answers (.i2cResetWord v) s fun t => t = s)

/-- R39, R44, R419: PERST_N low resets the endpoint and its configuration space alone and leaves every interrupt line; at its release link training starts at once, or after STRAP. -/
def Rules.EndpointReset : Prop :=
  ∀ s : State, RegsOk s →
    Answers .perstN s (fun t => t.pcie.perst = true ∧ t.pcie.training = false ∧ t.pcie.bme = false ∧ t.pcie.msixEn = false ∧ t.pcie.d3 = false ∧
      t.pcie.lines = s.pcie.lines ∧ (∀ a, a < 0x8003000 → t.reg a = s.reg a) ∧ t = { s with regs := t.regs, pcie := t.pcie }) ∧
    Answers .perstNRelease s (fun t => t.pcie.perst = false ∧ (t.pcie.training = true ↔ s.mode ≠ .strap) ∧ t.pcie.bme = s.pcie.bme ∧
      t = { s with pcie := t.pcie })

/-- R25, R48: STRAP ends for BOOT when REFCLK has been within limits for 10 ms with valid straps and the monitor released; an excursion starts the count anew; invalid straps hold STRAP. -/
def Rules.StrapEndsWithRefclk : Prop :=
  ∀ s : State, s.mode = .strap →
    Answers .refclkExcursion s (fun t => t.sys.refQual = false ∧ t = { s with sys := t.sys }) ∧
    (s.sys.tripped = false → strapsBad s.sys.straps = false →
      Answers .refclkQualified s fun t => t.mode = .boot ∧ t.sys.refQual = true ∧ t.pcie.training = !s.pcie.perst ∧ t.sys.straps = s.sys.straps) ∧
    (s.sys.tripped = false → strapsBad s.sys.straps = true →
      Answers .refclkQualified s fun t => t.mode = .strap ∧ t.sys.refQual = true) ∧
    (∀ (straps : BitVec 11) (vtio33 : Bool) (ns : Nat), 100 ≤ ns → Answers (.resetN ns straps vtio33) s fun t =>
      t.mode = .strap ∧ t.bit R.GLB_STRAP_ERR = strapsBad straps ∧ t.sys.straps = straps)

/-- R52: BOOT ends in DOCK where its checks pass, its tests find no failure and CFG5 is 0: the firmware is valid, `DONE` is set, PLLs are locked, TIME runs and Orbit 0 lies ahead; a failed ROM check or RAM test ends in HALT with cause 3 or 4. -/
def Rules.BootEnds : Prop :=
  ∀ (r : BootResult) (s : State), s.mode = .boot → s.sys.tripped = false →
    (r.romOk = true → r.ramOk = true → r.fails = [] → bootTdcFails r.tdc = [] → s.sys.straps.getLsbD 5 = false →
      Answers (.bootComplete r) s fun t => t.mode = .dock ∧ t.bit R.GLB_FW_VALID = true ∧ t.bit R.GLB_BOOT_DONE = true ∧ t.rd R.GLB_BOOT_RESULT = 0 ∧
        t.sys.timebase = true ∧ t.owner = some 0 ∧ (s.orbit.begun = false → 0 < s.orbit.grid.period → t.orbTime ≤ t.orbit.next)) ∧
    (r.romOk = false → Answers (.bootComplete r) s fun t => t.mode = .halt ∧ t.rd R.GLB_MODE_HALT_CAUSE = 3) ∧
    (r.romOk = true → r.ramOk = false → Answers (.bootComplete r) s fun t => t.mode = .halt ∧ t.rd R.GLB_MODE_HALT_CAUSE = 4)

/-- R25, R48, R52: how STRAP and BOOT end. -/
def Obligations.StartUp : Prop := Rules.StrapEndsWithRefclk ∧ Rules.BootEnds

/-- R45, R68, R69: a brown-out trip holds the device and leads DOCK and the forwarding modes to RECOVER (`GLB_RCV.LAST` 3); STRAP counts its 10 ms anew; the release lets it go on. -/
def Rules.BrownOut : Prop :=
  ∀ s : State,
    (s.sys.tripped = false → s.bit R.SEC_STAT_OPEN = false → (s.mode = .dock ∨ s.mode.fwd = true) → ∀ n,
      Answers (.brownOutTrip n) s fun t => t.mode = .recover ∧ t.sys.tripped = true ∧ t.rd R.GLB_RCV_LAST = 3 ∧ (t.sys.fromDock = true ↔ s.mode = .dock)) ∧
    (s.sys.tripped = false → s.bit R.SEC_STAT_OPEN = false → s.mode = .strap → ∀ n,
      Answers (.brownOutTrip n) s fun t => t = { s with sys := { s.sys with tripped := true, refQual := false } }) ∧
    (s.sys.tripped = true → Answers .brownOutRelease s fun t => t.sys.tripped = false ∧ t.mode = s.mode ∧ OnlyBus { s with sys := t.sys } t)

/-- R68, R69: the watchdog and an uncorrectable ECC error lead DOCK and the forwarding modes to RECOVER with their cause; a second trigger in RECOVER leads to HALT with cause 6; a recovery of more than 1 s, or one whose checks fail, to HALT with cause 5; a corrected error changes nothing. -/
def Rules.FaultsRecover : Prop :=
  ∀ s : State, s.bit R.SEC_STAT_OPEN = false →
    ((s.mode = .dock ∨ s.mode.fwd = true) →
      Answers .watchdogExpiry s (fun t => t.mode = .recover ∧ t.rd R.GLB_RCV_LAST = 1) ∧
      Answers (.eccError .table) s (fun t => t.mode = .recover ∧ t.rd R.GLB_RCV_LAST = 2) ∧
      (∀ e : Fin 9, (s.eng e).running = true → Answers (.eccError (.engine e)) s fun t =>
        t.mode = .recover ∧ t.rd (R.ENG_STAT_FCODE e) = 7 ∧ (t.eng e).running = false ∧ (t.eng e).held = true)) ∧
    (s.mode = .recover →
      Answers .watchdogExpiry s (fun t => t.mode = .halt ∧ t.rd R.GLB_MODE_HALT_CAUSE = 6) ∧
      (s.sys.tripped = false →
        Answers .recoverTimeout s (fun t => t.mode = .halt ∧ t.rd R.GLB_MODE_HALT_CAUSE = 5) ∧
        Answers (.recoveryComplete false) s (fun t => t.mode = .halt ∧ t.rd R.GLB_MODE_HALT_CAUSE = 5))) ∧
    Answers (.eccError .corrected) s (fun t => t = s)

/-- R69, Table 2-9: a recovery whose checks pass ends in DOCK where RECOVER was entered from there, else in the mode of `TSTATE`, and counts in `GLB_RCV.COUNT`. -/
def Rules.RecoveryCompletes : Prop :=
  ∀ s : State, s.mode = .recover → s.sys.tripped = false → s.txns = [] →
    Answers (.recoveryComplete true) s fun t =>
      t.mode = (if s.sys.fromDock then .dock else s.tstate.mode) ∧ t.rd R.GLB_RCV_COUNT = min 255 (s.rd R.GLB_RCV_COUNT + 1)

/-- R45, R68, R69: brown-out, watchdog and ECC errors, and how RECOVER ends. -/
def Obligations.Recovery : Prop := Rules.BrownOut ∧ Rules.FaultsRecover ∧ Rules.RecoveryCompletes

/-- R42, R46, R355: 100 °C raises the alarm, 112 °C enters HALT with cause 1, and nine readings below 95 °C clear what they left. -/
def Rules.HeatRules : Prop :=
  ∀ s : State,
    (∀ (k : Fin 9) (x : Int), 400 ≤ x → x < 448 → Answers (.thermalAlarm k x) s fun t => t.sys.alarm = true ∧ t.mode = s.mode ∧
      (s.sys.alarm = false → t.bit R.GLB_ISRC_THERM = true)) ∧
    (∀ ts : List Int, ts.length = 9 → (∀ x ∈ ts, x < 380) → Answers (.thermalAlarmClear ts) s fun t => t.sys.alarm = false ∧ t.sys.hot = false ∧ t.mode = s.mode) ∧
    (∀ (k : Fin 9) (x : Int), 448 ≤ x → ∀ c ∈ [Instr.thermalTrip k x, .thermalAlarm k x], Answers c s fun t => t.mode = .halt ∧ t.sys.alarm = true ∧ t.sys.hot = true ∧
      (s.mode ≠ .halt → t.rd R.GLB_MODE_HALT_CAUSE = 1))

/-- R35, R51, R339: REFCLK lost after STRAP, and its return, in `CLK_STAT` and in what is remembered; LOCKED domains pass to holdover; REFWARM counts with CFG3 = 1 only; a PLL that unlocks or relocks shows in its bits. -/
def Rules.ClockLoss : Prop :=
  ∀ s : State,
    (s.mode ≠ .strap → s.sys.refclkLost = false → Answers .refclkLost s fun t =>
      t.sys.refclkLost = true ∧ (t.reg A.CLK_STAT).getLsbD 0 = false ∧ (t.reg A.CLK_STAT).getLsbD 16 = true ∧
      (∀ d < 8, (s.dom d).tstate = .locked → (t.dom d).tstate = .holdover) ∧ (∀ d < 8, (s.dom d).tstate = .free → (t.dom d).tstate = .free)) ∧
    (s.sys.refclkLost = true → Answers .refclkReturn s fun t => t.sys.refclkLost = false ∧ (t.reg A.CLK_STAT).getLsbD 0 = true) ∧
    (s.ocxo = true → ∀ b, Answers (.refwarmChange b) s fun t => t.sys.warm = b) ∧
    (s.ocxo = false → ∀ b, Answers (.refwarmChange b) s fun t => t = s) ∧
    (∀ k : Fin 12, 0 < k.val → k.val < 11 →
      Answers (.pllUnlock k) s (fun t => (t.reg A.CLK_STAT).getLsbD k = false ∧ (t.reg A.CLK_STAT).getLsbD (16 + k) = true ∧ RegsFrame s t [A.CLK_STAT] ∧ OnlyRegs s t) ∧
      Answers (.pllRelock k) s (fun t => (t.reg A.CLK_STAT).getLsbD k = true ∧ RegsFrame s t [A.CLK_STAT] ∧ OnlyRegs s t))

/-- R35, R42, R46, R51, R339, R355: heat, and the loss and return of clocks. -/
def Obligations.HeatAndClockLoss : Prop := Rules.HeatRules ∧ Rules.ClockLoss

/-! ## Clocks and power (chapter 12) -/

/-- Octet o has been quiet and may be clock-gated: it is in P0, its tolerance is at least 2 µs, it has received nothing for 1 µs, no start is due on its ports within 2 µs, and no frame waits in it. -/
def QuietOctet (s : State) (o : Nat) : Prop :=
  s.octPower o = 0 ∧ 2 ≤ s.rd (R.PWR_LTR_OCT_LTR o) ∧ storeGet (fun _ => 0) s.power.rxTb o + 1000 ≤ s.tb ∧ s.startWithin (fun p => p / 8 == o) 2000 true = false ∧
    (∀ k, (s.egrQ k).q = []) ∧ ∀ k, (s.voq k).q = []

/-- R348, R349: a quiet octet enters P1 in the forwarding modes; a lower tolerance, a frame that has come within the last 1 µs, a frame in its queues or a start due within 2 µs begins its exit, and nothing else does; a frame that arrives in P1 waits in the receive store and begins it too; the exit completes after its latency and returns the octet to P0. Other octets keep their states. -/
def Rules.OctetsEnterAndLeaveP1 : Prop :=
  ∀ (o : Fin 8) (s : State),
    (s.mode.fwd = true → QuietOctet s o → Answers (.octetP1Enter o) s fun t =>
      t.octPower o = 1 ∧ (∀ k : Fin 8, k ≠ o → t.octPower k = s.octPower k) ∧ RegsFrame s t [A.PWR_STAT] ∧ OnlyRegs s t) ∧
    (s.octPower o = 1 → o.val ∉ s.power.exiting →
      (s.rd (R.PWR_LTR_OCT_LTR o) < 2 ∨ s.tb < storeGet (fun _ => 0) s.power.rxTb o + 1000 ∨ (∃ k < 64, (s.egrQ (64 * o + k)).q ≠ []) ∨ s.startWithin (fun p => p / 8 == o) 2000 true = true) →
      Answers (.octetP1Exit o) s fun t => t = { s with power := { s.power with exiting := o.val :: s.power.exiting, exitTb := storeSet (fun _ => 0) s.power.exitTb o s.tb } }) ∧
    (s.octPower o ≠ 1 ∨ s.p1Wakes o = false → Answers (.octetP1Exit o) s fun t => t = s) ∧
    (∀ (p : Fin 64) how r ovf, p.val / 8 = o → s.octPower o = 1 → o.val ∉ s.power.exiting → s.mode.fwd = true → s.portUp p = true → s.actDue = none → Answers (.frameReceive p how r ovf) s fun t =>
      t = { s with power := { s.power with exiting := o.val :: s.power.exiting, exitTb := storeSet (fun _ => 0) s.power.exitTb o s.tb, rxTb := storeSet (fun _ => 0) s.power.rxTb o s.tb
                                           rxHeld := s.power.rxHeld ++ [{ port := p, how := how, frame := r, ovf := ovf, tb := s.tb }] } }) ∧
    (o.val ∈ s.power.exiting → s.exitEnd o ≤ s.tb → (∀ x ∈ s.power.rxHeld, x.port.val / 8 ≠ o) → Answers (.powerExitComplete (some o)) s fun t =>
      t.octPower o = 0 ∧ o.val ∉ t.power.exiting ∧ t.power.rxHeld = s.power.rxHeld ∧ (∀ k : Fin 8, k ≠ o → t.octPower k = s.octPower k) ∧ RegsFrame s t [A.PWR_STAT] ∧
        t = { s with regs := t.regs, power := t.power, engines := t.engines }) ∧
    (o.val ∈ s.power.exiting → s.tb < s.exitEnd o → s.sys.timebase = true → (∀ e, (s.eng e).exec = []) → (∀ x ∈ s.power.rxHeld, x.port.val / 8 ≠ o) →
      Answers (.powerExitComplete (some o)) s fun t => t.octPower o = 0 ∧ t.tb = s.exitEnd o) ∧
    (o.val ∉ s.power.exiting → Answers (.powerExitComplete (some o)) s fun t => t = s)

/-- R352, Table 12-6: a wake event sets its bit of `PWR_WAKE`, ends P3 and returns the mode to that of `TSTATE`; TIMED is one only where a start is due within 400 µs, and outside DOZE there is none. The completed exit lets a waiting mode follow. -/
def Rules.WakeFromP3 : Prop :=
  ∀ (k : Fin 7) (s : State),
    (s.mode = .doze → (k = 6 → s.timedWakes = true) → Answers (.p3Wake k) s fun t => t.mode = s.tstate.mode ∧ (t.reg A.PWR_WAKE).getLsbD k = true ∧ t.power.devExit = true ∧ t.tb = s.tb ∧ t.pending = s.pending) ∧
    (s.mode ≠ .doze → Answers (.p3Wake k) s fun t => t = s) ∧
    (s.timedWakes = false → Answers (.p3Wake 6) s fun t => t = s) ∧
    (s.power.devExit = true → s.exitEnd 8 ≤ s.tb → s.power.modeNext = none → s.mbs = [] → Answers (.powerExitComplete none) s fun t =>
      t.power.devExit = false ∧ t.mode = s.mode ∧ RegsFrame s t [A.PWR_STAT]) ∧
    (s.power.devExit = false → Answers (.powerExitComplete none) s fun t => t = s)

/-- R353, R354: a burst that fits the cap is granted, training before calibration, the oldest first; a lane whose training fails gives up its grant and the other lanes keep theirs. -/
def Rules.ArbiterGrants : Prop :=
  ∀ s : State,
    (∀ l ls, s.power.trainWait = l :: ls → s.fits 60 = true → Answers .arbiterGrant s fun t =>
      t = { s with power := { s.power with trainWait := ls, trainGrant := l :: s.power.trainGrant } }) ∧
    (∀ g gs, s.power.trainWait = [] → s.power.calWait = g :: gs → s.fits 15 = true → Answers .arbiterGrant s fun t =>
      t = { s with power := { s.power with calWait := gs, calGrant := g :: s.power.calGrant } }) ∧
    (s.sys.alarm = true → Answers .arbiterGrant s fun t => t = s) ∧
    (∀ ts : List Int, ts.length = 9 → (∀ x ∈ ts, x < 380) → Answers (.thermalAlarmClear ts) s fun t => t.sys.alarm = false ∧ t.power = { s.power with calWait := t.power.calWait } ∧ ∀ g ∈ s.power.calWait, g ∈ t.power.calWait) ∧
    (∀ l : Fin 64, l.val ∈ s.power.trainGrant → Answers (.laneTrainingFail l) s fun t =>
      l.val ∉ t.power.trainGrant ∧ (∀ k, k ≠ l.val → (k ∈ t.power.trainGrant ↔ k ∈ s.power.trainGrant)) ∧
        t = { s with power := { s.power with trainWait := t.power.trainWait, trainGrant := t.power.trainGrant } })

/-- R348, R349, R352 to R354: octets and the device leave and enter their power states, and the arbiter grants bursts. -/
def Obligations.PowerStates : Prop := Rules.OctetsEnterAndLeaveP1 ∧ Rules.WakeFromP3 ∧ Rules.ArbiterGrants

/-- R341: a change of the operating point is taken in DOCK within the cap, raising the voltage first or stopping CORE; otherwise it is refused. `LVF_ACK` confirms, and the restart ends the change. -/
def Rules.OperatingPointChanges : Prop :=
  ∀ (v : Word) (s : State),
    (s.mode = .dock → s.clk.change = none → s.bit R.LVF_CTRL_EN = false → v.getLsbD 0 = true → lvfTotal (v.toNat / 2 % 4) ≤ 10 * s.capW →
      Answers (.lvfCtrlWrite v) s fun t =>
        t.bit R.LVF_CTRL_EN = true ∧ t.rd R.LVF_CTRL_POINT = v.toNat / 2 % 4 ∧ t.clk.change.isSome = true ∧
        (s.rd R.LVF_STAT_VREQ < lvfMv (v.toNat / 2 % 4) → t.rd R.LVF_STAT_VREQ = lvfMv (v.toNat / 2 % 4) ∧ t.bit R.LVF_STAT_WAIT = true ∧ t.clk.stopped = s.clk.stopped) ∧
        (lvfMv (v.toNat / 2 % 4) ≤ s.rd R.LVF_STAT_VREQ → t.clk.stopped = true ∧ t.rd R.LVF_STAT_VREQ = s.rd R.LVF_STAT_VREQ) ∧
        RegsFrame s t [A.LVF_CTRL, A.LVF_STAT] ∧ t = { s with regs := t.regs, clk := t.clk }) ∧
    (s.mode ≠ .dock → Answers (.lvfCtrlWrite v) s fun t =>
      t.bit R.LVF_STAT_REFUSED = true ∧ RegsFrame s t [A.LVF_STAT] ∧ OnlyRegs s t) ∧
    (v.getLsbD 0 = true → s.bit R.LVF_STAT_WAIT = true → Answers (.lvfAck v) s fun t =>
      t.bit R.LVF_STAT_WAIT = false ∧ RegsFrame s t [A.LVF_STAT] ∧ t = { s with regs := t.regs, clk := t.clk } ∧
        (∀ en pt, s.clk.change = some (en, pt, true) → t.clk.stopped = true)) ∧
    (∀ pt < 4, ∀ up, s.clk.change = some (true, pt, up) → s.clk.stopped = true → Answers .coreClockRestart s fun t =>
      t.rd R.LVF_STAT_CUR = pt ∧ t.bit R.LVF_STAT_ACTIVE = true ∧ t.clk.core = lvfMhz pt ∧ t.clk.stopped = false ∧ t.clk.change = none ∧ RegsFrame s t [A.LVF_STAT])

/-- R346: a write of `CLKOBS_CFG` is taken, but for its read-only bit, and after STRAP and BOOT the pin follows the new source, or none where it would exceed 250 MHz. -/
def Rules.ClockObservation : Prop :=
  ∀ (v : Word) (s : State), Answers (.clkobsCfgWrite v) s fun t =>
    t.reg A.CLKOBS_CFG = v &&& 0xFFFFFBFF ∧ RegsFrame s t [A.CLKOBS_CFG] ∧
    t = { s with regs := t.regs, out := t.out } ∧
    (s.mode = .strap ∨ s.mode = .boot → t.out = s.out) ∧ (s.mode ≠ .strap → s.mode ≠ .boot → t.out = .clkobs (if t.obsBad then 0 else t.rd R.CLKOBS_CFG_SRC) (t.rd R.CLKOBS_CFG_SEL) (t.rd R.CLKOBS_CFG_DIV) :: s.out)

/-- R341, R346: the operating point of CORE and the clock observation pin. -/
def Obligations.ClockCommands : Prop := Rules.OperatingPointChanges ∧ Rules.ClockObservation

/-! ## The register bus, interrupts and counters (chapters 14 and 15) -/

/-- The access by requester `q` to the aligned offset `a` is served: inside its space, with the function alive, no gated clock and no BOOT in the way. -/
def Served (s : State) (q a : Nat) : Prop := a % 4 = 0 ∧ a < busSize q ∧ s.busDead q = false ∧ s.busBad q a = none

/-- The word at BAR0 offset `a` is a register of a port that is present. -/
def IsReg (s : State) (a : Nat) : Prop := (findDesc a).isSome = true ∧ s.deadWord a = false

/-- Reading by BAR0 returns the word `w`, and the state that it leaves has `P`. -/
def Reads (i : Instr) (s : State) (a : Nat) (w : Word) (P : State → Prop) : Prop :=
  Answers i s fun t => t.out.head? = some (.data 0 a w) ∧ P t

/-- R412, R414, R416, R68: a served read returns the word and changes nothing where reading has no effect; a read beyond the BAR faults; one that BOOT, a gated clock or an ECC error prevents returns all ones and is logged, and the ECC error leads on to RECOVER. Configuration space holds the vendor 0x1FD4, the device 0x6480 and the revision 0xB1 (R1). -/
def Rules.BusReads : Prop :=
  ∀ (q : Fin 8) (a : Nat) (s : State),
    (q.val = 0 ∨ q.val = 3 → Served s q a → IsReg s a → Ctr.at a = none → Ctr.atHi a = none → latchLen a = none → latchTail a = false →
      (∀ s1 : State, s1.readEffect a = s1) → s.bus.latch = [] → Answers (.mbusRead q a false) s fun t => t = { s with out := .data q a (s.live a) :: s.out }) ∧
    (busSize q ≤ a → ∀ ecc, exec (.mbusRead q a ecc) s = .fault (.outsideBar (busBar q) a)) ∧
    (a % 4 = 0 → a < busSize q → s.busDead q = false → ∀ c, s.busBad q a = some c → Answers (.mbusRead q a false) s fun t =>
      t.out.head? = some (.data q a 0xFFFFFFFF) ∧ t.rd R.MBE_STAT_COUNT = min 65535 (s.rd R.MBE_STAT_COUNT + 1) ∧ t.bit R.GLB_ISRC_MBERR = true ∧ OnlyBus s t) ∧
    (q.val ≠ 7 → Served s q a → s.bit R.SEC_STAT_OPEN = false → s.mode = .dock → Answers (.mbusRead q a true) s fun t => t.mode = .recover ∧ t.rd R.GLB_RCV_LAST = 2) ∧
    (s.busDead 7 = false → ∀ ecc, Answers (.mbusRead 7 0 ecc) s (fun t => t = { s with out := .data 7 0 0x64801FD4 :: s.out }) ∧
      Answers (.mbusRead 7 8 ecc) s (fun t => t = { s with out := .data 7 8 0x028000B1 :: s.out }))

/-- R13, R135, R412: a full-word write of a register whose write does no more replaces its RW bits and clears the W1C bits written with 1; a raw write to a stream table also sets `ST_STAT.RAW`; with byte enables clear nothing is written and the error is logged. -/
def Obligations.PlainWrites : Prop :=
  ∀ (a : Nat) (v : Word) (s : State) (d : RegDesc), Served s 0 a → IsReg s a → findDesc a = some d →
    let w := ((s.reg a &&& ~~~(BitVec.ofNat 32 d.rw)) ||| (v &&& BitVec.ofNat 32 d.rw)) &&& ~~~(BitVec.ofNat 32 d.w1c &&& v)
    (s.writeAt a 0xFFFFFFFF v = s.putReg a 0xFFFFFFFF v → rawTable a = false → Answers (.registerWrite 0 a 15 v) s fun t =>
      t.reg a = w ∧ RegsFrame s t [a] ∧ t = { s with regs := t.regs, bus := t.bus } ∧ t.bus.latch = s.bus.latch ∧ t.bus.heldHi = s.bus.heldHi) ∧
    (0x2200000 ≤ a → a < 0x2440000 → rawTable a = true → Answers (.rawTableWrite a v) s fun t =>
      t.reg a = w ∧ t.bit R.ST_STAT_RAW = true ∧ RegsFrame s t [a, A.ST_STAT] ∧ t = { s with regs := t.regs, bus := t.bus, buckets := t.buckets }) ∧
    (∀ be : BitVec 4, be ≠ 15 → Answers (.registerWrite 0 a be v) s fun t =>
      t.rd R.MBE_STAT_COUNT = min 65535 (s.rd R.MBE_STAT_COUNT + 1) ∧ OnlyBus s t)

/-- R71, R163, R334: reading clears `BADKEY`, `ENG_MAXCYC` and `PRV_LOGPTR.LOST`, and no other word. -/
def Rules.ReadsThatClear : Prop :=
  ∀ (e : Fin 9) (s : State), s.bus.latch = [] →
    (Served s 0 A.GLB_RCV → Reads .glbRcvRead s A.GLB_RCV (s.live A.GLB_RCV) fun t =>
      t.rd R.GLB_RCV_BADKEY = 0 ∧ t.rd R.GLB_RCV_COUNT = s.rd R.GLB_RCV_COUNT ∧ RegsFrame s t [A.GLB_RCV] ∧ OnlyBus s t) ∧
    (Served s 0 (A.ENG_MAXCYC e) → Reads (.engMaxcycRead e) s (A.ENG_MAXCYC e) (s.live (A.ENG_MAXCYC e)) fun t =>
      t.rd (R.ENG_MAXCYC_CYC e) = 0 ∧ RegsFrame s t [A.ENG_MAXCYC e] ∧ OnlyBus s t) ∧
    (Served s 0 A.PRV_LOGPTR → Reads .prvLogptrRead s A.PRV_LOGPTR (s.live A.PRV_LOGPTR) fun t =>
      t.rd R.PRV_LOGPTR_LOST = 0 ∧ t.rd R.PRV_LOGPTR_NEXT = s.rd R.PRV_LOGPTR_NEXT ∧ RegsFrame s t [A.PRV_LOGPTR] ∧ OnlyBus s t)

/-- R212, R246, R273: reading the last word of a queue's head removes the head; reading `IVL_RES_LO` returns the result and clears `NEW`; clearing `IVL_CFG.EN` drops unpaired edges. -/
def Rules.ReadsThatPop : Prop :=
  ∀ (s : State), s.bus.latch = [] →
    (∀ p : Fin 8, Served s 0 (A.TIN_HEAD3 p) → Reads (.tinHeadPop p) s (A.TIN_HEAD3 p) (s.latched (A.TIN_HEAD3 p)) fun t =>
      (t.tin p).queue = (s.tin p).queue.tail ∧ (t.tin p).pin = (s.tin p).pin ∧ ∀ k, k ≠ p.val → t.tin k = s.tin k) ∧
    (∀ p : Fin 64, Served s 0 (A.TSQ4 p) → s.absent p = false → Reads (.tsqHeadPop p) s (A.TSQ4 p) (s.latched (A.TSQ4 p)) fun t =>
      (t.egr p).tsq = (s.egr p).tsq.tail ∧ (t.egr p).tx = (s.egr p).tx ∧ ∀ k, k ≠ p.val → t.egr k = s.egr k) ∧
    (∀ u : Fin 4, Served s 0 (A.IVL_RES_LO u) → Reads (.ivlResRead u) s (A.IVL_RES_LO u) (s.reg (A.IVL_RES_LO u)) fun t =>
      t.bit (R.IVL_STAT_NEW u) = false ∧ t.reg (A.IVL_RES_HI u) = (s.ivl u).hi ∧ RegsFrame s t [A.IVL_RES_HI u, A.IVL_STAT u] ∧ OnlyBus s t) ∧
    (∀ (u : Fin 4) (v : Word), Served s 0 (A.IVL_CFG u) → v.getLsbD (R.IVL_CFG_EN u).lo = false →
      Answers (.ivlCfgWrite u v) s fun t => t.bit (R.IVL_CFG_EN u) = false ∧ (t.ivl u).start = none ∧ (t.ivl u).stop = none ∧ (t.ivl u).edges = [] ∧
        ((s.ivl u).edges = [] → RegsFrame s t [A.IVL_CFG u]))

/-- R71, R163, R212, R246, R273, R334: reads that clear a field or remove the head of a queue. -/
def Obligations.ReadsWithEffects : Prop := Rules.ReadsThatClear ∧ Rules.ReadsThatPop

/-- R214, R394, R395: the first word of a time latches its further words; the lowest word of a wide counter latches its higher word and sticky bit for its reader, and that of any other counter ends what was latched; a written higher word is held until the lowest word sets the counter. -/
def Obligations.LatchedReads : Prop :=
  ∀ (a : Nat) (s : State), Served s 0 a → IsReg s a →
    (∀ n, latchLen a = some n → Ctr.at a = none → Ctr.atHi a = none → (∀ s1 : State, s1.readEffect a = s1) → Reads (.latchingRead a) s a (s.groupWord a) fun t =>
      (∀ i, 0 < i → i < n → storeGet (fun _ => none) t.bus.words (a + 4 * i) = some (s.groupWord (a + 4 * i))) ∧ t.regs = s.regs) ∧
    (∀ c, Ctr.at a = some c → Reads (.counterLowRead 0 a) s a (s.reg c.lo.addr) fun t =>
      t.regs = s.regs ∧ (c.hiBits ≠ 0 → t.ctrLatch 0 = some { addr := c.lo.addr, hi := s.reg (c.lo.addr + 4), sticky := s.bit c.sticky }) ∧ (c.hiBits = 0 → t.ctrLatch 0 = none) ∧
        (∀ r, r ≠ 0 → t.ctrLatch r = s.ctrLatch r)) ∧
    (∀ c (v : Word), Ctr.at a = some c → rawTable a = false → Answers (.counterLowWrite a v) s fun t =>
      t.ctr c = v.toNat + 4294967296 * ((storeGet (fun _ => 0) s.bus.heldHi c.lo.addr).toNat % 2 ^ c.hiBits) ∧
        storeGet (fun _ => 0) t.bus.heldHi c.lo.addr = 0 ∧ t.bit c.sticky = s.bit c.sticky) ∧
    (∀ c (v : Word), Ctr.atHi a = some c → rawTable a = false → Answers (.counterHighWrite a v) s fun t =>
      storeGet (fun _ => 0) t.bus.heldHi c.lo.addr = v ∧ t.regs = s.regs)

/-- R344, R416: a gate forced during a transaction logs an error and completes a read with all ones; writing `MBE_CLR` empties the log. -/
def Rules.BusErrors : Prop :=
  ∀ s : State,
    (∀ (q : Fin 6) (a : Nat) (write : Bool), Answers (.clockGateForce q a write) s fun t =>
      t.rd R.MBE_STAT_COUNT = min 65535 (s.rd R.MBE_STAT_COUNT + 1) ∧ t.bit R.GLB_ISRC_MBERR = true ∧ OnlyBus s t ∧
      (write = false → t.out.head? = some (.data q a 0xFFFFFFFF))) ∧
    (∀ v : Word, Served s 0 A.MBE_CLR → v.getLsbD 0 = true → Answers (.mbeClrWrite v) s fun t =>
      t.reg A.MBE_STAT = 0 ∧ (∀ k < 16, t.reg (A.MBE_ENT0 k) = 0 ∧ t.reg (A.MBE_ENT1 k) = 0) ∧ t = { s with regs := t.regs, bus := t.bus })

/-- R344, R412, R414, R416: plain reads, and accesses that fail. -/
def Obligations.BusReadsAndErrors : Prop := Rules.BusReads ∧ Rules.BusErrors

/-- R408, R418, R419: `GLB_IREARM` resends the message of a vector whose line is 1; unmasking sends a pending message; the function's power state and enables follow their commands. -/
def Rules.InterruptMessages : Prop :=
  ∀ s : State,
    (∀ k : Fin 32, Served s 0 A.GLB_IREARM_LO → s.line k = true → s.msixOn = true → s.msixHeld k = false →
      Answers (.glbIrearmWrite false (BitVec.twoPow 32 k)) s fun t => t.out = .msix k :: s.out ∧ t.bit (pbaFld k) = false) ∧
    (s.pcie.perst = false → s.pcie.training = true →
      (∀ k : Fin 64, s.pcie.d3 = false → s.pcie.msixEn = true → s.pcie.bme = true → s.pcie.fmask = false → (∀ j < 64, s.bit (pbaFld j) = true ↔ j = k.val) →
        Answers (.msixMaskChange (.vector k false)) s fun t => t.out = .msix k :: s.out ∧ t.bit (pbaFld k) = false ∧ t.bit (maskFld k) = false) ∧
      (∀ b, Answers (.msixMaskChange (.function b)) s fun t => t.pcie = { s.pcie with fmask := b } ∧ OnlyBus s t) ∧
      (∀ b, Answers (.msixMaskChange (.busMaster b)) s fun t => t.pcie = { s.pcie with bme := b } ∧ OnlyBus s t) ∧
      (∀ b, Answers (.msixMaskChange (.enable b)) s fun t => t.pcie = { s.pcie with msixEn := b } ∧ OnlyBus s t) ∧
      (∀ b, Answers (.pciPowerStateChange b) s fun t => t = { s with pcie := { s.pcie with d3 := b } }))

/-- R39: IDCODE, BYPASS and boundary scan answer in every mode; a debug instruction does nothing before OPEN, and there, its effect not being given, it is refused by name. -/
def Rules.TapInstructions : Prop :=
  ∀ s : State,
    Answers (.tapInstruction .idcode) s (fun t => t = { s with out := .jtag 0x06480A3F :: s.out }) ∧
    Answers (.tapInstruction .bypass) s (fun t => t = { s with out := .jtag 0 :: s.out }) ∧
    Answers (.tapInstruction .boundary) s (fun t => ∃ w, t = { s with out := .jtag w :: s.out, freeCount := s.freeCount + 1 }) ∧
    (∀ ir, s.mode ≠ .opened → Answers (.tapInstruction (.other ir)) s fun t => t = s) ∧
    (∀ ir, s.mode = .opened → s.bit R.SEC_STAT_ERASED = true → exec (.tapInstruction (.other ir)) s = .refused (.debugTap ir))

/-- R39, R408, R418, R419: the endpoint, its interrupt messages and the test access port. -/
def Obligations.EndpointAndTap : Prop := Rules.EndpointReset ∧ Rules.InterruptMessages ∧ Rules.TapInstructions

/-- R398, R403: the oldest latched dump is written into the next slot of a ring with room; a full ring loses it and counts it. Enabling sampling seeds each engine's register with the seed, 0 acting as 1, and its own number. -/
def Obligations.DumpsAndSampling : Prop :=
  ∀ s : State,
    (∀ g ws rest, s.hub.dumps = (g, ws) :: rest →
      (s.rd R.HUB_WR_INDEX + 4294967296 - s.rd R.HUB_RD_INDEX) % 4294967296 < s.hubRd R.HUB_SIZE_SLOTS →
      s.pcie.bme = true → s.pcie.perst = false → s.pcie.d3 = false → Answers (.hubDumpWrite true) s fun t =>
        t.hub.dumps = rest ∧ t.out = .dump (s.hubSlot (s.rd R.HUB_WR_INDEX % s.hubRd R.HUB_SIZE_SLOTS)) ws :: s.out ∧
        t.rd R.HUB_WR_INDEX = (s.rd R.HUB_WR_INDEX + 1) % 4294967296 ∧ RegsFrame s t [A.HUB_WR]) ∧
    (∀ ok g ws rest, s.hub.dumps = (g, ws) :: rest →
      s.hubRd R.HUB_SIZE_SLOTS ≤ (s.rd R.HUB_WR_INDEX + 4294967296 - s.rd R.HUB_RD_INDEX) % 4294967296 → Answers (.hubDumpWrite ok) s fun t =>
        t.hub.dumps = rest ∧ t.rd R.HUB_WR_INDEX = s.rd R.HUB_WR_INDEX ∧ (s.ctr (.hub 0) < 2147483647 → t.ctr (.hub 0) = s.ctr (.hub 0) + 1)) ∧
    (∀ v : Word, s.bit R.SMP_CFG_EN = false → Answers (.smpEnable v) s fun t =>
      t.bit R.SMP_CFG_EN = true ∧ RegsFrame s t [A.SMP_CFG] ∧
        ∀ e < 9, (t.eng e).lfsr = .ofNat ((if s.rd R.SMP_SEED_SEED = 0 then 1 else s.rd R.SMP_SEED_SEED) ^^^ e))

/-! ## The management mailbox (chapter 13) -/

/-- Partner p may send a message: the mailbox is served and p has none under way and none relayed. -/
def FreeBox (s : State) (p : Nat) : Prop :=
  s.mbServes = true ∧ (s.mb p).msg = none ∧ (s.mb p).wait = none ∧ (s.mb p).relayed = none

/-- `t` is `s1` with partner p's message of one record closed: its response, with the record's status and result, leaves by p's transport. -/
def Closed (s1 t : State) (p op st : Nat) (res : List Word) : Prop :=
  ∃ m : Msg, m.tag = 0 ∧ m.seq = 0 ∧ m.recs = [(op, st, res)] ∧ m.fail = (if st = St.OK then none else some (0, st)) ∧
    t = (s1.setMb p { s1.mb p with msg := some m }).mbClose p

/-- The command is taken, does what `P` says of the state it leaves and of its result, and its message is answered with OK. -/
def Replies (i : Instr) (m : MbCmd) (op : Nat) (s : State) (P : State → List Word → Prop) : Prop :=
  Answers i s fun t => ∃ s1 res, P s1 res ∧ Closed s1 t m.partner op St.OK res

/-- The conditions of a command that is a message of its own with these words. -/
def Alone (m : MbCmd) (op : Nat) (ws : List Word) (s : State) : Prop :=
  m.last = true ∧ m.words = ws ∧ FreeBox s m.partner ∧ s.accept m.partner op = St.OK

/-- R359, R370, R384, Table 13-5: a command of class S, T or X that is not accepted changes nothing and is answered with the status that refuses it; LOCKED carries its reason. -/
def Rules.CommandsNotAccepted : Prop :=
  ∀ x ∈ ([(.status, 0x01), (.eventRead, 0x02), (.journalRead, 0x03), (.ptpStatus, 0x04), (.attest, 0x05), (.tokenGive, 0x08), (.tokenRelease, 0x08),
      (.tokenTake, 0x09), (.startCmd, 0x10), (.dockCmd, 0x11), (.resetCmd, 0x12), (.haltCmd, 0x13), (.prove, 0x14), (.proveAbort, 0x14), (.calRun, 0x16),
      (.refForce, 0x17), (.refForceRelease, 0x17), (.refClear, 0x18), (.powerSet, 0x19), (.powerSetWake, 0x19), (.counterSet, 0x1A), (.repairRestore, 0x1B),
      (.calRestore, 0x1C), (.keyLoad, 0x1D), (.keyErase, 0x1D), (.keyBind, 0x1D), (.keyUnbind, 0x1D), (.agentSet, 0x1E)] : List ((MbCmd → Instr) × Nat)),
    ∀ (m : MbCmd) (s : State), m.last = true → FreeBox s m.partner → s.accept m.partner x.2 ≠ St.OK →
      Answers (x.1 m) s fun t => Closed s t m.partner x.2 (s.accept m.partner x.2) (if s.accept m.partner x.2 = St.LOCKED then [3] else [])

/-- R365: a command of a partner whose message waits for its completion is answered with BUSY, and a command does nothing while the mailbox is not served. -/
def Rules.BusyAndUnserved : Prop :=
  ∀ (m : MbCmd) (s : State),
    (m.last = true → s.mbServes = true → (s.mb m.partner).wait.isSome = true → ∀ c ∈ ([.status, .startCmd, .dockCmd, .keyLoad, .fabricSet, .orbitSwap] : List (MbCmd → Instr)),
      Answers (c m) s fun t => t = s.mbPost m.partner (mbResponse 0 0 St.BUSY 0 [])) ∧
    (s.mbServes = false → ∀ c ∈ ([.status, .startCmd, .dockCmd, .keyLoad, .fabricSet, .orbitSwap] : List (MbCmd → Instr)), Answers (c m) s fun t => t = s)

/-- R359, R365, R370, R384: commands that are not accepted, and a mailbox that is busy or not served. -/
def Obligations.RefusedCommands : Prop := Rules.CommandsNotAccepted ∧ Rules.BusyAndUnserved

/-- R367, R373, R383, Table 13-8: what the status commands return; they change nothing but their message. -/
def Rules.StatusCommands : Prop :=
  ∀ (m : MbCmd) (s : State),
    (Alone m 0x01 [] s → Replies (.status m) m 0x01 s fun s1 res => s1 = s ∧ res =
      [s.live A.GLB_MODE, s.reg A.GLB_FW, .ofNat s.orbNum, .ofNat (s.orbNum / 4294967296),
       .ofNat (s.rd R.GLB_RCV_SEQ + 65536 * s.rd R.MB_STATUS_OWNER + 262144 * s.rd R.MB_STATUS_HELD), .ofNat s.alarms, .ofInt 32 (s.temp s.hottest), s.reg A.EVL_HEAD]) ∧
    (∀ i n : Word, Alone m 0x02 [i, n] s → Replies (.eventRead m) m 0x02 s fun s1 res =>
      s1 = s ∧ res.take 2 = [.ofNat s.evlOldest, .ofNat (s.rd R.EVL_HEAD_INDEX)] ∧ ∃ k ≤ n.toNat, (res.drop 2).length = 8 * k) ∧
    (∀ (n : Word) (p st : Nat), n.toNat < 65536 → s.journal.find? (·.1 == n.toNat) = some (n.toNat, p, st) → Alone m 0x03 [n] s →
      Replies (.journalRead m) m 0x03 s fun s1 res => s1 = s ∧ res = [.ofNat (st + 4 * p + 65536 * n.toNat)]) ∧
    (∀ d : Word, d.toNat < 8 → Alone m 0x04 [d] s → Replies (.ptpStatus m) m 0x04 s fun s1 res =>
      s1 = s ∧ res.length = 16 ∧ ∀ k < 8, res.getD k 0 = .ofNat ((List.range 8).map fun j => s.portState d.toNat (8 * k + j) * 16 ^ j).sum) ∧
    (∀ ws : List Word, ws.length = 8 → Alone m 0x05 ws s → Replies (.attest m) m 0x05 s fun s1 res =>
      s1 = s ∧ res = Config.dieTag :: s.reg A.GLB_FW :: wordsOf (hmac ((List.range 32).map Config.deviceKey) ((bytesOf (ws ++ [Config.dieTag, s.reg A.GLB_FW])).map (BitVec.ofNat 8))))

/-- R360: TOKEN_GIVE passes the token to the partner named, with its release flag frees it, and TOKEN_TAKE takes a free one, or by force for the board controller. -/
def Rules.TokenCommands : Prop :=
  ∀ (m : MbCmd) (w : Word) (s : State),
    (w.toNat < 4 → Alone m 0x08 [w] s → Replies (.tokenGive m) m 0x08 s fun s1 res => s1.owner = some w.toNat ∧ OnlyBus s s1 ∧ res = []) ∧
    (w.toNat < 8 → Alone m 0x08 [w] s → Replies (.tokenRelease m) m 0x08 s fun s1 res => s1.owner = none ∧ OnlyBus s s1 ∧ res = []) ∧
    (w.toNat < 2 → (s.owner = none ∨ (m.partner = 1 ∧ w = 1)) → Alone m 0x09 [w] s →
      Replies (.tokenTake m) m 0x09 s fun s1 res => s1.owner = some m.partner.val ∧ OnlyBus s s1 ∧ res = [])

/-- R360, R367, R373, R383: the status commands and the token. -/
def Obligations.StatusAndTokenCommands : Prop := Rules.StatusCommands ∧ Rules.TokenCommands

/-- R62, R63, R328, R333, R370, R385: START, DOCK, RESET, HALT, PROVE and its abort; OPEN_DEBUG, unless its fuse refuses it, clears keys, journal and transactions and begins the erase whose completion opens the device. -/
def Obligations.ModeCommands : Prop :=
  ∀ (m : MbCmd) (s : State),
    (s.mode = .dock → Alone m 0x10 [] s → Replies (.startCmd m) m 0x10 s fun s1 res => s1.mode = .free ∧ s1.tstate = .free ∧ res = []) ∧
    (s.mode.fwd = true → s.mode ≠ .doze → Alone m 0x11 [] s → Replies (.dockCmd m) m 0x11 s fun s1 res =>
      s1.mode = .dock ∧ (∀ d < 8, (s1.dom d).lockedSeen = false) ∧ s1.voqs = [] ∧ s1.egrQs = [] ∧ res = []) ∧
    (s.mode = .doze → Alone m 0x11 [] s → Answers (.dockCmd m) s fun t => t.power.modeNext = some (.dock, 7, 0) ∧ (t.mb m.partner).wait = some 0x11) ∧
    (Alone m 0x12 [] s → Replies (.resetCmd m) m 0x12 s fun s1 res => s1 = { s with sys := { s.sys with resetAt := some s.tb } } ∧ res = []) ∧
    (s.mode ≠ .halt → Alone m 0x13 [] s → Replies (.haltCmd m) m 0x13 s fun s1 res => s1.mode = .halt ∧ s1.rd R.GLB_MODE_HALT_CAUSE = 7 ∧ res = []) ∧
    (∀ w : Word, w &&& 0xFFFFFF0F = 0 → w.toNat / 16 % 8 ≠ 0 → s.prvMayEnter = true → s.prv.request = none → Alone m 0x14 [w] s →
      Replies (.prove m) m 0x14 s fun s1 res => s1.mode = .proving ∧ s1.prv.plan = w.toNat / 16 % 16 ∧ s1.bit R.PRV_STAT_RUN = true ∧ res = [s1.reg A.PRV_STAT]) ∧
    (s.mode = .proving → s.bit R.PRV_STAT_RUN = true → Alone m 0x14 [0] s → Replies (.proveAbort m) m 0x14 s fun s1 res =>
      s1.mode = s.tstate.mode ∧ s1.rd R.PRV_STAT_RESULT = 3 ∧ s1.bit R.PRV_STAT_RUN = false ∧ res = [s1.reg A.PRV_STAT]) ∧
    (RegsOk s → s.sys.straps.getLsbD 7 = true → Alone m 0x15 [0x4F50454E] s → Answers (.openDebug m) s fun t =>
      if Config.debugLock = true then Closed (s.log 0x0C 0x15 St.LOCKED) t m.partner 0x15 St.LOCKED [2]
      else t.bit R.SEC_STAT_OPEN = true ∧ t.sys.erasing = true ∧ t.keys = [] ∧ t.binds = [] ∧ t.journal = [] ∧ t.txns = [] ∧ (t.mb m.partner).wait = some 0x15) ∧
    (RegsOk s → s.sys.erasing = true → s.sys.tripped = false → s.mode = .dock → Answers .openEraseComplete s fun t =>
      t.mode = .opened ∧ t.role = .solo ∧ t.sys.erasing = false ∧ t.bit R.SEC_STAT_ERASED = true)

/-- R261, R279, R285: CAL_RUN marks channels pending; REF_FORCE forces a slot, releases a force, and REF_CLEAR returns disqualified candidates to QUALIFYING. -/
def Obligations.CalibrationAndReferenceCommands : Prop :=
  ∀ (m : MbCmd) (w : Word) (s : State),
    (∀ a b c : Word, c.toNat < 2 ^ 20 → Alone m 0x16 [a, b, c] s → Replies (.calRun m) m 0x16 s fun s1 res =>
      res = [] ∧ ∀ k < 84, (a.toNat + 4294967296 * b.toNat + 18446744073709551616 * c.toNat).testBit k = true → s.rd (R.TDC_CHSTAT_STATE k) ≠ 1 → s1.bit (R.TDC_CHSTAT_PEND k) = true) ∧
    (w &&& 0xFFFFFF08 = 0 → s.selOf (w.toNat % 8) = some (w.toNat / 16 % 16) → 3 ≤ s.cstate (w.toNat % 8) (w.toNat / 16 % 16) → s.cstate (w.toNat % 8) (w.toNat / 16 % 16) ≤ 4 →
      (s.dom (w.toNat % 8)).hostLoop = false → s.following (w.toNat % 8) = false → s.sys.refclkLost = false → s.monOnly (w.toNat % 8) (w.toNat / 16 % 16) = false → Alone m 0x17 [w] s →
      Replies (.refForce m) m 0x17 s fun s1 res => s1 = s.setBit (R.REF_DSTAT_FORCED (w.toNat % 8)) true ∧ res = []) ∧
    (w &&& 0xFFFFFE08 = 0 → s.bit (R.REF_DSTAT_FORCED (w.toNat % 8)) = true → Alone m 0x17 [w] s → Replies (.refForceRelease m) m 0x17 s fun s1 res =>
      s1 = (s.setBit (R.REF_DSTAT_FORCED (w.toNat % 8)) false).evaluate (w.toNat % 8) 16 ∧ res = []) ∧
    (w &&& 0x0000FFF8 = 0 → Alone m 0x18 [w] s → Replies (.refClear m) m 0x18 s fun s1 res =>
      res = [] ∧ ∀ k < 16, (w.getLsbD (16 + k) = true → s1.bit (R.REF_CSTAT_SUSPECT (w.toNat % 8) k) = false ∧
        (s.cstate (w.toNat % 8) k = 7 → s1.cstate (w.toNat % 8) k = 2)) ∧ (w.getLsbD (16 + k) = false → s1.cstate (w.toNat % 8) k = s.cstate (w.toNat % 8) k))

/-- R352, R371, R373, R382, R379: POWER_SET applies its items and wakes the device with its wake bit; COUNTER_SET writes the ring's registers; keys and bindings are loaded, erased, bound and unbound; AGENT_SET configures the agent. -/
def Rules.PowerCounterKeyAndAgentCommands : Prop :=
  ∀ (m : MbCmd) (s : State),
    (∀ (ws : List Word) (cs : List Change), State.stageItems 0x19 (ws.length + 1) s ws [] = .ok cs → Alone m 0x19 (0 :: ws) s →
      Replies (.powerSet m) m 0x19 s fun s1 res => s1 = cs.foldl State.applyChange s ∧ res = []) ∧
    (s.mode = .doze → Alone m 0x19 [0] s → Replies (.powerSetWake m) m 0x19 s fun s1 res => s1.mode = s.tstate.mode ∧ s1.power.devExit = true ∧ res = []) ∧
    (∀ a b c d e f g : Word, a &&& ~~~((descRw A.HUB_RING_LO).getD 0) = 0 → b &&& ~~~((descRw A.HUB_RING_HI).getD 0) = 0 → c.toNat < 65536 → d.toNat < 16777216 → g.toNat < 2 →
      Alone m 0x1A [a, b, c, d, e, f, g] s → Replies (.counterSet m) m 0x1A s fun s1 res =>
        s1.reg A.HUB_RING_LO = a ∧ s1.reg A.HUB_RING_HI = b ∧ s1.reg A.HUB_SIZE = c ∧ s1.reg A.HUB_PERIOD = d ∧ s1.reg A.HUB_GMASK_LO = e ∧ s1.reg A.HUB_GMASK_HI = f ∧
        s1.bit R.HUB_STAT_USER = g.getLsbD 0 ∧ s1.hub.seq = 0 ∧ res = []) ∧
    (∀ (w x : Word) (ks : List Word), w.toNat < 32 → ks.length = 8 → Alone m 0x1D (w :: x :: ks) s → Replies (.keyLoad m) m 0x1D s fun s1 res =>
      s1 = { s with keys := storeSet (fun _ => []) s.keys w.toNat ((bytesOf ks).map (BitVec.ofNat 8)) } ∧
        res = (wordsOf (hmac ((bytesOf ks).map (BitVec.ofNat 8)) (List.replicate 32 0))).take 1) ∧
    (∀ w x : Word, w.toNat < 32 → Alone m 0x1D [w, x] s → Replies (.keyErase m) m 0x1D s fun s1 res =>
      storeGet (fun _ => []) s1.keys w.toNat = [] ∧ (∀ k, k ≠ w.toNat → storeGet (fun _ => []) s1.keys k = storeGet (fun _ => []) s.keys k) ∧
        (∀ b ∈ s1.binds, b.2.2 ≠ w.toNat) ∧ res = [] ∧ s1 = { s with keys := s1.keys, binds := s1.binds }) ∧
    (∀ w x : Word, w.toNat < 65536 → w.toNat / 32 % 8 = 0 → storeGet (fun _ => []) s.keys (w.toNat % 32) ≠ [] → s.binds.length < 64 → Alone m 0x1D [w, x] s →
      Replies (.keyBind m) m 0x1D s fun s1 res => (w.toNat / 256, x.toNat, w.toNat % 32) ∈ s1.binds ∧ res = [] ∧ s1 = { s with binds := s1.binds }) ∧
    (∀ w x : Word, w.toNat < 65536 → w.toNat / 32 % 8 = 0 → Alone m 0x1D [w, x] s → Replies (.keyUnbind m) m 0x1D s fun s1 res =>
      (∀ b ∈ s1.binds, ¬ (b.1 = w.toNat / 256 ∧ b.2.1 = x.toNat)) ∧ res = [] ∧ s1 = { s with binds := s1.binds }) ∧
    (∀ w lo hi : Word, w.toNat < 4096 → hi.toNat < 65536 → s.absent (w.toNat % 64) = false → Alone m 0x1E [w, lo, hi] s → Replies (.agentSet m) m 0x1E s fun s1 res =>
      s1 = { s with agent := { s.agent with en := w.getLsbD 6, port := w.toNat % 64, slot := w.toNat / 128, mac := .ofNat 48 (lo.toNat + 4294967296 * hi.toNat) } } ∧ res = [])

/-- R58, R271: REPAIR_RESTORE with the die's own tag and a right CRC gathers its entries into the repair map; CAL_RESTORE of a channel that exists and is not of full grade puts its table in force with the restored grade and temperature. -/
def Rules.RestoreCommands : Prop :=
  ∀ (m : MbCmd) (s : State),
    (∀ (h : Word) (es : List Word), es.length ≤ 128 → h.toNat % 256 = es.length → h.toNat / 65536 = repairCrc es → (∀ w ∈ es, repairOk w = true) →
      Alone m 0x1B (Config.dieTag :: h :: es) s → Replies (.repairRestore m) m 0x1B s fun s1 res =>
        ∃ x : Restore, x = (List.range es.length).foldl (fun (x : Restore) i => x.take i (es.getD i 0)) { map := s.repairs, st := s } ∧
          s1 = x.st.setRepairs x.map ∧ res.length = 5) ∧
    (∀ (c : Fin 84) (h k : Word) (ts : List Word), ts.length = 256 → h.toNat % 128 = c.val → h &&& 0xFC00FF80 = 0 → k.toNat < 65536 → k.toNat = binCrc (ts.flatMap fun w => [w.toNat % 65536, w.toNat / 65536]) →
      s.rd (R.TDC_CHSTAT_STATE c) ≠ 1 → s.rd (R.TDC_CHSTAT_GRADE c) ≠ 2 → Alone m 0x1C (Config.dieTag :: h :: k :: ts) s →
      Replies (.calRestore m) m 0x1C s fun s1 res => s1.rd (R.TDC_CHSTAT_GRADE c) = 3 ∧ s1.rd (R.TDC_CHSTAT_TCAL c) = h.toNat / 65536 ∧ res.length = 6)

/-- R58, R271, R352, R371, R373, R379, R382: power items, the counter ring, keys, the agent, and what is restored. -/
def Obligations.ConfigurationCommands : Prop := Rules.PowerCounterKeyAndAgentCommands ∧ Rules.RestoreCommands

/-- The class C rows with their opcodes and the operation that each row forces, but for STREAM_EDIT. -/
def stagedRows : List ((MbCmd → Instr) × Nat × (MbCmd → MbCmd)) :=
  [(.fabricSet, 0x20, id), (.shaperSet, 0x21, id), (.orbitSet, 0x24, id), (.orbitLoad, 0x25, id), (.orbitSwap, 0x26, id), (.gateListSet, 0x27, id), (.ptpSet, 0x28, id),
   (.refSet, 0x29, id), (.domainAdjustOffset, 0x2A, fun m => forceBits m 0x30 0x0), (.domainAdjustSetTime, 0x2A, fun m => forceBits m 0x30 0x10),
   (.domainAdjustRate, 0x2A, fun m => forceBits m 0x30 0x20), (.domainLoopOpen, 0x2B, fun m => forceBits m 0x100 0x100), (.domainLoopClose, 0x2B, fun m => forceBits m 0x100 0x0),
   (.timepinSet, 0x2C, id), (.twinSet, 0x2D, id), (.proveSet, 0x2E, id)]

/-- R366: an accepted class C command whose changes stage and meet the rules of the whole is committed: its transaction takes the next sequence number, is journalled as in progress and waits; its changes are not applied yet. -/
def Rules.ClassCCommandsCommit : Prop :=
  ∀ x ∈ stagedRows, ∀ (m : MbCmd) (s : State) (cs : List Change) (res : List Word) (objs : List Nat),
    m.last = true → FreeBox s m.partner → s.accept m.partner x.2.1 = St.OK → s.rd R.MB_STATUS_NEXTSEQ ≠ 0 →
    (s.nextSeq m.partner).1.stage x.2.1 [] [] (x.2.2 m).words = .ok (cs, res, objs) → wholeRule ((s.nextSeq m.partner).1.shadow cs) cs x.2.1 = none →
    Answers (x.1 m) s fun t =>
      t.txns = s.txns ++ [{ partner := m.partner, seq := s.rd R.MB_STATUS_NEXTSEQ, changes := cs, tb := s.tb, loading := !(glistsOf cs).isEmpty }] ∧
      t.journal.head? = some (s.rd R.MB_STATUS_NEXTSEQ, m.partner.val, 3) ∧ (t.mb m.partner).wait = some 0 ∧
      t.rd R.MB_STATUS_NEXTSEQ = (if s.rd R.MB_STATUS_NEXTSEQ = 65535 then 1 else s.rd R.MB_STATUS_NEXTSEQ + 1) ∧
      (glistsOf cs = [] → t = { s with regs := t.regs, mbs := t.mbs, txns := t.txns, journal := t.journal } ∧ RegsFrame s t [A.MB_STATUS])

/-- R375, R143, R193, R195, R295: what the grid, swap and domain commands stage. -/
def Rules.StagedChanges : Prop :=
  ∀ (s : State) (objs : List Nat) (w : Word),
    (∀ ns frac lo hi an af : Word, w &&& 0xFFFFFFF8 = 0 → 31250 ≤ ns.toNat → ns.toNat < 1000000000 → hi.toNat < 65536 → an.toNat < 1000000000 →
      ns &&& ~~~((descRw (A.ORB_CFG + 4)).getD 0) = 0 → an &&& ~~~((descRw (A.ORB_CFG + 20)).getD 0) = 0 →
      s.stage 0x24 [] objs [w, ns, frac, lo, hi, an, af] = .ok ([.grid { dom := w.toNat, period := ns.toNat * 4294967296 + frac.toNat
                                                                         align := ((lo.toNat + 4294967296 * hi.toNat) * 1000000000 + an.toNat) * 4294967296 + af.toNat }], [], objs)) ∧
    (w.toNat < 512 → (∀ e < 9, w.toNat.testBit e = true → ((s.shadow []).eng e).swap = none ∧ (s.shadow []).imageOk e = true) →
      s.stage 0x26 [] objs [w] = .ok ([.swap w.toNat], [0, 0], objs)) ∧
    (∀ lo hi : Word, w &&& 0xFFFFFFF8 = 0x20 → hi.toNat < 65536 → ((s.shadow []).dom (w.toNat % 8)).hostLoop = true →
      s.stage 0x2A [] objs [w, lo, hi, 0, 0] = .ok ([.adjust (w.toNat % 8) 2 (rateOfBits (hi.toNat * 4294967296 + lo.toNat))], [], objs)) ∧
    (∀ lo ns : Word, w &&& 0xFFFFFFF8 = 0 → ns.toNat < 1000000000 →
      s.stage 0x2A [] objs [w, lo, 0x40000000, ns, 0] = .ok ([.adjust w.toNat 0 (-(((lo.toNat * 1000000000 + ns.toNat) * 65536 : Nat) : Int))], [], objs)) ∧
    (w &&& 0xFFFFFEF8 = 0 → s.stage 0x2B [] objs [w] = .ok ([.loop (w.toNat % 8) (w.getLsbD 8)], [], objs)) ∧
    s.stage 0x23 [] objs [] = .ok ([.commit], [.ofNat objs.length], objs)

/-- R133, R374: STREAM_EDIT stages its operations in the message under way and STREAM_COMMIT commits them together. -/
def Rules.StreamEditsCommitTogether : Prop :=
  ∀ (m : MbCmd) (s : State),
    (∀ x ∈ ([(.streamEditWrite, 0x0), (.streamEditDelete, 0x8)] : List ((MbCmd → Instr) × Word)), ∀ cs res objs,
      m.last = false → FreeBox s m.partner → s.accept m.partner 0x22 = St.OK →
      (s.nextSeq m.partner).1.stage 0x22 [] [] (forceBits m 0x8 x.2).words = .ok (cs, res, objs) →
      Answers (x.1 m) s fun t => t.txns = s.txns ∧ ∃ M, (t.mb m.partner).msg = some M ∧ M.changes = cs ∧ M.objs = objs ∧ M.fail = none ∧ M.seq = s.rd R.MB_STATUS_NEXTSEQ ∧ M.recs = [(0x22, St.OK, res)]) ∧
    (∀ M : Msg, m.last = true → m.words = [] → s.mbServes = true → (s.mb m.partner).msg = some M → (s.mb m.partner).wait = none → (s.mb m.partner).relayed = none →
      s.accept m.partner 0x23 = St.OK → M.cls = 4 → M.fail = none → M.seq ≠ 0 → glistsOf M.changes = [] →
      (∀ op ∈ [0x20, 0x28, 0x29, 0x23], wholeRule (s.shadow (M.changes ++ [.commit])) (M.changes ++ [.commit]) op = none) →
      Answers (.streamCommit m) s fun t =>
        t.txns = s.txns ++ [{ partner := m.partner, seq := M.seq, changes := M.changes ++ [.commit], tb := s.tb }] ∧ (t.mb m.partner).wait = some 0)

/-- R133, R366, R374, R375: class C commands are staged and committed. -/
def Obligations.TransactionsAreStaged : Prop := Rules.ClassCCommandsCommit ∧ Rules.StagedChanges ∧ Rules.StreamEditsCommitTogether

/-- R365, R376 to R380: doorbells post a request or report it lost; an acknowledgement frees the buffer; the agent's frame needs its ICV and a new nonce; a relayed message is answered by the twin's response or, after 100 ms and not before, with UNREACHABLE. -/
def Obligations.MailboxTransports : Prop :=
  ∀ s : State,
    (∀ (p : Fin 2) (v : Word), v.getLsbD 0 = true → s.bit R.GLB_FW_VALID = true →
      (s.bit (mbFld p R.MB_STATUS_REQ_BUSY) = false → Answers (.mbDoorbell p v) s fun t =>
        t.posted = s.posted ++ [p.val] ∧ t.bit (mbFld p R.MB_STATUS_REQ_BUSY) = true ∧ t = { s with regs := t.regs, posted := t.posted }) ∧
      (s.bit (mbFld p R.MB_STATUS_REQ_BUSY) = true → Answers (.mbDoorbell p v) s fun t => t.bit (mbFld p R.MB_STATUS_DBLOST) = true ∧ RegsFrame s t [A.MB_STATUS + mbOff p] ∧ OnlyRegs s t)) ∧
    (∀ (p : Fin 2) (v : Word), s.bit R.GLB_FW_VALID = false → Answers (.mbDoorbell p v) s fun t => t = s) ∧
    (∀ (p : Fin 2) (v : Word), v.getLsbD 0 = true → s.bit (mbFld p R.MB_STATUS_RSP_READY) = true →
      ((s.mb p).rspQ = [] → Answers (.mbRspAck p v) s fun t => t.bit (mbFld p R.MB_STATUS_RSP_READY) = false ∧ OnlyBus s t) ∧
      (∀ ws rest, (s.mb p).rspQ = ws :: rest → Answers (.mbRspAck p v) s fun t => t.bit (mbFld p R.MB_STATUS_RSP_READY) = true ∧ (t.mb p).rspQ = rest)) ∧
    (∀ src nonce ws icv, s.agent.en = true → storeGet (fun _ => []) s.keys s.agent.slot ≠ [] →
      (s.agentIcv nonce ws ≠ icv ∨ nonce.toNat ≤ s.agent.nonce → Answers (.agentFrame src nonce ws icv) s fun t => OnlyBus s t) ∧
      (s.agentIcv nonce ws = icv → s.agent.nonce < nonce.toNat → FreeBox s 3 → Answers (.agentFrame src nonce ws icv) s fun t =>
        t = ({ s with agent := { s.agent with nonce := nonce.toNat } }.setMb 3 { s.mb 3 with peer := src, nonce := nonce }).serveMsg 3 ws)) ∧
    (∀ ws, FreeBox s 2 →
      (headOk 2 ws = none → Answers (.relayMessage ws) s fun t => t.out.head? = some (.relayRsp (mbResponse ((ws.getD 1 0).toNat % 65536) 0 St.FORM 0 [])) ∧ t = { s with out := t.out }) ∧
      (∀ hs rs, headOk 2 ws = some hs → hs.getD 3 0 = mbCheck hs → (hs.getD 1 0).getLsbD 16 = false → readRecs ((hs.getD 0 0).toNat / 256 % 256) (hs.drop 4) = some rs → recsBad {} rs = false →
        Answers (.relayMessage ws) s fun t => t = (s.setMb 2 { s.mb 2 with msg := some { tag := (ws.getD 1 0).toNat % 65536, noSeq := rs.any fun r => s.accept 2 r.1 != St.OK } }).runRecs 2 rs)) ∧
    (∀ (p : Fin 4) (tag : Nat), (s.mb p).relayed = some tag →
      ((s.mb p).relayTb + 100000000 ≤ s.tb →
        Answers (.relayTimeout p) s fun t => (t.mb p).relayed = none ∧ t = (s.setMb p { s.mb p with relayed := none }).mbPost p (mbResponse tag 0 St.UNREACHABLE 0 [])) ∧
      (s.tb < (s.mb p).relayTb + 100000000 → Answers (.relayTimeout p) s fun t => t = s) ∧
      ∀ ws, Answers (.relayResponse p ws) s fun t => (t.mb p).relayed = none ∧ t = (s.setMb p { s.mb p with relayed := none }).mbPost p ws)

/-! ## Frames, the fabric, the egress and links (chapters 3, 4 and 6) -/

/-- Counter `c` lies as Chapter 14 lays counters out: a 32-bit lowest word, a higher word behind it, and its sticky bit elsewhere. -/
def CounterOk (c : Ctr) : Prop :=
  c.lo.lo = 0 ∧ c.lo.width = 32 ∧ c.hiBits ≤ 32 ∧ c.sticky.width = 1 ∧ c.sticky.lo < 32 ∧ c.sticky.addr ≠ c.lo.addr ∧ c.sticky.addr ≠ c.lo.addr + 4 ∧
    A.HUB_STAT ≠ c.lo.addr ∧ A.HUB_STAT ≠ c.lo.addr + 4 ∧ c.lo.addr < 0x8000000 ∧ c.sticky.addr ≠ A.HUB_STAT ∧ (c.sticky.addr < 0x8000000 ∨ 0x9000000 ≤ c.sticky.addr)

/-- R389: a counter below its limit counts exactly; a wrapping one wraps modulo 2^w and keeps the excess, a saturating one stops at its largest value, and either sets its sticky bit. Nothing but registers, lines and outputs changes. -/
def Obligations.CountersWrapOrSaturate : Prop :=
  ∀ (c : Ctr) (n : Nat) (s : State), CounterOk c → 0 < n →
    OnlyBus s (s.countBy c n) ∧
    (s.ctr c + n < ctrLimit c - 1 → (s.countBy c n).ctr c = s.ctr c + n ∧ (s.countBy c n).bit c.sticky = s.bit c.sticky) ∧
    (c.sat = false → ctrLimit c ≤ s.ctr c + n → (s.countBy c n).ctr c = (s.ctr c + n) % ctrLimit c ∧ (s.countBy c n).bit c.sticky = true) ∧
    (c.sat = true → s.ctr c ≠ ctrLimit c - 1 → ctrLimit c - 1 ≤ s.ctr c + n → (s.countBy c n).ctr c = ctrLimit c - 1 ∧ (s.countBy c n).bit c.sticky = true) ∧
    (c.sat = true → s.ctr c = ctrLimit c - 1 → s.countBy c n = s)

/-- Port p forwards a frame `r` that no key names to port d in class c, store-and-forward, with room for it, and no action of an engine is due before it (R121): the plain case of Table 4-1. -/
def MissForwards (s : State) (p d c : Nat) (r : RxFrame) : Prop :=
  s.actDue = none ∧ s.mode.fwd = true ∧ s.mode ≠ .doze ∧ s.portUp p = true ∧ s.agent.en = false ∧ r.fcsOk = true ∧ r.macErr = false ∧ r.pkt.ptp = none ∧ r.pkt.vlans = [] ∧ r.pkt.ip = none ∧
  s.rd (R.PORT_SID_ORDER p) = 0 ∧ s.rd (R.PORT_SID_MISS p) = 2 ∧ s.rd (R.PORT_MISS_DST p) % 64 = d ∧ d ≠ p ∧ s.portUp d = true ∧
  s.rd (R.PORT_SID_DEF_TC p) = c ∧ (s.rd (R.PORT_FWD_CT p)).testBit c = false ∧ r.len ≤ s.classMtu c ∧
  ∃ m sh h, s.takeUnits p c false (unitsOf r.len) = .units m sh h false

/-- R80, R82, R117, R119: a frame that no key names goes to the queue for the miss port in its class, behind the frames there, and its units are charged; one with a bad FCS is counted and queued nowhere. -/
def Obligations.FramesAreQueued : Prop :=
  ∀ (p : Fin 64) (d : Nat) (c : Nat) (r : RxFrame) (ovf : Bool) (s : State),
    (MissForwards s p d c r → Answers (.frameReceive p .whole r ovf) s fun t =>
      (∃ x, (t.voq (voqKey p d c)).q = (s.voq (voqKey p d c)).q ++ [x] ∧ x.frame.pkt = r.pkt ∧ x.frame.len = r.len ∧ x.frame.src = p.val ∧ x.frame.cls = c ∧
        x.fnum = (s.voq (voqKey p d c)).next ∧ x.frame.uMin + x.frame.uShr + x.frame.uHdr = unitsOf r.len) ∧
      (t.acct (acctKey p c)).used = (s.acct (acctKey p c)).used + unitsOf r.len ∧ (∀ k, k ≠ voqKey p d c → t.voq k = s.voq k) ∧ t.mode = s.mode) ∧
    (s.actDue = none → s.mode.fwd = true → s.portUp p = true → r.fcsOk = false → r.pkt.ptp = none → s.rd (R.PORT_FWD_CT p) = 0 → Answers (.frameReceive p .whole r ovf) s fun t => OnlyBus s t) ∧
    (s.actDue = none → s.mode.fwd = true → s.portUp p = true → s.bit (R.PORT_PREEMPT_EN p) = true → (s.link p).mode.merges = true →
      Answers (.frameReceive p .verify r ovf) s fun t => t = { s with out := .mpacket p true :: s.out })

/-- R100, R101: received PFC stops and starts the classes that obey it, and only those; an expired timer starts its class; XOFF is repeated while it stands. -/
def Rules.FlowControl : Prop :=
  ∀ (p : Fin 64) (s : State),
    (∀ stop resume : BitVec 8, s.mode.fwd = true → s.portUp p = true → Answers (.pfcReceive p false stop resume) s fun t =>
      (∀ c < 8, (t.egr p).paused.testBit c = if (s.rd (R.PORT_FWD_PFC_RX p)).testBit c then stop.getLsbD c || ((s.egr p).paused.testBit c && !resume.getLsbD c) else (s.egr p).paused.testBit c) ∧
      (∀ k, k ≠ p.val → t.egr k = s.egr k) ∧ t.voqs = s.voqs ∧ t.egrQs = s.egrQs) ∧
    (∀ c : Fin 8, (s.egr p).paused.testBit c = true → Answers (.pfcTimerExpire p c) s fun t =>
      (t.egr p).paused.testBit c = false ∧ (∀ k, k ≠ c.val → (t.egr p).paused.testBit k = (s.egr p).paused.testBit k) ∧ t = { s with egresses := t.egresses }) ∧
    (∀ c : Fin 8, (s.egr p).xoff.testBit c = true → s.portUp p = true → s.rd (R.PORT_FWD_PFC_TX p) ≠ 0 → Answers (.pfcRepeat p c) s fun t =>
      .pfc p (2 ^ c.val) false (max 1 (s.rd (R.PORT_PFC_QUANTA p))) ∈ t.out ∧ OnlyBus s t)

/-- R74, R85, R88: each slot counts; with nothing to move nothing else changes; the one frame that waits, stored whole and short enough for one cell, leaves its queue for the intermediate that the slot joins to its input. A broadcast gives every intermediate and every egress queue its full bits. -/
def Rules.SlotsMoveCells : Prop :=
  ∀ s : State, s.mode.afterBoot = true →
    (s.clk.stopped = false → (∀ k, (s.voq k).q = []) → (∀ j, (s.inter j).cells = []) → ∀ errs, Answers (.fabricSlot errs) s fun t => t = { s with slot := s.slot + 1, slotTb := s.tb }) ∧
    (∀ (i d c : Nat) (e : VEntry), i < 64 → d < 64 → c < 8 → s.fabricRuns = true → (∀ j, (s.inter j) = {}) → (∀ k, k ≠ voqKey i d c → (s.voq k).q = []) →
      (s.voq (voqKey i d c)).q = [e] → e.frame.ct = false → e.arrived s.tb = e.frame.len → 0 < e.frame.stream - e.sent → e.frame.stream - e.sent ≤ 120 → (∀ l, s.absent l = false) → s.portUp d = true → s.egrFull = [] →
      (∀ l < 64, s.rsvEntry (s.slot % 64) l = none) → Answers (.fabricSlot []) s fun t =>
        (t.voq (voqKey i d c)).q = [] ∧ t.slot = s.slot + 1 ∧
          ∃ x, (t.inter ((i + s.slot % 64) % 64)).cells = [x] ∧ x.src = i ∧ x.dst = d ∧ x.tc = c ∧ x.fnum = e.fnum ∧ x.cidx = e.cells ∧ x.mc = false) ∧
    (Answers .fullBitBroadcast s fun t => (∀ j < 64, t.inter j = s.interFull (s.inter j)) ∧
      (∀ k < 512, k ∈ t.egrFull ↔ max 1 (s.rd (R.PORT_EGR_QMAX (k / 8))) ≤ (s.egrQ k).units) ∧ t.regs = s.regs)

/-- R91, R78: a cell whose check fails is discarded at the end of its wire; one in its turn is taken, and its context then expects the cell after it. A gap that nothing can close empties its context and is counted in `RESEQ_DROP`. -/
def Obligations.CellsAreReassembled : Prop :=
  ∀ (o : Fin 64) (x : Cell) (rest : List Cell) (s : State), s.wire o = x :: rest →
    (∀ err, x.received err = none → Answers (.cellArrive o err) s fun t => t.wire o = rest ∧ (∀ k, k ≠ o.val → t.wire k = s.wire k) ∧ t = { s with wires := t.wires }) ∧
    ((s.reasm (reasmKey (s.lanePort o) x.mc x.src x.tc)).expect = some (x.fnum, x.cidx) → (s.reasm (reasmKey (s.lanePort o) x.mc x.src x.tc)).wait = [] → (s.reasm (reasmKey (s.lanePort o) x.mc x.src x.tc)).stop = none →
      Answers (.cellArrive o 0) s fun t => t.wire o = rest ∧ (t.reasm (reasmKey (s.lanePort o) x.mc x.src x.tc)).expect = some (nextExpect x)) ∧
    (∀ (p : Fin 64) (mc : Bool) (src : Fin 64) (c : Fin 8), (s.reasm (reasmKey p mc src c)).gap = true → (s.reasm (reasmKey p mc src c)).cur = none →
      earliestHead (s.reasm (reasmKey p mc src c)).wait = none → s.egrFull.contains (8 * p.val + c.val) = false → (s.egr p).paused.testBit c = false →
      Answers (.reseqGapTimeout p mc src c) s fun t => (t.reasm (reasmKey p mc src c)).expect = none ∧ (t.reasm (reasmKey p mc src c)).cur = none ∧ (t.reasm (reasmKey p mc src c)).wait = [] ∧
        (t.reasm (reasmKey p mc src c)).gap = false ∧ ∃ n, 0 < n ∧ t = { s with reasms := t.reasms }.countBy (.port p 0x48) n)

/-- R99: a swap request pends; at a round that starts after a later Orbit has started, the other bank becomes active, the entries that conflict are ignored, and it reports them. Before then the swap waits. -/
def Rules.ReservationSwap : Prop :=
  ∀ s : State,
    Answers .rsvSwapRequest s (fun t => t.bit R.FAB_CTRL_RSV_PENDING = true ∧ t.rsvReq = some s.orbitsBegun ∧ t.bit R.FAB_CTRL_RSV_ACTIVE = s.bit R.FAB_CTRL_RSV_ACTIVE ∧
      t = { s with regs := t.regs, rsvReq := t.rsvReq } ∧ RegsFrame s t [A.FAB_CTRL]) ∧
    (∀ n, s.bit R.FAB_CTRL_RSV_PENDING = true → s.rsvReq = some n → n < s.orbitsBegun → s.slot % 64 = 0 → Answers .rsvBankSwap s fun t =>
      t.bit R.FAB_CTRL_RSV_ACTIVE = (!s.bit R.FAB_CTRL_RSV_ACTIVE) ∧ t.bit R.FAB_CTRL_RSV_PENDING = false ∧ t.rsvReq = none ∧ t.rsvIgnored = s.rsvCheck (!s.bit R.FAB_CTRL_RSV_ACTIVE) ∧
      (t.rsvIgnored ≠ [] → t.bit R.FAB_STAT_RSV_CONFLICT = true) ∧ RegsFrame s t [A.FAB_CTRL, A.FAB_STAT]) ∧
    (s.slot % 64 ≠ 0 ∨ s.rsvReq = some s.orbitsBegun → Answers .rsvBankSwap s fun t => t = s)

/-- R74, R85, R88, R99: slots, full bits and the reservation banks. -/
def Obligations.FabricSlots : Prop := Rules.SlotsMoveCells ∧ Rules.ReservationSwap

/-- No action of an engine is left in any executing list. -/
def NoActions (s : State) : Prop := ∀ e < 9, (s.eng e).exec = []

/-- R97, R165, R167: an idle port starts the complete frame at the head of its one open queue; a whole transmission ends (L + 20) × 8 / r after its start, leaves with a good FCS and gives its memory back; a cut-through frame that runs dry is ended with an inverted one. -/
def Rules.FramesLeave : Prop :=
  ∀ (p : Fin 64) (s : State), NoActions s → s.sends p = true → (s.egr p).due = [] → (s.egr p).susp = none → s.mmActive p = false → (∀ k < 4, s.bit (R.HLS1_ARM p k) = false) →
    (∀ (c : Fin 8) (e : EFrame), (s.egr p).tx = none → (s.egrQ (8 * p + c)).q = [e] → (∀ k < 8, k ≠ c.val → (s.egrQ (8 * p + k)).q = []) → e.complete = true →
      e.frame.pkt.ptp = none → s.aged c e.frame.stamp = false → s.gateOpen p c = true → (s.egr p).paused.testBit c = false → s.orbit.begun = false →
      s.rd (R.PORT_SCHED_DWRR p) = 0 → s.rd (R.SHP_CIR_RATE p c) = 0 → s.rd (R.SHP_PIR_RATE p c) = 0 → Answers (.frameStartDecision p) s fun t =>
        (t.egrQ (8 * p + c)).q = [] ∧ t.tb = s.tb ∧ ∃ x, (t.egr p).tx = some x ∧ x.frame.pkt = e.frame.pkt ∧ x.cls = c.val ∧ x.id = e.id ∧ x.start = s.tb ∧ x.startF = 0 ∧ x.complete = true) ∧
    (∀ x : Tx, (s.egr p).tx = some x → x.cut = none → x.complete = true → (∀ c < 8, (s.egrQ (8 * p + c)).q = []) → Answers (.txEnd p) s fun t =>
      (t.egr p).tx = none ∧ (∃ rate, .frame p x.frame.pkt x.frame.len true x.start rate ∈ t.out) ∧ (t.egrQ (8 * p + x.cls)).units = (s.egrQ (8 * p + x.cls)).units - x.units ∧
      (s.sys.timebase = true → t.tb = max s.tb ((25 * x.start + x.startF + (x.frame.len - x.before + 20) * 200 / (s.link p).mode.rate) / 25))) ∧
    (∀ x : Tx, (s.egr p).tx = some x → x.complete = false → Answers (.ctUnderrun p) s fun t =>
      (t.egr p).tx = none ∧ .frame p x.frame.pkt x.frame.len false x.start (s.txSynth p) ∈ t.out ∧ (t.egrQ (8 * p + x.cls)).units = (s.egrQ (8 * p + x.cls)).units - x.units)

/-- R177, R186: the preemption verify procedure makes three attempts, each of the verify time, and then fails. -/
def Rules.PreemptionVerifyFails : Prop :=
  ∀ (p : Fin 64) (s : State), s.rd (R.PORT_PREEMPT_STATUS p) = 2 →
    (s.sys.timebase = true → Answers (.mmVerifyTimeout p) s fun t => t.tb = max s.tb ((s.egr p).verifyTb + min 128 (max 1 (s.rd (R.PORT_PREEMPT_VTIME p))) * 1000000)) ∧
    ((s.egr p).verify < 3 → Answers (.mmVerifyTimeout p) s fun t => (t.egr p).verify = (s.egr p).verify + 1 ∧ (t.egr p).verifyTb = t.tb ∧ .mpacket p false ∈ t.out ∧
      ((s.egr p).verifyTb + s.verifyNs p ≤ s.tb → t.regs = s.regs ∧ t.out = .mpacket p false :: s.out)) ∧
    (3 ≤ (s.egr p).verify → Answers (.mmVerifyTimeout p) s fun t => t.rd (R.PORT_PREEMPT_STATUS p) = 4 ∧
      ((s.egr p).verifyTb + s.verifyNs p ≤ s.tb → RegsFrame s t [A.PORT_PREEMPT p] ∧ OnlyRegs s t))

/-- R97, R165, R167, R177: how transmissions start and end, and how preemption is verified. -/
def Obligations.TransmissionsStartAndEnd : Prop := Rules.FramesLeave ∧ Rules.PreemptionVerifyFails

/-- R102, R107, R108, R381: a link that goes down loses its transmission; one that comes up takes its mode and clears received pauses; under the ROM defaults a lane tries its next mode; of the frames that a down port's egress queues hold the age scan discards exactly the aged ones, where no frame is part-way through the fabric. -/
def Obligations.LinksAndAgeing : Prop :=
  ∀ (p : Fin 64) (s : State),
    (∀ rx, (s.link p).up = true → Answers (.linkDown p rx) s fun t =>
      (t.link p).up = false ∧ (t.link p).mode = (s.link p).mode ∧ (t.egr p).tx = none ∧ (t.egr p).susp = none ∧ (∀ k, k ≠ p.val → t.link k = s.link k) ∧ t.mode = s.mode) ∧
    (∀ (k : LinkKind) (n : Nat), s.mode.fwd = true → s.mode ≠ .doze → (∀ l, s.absent l = false) → s.octOff (p.val / 8) = false → k ≠ .r100rs → Answers (.linkUp p k n) s fun t =>
      t.link p = { up := true, mode := LinkMode k } ∧ (t.egr p).paused = 0 ∧ t.rd (R.PTP_LAT_RX_PS p) = (LinkLat k).1 ∧ t.rd (R.PTP_LAT_TX_PS p) = (LinkLat k).2 ∧ (∀ j, j ≠ p.val → t.link j = s.link j)) ∧
    (s.sys.straps.getLsbD 5 = true → s.mode.fwd = true → (s.link p).up = false → s.octOff (p.val / 8) = false → Answers (.laneModeTry p) s fun t =>
      t.link p = { up := false, mode := (s.link p).mode.next } ∧ p.val ∈ t.power.trainWait ∧ t = { s with links := t.links, power := t.power }) ∧
    ((∀ k, ∀ e ∈ (s.voq k).q, e.sent = 0) → Answers .ageScan s fun t => ∀ k < 512, (t.egrQ k).q =
      if s.portUp (k / 8) || s.ageLimit (k % 8) == 0 then (s.egrQ k).q else (s.egrQ k).q.filter fun e => !s.aged (k % 8) e.frame.stamp)

/-- R174, R175: a write of word 1 arms or disarms a host launch slot; a slot whose time has come fires at an idle MAC, is done, is late where its time was past when it was armed, and makes the head frame of its queue due, or misses where none can be sent; during a transmission it waits for the decision. -/
def Obligations.HostLaunchSlots : Prop :=
  ∀ (p : Fin 64) (k : Fin 4) (v : Word) (s : State),
    (s.bit (R.HLS1_ARM p k) = false → Answers (.hostLaunchArm p k v) s fun t =>
      t.reg (A.HLS1 p k) = (v ||| 0x80000000) &&& hls1Mask ∧ t.bit (R.HLS1_ARM p k) = true ∧ RegsFrame s t [A.HLS1 p k] ∧ t = { s with regs := t.regs, hlsLate := t.hlsLate }) ∧
    (Answers (.hostLaunchDisarm p k v) s fun t =>
      t.bit (R.HLS1_ARM p k) = false ∧ RegsFrame s t [A.HLS1 p k] ∧ t = { s with regs := t.regs, hlsLate := t.hlsLate }) ∧
    (NoActions s → s.bit (R.HLS1_ARM p k) = true → (s.egr p).frac = 0 → s.hlsTime p k ≤ (s.dom (s.rd (R.HLS1_DOM p k))).time →
      ((s.egr p).tx = none → Answers (.hostLaunchFire p k) s fun t =>
        t.bit (R.HLS1_ARM p k) = false ∧ t.bit (R.HLS3_DONE p k) = true ∧ (storeGet (fun _ => false) s.hlsLate (4 * p + k) = true → t.bit (R.HLS3_LATE p k) = true) ∧ t.tb = s.tb ∧
        (s.mode.fwd = true → s.portUp p = true → (s.egr p).due = [] → 0 < (s.egrQ (8 * p + s.rd (R.HLS1_CLASS p k))).q.length →
          (t.egr p).due = [{ cls := some (s.rd (R.HLS1_CLASS p k)), slot := some k.val, tb := s.tb, prio := 16 + k.val }]) ∧
        (s.mode.fwd = false → t.bit (R.HLS3_MISS p k) = true ∧ t.egresses = s.egresses)) ∧
      ((s.egr p).tx.isSome = true → Answers (.hostLaunchFire p k) s fun t => t = s)) ∧
    (NoActions s → s.bit (R.HLS1_ARM p k) = true → (s.egr p).tx = none →
      let s1 := s.passTo (s.rd (R.HLS1_DOM p k)) ((s.hlsTime p k : Nat) : Int)
      s1.slotDue p k = true → Answers (.hostLaunchFire p k) s fun t => t = s1.hlsFire p k) ∧
    (s.bit (R.HLS1_ARM p k) = false → (s.egr p).tx.isSome = true → Answers (.hostLaunchFire p k) s fun t => t = s)

/-- R304: a recovery function without a frame for its RESET time takes the next frame whatever its number, counts the reset and starts its timer anew; while it waits so, and where it is not valid or has no RESET time, nothing happens. -/
def Rules.SequenceReset : Prop :=
  ∀ (f : Fin 4096) (s : State),
    (s.bit (R.SREC0_VALID f) = true → s.rd (R.SREC0_RESET f) ≠ 0 → s.bit (R.SREC1_TAKEANY f) = false →
      Answers (.seqResetTimeout f) s fun t => t.bit (R.SREC1_TAKEANY f) = true ∧ (t.seqHist f).timer = t.tb ∧
        (s.sys.timebase = true → t.tb = max s.tb ((s.seqHist f).timer + s.rd (R.SREC0_RESET f) * 1000000)) ∧
        (s.ctr (.srec f 5) + 1 < 4294967295 → t.ctr (.srec f 5) = s.ctr (.srec f 5) + 1) ∧ ∀ g, g ≠ f.val → t.seqHist g = s.seqHist g) ∧
    (s.bit (R.SREC1_TAKEANY f) = true ∨ s.bit (R.SREC0_VALID f) = false ∨ s.rd (R.SREC0_RESET f) = 0 → Answers (.seqResetTimeout f) s fun t => t = s)

/-- R100, R101, R304: flow control, and the reset of a recovery function. -/
def Obligations.FlowAndSequence : Prop := Rules.FlowControl ∧ Rules.SequenceReset

/-! ## Time domains, pins and the TDC (chapters 7 and 9) -/

/-- The δ that a write of `DOM_STEPREQ_SEC_HI` with GO submits. -/
def submitted (s : State) (d : Nat) (v : Word) : Int := (s.setReg (A.DOM_STEPREQ_SEC_HI d) (v &&& 0x4000FFFF)).stepReq d

/-- R193, R195, R196, R215: with its loop open a domain takes a rate word in two halves, clamped, and slews or pends a submitted step by its size, or refuses it; with its loop closed every such write is ignored and reported; a slew that ends leaves no remainder. -/
def Obligations.DomainRatesAndSteps : Prop :=
  ∀ (d : Fin 8) (v : Word) (s : State),
    (s.loopOpen d = true →
      Answers (.domRateLoWrite d v) s (fun t => (t.dom d).rateLo = some v.toNat ∧ (∀ k, k ≠ d.val → t.dom k = s.dom k) ∧ t = { s with domains := t.domains }) ∧
      Answers (.domRateHiWrite d v) s (fun t => (t.dom d).rateNext = some (clampRate (rateOfBits (v.toNat % 65536 * 4294967296 + (s.dom d).lowHalf))) ∧ (t.dom d).rateLo = none ∧
        (t.dom d).time = (s.dom d).time ∧ (∀ k, k ≠ d.val → t.dom k = s.dom k) ∧ t = { s with domains := t.domains, regs := t.regs }) ∧
      ((submitted s d v).natAbs ≤ s.thresh d → Answers (.domStepreqGo d v) s fun t =>
        (t.dom d).slewRem = submitted s d v ∧ (t.dom d).step = none ∧ (t.dom d).time = (s.dom d).time ∧ RegsFrame s t [A.DOM_STEPREQ_SEC_HI d]) ∧
      (s.thresh d < (submitted s d v).natAbs → s.bit (R.DOM_CTRL_STEP_EN d) = true → Answers (.domStepreqGo d v) s fun t =>
        (t.dom d).step = some (submitted s d v, s.tb) ∧ (t.dom d).slewRem = 0 ∧ (t.dom d).time = (s.dom d).time ∧ RegsFrame s t [A.DOM_STEPREQ_SEC_HI d]) ∧
      (s.thresh d < (submitted s d v).natAbs → s.bit (R.DOM_CTRL_STEP_EN d) = false → (s.dom d).lockedSeen = true → Answers (.domStepreqGo d v) s fun t =>
        t.bit (R.DOM_STAT_STEP_REFUSED d) = true ∧ t.domains = s.domains)) ∧
    (s.loopOpen d = false →
      Answers (.domRateLoWrite d v) s (fun t => t.bit (R.DOM_STAT_WIGN d) = true ∧ RegsFrame s t [A.DOM_STAT d] ∧ OnlyRegs s t) ∧
      Answers (.domRateHiWrite d v) s (fun t => t.bit (R.DOM_STAT_WIGN d) = true ∧ RegsFrame s t [A.DOM_STAT d] ∧ OnlyRegs s t) ∧
      Answers (.domStepreqGo d v) s (fun t => t.bit (R.DOM_STAT_WIGN d) = true ∧ RegsFrame s t [A.DOM_STAT d] ∧ OnlyRegs s t)) ∧
    (∀ n, s.sys.timebase = true → 0 < n → slewEdges (s.slewPpm d) (slewBound (s.slewPpm d) (s.dom d)) (s.dom d) = some n →
      Answers (.slewEnd d) s fun t => (t.dom d).slewRem = 0 ∧ t.tb = s.tb + n)

/-- R202: a snapshot request pends once; its latch takes the eight times and `TB_CYC` at one edge and sets DONE. -/
def Rules.Snapshots : Prop :=
  ∀ s : State,
    (s.snapPend = false → Answers .tbSnapRequest s fun t => t.snapPend = true ∧ t.bit R.TB_SNAP_DONE = false ∧ t = { s with regs := t.regs, snapPend := t.snapPend } ∧ RegsFrame s t [A.TB_SNAP]) ∧
    (s.snapPend = true → Answers .tbSnapRequest s fun t => t = s) ∧
    (s.snapPend = true → Answers .tbSnapLatch s fun t => t.snapPend = false ∧ t.bit R.TB_SNAP_DONE = true ∧
      (∀ d < 8, ∀ i < 4, t.reg (snapAddr d + 4 * i) = (timeWords (s.dom d).time).getD i 0) ∧
      t.reg A.TB_SNAPCYC_LO = .ofNat s.tb ∧ t.reg (A.TB_SNAPCYC_LO + 4) = .ofNat (s.tb / 4294967296) ∧ t = { s with regs := t.regs, snapPend := t.snapPend })

/-- R203, R204: word 1 arms and disarms a trigger; one that fires disarms, is done, and drives its pin to its level; one whose time was past when it was armed is late, and fires at the TIME edge that follows. -/
def Rules.Triggers : Prop :=
  ∀ (k : Fin 16) (v : Word) (s : State),
    (s.bit (R.TRG1_ARM k) = false → Answers (.triggerArm k v) s fun t =>
      t.reg (A.TRG1 k) = (v ||| 0x80000000) &&& trg1Mask ∧ t.bit (R.TRG1_ARM k) = true ∧ t.touts = s.touts ∧ t.domains = s.domains) ∧
    Answers (.triggerDisarm k v) s (fun t => t.bit (R.TRG1_ARM k) = false ∧ t.lateArm k = 0 ∧ t.touts = s.touts ∧ t.domains = s.domains) ∧
    (s.bit (R.TRG1_ARM k) = true → s.mode.afterBoot = true → Answers (.triggerFire k) s fun t =>
      t.bit (R.TRG1_ARM k) = false ∧ t.bit (R.TRG3_DONE k) = true ∧ (s.lateArm k ≠ 0 → t.bit (R.TRG3_LATE k) = true ∧ (s.sys.timebase = true → t.tb = max s.tb (s.lateArm k))) ∧
      (s.bit (R.TRG1_PINA k) = false → ∀ q < 8, (t.tout q).level = (s.tout q).level ∧ (t.tout q).cfg = (s.tout q).cfg) ∧
      (s.lateArm k ≠ 0 → s.bit (R.TRG1_PINA k) = true → (s.tout (s.rd (R.TRG1_PIN k))).cfg.mode = 6 → s.mode.pinsMove = true →
        (s.tout (s.rd (R.TRG1_PIN k))).lastEdge = none → (s.tout (s.rd (R.TRG1_PIN k))).cfg.qual = false → (s.tout (s.rd (R.TRG1_PIN k))).cfg.claim = false →
        (t.tout (s.rd (R.TRG1_PIN k))).level = s.bit (R.TRG1_LVL k)))

/-- R202 to R204: snapshots and triggers. -/
def Obligations.SnapshotsAndTriggers : Prop := Rules.Snapshots ∧ Rules.Triggers

/-- R205, R207: a PPS generator raises a pin that no pulse, mute or recent edge holds back, and the pulse that it begins ends by lowering it. -/
def Rules.GeneratorPulses : Prop :=
  ∀ (p : Fin 8) (s : State), s.mode.pinsMove = true →
    (∀ a e, (s.tout p).due = some (a, e) → 64 * s.tb ≤ a + 64 → (s.tout p).cfg.mode = 3 → (s.tout p).pulseEnd = none → (s.tout p).level = false → (s.tout p).lastEdge = none → s.muted p = false →
      Answers (.toutGeneratorEdge p) s fun t => (t.tout p).level = true ∧ (t.tout p).lastEdge = some a ∧ (t.tout p).pulseEnd = some (s.toutDom p, e + s.highTime p) ∧
        (t.tout p).due = none ∧ (∀ k, k ≠ p.val → t.tout k = s.tout k) ∧ t.regs = s.regs) ∧
    (∀ d e, (s.tout p).pulseEnd = some (d, e) → (s.tout p).cfgNext = none → Answers (.toutPulseEnd p) s fun t =>
      (t.tout p).level = false ∧ (t.tout p).pulseEnd = none ∧ (t.tout p).cfg = (s.tout p).cfg ∧
        (∀ k : Fin 8, k ≠ p → (t.tout k).level = (s.tout k).level ∧ (t.tout k).cfg = (s.tout k).cfg ∧ (t.tout k).pulseEnd = (s.tout k).pulseEnd)) ∧
    ((s.tout p).pulseEnd = none → Answers (.toutPulseEnd p) s fun t => t = s)

/-- R212, R213, R254, R255: a selected edge on an armed pin starts the hold-off, and its record, where none came 8 ns before, is queued; a transition in the hold-off is counted and queued nowhere; the hold-off's end arms the pin again. -/
def Rules.TimestampInputs : Prop :=
  ∀ (p : Fin 8) (rise : Bool) (code : BitVec 12) (s : State),
    (s.mode.afterBoot = true → s.holding p (s.tinAt p code.toNat) = false → s.bit (R.TIN_CFG_EN p) = true → edgeSel (s.rd (R.TIN_CFG_EDGE p)) rise = true → (s.tin p).queue.length < 64 →
      (s.tin p).wait = [] → (∀ x, (s.tin p).entered = some x → x + 8 ≤ s.tb) →
      Answers (.tinEdge p rise code) s fun t => (t.tin p).holdTo = some (s.tinAt p code.toNat + ((s.holdoffNs p * nsUnit : Nat) : Int)) ∧ (t.tin p).pin = rise ∧
        (t.tin p).entered = some s.tb ∧ (∀ k, k ≠ p.val → t.tin k = s.tin k) ∧
        ∃ r, (t.tin p).queue = (s.tin p).queue ++ [r] ∧ r.rise = rise ∧ r.epoch = (s.dom (s.rd (R.TIN_CFG_DOM p))).epoch % 256 ∧
          (s.tdcFailed (66 + p.val) = true → r.coarse = true)) ∧
    (∀ c ∈ [Instr.tinEdge p rise code, .tinTransitionSuppressed p rise],
      s.holding p (s.tinAt p code.toNat) = true → s.holding p ((s.tb * nsUnit : Nat) : Int) = true → Answers c s fun t =>
        (t.tin p).pin = rise ∧ (t.tin p).queue = (s.tin p).queue ∧ (t.tin p).holdTo = (s.tin p).holdTo ∧
        (s.ctr (.tdcPin p 1) + 1 < 4294967295 → t.ctr (.tdcPin p 1) = s.ctr (.tdcPin p 1) + 1)) ∧
    (s.holding p ((s.tb * nsUnit : Nat) : Int) = false → Answers (.tinTransitionSuppressed p rise) s fun t => t = s) ∧
    (∀ h, (s.tin p).holdTo = some h → Answers (.tinHoldoffEnd p) s fun t => (t.tin p).holdTo = none ∧ ((s.tin p).wait = [] → (t.tin p).queue = (s.tin p).queue) ∧
      (s.sys.timebase = true → h ≤ ((t.tb * nsUnit : Nat) : Int)) ∧ (h ≤ ((s.tb * nsUnit : Nat) : Int) → t = s.setTin p { s.tin p with holdTo := none })) ∧
    ((s.tin p).holdTo = none → Answers (.tinHoldoffEnd p) s fun t => t = s)

/-- R205, R207, R212, R213, R254: generator pulses and timestamp inputs. -/
def Obligations.PinsAndTimestamps : Prop := Rules.GeneratorPulses ∧ Rules.TimestampInputs

/-- R228, R251, R261: the last scaling pair of a channel is kept; a tracker locks after 4096 valid measurements whose fit leaves a small residual; a channel that has drifted becomes pending at its sensor's reading, and a reading of 112 °C enters HALT. -/
def Rules.ChannelMeasurements : Prop :=
  ∀ s : State,
    (∀ (c : Fin 84) (a b : BitVec 12), Answers (.tdcScalePair c a b) s fun t =>
      (t.tdc c).pair = some (a.toNat, b.toNat) ∧ (t.tdc c).seed = (s.tdc c).seed ∧ (∀ k, k ≠ c.val → t.tdc k = s.tdc k) ∧ t = { s with tdcs := t.tdcs }) ∧
    (∀ (p : Fin 64) (code : BitVec 12), s.bit (R.PTP_PORT_FINE p) = true → (s.link p).up = true → (s.measure p code.toNat).2.isSome = true →
      Answers (.trackerSample p code) s fun t => (t.tracker p).ms.length = min 4096 ((s.tracker p).ms.length + 1) ∧ (∀ q, q ≠ p.val → t.tracker q = s.tracker q) ∧
        (t.bit (R.PTP_PSTAT_FINE_LOCK p) = true ↔ 4095 ≤ (s.tracker p).ms.length ∧ (t.tracker p).tight = true)) ∧
    (∀ (c : Fin 84) (x : Int), x < 400 → (s.setTemp (min 8 (calGroup c)) x).calCalled c = true → Answers (.calPending c x) s fun t =>
      t.bit (R.TDC_CHSTAT_PEND c) = true ∧ t.temp (min 8 (calGroup c)) = x ∧ t.mode = s.mode ∧ ∀ a, (∀ k : Fin 84, a ≠ A.TDC_CHSTAT k) → t.reg a = s.reg a) ∧
    (∀ (c : Fin 84) (x : Int), 448 ≤ x → Answers (.calPending c x) s fun t => t.mode = .halt ∧ t.sys.hot = true)

/-- R258 to R267: the phases of a calibration run in order, from its start on a group that holds a grant to the acceptance or rejection of its table. -/
def Rules.CalibrationRuns : Prop :=
  ∀ (g : Fin 10) (s : State),
    (∀ c own, s.calMayStart g = true → s.cal g = none → g.val ∈ s.power.calGrant → s.spareFree g = true → s.calFirst (calChans g) = some c → s.spareReady g = true →
      s.bit (R.TDC_CHSTAT_PEND (calSpare g)) = false → Answers (.calRunStart g own) s fun t =>
        t.cal g = some { chan := c, phase := .shadow, mon := s.calMon c own } ∧ t.bit (R.TDC_CHSTAT_RUN c) = true ∧ (t.rd R.TDC_CALSTAT_BUSY).testBit g = true ∧
        t = { s with regs := t.regs, cals := t.cals }) ∧
    (∀ r, s.cal g = some r → r.chan < 74 →
      (r.phase = .shadow → ∀ x, Answers (.calShadowEnd g x) s fun t => t.cal g = some { r with phase := .collect } ∧ t.rd (R.TDC_CHDELTA_DELTA r.chan) = x.toNat ∧
        t.rd (R.TDC_CHSTAT_STATE (calSpare g)) = 4 ∧ t.rd (R.TDC_CHSTAT_SUBST (calSpare g)) = r.chan ∧ t.rd (R.TDC_CHSTAT_SUBST r.chan) = calSpare g) ∧
      (r.phase = .collect → ∀ counts moved, Answers (.calCollectEnd g counts moved) s fun t =>
        t.cal g = some { r with phase := .compute, counts := counts, moved := moved } ∧ t = { s with cals := t.cals }) ∧
      (r.phase = .compute → r.moved = true → countsOk r.counts = true → ∀ own, Answers (.calComputeEnd g own) s fun t =>
        t.cal g = some { r with phase := .verify } ∧ t = { s with cals := t.cals }) ∧
      (r.phase = .compute → r.moved = true → countsOk r.counts = false → ∀ own, Answers (.calComputeEnd g own) s fun t =>
        t.cal g = none ∧ (t.tdc r.chan).rejects = (s.tdc r.chan).rejects + 1 ∧ ∀ k, t.bin r.chan k = s.bin r.chan k) ∧
      (r.phase = .verify → ∀ (mean : Int) rms, mean.natAbs ≤ 2048 → rms ≤ 2048 → Answers (.calVerifyEnd g mean rms) s fun t =>
        t.cal g = none ∧ t.rd (R.TDC_CHSTAT_GRADE r.chan) = 2 ∧ t.bit (R.TDC_CHSTAT_PEND r.chan) = false ∧ (t.tdc r.chan).seed = none ∧ (t.tdc r.chan).rejects = 0) ∧
      (r.phase = .verify → ∀ (mean : Int) rms, 2048 < rms → Answers (.calVerifyEnd g mean rms) s fun t =>
        t.cal g = none ∧ (t.tdc r.chan).rejects = (s.tdc r.chan).rejects + 1 ∧ ∀ k, t.bin r.chan k = s.bin r.chan k) ∧
      (r.phase = .inplace → ∀ counts, countsOk counts = true → Answers (.calInplaceEnd g counts true) s fun t =>
        t.cal g = none ∧ t.rd (R.TDC_CHSTAT_GRADE r.chan) = 2 ∧ t.bit (R.TDC_CHSTAT_PEND r.chan) = false ∧ (t.tdc r.chan).seed = none))

/-- R228, R251, R258 to R267: what is measured of a channel, and the phases of its calibration. -/
def Obligations.Calibration : Prop := Rules.ChannelMeasurements ∧ Rules.CalibrationRuns

/-! ## PTP messages and reference selection (chapters 8 and 10) -/

/-- A whole frame with message `m` reaches the firmware as a message of the ordinary instance d on port p: the port is up and forwards, no action is due, the MAC finds no fault, and no claim filter, key or in-band agent stands in the way. -/
def ToInstance (s : State) (p d : Nat) (r : RxFrame) (m : PtpMsg) : Prop :=
  s.mode.fwd = true ∧ s.mode ≠ .doze ∧ s.actDue = none ∧ s.portUp p = true ∧ s.agent.en = false ∧ r.fcsOk = true ∧ r.macErr = false ∧ s.bit (R.PTP_PORT_TWIN p) = false ∧
  r.pkt.ptp = some m ∧ s.ptpPort p = true ∧ s.rxInst p r.pkt m = some d ∧ s.bit (R.PTP_INST_AUTH d) = false ∧ m.malformed = false ∧ m.echo = none ∧ s.tcType d = 0

/-- R220, R221, R222, R236, Table 10-1: an Announce of a better or the same foreign master is kept and goes nowhere else, unless the firmware has no capacity; a master port sends its own Announce, with the next number of its instance, to the queue of its class; a disabled instance sends nothing; the oldest held correction is discarded once it has been held for 1 s. -/
def Obligations.PtpMessages : Prop :=
  ∀ (p : Fin 64) (d : Fin 8) (s : State),
    (∀ (r : RxFrame) (m : PtpMsg) (a : PtpAnn), ToInstance s p d r m → m.mtype = 11 → m.ann = some a →
      ((∀ o, s.foreignOf p d = some o → o.ident = m.ident ∨ keyLt (annKey a m.ident.toNat) (annKey o.ann o.ident.toNat) = true) → m.ident ≠ s.portIdent d p →
        s.asCapable p d = true → (∀ l, m.path = some l → BitVec.ofNat 64 (s.dsetNat 0x06 d 0) ∉ l) →
        Answers (.ptpFrameReceive p r false) s fun t => t.foreignOf p d = some { ident := m.ident, ann := a, tb := s.tb, path := m.path, peer := s.peerOf p r.pkt } ∧
          (∀ k, k ≠ p.val → t.ptp k = s.ptp k) ∧ t.voqs = s.voqs ∧ t.egrQs = s.egrQs ∧ t.mode = s.mode) ∧
      (s.asCapable p d = false → Answers (.ptpFrameReceive p r false) s fun t => t.ptps = s.ptps ∧ t.voqs = s.voqs ∧ t.egrQs = s.egrQs) ∧
      Answers (.ptpFrameReceive p r true) s fun t => t.ptps = s.ptps ∧ t.voqs = s.voqs ∧ t.egrQs = s.egrQs ∧ OnlyBus s t ∧
        t.ctr (.fwOvf d) = min (s.ctr (.fwOvf d) + 1) (2 ^ 32 - 1)) ∧
    (s.mode.fwd = true → s.mode ≠ .doze → s.bit (R.PTP_INST_EN d) = true → (s.rd (R.PTP_PORT_INST p)).testBit d = true → s.portUp p = true → s.tcType d = 0 →
      s.portState d p = 6 → s.rd (R.PTP_PORT_TRANSPORT p) = 1 → s.bit (R.PTP_INST_AUTH d) = false →
      let n := storeGet (fun _ => 0) (s.ptp p).seqs (16 * d + 11)
      let q := 8 * p + s.rd (R.PTP_INST_AUX_TCLASS d)
      Answers (.ptpMessageSend p d 11) s fun t =>
        storeGet (fun _ => 0) (t.ptp p).seqs (16 * d + 11) = (n + 1) % 65536 ∧
        (∃ x m, (t.egrQ q).q = (s.egrQ q).q ++ [x] ∧ x.complete = true ∧ x.frame.pkt.ptp = some m ∧ m.mtype = 11 ∧ m.ann.isSome = true ∧
          m.seqId = .ofNat 16 n ∧ m.ident = s.portIdent d p ∧ m.claim = s.fwClaim) ∧
        (∀ k, k ≠ q → t.egrQ k = s.egrQ k) ∧ t = { s with egrQs := t.egrQs, nextId := t.nextId, ptps := t.ptps }) ∧
    (s.bit (R.PTP_INST_EN d) = false → ∀ ty, Answers (.ptpMessageSend p d ty) s fun t => t = s) ∧
    ((s.ptp p).tc = [] → Answers (.tcEntryExpire p) s fun t => t = s) ∧
    ∀ e l, (s.ptp p).tc = e :: l → Answers (.tcEntryExpire p) s fun t =>
      (t.ptp p).tc = l ∧ (∀ k, k ≠ p.val → t.ptp k = s.ptp k) ∧ (s.sys.timebase = true → t.tb = max s.tb (e.tb + tcLife)) ∧
        (e.tb + tcLife ≤ s.tb → t = { s with ptps := t.ptps })

/-- R51, R65, R238, Table 2-9: when SETTLE ends, its seconds after the last step, the gate of the port's references opens, and a domain that the gate held in HOLDOVER with its candidate still selected goes to ACQUIRE unless REFCLK is lost or the mode is RECOVER; without a SETTLE nothing happens. -/
def Obligations.PathDelaySettles : Prop :=
  ∀ (p : Fin 64) (s : State),
    ((s.ptp p).settle = none → Answers (.pdSettleEnd p) s fun t => t = s) ∧
    ∀ base first last, (s.ptp p).settle = some (base, first, last) → Answers (.pdSettleEnd p) s fun t =>
      (t.ptp p).settle = none ∧ t.bit (R.PTP_PSTAT_PD_GATED p) = false ∧ (∀ k, k ≠ p.val → t.ptp k = s.ptp k) ∧
        (s.sys.timebase = true → t.tb = max s.tb (last + s.settleNs p)) ∧
        ∀ d < 8, ((s.ref d).gatedBy = some p.val → (t.ref d).gatedBy = none ∧
            ∀ k, (s.dom d).tstate = .holdover → s.selOf d = some k → s.cstate d k = 4 →
              (s.sys.refclkLost = false → s.mode ≠ .recover → (t.dom d).tstate = .acquire) ∧
              (s.sys.refclkLost = true ∨ s.mode = .recover → (t.dom d).tstate = .holdover)) ∧
          ((s.ref d).gatedBy ≠ some p.val → t.ref d = s.ref d ∧ (last + s.settleNs p ≤ s.tb → t.dom d = s.dom d))

/-- R279, R284, R285: a lost signal takes an enabled candidate to NOSIGNAL and starts its drift window anew; a QUALIFYING candidate qualifies when its wait of WTR seconds ends; an evaluation in FREE with the qualified REFCLK as the one enabled candidate selects it and goes to ACQUIRE, and one with no candidate reports that. -/
def Obligations.CandidatesAndSelection : Prop :=
  ∀ (d : Fin 8) (k : Fin 16) (s : State),
    (s.cstate d k = 0 → Answers (.candidateSignalLost d k) s fun t => t = s) ∧
    (s.cstate d k ≠ 0 → Answers (.candidateSignalLost d k) s fun t =>
      t.cstate d k = 1 ∧ (s.cstate d k ≠ 1 → (t.cand d k).fs = [] ∧ (t.cand d k).ms = []) ∧ (∀ j : Fin 16, j ≠ k → t.cstate d j = s.cstate d j ∧ t.cand d j = s.cand d j) ∧
        (s.cstate d k ≠ 1 → t.bit (R.REF_CHIST_LOS d k) = true) ∧ (s.ckind d k = 0 → t.foreignOf (s.csrc d k) d = none) ∧ (s.ckind d k ≠ 0 → t.ptps = s.ptps)) ∧
    (s.cstate d k = 2 → Answers (.candidateWtrExpire d k) s fun t => t.cstate d k = 3 ∧
      (s.sys.timebase = true → t.tb = max s.tb ((s.cand d k).wtr + s.wtrNs d)) ∧ ((s.cand d k).wtr + s.wtrNs d ≤ s.tb → RegsFrame s t [A.REF_CSTAT d k] ∧ OnlyRegs s t)) ∧
    (s.cstate d k ≠ 2 → Answers (.candidateWtrExpire d k) s fun t => t = s) ∧
    (s.maySelect d = true → s.selOf d = none → s.bit (R.REF_DSTAT_FORCED d) = false → (s.dom d).tstate = .free →
      ((∀ j < 16, s.bit (R.REF_CCFG_EN d j) = false) → Answers (.refSelect d []) s fun t =>
        t.selOf d = none ∧ t.bit (R.REF_DHIST_NOCAND d) = true ∧ (∀ j < 16, t.cstate d j = 0) ∧ (t.dom d).tstate = .free ∧ t.mode = s.mode) ∧
      (s.ckind d k = 3 → s.bit (R.REF_CCFG_EN d k) = true → s.bit (R.REF_CCFG_MON d k) = false → s.cstate d k = 3 → s.hqual = true →
        (∀ j < 16, j ≠ k.val → s.bit (R.REF_CCFG_EN d j) = false ∧ s.cstate d j = 0) → Answers (.refSelect d []) s fun t =>
          t.selOf d = some k.val ∧ t.cstate d k = 4 ∧ (t.dom d).tstate = .acquire ∧ t.bit (R.REF_DHIST_SWITCH d) = true ∧
            (∀ j < 8, j ≠ d.val → t.dom j = s.dom j)))

/-- R288, R290, R293, Table 10-4: lock is achieved from ACQUIRE once its criteria have held for `LOCK_T`, and lost from LOCKED once the phase has lain beyond four times `LOCK_PH` for it; the time of the advertised holdover class ends `HO_SPEC` after the entry; every 4 s a domain that does not follow the twin takes one sample of its rate, valid where nothing disturbed it. -/
def Rules.LockAndHistory : Prop :=
  ∀ (d : Fin 8) (s : State),
    (∀ k b, (s.dom d).tstate = .acquire → (s.ref d).good = some b → s.lockDetail d = some k → Answers (.lockAchieved d) s fun t =>
      (t.dom d).tstate = .locked ∧ (t.dom d).lockedSeen = true ∧ (b + s.lockNs d ≤ s.tb → ∀ j < 8, j ≠ d.val → t.dom j = s.dom j) ∧
        (s.sys.timebase = true → t.tb = max s.tb (b + s.lockNs d)) ∧
        (d.val = s.orbit.grid.dom → s.mode = .acquire → t.mode = .locked) ∧ (d.val ≠ s.orbit.grid.dom → t.mode = s.mode)) ∧
    ((s.dom d).tstate ≠ .acquire ∨ (s.ref d).good = none ∨ s.lockDetail d = none → Answers (.lockAchieved d) s fun t => t = s) ∧
    (∀ k b, (s.dom d).tstate = .locked → (s.ref d).wide = some b → s.lockDetail d = some k → Answers (.lockLost d) s fun t =>
      (t.dom d).tstate = .acquire ∧ t.bit (R.REF_DHIST_LOCK_LOST d) = true ∧ (b + s.lockNs d ≤ s.tb → ∀ j < 8, j ≠ d.val → t.dom j = s.dom j) ∧
        (s.sys.timebase = true → t.tb = max s.tb (b + s.lockNs d)) ∧
        (d.val = s.orbit.grid.dom → s.mode = .locked → t.mode = .acquire)) ∧
    ((s.dom d).tstate ≠ .locked ∨ (s.ref d).wide = none ∨ s.lockDetail d = none → Answers (.lockLost d) s fun t => t = s) ∧
    (∀ b, (s.dom d).tstate = .holdover → (s.ref d).hoTb = some b → Answers (.hoSpecExpire d) s fun t =>
      let e := b + s.rd (R.REF_DHOLD2_HO_SPEC d) * 1000000000
      (t.ref d).hoDone = true ∧ (∀ j, j ≠ d.val → t.ref j = s.ref j) ∧ (s.sys.timebase = true → t.tb = max s.tb e) ∧ (e ≤ s.tb → t = { s with refs := t.refs })) ∧
    ((s.dom d).tstate ≠ .holdover ∨ (s.ref d).hoTb = none → Answers (.hoSpecExpire d) s fun t => t = s) ∧
    Answers .historySample s (fun t => t = { s with domains := t.domains, refs := t.refs } ∧ (t.dom d).tstate = (s.dom d).tstate ∧ (t.dom d).rate = (s.dom d).rate ∧
      (s.following d = true → t.ref d = s.ref d ∧ t.dom d = s.dom d) ∧
      (s.following d = false → (t.ref d).hist =
        ((s.rateMean d 4000000000, !((s.dom d).histBad || s.histBadNow d)) :: (s.ref d).hist).take 16384))

/-- R292: REFCLK beyond its limits against a selected network candidate is reported and fails every enabled REFCLK candidate; once it has been within them for `DWIN` seconds the report ends; with no network candidate selected neither is judged. -/
def Rules.RefclkRange : Prop :=
  ∀ s : State,
    (s.netSelected = true →
      (s.refFar = true → Answers .refclkOutOfRange s fun t => t.bit R.REF_GLB_RANGE_NOW = true ∧ t.bit R.REF_GLB_RANGE = true ∧ t.sys.inRange = none ∧
        ∀ d < 8, ∀ k < 16, t.cstate d k = if s.bit (R.REF_CCFG_EN d k) && s.ckind d k == 3 then 6 else s.cstate d k) ∧
      (s.refFar = false → Answers .refclkOutOfRange s fun t => t = s) ∧
      (s.sys.inRange = none → Answers .refclkRangeRestore s fun t => t = s) ∧
      ∀ b, s.sys.inRange = some b → Answers .refclkRangeRestore s fun t =>
        let e := b + s.dwin s.orbit.grid.dom * 1000000000
        t.bit R.REF_GLB_RANGE_NOW = false ∧ (s.sys.timebase = true → t.tb = max s.tb e) ∧ (∀ d < 8, (t.dom d).tstate = (s.dom d).tstate) ∧
          (e ≤ s.tb → RegsFrame s t [A.REF_GLB] ∧ t = { s with regs := t.regs, domains := t.domains } ∧ ∀ d < 8, (t.dom d).time = (s.dom d).time)) ∧
    (s.netSelected = false → Answers .refclkOutOfRange s (fun t => t = s) ∧ Answers .refclkRangeRestore s (fun t => t = s))

/-- R288, R290 to R292, Table 10-4: lock, holdover history and REFCLK. -/
def Obligations.LockAndRefclk : Prop := Rules.LockAndHistory ∧ Rules.RefclkRange

/-! ## The twin and proving (chapter 11) -/

/-- R37, R310, R312, R313, R316: a record on a lane shows its link; a heartbeat is heard and kept, and a higher claim in it makes an ACTIVE a Moon, at the next Orbit start; a claim frame with a wrong CRC is none; a pin loss is reported for the judgement. The role itself changes with none of them. -/
def Rules.TwinIsHeard : Prop :=
  ∀ s : State,
    (∀ (l : Fin 2) (code : BitVec 12) (h : TwHeart), s.mode.afterBoot = true → s.bit R.TW_CFG_EN = true →
      Answers (.twinRecordReceive l code (.heart h)) s fun t =>
        (t.rd R.TW_STAT_LINK).testBit l = true ∧ t.twin.laneHeard.testBit l = true ∧ t.twin.heardLink = true ∧ t.twin.last = some h ∧ t.role = s.role ∧
          (s.role = .active → h.claim ≠ 0 → claimPrv h.claim.toNat = false → claimHigher h.claim.toNat s.ownClaim = true →
            t.twin.roleNext = some (.moon (claimGen h.claim.toNat) false true))) ∧
    (∀ (l : Fin 2) (code : BitVec 12) (r : TwinRec), s.mode.afterBoot = true → s.bit R.TW_CFG_EN = false →
      Answers (.twinRecordReceive l code r) s fun t => (t.rd R.TW_STAT_LINK).testBit l = true ∧ RegsFrame s t [A.TW_STAT] ∧
        t = { s with regs := t.regs, twin := { s.twin with laneHeard := t.twin.laneHeard } }) ∧
    (∀ c orb flags : Nat, c < 65536 → orb < 256 → flags < 256 → s.mode.afterBoot = true →
      (∀ b, b.toNat % 4294967296 = c + 65536 * orb + 16777216 * flags → b ≠ claimFrame c orb flags → Answers (.claimFrameReceive b) s fun t => t = s) ∧
      Answers (.claimFrameReceive (claimFrame c orb flags)) s fun t => t.bit R.TW_STAT_PINS = true ∧ t.twin.heardPins = true ∧ t.role = s.role ∧
        (s.bit R.TW_CFG_EN = false → t = { s with regs := t.regs, twin := { s.twin with heardPins := true } })) ∧
    Answers .claimPinLoss s (fun t => t.bit R.TW_STAT_PINS = false ∧ RegsFrame s t [A.TW_STAT] ∧ t = { s with regs := t.regs, twin := { s.twin with pinReport := true } })

/-- R313, R320, R321: the judgement counts the Orbits in which each lane and the pins stayed silent, up to eight; an aligned MOON that hears nothing takes control at the next Orbit start; a unit without a twin judges nothing. -/
def Rules.TwinIsJudged : Prop :=
  ∀ s : State,
    (s.bit R.TW_CFG_EN = true → s.mode.fwd = true → Answers .twinJudge s fun t =>
      t.twin.miss0 = (if s.twin.laneHeard.testBit 0 then 0 else min 8 (s.twin.miss0 + 1)) ∧
      t.twin.miss1 = (if s.twin.laneHeard.testBit 1 then 0 else min 8 (s.twin.miss1 + 1)) ∧
      t.twin.missPins = (if s.twin.heardPins && !s.twin.pinReport then 0 else min 8 (s.twin.missPins + 1)) ∧
      t.twin.heardLink = false ∧ t.twin.heardPins = false ∧ t.twin.laneHeard = 0 ∧ t.role = s.role ∧
      (s.role = .moon → s.bit R.TW_STAT_ORPHAN = false → s.bit R.TW_STAT_ALIGNED = true → s.twin.heardLink = false → s.twin.heardPins = false →
        s.twin.lossLink = false → s.twin.lossPins = false → t.twin.roleNext = some .eclipse)) ∧
    (s.bit R.TW_CFG_EN = false → Answers .twinJudge s fun t => t = s)

/-- R37, R310, R312, R313, R316, R320, R321: hearing the twin and judging whether it was heard. -/
def Obligations.TwinIsHeardAndJudged : Prop := Rules.TwinIsHeard ∧ Rules.TwinIsJudged

/-- R308, R315, R316, R324, R327: what each wait does when it runs out, and that it does nothing before: the join of a SOLO unit makes it ACTIVE with the generation after the highest heard, at the next Orbit start, and that of a Moon that has heard no twin since makes it an orphan Moon; a revert hold and an orphan hold ask for control; the twin slot and a claim filter slot empty. -/
def Obligations.TwinWaits : Prop :=
  ∀ s : State,
    (∀ x, s.twin.join = some x → x + s.joinNs ≤ s.tb → s.mode.fwd = true → s.role = .solo → s.twin.roleNext = none → Answers (.twinJoinTimeout none) s fun t =>
      t = { s with twin := { s.twin with join := none, roleNext := some (.active (match s.twin.genHeard with | some g => g + 1 | none => 1)) } }) ∧
    (∀ x tie, s.twin.join = some x → x + s.joinNs ≤ s.tb → s.mode.fwd = true → s.role = .moon → s.bit R.TW_STAT_ORPHAN = false →
      (s.twin.joinHeard = true → Answers (.twinJoinTimeout tie) s fun t => t = { s with twin := { s.twin with join := none } }) ∧
      (s.twin.joinHeard = false → Answers (.twinJoinTimeout tie) s fun t => t.bit R.TW_STAT_ORPHAN = true ∧ t.role = .moon ∧ t.twin.join = none ∧ t.twin.roleNext = none)) ∧
    (∀ x tie, s.twin.join = some x → s.tb < x + s.joinNs → Answers (.twinJoinTimeout tie) s fun t => t = s) ∧
    (∀ x, s.twin.revHold = some x → s.role = .moon →
      (x + secNs (s.rd R.TW_TIME_REVERT_HOLD) ≤ s.tb → Answers .revertHoldExpire s fun t =>
        t.bit R.TW_STAT_REVPEND = false ∧ RegsFrame s t [A.TW_STAT] ∧ t = { s with regs := t.regs, twin := { s.twin with revHold := none, roleNext := some .revert } }) ∧
      (s.tb < x + secNs (s.rd R.TW_TIME_REVERT_HOLD) → Answers .revertHoldExpire s fun t => t = s)) ∧
    (∀ k, s.role = .moon → s.bit R.TW_STAT_ORPHAN = true → s.mode.fwd = true → s.tstate = .locked → s.selOf s.orbit.grid.dom = some k → s.ckind s.orbit.grid.dom k ≠ 3 →
      s.bit (R.REF_CSTAT_UNCORR s.orbit.grid.dom k) = false → s.bit (R.REF_CSTAT_OUTVOTED s.orbit.grid.dom k) = false → s.twin.echoHigh = none →
      Answers .orphanHoldExpire s fun t => t = { s with twin := { s.twin with roleNext := some .eclipse } }) ∧
    (s.bit R.TW_STAT_ORPHAN = false → Answers .orphanHoldExpire s fun t => t = s) ∧
    (∀ c x, s.twin.slot = some (c, x) →
      (x + 100000000 * max 1 (s.rd R.TW_CFG_CWIN) ≤ s.tb → Answers .twinSlotExpire s fun t =>
        t.rd R.TW_CLAIM_TWIN = 0 ∧ t.rd R.TW_CLAIM_OWN = s.rd R.TW_CLAIM_OWN ∧ t.bit R.TW_STAT_HEARD = false ∧ RegsFrame s t [A.TW_CLAIM, A.TW_STAT] ∧
          t = { s with regs := t.regs, twin := { s.twin with slot := none } }) ∧
      (s.tb < x + 100000000 * max 1 (s.rd R.TW_CFG_CWIN) → Answers .twinSlotExpire s fun t => t = s)) ∧
    (∀ g : Fin 8,
      ((storeGet (fun _ => ({} : ClfAge)) s.clfAges g).hi + 1000000 * max 1 (s.rd (R.CLF_CFG_WIN g)) ≤ s.tb → Answers (.clfSlotExpire g false) s fun t =>
        t.rd (R.CLF_HI_CLAIM g) = 0 ∧ t.bit (R.CLF_HI_VALID g) = false ∧ RegsFrame s t [A.CLF_HI g] ∧ OnlyRegs s t) ∧
      ((storeGet (fun _ => ({} : ClfAge)) s.clfAges g).phi + 1000000 * max 1 (s.rd (R.CLF_CFG_WIN g)) ≤ s.tb → Answers (.clfSlotExpire g true) s fun t =>
        t.rd (R.CLF_PHI_CLAIM g) = 0 ∧ t.bit (R.CLF_PHI_VALID g) = false ∧ RegsFrame s t [A.CLF_PHI g] ∧ OnlyRegs s t)) ∧
    (s.bit R.TW_CFG_EN = true → s.mode.fwd = true → s.role ≠ .solo → Answers .timingExchangeSend s fun t => ∃ tx,
      tx.length = 8 ∧ t = { s with twin := { s.twin with exTx := tx }, freeCount := s.freeCount + 1, out := .twin 1 (.timing tx s.twin.exRx) :: .twin 0 (.timing tx s.twin.exRx) :: s.out }) ∧
    (s.role = .solo → Answers .timingExchangeSend s fun t => t = s)

/-- R328, R329, Table 11-6: the scheduled run comes due once a day and begins where PROVING may be entered; a run that waited in vain is skipped; a step that ends is judged and the next of the plan begins, or the run ends with its result. -/
def Obligations.ProvingRuns : Prop :=
  ∀ s : State,
    (s.bit R.PRV_SCHED_EN = true → min 86399 (s.rd R.PRV_SCHED_SOD) ≤ s.daySec.2 → s.prv.day ≠ some s.daySec.1 → s.prv.due = none → s.prv.request = none → s.prvMayEnter = true →
      s.rd R.PRV_CFG_PLAN % 8 ≠ 0 → Answers .provingScheduleDue s fun t =>
        t.mode = .proving ∧ t.bit R.PRV_STAT_RUN = true ∧ t.rd R.PRV_STAT_RESULT = 0 ∧ t.rd R.PRV_STAT_STEPS = 0 ∧ t.prv.plan = s.rd R.PRV_CFG_PLAN % 16 ∧
          t.prv.day = some s.daySec.1 ∧ t.prv.due = none ∧ t.prv.stepStart = s.tb) ∧
    (s.bit R.PRV_SCHED_EN = false ∨ s.prv.day = some s.daySec.1 → Answers .provingScheduleDue s fun t => t = s) ∧
    (∀ x, s.prv.due = some x → x + secNs 3600 ≤ s.tb → Answers .provingSkipped s fun t => t.prv = { s.prv with due := none } ∧ t.bit R.PRV_STAT_SKIPPED = true ∧ t = { s with regs := t.regs, prv := t.prv, pcie := t.pcie, out := t.out }) ∧
    (s.prv.due = none → Answers .provingSkipped s fun t => t = s) ∧
    (∀ x, s.prv.due = some x → s.tb < x + secNs 3600 → Answers .provingSkipped s fun t => t = s) ∧
    (s.tb < s.prv.stepStart + s.stepNs → Answers .provingStepEnd s fun t => t = s) ∧
    (s.bit R.PRV_STAT_RUN = false → Answers .claimStepTimeout s (fun t => t = s) ∧ Answers .provingStepEnd s fun t => t = s) ∧
    (s.bit R.PRV_STAT_RUN = true →
      (s.prv.step = 0 → s.prv.stepStart + secNs (max 1 (s.rd R.PRV_CFG_PATH_T)) ≤ s.tb → s.prv.plan.testBit 1 = true → Answers .provingStepEnd s fun t =>
        t.prv.step = 1 ∧ t.prv.stepStart = s.tb ∧ t.prv.plan = s.prv.plan ∧ t.mode = s.mode ∧ (t.rd R.PRV_STAT_STEPS).testBit 0 = (!s.prv.injBad || (s.rd R.PRV_STAT_STEPS).testBit 0)) ∧
      (s.prv.step = 2 → s.prv.stepStart + secNs (max 1 (s.rd R.PRV_CFG_TIMING_T)) ≤ s.tb → s.prv.plan = 4 → s.mode = .proving → Answers .provingStepEnd s fun t =>
        t.bit R.PRV_STAT_RUN = false ∧ t.mode = s.tstate.mode ∧ (s.timingPass = true → t.rd R.PRV_STAT_RESULT = 1) ∧
          (s.timingPass = false → (s.rd R.PRV_STAT_STEPS).testBit 2 = false → t.rd R.PRV_STAT_RESULT = 2)) ∧
      (s.prv.step = 1 → s.prv.met = none → s.prv.stepStart + secNs 10 ≤ s.tb → s.prv.plan.testBit 2 = true → Answers .claimStepTimeout s fun t =>
        t.prv.step = 2 ∧ t.prv.stepStart = s.tb ∧ t.regs = s.regs ∧ t.mode = s.mode))

/-! ## Frames by family: the parts of the state that a family of commands can touch; every other part is left as it was -/

/-- The engine instructions, and what stops, clears, swaps and samples an engine. -/
def engineRow : Instr → Bool
  | .runOverrun .. | .engFaultClear .. | .nop .. | .endRun .. | .add .. | .sub .. | .andOp .. | .orOp .. | .xorOp .. | .shl .. | .shr .. | .sar .. | .mul .. | .minu ..
  | .maxu .. | .movi .. | .jmp .. | .beq .. | .bne .. | .bltu .. | .bgeu .. | .blts .. | .bges .. | .bany .. | .bnone .. | .dbnz .. | .call .. | .ret .. | .ldL ..
  | .ldH .. | .get .. | .put .. | .evt .. | .gate .. | .sgate .. | .launch .. | .inj .. | .tout .. | .capt .. | .mark .. | .rswap .. | .engSwapReq .. | .smpEnable .. => true
  | _ => false

/-- The effects of actions. -/
def actionRow : Instr → Bool
  | .gateEffect .. | .launchEffect .. | .injEffect .. | .sgateEffect .. | .toutEffect .. | .captEffect .. | .markEffect .. | .rswapEffect .. => true
  | _ => false

/-- Reference selection, lock, the twin and proving: what the firmware does by itself. -/
def firmwareRow : Instr → Bool
  | .lockAchieved .. | .lockLost .. | .hoSpecExpire .. | .historySample .. | .candidateWtrExpire .. | .candidateSignalLost .. | .refclkOutOfRange ..
  | .refclkRangeRestore .. | .refSelect .. | .twinJudge .. | .twinJoinTimeout .. | .twinRecordReceive .. | .claimFrameReceive .. | .claimPinLoss ..
  | .revertHoldExpire .. | .orphanHoldExpire .. | .twinSlotExpire .. | .clfSlotExpire .. | .provingScheduleDue .. | .provingSkipped .. | .provingStepEnd ..
  | .claimStepTimeout .. | .timingExchangeSend .. | .pdSettleEnd .. => true
  | _ => false

/-- The fabric and the egress. -/
def egressRow : Instr → Bool
  | .ctUnderrun .. | .cellArrive .. | .reseqGapTimeout .. | .pfcReceive .. | .pfcTimerExpire .. | .pfcRepeat .. | .ptpMessageSend .. | .ageScan .. | .fullBitBroadcast ..
  | .fabricSlot .. | .rsvSwapRequest .. | .rsvBankSwap .. => true
  | _ => false

/-- The reception of frames. -/
def receiveRow : Instr → Bool
  | .frameReceive .. | .ptpFrameReceive .. => true
  | _ => false

/-- Links. -/
def linkRow : Instr → Bool
  | .linkDown .. | .linkUp .. | .laneModeTry .. => true
  | _ => false

/-- The egress MAC, its host launch slots and verification, and what is discarded by age. -/
def macRow : Instr → Bool
  | .txEnd .. | .frameStartDecision .. | .hostLaunchFire .. | .mmVerifyTimeout .. | .seqResetTimeout .. | .tcEntryExpire .. => true
  | _ => false

/-- Heat, and what ends forwarding. -/
def heatRow : Instr → Bool
  | .thermalAlarm .. | .thermalAlarmClear .. | .thermalTrip .. | .recoverTimeout .. | .calPending .. | .openEraseComplete .. => true
  | _ => false

/-- Time domains, pins and triggers. -/
def timeRow : Instr → Bool
  | .slewEnd .. | .domRateLoWrite .. | .domRateHiWrite .. | .domStepreqGo .. | .toutGeneratorEdge .. | .toutPulseEnd .. | .triggerArm .. | .triggerDisarm ..
  | .triggerFire .. | .tinEdge .. | .tinTransitionSuppressed .. | .tinHoldoffEnd .. | .hostLaunchArm .. | .hostLaunchDisarm .. | .tbSnapRequest .. | .tbSnapLatch .. => true
  | _ => false

/-- The TDC and its calibration. -/
def tdcRow : Instr → Bool
  | .calRunStart .. | .calShadowEnd .. | .calCollectEnd .. | .calComputeEnd .. | .calVerifyEnd .. | .calInplaceEnd .. | .tdcScalePair .. | .trackerSample .. => true
  | _ => false

/-- Clocks, power and heat. -/
def clockRow : Instr → Bool
  | .octetP1Enter .. | .octetP1Exit .. | .arbiterGrant .. | .laneTrainingFail .. | .p3Wake .. | .lvfCtrlWrite .. | .lvfAck .. | .coreClockRestart .. | .clkobsCfgWrite ..
  | .pllUnlock .. | .pllRelock .. | .refclkExcursion .. | .refclkQualified .. | .refwarmChange .. | .refclkReturn .. | .brownOutRelease .. | .refclkLost .. => true
  | _ => false

/-- Reads of registers by the host that do more than return a word, and plain reads. -/
def readRow : Instr → Bool
  | .tinHeadPop .. | .ivlResRead .. | .tsqHeadPop .. | .counterLowRead .. | .glbRcvRead .. | .engMaxcycRead .. | .prvLogptrRead .. | .latchingRead .. | .mbusRead .. => true
  | _ => false

/-- The endpoint, the mailbox transports and the hub. -/
def lineRow : Instr → Bool
  | .clockGateForce .. | .hubDumpWrite .. | .msixMaskChange .. | .pciPowerStateChange .. | .perstN .. | .perstNRelease .. | .tapInstruction .. | .mbDoorbell ..
  | .mbRspAck .. | .relayTimeout .. | .relayResponse .. | .gateListLoad .. => true
  | _ => false

/-- An engine instruction touches engines, registers, interrupt lines and outputs only; an action at its instant no queue, link, key, table entry or transaction. -/
def Obligations.EngineAndActionFrames : Prop :=
  (∀ (c : Instr) (s t : State), engineRow c = true → exec c s = .next t →
      t = { s with regs := t.regs, pcie := t.pcie, engines := t.engines, out := t.out }) ∧
  (∀ (c : Instr) (s t : State), actionRow c = true → exec c s = .next t →
      t = { s with regs := t.regs, twin := t.twin, prv := t.prv, pcie := t.pcie, tb := t.tb, domains := t.domains, engines := t.engines, touts := t.touts, tins := t.tins, ivls := t.ivls, hub := t.hub, egresses := t.egresses, sgLog := t.sgLog, rsvReq := t.rsvReq, out := t.out })

/-- Reference selection, lock, the twin and proving touch no engine, no frame, no queue, no key, no transaction, no Orbit and not the role; where they wait for an instant, TIME passes. -/
def Rules.FirmwareFrames : Prop :=
  (∀ (c : Instr) (s t : State), firmwareRow c = true → exec c s = .next t →
      t = { s with mode := t.mode, regs := t.regs, sys := t.sys, twin := t.twin, prv := t.prv, pcie := t.pcie, tb := t.tb, domains := t.domains, touts := t.touts, tins := t.tins, tdcs := t.tdcs, cals := t.cals, ivls := t.ivls, power := t.power, ptps := t.ptps, refs := t.refs, cands := t.cands, out := t.out, freeCount := t.freeCount })

/-- The fabric, the egress and the links touch no engine, no domain, no Orbit, no key and no transaction; a MAC, which takes the actions due first, no cell in flight, no Orbit and no transaction; the reception of a frame no cell in flight. -/
def Rules.FrameHandlingFrames : Prop :=
  (∀ (c : Instr) (s t : State), egressRow c = true → exec c s = .next t →
      t = { s with regs := t.regs, prv := t.prv, pcie := t.pcie, power := t.power, slot := t.slot, slotTb := t.slotTb, voqs := t.voqs, accts := t.accts, inters := t.inters, egrFull := t.egrFull, rr := t.rr, wires := t.wires, reasms := t.reasms, egrQs := t.egrQs, nextId := t.nextId, egresses := t.egresses, rsvIgnored := t.rsvIgnored, rsvReq := t.rsvReq, ptps := t.ptps, out := t.out, freeCount := t.freeCount }) ∧
  (∀ (c : Instr) (s t : State), macRow c = true → exec c s = .next t →
      t = { s with regs := t.regs, twin := t.twin, prv := t.prv, pcie := t.pcie, tb := t.tb, domains := t.domains, engines := t.engines, touts := t.touts, tins := t.tins, ivls := t.ivls, hub := t.hub, reasms := t.reasms, egrQs := t.egrQs, nextId := t.nextId, egresses := t.egresses, shapers := t.shapers, seqHists := t.seqHists, sgLog := t.sgLog, rsvReq := t.rsvReq, ptps := t.ptps, hlsLate := t.hlsLate, out := t.out, freeCount := t.freeCount }) ∧
  (∀ (c : Instr) (s t : State), receiveRow c = true → exec c s = .next t →
      t = { s with mode := t.mode, regs := t.regs, sys := t.sys, twin := t.twin, clfAges := t.clfAges, prv := t.prv, pcie := t.pcie, domains := t.domains, engines := t.engines, touts := t.touts, tdcs := t.tdcs, trackers := t.trackers, power := t.power, hub := t.hub, voqs := t.voqs, accts := t.accts, egrQs := t.egrQs, nextId := t.nextId, egresses := t.egresses, buckets := t.buckets, seqHists := t.seqHists, sgLog := t.sgLog, rsvReq := t.rsvReq, ptps := t.ptps, refs := t.refs, cands := t.cands, out := t.out, freeCount := t.freeCount }) ∧
  (∀ (c : Instr) (s t : State), linkRow c = true → exec c s = .next t →
      t = { s with mode := t.mode, regs := t.regs, sys := t.sys, pcie := t.pcie, links := t.links, cals := t.cals, trackers := t.trackers, power := t.power, voqs := t.voqs, accts := t.accts, reasms := t.reasms, egrQs := t.egrQs, egresses := t.egresses, shapers := t.shapers, out := t.out })

/-- Time, pins, the TDC, clocks and the endpoint touch no queue of frames, no stream state and no key; heat, which may end forwarding, no time and no Orbit; a read of a register no time, no Orbit, no role, no key and no transaction. -/
def Rules.ClockAndBusFrames : Prop :=
  (∀ (c : Instr) (s t : State), timeRow c = true → exec c s = .next t →
      t = { s with regs := t.regs, twin := t.twin, prv := t.prv, pcie := t.pcie, tb := t.tb, domains := t.domains, touts := t.touts, tins := t.tins, tdcs := t.tdcs, ivls := t.ivls, refs := t.refs, cands := t.cands, trgLate := t.trgLate, hlsLate := t.hlsLate, snapPend := t.snapPend, out := t.out, freeCount := t.freeCount }) ∧
  (∀ (c : Instr) (s t : State), tdcRow c = true → exec c s = .next t →
      t = { s with regs := t.regs, pcie := t.pcie, domains := t.domains, tdcs := t.tdcs, cals := t.cals, trackers := t.trackers, power := t.power, refs := t.refs, cands := t.cands, out := t.out, freeCount := t.freeCount }) ∧
  (∀ (c : Instr) (s t : State), clockRow c = true → exec c s = .next t →
      t = { s with mode := t.mode, regs := t.regs, sys := t.sys, clk := t.clk, twin := t.twin, prv := t.prv, pcie := t.pcie, domains := t.domains, power := t.power, refs := t.refs, cands := t.cands, out := t.out }) ∧
  (∀ (c : Instr) (s t : State), heatRow c = true → exec c s = .next t →
      t = { s with mode := t.mode, role := t.role, regs := t.regs, sys := t.sys, twin := t.twin, prv := t.prv, pcie := t.pcie, engines := t.engines, touts := t.touts, links := t.links, cals := t.cals, trackers := t.trackers, power := t.power, voqs := t.voqs, accts := t.accts, inters := t.inters, egrFull := t.egrFull, wires := t.wires, reasms := t.reasms, egrQs := t.egrQs, egresses := t.egresses, mbs := t.mbs, out := t.out, freeCount := t.freeCount }) ∧
  (∀ (c : Instr) (s t : State), lineRow c = true → exec c s = .next t →
      t = { s with regs := t.regs, pcie := t.pcie, hub := t.hub, mbs := t.mbs, posted := t.posted, txns := t.txns, out := t.out, freeCount := t.freeCount }) ∧
  (∀ (c : Instr) (s t : State), readRow c = true → exec c s = .next t →
      t = { s with mode := t.mode, regs := t.regs, sys := t.sys, twin := t.twin, prv := t.prv, pcie := t.pcie, bus := t.bus, domains := t.domains, engines := t.engines, tins := t.tins, links := t.links, cals := t.cals, trackers := t.trackers, power := t.power, voqs := t.voqs, accts := t.accts, inters := t.inters, egrFull := t.egrFull, wires := t.wires, reasms := t.reasms, egrQs := t.egrQs, egresses := t.egresses, refs := t.refs, cands := t.cands, out := t.out, freeCount := t.freeCount })

/-- What the families other than the engines, the mailbox and the resets can touch. -/
def Obligations.OtherFrames : Prop := Rules.FirmwareFrames ∧ Rules.FrameHandlingFrames ∧ Rules.ClockAndBusFrames

/-! ## Invariants of every step -/

/-- Registers and tables stay in canonical form, whatever command a step takes and in every state: equal contents stay equal data. -/
def Obligations.RegistersStayCanonical : Prop := ∀ s t : State, RegsOk s → step s = .next t → RegsOk t

/-- First in, first out: a step takes exactly the command at the front of the queue and puts none in; no command, no reset and no event of the block changes what waits behind it (the queue is the model's own, log entry 1). -/
def Obligations.QueueLosesOnlyItsFront : Prop := ∀ s t : State, step s = .next t → t.pending = s.pending.tail

/-- R188, R47: `TB_CYC` never runs back, over any step but a power-on or a RESET_N pulse; warm resets leave it. -/
def Obligations.TimeNeverRunsBack : Prop :=
  ∀ s t : State, (∀ c, s.pending.head? = some c → isFullReset c = false) → step s = .next t → s.tb ≤ t.tb

/-! ## Every form completes -/

/-- The conditions under which a command runs: none but that a bus address lies inside the requester's space (R411, R412), and that a debug instruction of the TAP is not sent to an open device, where the spec gives it no effect (R39). Each of the 237 commands stands here by name. -/
def Executable (i : Instr) (s : State) : Prop :=
  match i with
  | .mbusRead q a _ | .registerWrite q a _ _ => a < busSize q
  | .counterLowRead q a => a < busSize q
  | .latchingRead a | .counterLowWrite a _ | .counterHighWrite a _ | .rawTableWrite a _ => a < 0x8000000
  | .tapInstruction ir => match ir with | .other _ => s.mode ≠ .opened ∨ s.bit R.SEC_STAT_ERASED = false | .idcode | .bypass | .boundary => True
  | .powerOn .. | .resetN .. | .refclkExcursion | .refclkQualified | .bootComplete .. | .glbResetWrite .. | .warmReset .. | .perstN | .brownOutTrip .. | .brownOutRelease
  | .refwarmChange .. | .refclkLost | .refclkReturn | .thermalAlarm .. | .thermalAlarmClear .. | .thermalTrip .. | .watchdogExpiry | .eccError .. | .recoveryComplete ..
  | .recoverTimeout | .pllUnlock .. | .pllRelock .. | .mbDoorbell .. | .mbRspAck .. | .i2cResetWord .. | .agentFrame .. | .relayMessage .. | .relayTimeout ..
  | .transactionApply | .status .. | .eventRead .. | .journalRead .. | .ptpStatus .. | .attest .. | .tokenGive .. | .tokenRelease .. | .tokenTake .. | .startCmd ..
  | .dockCmd .. | .resetCmd .. | .haltCmd .. | .prove .. | .proveAbort .. | .openDebug .. | .openEraseComplete | .calRun .. | .refForce .. | .refForceRelease ..
  | .refClear .. | .powerSet .. | .powerSetWake .. | .counterSet .. | .repairRestore .. | .calRestore .. | .keyLoad .. | .keyErase .. | .keyBind .. | .keyUnbind ..
  | .agentSet .. | .fabricSet .. | .shaperSet .. | .streamEditWrite .. | .streamEditDelete .. | .streamCommit .. | .orbitSet .. | .orbitLoad .. | .orbitSwap ..
  | .gateListSet .. | .gateListLoad | .ptpSet .. | .refSet .. | .domainAdjustOffset .. | .domainAdjustSetTime .. | .domainAdjustRate .. | .domainLoopOpen ..
  | .domainLoopClose .. | .timepinSet .. | .twinSet .. | .proveSet .. | .orbitStart | .listSeal | .runOverrun .. | .engSwapReq .. | .engFaultClear .. | .nop ..
  | .endRun .. | .add .. | .sub .. | .andOp .. | .orOp .. | .xorOp .. | .shl .. | .shr .. | .sar .. | .mul .. | .minu .. | .maxu .. | .movi .. | .jmp .. | .beq ..
  | .bne .. | .bltu .. | .bgeu .. | .blts .. | .bges .. | .bany .. | .bnone .. | .dbnz .. | .call .. | .ret .. | .ldL .. | .ldH .. | .get .. | .put .. | .evt ..
  | .gate .. | .sgate .. | .launch .. | .inj .. | .tout .. | .capt .. | .mark .. | .rswap .. | .gateEffect .. | .launchEffect .. | .injEffect .. | .sgateEffect ..
  | .toutEffect .. | .captEffect .. | .markEffect .. | .rswapEffect .. | .fabricSlot .. | .fullBitBroadcast | .rsvSwapRequest | .rsvBankSwap | .frameReceive ..
  | .pfcRepeat .. | .pfcReceive .. | .pfcTimerExpire .. | .cellArrive .. | .reseqGapTimeout .. | .frameStartDecision .. | .txEnd .. | .ctUnderrun ..
  | .mmVerifyTimeout .. | .linkDown .. | .linkUp .. | .laneModeTry .. | .ageScan | .hostLaunchArm .. | .hostLaunchDisarm .. | .hostLaunchFire .. | .domRateLoWrite ..
  | .domRateHiWrite .. | .domStepreqGo .. | .slewEnd .. | .tbSnapRequest | .tbSnapLatch | .triggerArm .. | .triggerDisarm .. | .triggerFire .. | .toutGeneratorEdge ..
  | .toutPulseEnd .. | .tinEdge .. | .tinTransitionSuppressed .. | .tinHoldoffEnd .. | .tinHeadPop .. | .ivlResRead .. | .ivlCfgWrite .. | .tdcScalePair ..
  | .trackerSample .. | .calPending .. | .calRunStart .. | .calShadowEnd .. | .calCollectEnd .. | .calComputeEnd .. | .calVerifyEnd .. | .calInplaceEnd ..
  | .ptpFrameReceive .. | .tcEntryExpire .. | .ptpMessageSend .. | .pdSettleEnd .. | .tsqHeadPop .. | .candidateSignalLost .. | .candidateWtrExpire .. | .refSelect ..
  | .lockAchieved .. | .lockLost .. | .historySample | .hoSpecExpire .. | .refclkOutOfRange | .refclkRangeRestore | .twinRecordReceive .. | .claimFrameReceive ..
  | .claimPinLoss | .twinJudge | .twinJoinTimeout .. | .revertHoldExpire | .orphanHoldExpire | .twinSlotExpire | .clfSlotExpire .. | .seqResetTimeout ..
  | .provingScheduleDue | .provingSkipped | .provingStepEnd | .claimStepTimeout | .octetP1Enter .. | .octetP1Exit .. | .p3Wake .. | .powerExitComplete ..
  | .arbiterGrant | .laneTrainingFail .. | .clockGateForce .. | .lvfCtrlWrite .. | .lvfAck .. | .clkobsCfgWrite .. | .hubDumpWrite .. | .smpEnable ..
  | .glbIrearmWrite .. | .msixMaskChange .. | .pciPowerStateChange .. | .mbeClrWrite .. | .glbRcvRead | .engMaxcycRead .. | .prvLogptrRead | .perstNRelease
  | .relayResponse .. | .coreClockRestart | .timingExchangeSend => True

/-- Every command completes: in every state, with every operand inside the requester's space, it answers a next state. What that state holds, the statements of its family say. -/
def Obligations.EveryFormCompletes : Prop :=
  ∀ (i : Instr) (s : State), Executable i s → ∃ t, exec i s = .next t
end

