-- ==== Sys2Proof/Laws/Store.lean ====
section
/-! SUPPORT. Laws of the one container: what is read after a write, at the key written and at every other, whatever form the contents have; and that each operation keeps the canonical form. -/

namespace Sys2Proof.Machine

variable {α : Type}

@[simp] theorem storeGet_nil (d : Nat → α) (k : Nat) : storeGet d [] k = d k := rfl

theorem storeGet_storeIns_same (d : Nat → α) (m : Store α) (k : Nat) (v : α) : storeGet d (storeIns m k v) k = v := by
  induction m with
  | nil => simp [storeIns, storeGet]
  | cons x t ih =>
    obtain ⟨a, w⟩ := x
    unfold storeIns
    split
    · simp [storeGet]
    · split
      · simp [storeGet]
      · rename_i h1 h2
        have : ¬ a = k := fun e => h2 e.symm
        simp [storeGet, this, h1, ih]

theorem storeGet_storeIns_ne (d : Nat → α) (m : Store α) {k j : Nat} (h : j ≠ k) (v : α) :
    storeGet d (storeIns m k v) j = storeGet d m j := by
  induction m with
  | nil => simp [storeIns, storeGet, h.symm]
  | cons x t ih =>
    obtain ⟨a, w⟩ := x
    unfold storeIns
    split
    · rename_i h1
      by_cases hj : j < k
      · have h2 : ¬ a = j := by omega
        have h3 : j < a := by omega
        simp [storeGet, h.symm, hj, h2, h3]
      · simp [storeGet, h.symm, hj]
    · split
      · rename_i h1 h2
        subst h2
        simp [storeGet, h.symm]
      · simp [storeGet, ih]

theorem storeGet_storeAbove_le (d : Nat → α) (m : Store α) {k j : Nat} (h : j ≤ k) : storeGet d (storeAbove m k) j = d j := by
  induction m with
  | nil => rfl
  | cons x t ih =>
    obtain ⟨a, w⟩ := x
    unfold storeAbove
    split
    · exact ih
    · have h1 : ¬ a = j := by omega
      have h2 : j < a := by omega
      simp [storeGet, h1, h2]

theorem storeGet_storeAbove_gt (d : Nat → α) (m : Store α) {k j : Nat} (h : k < j) : storeGet d (storeAbove m k) j = storeGet d m j := by
  induction m with
  | nil => rfl
  | cons x t ih =>
    obtain ⟨a, w⟩ := x
    unfold storeAbove
    split
    · have h1 : ¬ a = j := by omega
      have h2 : ¬ j < a := by omega
      simp [storeGet, h1, h2, ih]
    · rfl

theorem storeGet_storeDel_same (d : Nat → α) (m : Store α) (k : Nat) : storeGet d (storeDel m k) k = d k := by
  induction m with
  | nil => rfl
  | cons x t ih =>
    obtain ⟨a, w⟩ := x
    unfold storeDel
    split
    · exact storeGet_storeAbove_le d t (Nat.le_refl k)
    · split
      · rename_i h1 h2
        simp [storeGet, h1, h2]
      · rename_i h1 h2
        simp [storeGet, h1, h2, ih]

theorem storeGet_storeDel_ne (d : Nat → α) (m : Store α) {k j : Nat} (h : j ≠ k) : storeGet d (storeDel m k) j = storeGet d m j := by
  induction m with
  | nil => rfl
  | cons x t ih =>
    obtain ⟨a, w⟩ := x
    unfold storeDel
    split
    · rename_i h1
      subst h1
      by_cases hj : j < a
      · simp [storeGet, h.symm, hj, storeGet_storeAbove_le d t (Nat.le_of_lt hj)]
      · have : a < j := by omega
        simp [storeGet, h.symm, hj, storeGet_storeAbove_gt d t this]
    · split
      · rfl
      · simp [storeGet, ih]

/-- Read after write, at the key written. -/
@[simp] theorem storeGet_storeSet_same [DecidableEq α] (d : Nat → α) (m : Store α) (k : Nat) (v : α) :
    storeGet d (storeSet d m k v) k = v := by
  unfold storeSet
  split
  · rename_i h
    rw [storeGet_storeDel_same, h]
  · exact storeGet_storeIns_same d m k v

/-- Read after write, at any other key. -/
theorem storeGet_storeSet_ne [DecidableEq α] (d : Nat → α) (m : Store α) {k j : Nat} (h : j ≠ k) (v : α) :
    storeGet d (storeSet d m k v) j = storeGet d m j := by
  unfold storeSet
  split
  · exact storeGet_storeDel_ne d m h
  · exact storeGet_storeIns_ne d m h v

/-- Read after write, at any key. -/
theorem storeGet_storeSet [DecidableEq α] (d : Nat → α) (m : Store α) (k j : Nat) (v : α) :
    storeGet d (storeSet d m k v) j = if j = k then v else storeGet d m j := by
  split
  · rename_i h
    rw [h, storeGet_storeSet_same]
  · rename_i h
    exact storeGet_storeSet_ne d m h v

/-! ## The canonical form -/

theorem storeWfFrom_mono [DecidableEq α] (d : Nat → α) {m : Store α} {lo lo' : Nat} (h : lo' ≤ lo) (hm : storeWfFrom d lo m = true) :
    storeWfFrom d lo' m = true := by
  cases m with
  | nil => rfl
  | cons x t =>
    obtain ⟨a, w⟩ := x
    simp only [storeWfFrom, Bool.and_eq_true, decide_eq_true_eq] at hm ⊢
    exact ⟨⟨Nat.le_trans h hm.1.1, hm.1.2⟩, hm.2⟩

theorem storeWfFrom_storeAbove [DecidableEq α] (d : Nat → α) {m : Store α} {lo : Nat} (k : Nat) (hm : storeWfFrom d lo m = true) :
    storeWfFrom d lo (storeAbove m k) = true := by
  induction m generalizing lo with
  | nil => rfl
  | cons x t ih =>
    obtain ⟨a, w⟩ := x
    have hm' := hm
    simp only [storeWfFrom, Bool.and_eq_true, decide_eq_true_eq] at hm
    unfold storeAbove
    split
    · exact ih (storeWfFrom_mono d (by omega) hm.2)
    · exact hm'

theorem storeWfFrom_storeDel [DecidableEq α] (d : Nat → α) {m : Store α} {lo : Nat} (k : Nat) (hm : storeWfFrom d lo m = true) :
    storeWfFrom d lo (storeDel m k) = true := by
  induction m generalizing lo with
  | nil => rfl
  | cons x t ih =>
    obtain ⟨a, w⟩ := x
    have hm' := hm
    simp only [storeWfFrom, Bool.and_eq_true, decide_eq_true_eq] at hm
    unfold storeDel
    split
    · exact storeWfFrom_storeAbove d k (storeWfFrom_mono d (by omega) hm.2)
    · split
      · exact hm'
      · simp only [storeWfFrom, Bool.and_eq_true, decide_eq_true_eq]
        exact ⟨hm.1, ih hm.2⟩

theorem storeWfFrom_storeIns [DecidableEq α] (d : Nat → α) {m : Store α} {lo k : Nat} {v : α} (hk : lo ≤ k) (hv : v ≠ d k)
    (hm : storeWfFrom d lo m = true) : storeWfFrom d lo (storeIns m k v) = true := by
  induction m generalizing lo with
  | nil => simp [storeIns, storeWfFrom, hk, hv]
  | cons x t ih =>
    obtain ⟨a, w⟩ := x
    simp only [storeWfFrom, Bool.and_eq_true, decide_eq_true_eq] at hm
    unfold storeIns
    split
    · simp only [storeWfFrom, Bool.and_eq_true, decide_eq_true_eq]
      exact ⟨⟨hk, hv⟩, ⟨⟨by omega, hm.1.2⟩, hm.2⟩⟩
    · split
      · rename_i h1 h2
        subst h2
        simp only [storeWfFrom, Bool.and_eq_true, decide_eq_true_eq]
        exact ⟨⟨hk, hv⟩, hm.2⟩
      · simp only [storeWfFrom, Bool.and_eq_true, decide_eq_true_eq]
        exact ⟨hm.1, ih (by omega) hm.2⟩

/-- Writing a key keeps the canonical form. -/
theorem storeWf_storeSet [DecidableEq α] (d : Nat → α) {m : Store α} (k : Nat) (v : α) (hm : storeWf d m = true) :
    storeWf d (storeSet d m k v) = true := by
  unfold storeSet storeWf at *
  split
  · exact storeWfFrom_storeDel d k hm
  · rename_i h
    exact storeWfFrom_storeIns d (Nat.zero_le k) h hm

theorem storeWfFrom_storeMap [DecidableEq α] (d : Nat → α) (f : Nat → α → α) {m : Store α} {lo : Nat} (hm : storeWfFrom d lo m = true) :
    storeWfFrom d lo (storeMap d f m) = true := by
  induction m generalizing lo with
  | nil => rfl
  | cons x t ih =>
    obtain ⟨a, w⟩ := x
    simp only [storeWfFrom, Bool.and_eq_true, decide_eq_true_eq] at hm
    unfold storeMap
    split
    · exact storeWfFrom_mono d (by omega) (ih hm.2)
    · rename_i h
      simp only [storeWfFrom, Bool.and_eq_true, decide_eq_true_eq]
      exact ⟨⟨hm.1.1, h⟩, ih hm.2⟩

/-- Passing every value through a function keeps the canonical form. -/
theorem storeWf_storeMap [DecidableEq α] (d : Nat → α) (f : Nat → α → α) {m : Store α} (hm : storeWf d m = true) :
    storeWf d (storeMap d f m) = true := storeWfFrom_storeMap d f hm

end Sys2Proof.Machine
end

