-- ==== Sys2Proof/Laws/Fields.lean ====
section
/-! SUPPORT. Laws of register fields: a field read after it is written, and a disjoint field of the same word. -/

namespace Sys2Proof.Machine

/-- The number that a word is once a field of it has been set. -/
theorem Fld.put_toNat (f : Fld) (hf : f.lo + f.width ≤ 32) (w : Word) (v : Nat) :
    (f.put w v).toNat = 2 ^ f.lo * (2 ^ f.width * (w.toNat / 2 ^ f.lo / 2 ^ f.width) + v % 2 ^ f.width) + w.toNat % 2 ^ f.lo := by
  unfold Fld.put Fld.get
  have hw : w.toNat < 2 ^ 32 := w.isLt
  have hsplit : (2 : Nat) ^ 32 = 2 ^ f.lo * (2 ^ f.width * 2 ^ (32 - f.lo - f.width)) := by
    rw [← pow_add, ← pow_add]; congr 1; omega
  generalize w.toNat = W at *
  generalize 2 ^ (32 - f.lo - f.width) = K at *
  have hLpos : 0 < 2 ^ f.lo := Nat.two_pow_pos _
  have hDpos : 0 < 2 ^ f.width := Nat.two_pow_pos _
  rw [BitVec.toNat_ofNat, hsplit]
  generalize 2 ^ f.lo = L at *
  generalize 2 ^ f.width = D at *
  generalize hv : v % D = x
  have hx : x < D := hv ▸ Nat.mod_lt _ hDpos
  have h1 : L * (W / L) + W % L = W := Nat.div_add_mod W L
  have h2 : D * (W / L / D) + W / L % D = W / L := Nat.div_add_mod _ D
  have hr : W % L < L := Nat.mod_lt _ hLpos
  have hq : W / L / D < K := by
    rw [Nat.div_div_eq_div_mul, Nat.div_lt_iff_lt_mul (Nat.mul_pos hLpos hDpos)]
    calc W < L * (D * K) := hsplit ▸ hw
      _ = K * (L * D) := by ring
  generalize W / L / D = q at *
  generalize W / L % D = g at *
  have h3 : W - g * L + x * L = L * (D * q + x) + W % L := by
    have : W = L * (D * q) + g * L + W % L := by
      have h5 : L * (W / L) = L * (D * q) + g * L := by rw [← h2]; ring
      omega
    have h4 : W - g * L = L * (D * q) + W % L := by omega
    rw [h4]; ring
  rw [h3]
  apply Nat.mod_eq_of_lt
  have h5 : D * q + x + 1 ≤ D * K := by
    have : D * q + D ≤ D * K := by
      have := Nat.mul_le_mul_left D (Nat.succ_le_of_lt hq)
      rw [Nat.mul_succ] at this; exact this
    omega
  have h6 := Nat.mul_le_mul_left L h5
  rw [Nat.mul_add, Nat.mul_one] at h6
  omega

/-- A field reads as it was set, modulo its width. -/
theorem Fld.get_put_same (f : Fld) (hf : f.lo + f.width ≤ 32) (w : Word) (v : Nat) : f.get (f.put w v) = v % 2 ^ f.width := by
  have h := Fld.put_toNat f hf w v
  unfold Fld.get at *
  rw [h]
  have hLpos : 0 < 2 ^ f.lo := Nat.two_pow_pos _
  have hDpos : 0 < 2 ^ f.width := Nat.two_pow_pos _
  rw [Nat.mul_add_div hLpos, Nat.div_eq_of_lt (Nat.mod_lt _ hLpos), Nat.add_zero, Nat.mul_add_mod, Nat.mod_mod]

/-- A field wholly above the one set reads as before. -/
theorem Fld.get_put_above (f g : Fld) (hf : f.lo + f.width ≤ 32) (h : f.lo + f.width ≤ g.lo) (w : Word) (v : Nat) :
    g.get (f.put w v) = g.get w := by
  have hp := Fld.put_toNat f hf w v
  unfold Fld.get
  rw [hp]
  have hLpos : 0 < 2 ^ f.lo := Nat.two_pow_pos _
  have hDpos : 0 < 2 ^ f.width := Nat.two_pow_pos _
  have hg : 2 ^ g.lo = 2 ^ f.lo * (2 ^ f.width * 2 ^ (g.lo - f.lo - f.width)) := by
    rw [← pow_add, ← pow_add]; congr 1; omega
  congr 1
  rw [hg, ← Nat.div_div_eq_div_mul, ← Nat.div_div_eq_div_mul, Nat.mul_add_div hLpos, Nat.div_eq_of_lt (Nat.mod_lt _ hLpos), Nat.add_zero,
    Nat.mul_add_div hDpos, Nat.div_eq_of_lt (Nat.mod_lt _ hDpos), Nat.add_zero, ← Nat.div_div_eq_div_mul, ← Nat.div_div_eq_div_mul]

/-- A field wholly below the one set reads as before. -/
theorem Fld.get_put_below (f g : Fld) (hf : f.lo + f.width ≤ 32) (h : g.lo + g.width ≤ f.lo) (w : Word) (v : Nat) :
    g.get (f.put w v) = g.get w := by
  have hp := Fld.put_toNat f hf w v
  have hLpos : 0 < 2 ^ f.lo := Nat.two_pow_pos _
  have key : ∀ n : Nat, n / 2 ^ g.lo % 2 ^ g.width = n % 2 ^ f.lo / 2 ^ g.lo % 2 ^ g.width := by
    intro n
    have hl : 2 ^ f.lo = 2 ^ g.lo * (2 ^ g.width * 2 ^ (f.lo - g.lo - g.width)) := by
      rw [← pow_add, ← pow_add]; congr 1; omega
    rw [hl, Nat.mod_mul_right_div_self, Nat.mod_mul_right_mod]
  unfold Fld.get
  rw [key, hp, Nat.mul_add_mod, Nat.mod_mod, ← key]

end Sys2Proof.Machine
end

