-- ==== Sys2Proof/Laws/State.lean ====
section
/-! SUPPORT. Laws of the state: what each named update of one part leaves of every other part, by definition, and what a part reads after its own update. -/

namespace Sys2Proof.Machine


/-! ## setReg -/

@[simp] theorem State.setReg_mode (s : State) (a : Nat) (w : Word) : (s.setReg a w).mode = s.mode := rfl
@[simp] theorem State.setReg_role (s : State) (a : Nat) (w : Word) : (s.setReg a w).role = s.role := rfl
@[simp] theorem State.setReg_sys (s : State) (a : Nat) (w : Word) : (s.setReg a w).sys = s.sys := rfl
@[simp] theorem State.setReg_clk (s : State) (a : Nat) (w : Word) : (s.setReg a w).clk = s.clk := rfl
@[simp] theorem State.setReg_twin (s : State) (a : Nat) (w : Word) : (s.setReg a w).twin = s.twin := rfl
@[simp] theorem State.setReg_clfAges (s : State) (a : Nat) (w : Word) : (s.setReg a w).clfAges = s.clfAges := rfl
@[simp] theorem State.setReg_prv (s : State) (a : Nat) (w : Word) : (s.setReg a w).prv = s.prv := rfl
@[simp] theorem State.setReg_pcie (s : State) (a : Nat) (w : Word) : (s.setReg a w).pcie = s.pcie := rfl
@[simp] theorem State.setReg_bus (s : State) (a : Nat) (w : Word) : (s.setReg a w).bus = s.bus := rfl
@[simp] theorem State.setReg_tb (s : State) (a : Nat) (w : Word) : (s.setReg a w).tb = s.tb := rfl
@[simp] theorem State.setReg_orbNum (s : State) (a : Nat) (w : Word) : (s.setReg a w).orbNum = s.orbNum := rfl
@[simp] theorem State.setReg_orbit (s : State) (a : Nat) (w : Word) : (s.setReg a w).orbit = s.orbit := rfl
@[simp] theorem State.setReg_domains (s : State) (a : Nat) (w : Word) : (s.setReg a w).domains = s.domains := rfl
@[simp] theorem State.setReg_engines (s : State) (a : Nat) (w : Word) : (s.setReg a w).engines = s.engines := rfl
@[simp] theorem State.setReg_touts (s : State) (a : Nat) (w : Word) : (s.setReg a w).touts = s.touts := rfl
@[simp] theorem State.setReg_tins (s : State) (a : Nat) (w : Word) : (s.setReg a w).tins = s.tins := rfl
@[simp] theorem State.setReg_links (s : State) (a : Nat) (w : Word) : (s.setReg a w).links = s.links := rfl
@[simp] theorem State.setReg_tdcs (s : State) (a : Nat) (w : Word) : (s.setReg a w).tdcs = s.tdcs := rfl
@[simp] theorem State.setReg_cals (s : State) (a : Nat) (w : Word) : (s.setReg a w).cals = s.cals := rfl
@[simp] theorem State.setReg_ivls (s : State) (a : Nat) (w : Word) : (s.setReg a w).ivls = s.ivls := rfl
@[simp] theorem State.setReg_trackers (s : State) (a : Nat) (w : Word) : (s.setReg a w).trackers = s.trackers := rfl
@[simp] theorem State.setReg_power (s : State) (a : Nat) (w : Word) : (s.setReg a w).power = s.power := rfl
@[simp] theorem State.setReg_hub (s : State) (a : Nat) (w : Word) : (s.setReg a w).hub = s.hub := rfl
@[simp] theorem State.setReg_slot (s : State) (a : Nat) (w : Word) : (s.setReg a w).slot = s.slot := rfl
@[simp] theorem State.setReg_slotTb (s : State) (a : Nat) (w : Word) : (s.setReg a w).slotTb = s.slotTb := rfl
@[simp] theorem State.setReg_voqs (s : State) (a : Nat) (w : Word) : (s.setReg a w).voqs = s.voqs := rfl
@[simp] theorem State.setReg_accts (s : State) (a : Nat) (w : Word) : (s.setReg a w).accts = s.accts := rfl
@[simp] theorem State.setReg_inters (s : State) (a : Nat) (w : Word) : (s.setReg a w).inters = s.inters := rfl
@[simp] theorem State.setReg_egrFull (s : State) (a : Nat) (w : Word) : (s.setReg a w).egrFull = s.egrFull := rfl
@[simp] theorem State.setReg_rr (s : State) (a : Nat) (w : Word) : (s.setReg a w).rr = s.rr := rfl
@[simp] theorem State.setReg_wires (s : State) (a : Nat) (w : Word) : (s.setReg a w).wires = s.wires := rfl
@[simp] theorem State.setReg_reasms (s : State) (a : Nat) (w : Word) : (s.setReg a w).reasms = s.reasms := rfl
@[simp] theorem State.setReg_egrQs (s : State) (a : Nat) (w : Word) : (s.setReg a w).egrQs = s.egrQs := rfl
@[simp] theorem State.setReg_nextId (s : State) (a : Nat) (w : Word) : (s.setReg a w).nextId = s.nextId := rfl
@[simp] theorem State.setReg_egresses (s : State) (a : Nat) (w : Word) : (s.setReg a w).egresses = s.egresses := rfl
@[simp] theorem State.setReg_shapers (s : State) (a : Nat) (w : Word) : (s.setReg a w).shapers = s.shapers := rfl
@[simp] theorem State.setReg_buckets (s : State) (a : Nat) (w : Word) : (s.setReg a w).buckets = s.buckets := rfl
@[simp] theorem State.setReg_seqHists (s : State) (a : Nat) (w : Word) : (s.setReg a w).seqHists = s.seqHists := rfl
@[simp] theorem State.setReg_sgLog (s : State) (a : Nat) (w : Word) : (s.setReg a w).sgLog = s.sgLog := rfl
@[simp] theorem State.setReg_rsvIgnored (s : State) (a : Nat) (w : Word) : (s.setReg a w).rsvIgnored = s.rsvIgnored := rfl
@[simp] theorem State.setReg_rsvReq (s : State) (a : Nat) (w : Word) : (s.setReg a w).rsvReq = s.rsvReq := rfl
@[simp] theorem State.setReg_ptps (s : State) (a : Nat) (w : Word) : (s.setReg a w).ptps = s.ptps := rfl
@[simp] theorem State.setReg_dsets (s : State) (a : Nat) (w : Word) : (s.setReg a w).dsets = s.dsets := rfl
@[simp] theorem State.setReg_refs (s : State) (a : Nat) (w : Word) : (s.setReg a w).refs = s.refs := rfl
@[simp] theorem State.setReg_cands (s : State) (a : Nat) (w : Word) : (s.setReg a w).cands = s.cands := rfl
@[simp] theorem State.setReg_keys (s : State) (a : Nat) (w : Word) : (s.setReg a w).keys = s.keys := rfl
@[simp] theorem State.setReg_binds (s : State) (a : Nat) (w : Word) : (s.setReg a w).binds = s.binds := rfl
@[simp] theorem State.setReg_agent (s : State) (a : Nat) (w : Word) : (s.setReg a w).agent = s.agent := rfl
@[simp] theorem State.setReg_mbs (s : State) (a : Nat) (w : Word) : (s.setReg a w).mbs = s.mbs := rfl
@[simp] theorem State.setReg_posted (s : State) (a : Nat) (w : Word) : (s.setReg a w).posted = s.posted := rfl
@[simp] theorem State.setReg_txns (s : State) (a : Nat) (w : Word) : (s.setReg a w).txns = s.txns := rfl
@[simp] theorem State.setReg_journal (s : State) (a : Nat) (w : Word) : (s.setReg a w).journal = s.journal := rfl
@[simp] theorem State.setReg_glists (s : State) (a : Nat) (w : Word) : (s.setReg a w).glists = s.glists := rfl
@[simp] theorem State.setReg_gpends (s : State) (a : Nat) (w : Word) : (s.setReg a w).gpends = s.gpends := rfl
@[simp] theorem State.setReg_trgLate (s : State) (a : Nat) (w : Word) : (s.setReg a w).trgLate = s.trgLate := rfl
@[simp] theorem State.setReg_hlsLate (s : State) (a : Nat) (w : Word) : (s.setReg a w).hlsLate = s.hlsLate := rfl
@[simp] theorem State.setReg_snapPend (s : State) (a : Nat) (w : Word) : (s.setReg a w).snapPend = s.snapPend := rfl
@[simp] theorem State.setReg_out (s : State) (a : Nat) (w : Word) : (s.setReg a w).out = s.out := rfl
@[simp] theorem State.setReg_freeCount (s : State) (a : Nat) (w : Word) : (s.setReg a w).freeCount = s.freeCount := rfl
@[simp] theorem State.setReg_pending (s : State) (a : Nat) (w : Word) : (s.setReg a w).pending = s.pending := rfl
@[simp] theorem State.setReg_shaper (s : State) (a : Nat) (w : Word) (j : Nat) : (s.setReg a w).shaper j = s.shaper j := rfl
@[simp] theorem State.setReg_acct (s : State) (a : Nat) (w : Word) (j : Nat) : (s.setReg a w).acct j = s.acct j := rfl
@[simp] theorem State.setReg_reasm (s : State) (a : Nat) (w : Word) (j : Nat) : (s.setReg a w).reasm j = s.reasm j := rfl
@[simp] theorem State.setReg_egrQ (s : State) (a : Nat) (w : Word) (j : Nat) : (s.setReg a w).egrQ j = s.egrQ j := rfl
@[simp] theorem State.setReg_egr (s : State) (a : Nat) (w : Word) (j : Nat) : (s.setReg a w).egr j = s.egr j := rfl
@[simp] theorem State.setReg_wire (s : State) (a : Nat) (w : Word) (j : Nat) : (s.setReg a w).wire j = s.wire j := rfl
@[simp] theorem State.setReg_seqHist (s : State) (a : Nat) (w : Word) (j : Nat) : (s.setReg a w).seqHist j = s.seqHist j := rfl
@[simp] theorem State.setReg_bucket (s : State) (a : Nat) (w : Word) (j : Nat) : (s.setReg a w).bucket j = s.bucket j := rfl
@[simp] theorem State.setReg_mb (s : State) (a : Nat) (w : Word) (j : Nat) : (s.setReg a w).mb j = s.mb j := rfl
@[simp] theorem State.setReg_dom (s : State) (a : Nat) (w : Word) (j : Nat) : (s.setReg a w).dom j = s.dom j := rfl
@[simp] theorem State.setReg_eng (s : State) (a : Nat) (w : Word) (j : Nat) : (s.setReg a w).eng j = s.eng j := rfl
@[simp] theorem State.setReg_tout (s : State) (a : Nat) (w : Word) (j : Nat) : (s.setReg a w).tout j = s.tout j := rfl
@[simp] theorem State.setReg_tin (s : State) (a : Nat) (w : Word) (j : Nat) : (s.setReg a w).tin j = s.tin j := rfl
@[simp] theorem State.setReg_link (s : State) (a : Nat) (w : Word) (j : Nat) : (s.setReg a w).link j = s.link j := rfl
@[simp] theorem State.setReg_glist (s : State) (a : Nat) (w : Word) (j : Nat) : (s.setReg a w).glist j = s.glist j := rfl
@[simp] theorem State.setReg_gpend (s : State) (a : Nat) (w : Word) (j : Nat) : (s.setReg a w).gpend j = s.gpend j := rfl
@[simp] theorem State.setReg_ptp (s : State) (a : Nat) (w : Word) (j : Nat) : (s.setReg a w).ptp j = s.ptp j := rfl
@[simp] theorem State.setReg_ref (s : State) (a : Nat) (w : Word) (j : Nat) : (s.setReg a w).ref j = s.ref j := rfl
@[simp] theorem State.setReg_tdc (s : State) (a : Nat) (w : Word) (j : Nat) : (s.setReg a w).tdc j = s.tdc j := rfl
@[simp] theorem State.setReg_cal (s : State) (a : Nat) (w : Word) (j : Nat) : (s.setReg a w).cal j = s.cal j := rfl
@[simp] theorem State.setReg_ivl (s : State) (a : Nat) (w : Word) (j : Nat) : (s.setReg a w).ivl j = s.ivl j := rfl
@[simp] theorem State.setReg_tracker (s : State) (a : Nat) (w : Word) (j : Nat) : (s.setReg a w).tracker j = s.tracker j := rfl
@[simp] theorem State.setReg_cand (s : State) (a : Nat) (w : Word) (d' j : Nat) : (s.setReg a w).cand d' j = s.cand d' j := rfl

/-! ## wr -/

@[simp] theorem State.wr_mode (s : State) (f : Fld) (v : Nat) : (s.wr f v).mode = s.mode := rfl
@[simp] theorem State.wr_role (s : State) (f : Fld) (v : Nat) : (s.wr f v).role = s.role := rfl
@[simp] theorem State.wr_sys (s : State) (f : Fld) (v : Nat) : (s.wr f v).sys = s.sys := rfl
@[simp] theorem State.wr_clk (s : State) (f : Fld) (v : Nat) : (s.wr f v).clk = s.clk := rfl
@[simp] theorem State.wr_twin (s : State) (f : Fld) (v : Nat) : (s.wr f v).twin = s.twin := rfl
@[simp] theorem State.wr_clfAges (s : State) (f : Fld) (v : Nat) : (s.wr f v).clfAges = s.clfAges := rfl
@[simp] theorem State.wr_prv (s : State) (f : Fld) (v : Nat) : (s.wr f v).prv = s.prv := rfl
@[simp] theorem State.wr_pcie (s : State) (f : Fld) (v : Nat) : (s.wr f v).pcie = s.pcie := rfl
@[simp] theorem State.wr_bus (s : State) (f : Fld) (v : Nat) : (s.wr f v).bus = s.bus := rfl
@[simp] theorem State.wr_tb (s : State) (f : Fld) (v : Nat) : (s.wr f v).tb = s.tb := rfl
@[simp] theorem State.wr_orbNum (s : State) (f : Fld) (v : Nat) : (s.wr f v).orbNum = s.orbNum := rfl
@[simp] theorem State.wr_orbit (s : State) (f : Fld) (v : Nat) : (s.wr f v).orbit = s.orbit := rfl
@[simp] theorem State.wr_domains (s : State) (f : Fld) (v : Nat) : (s.wr f v).domains = s.domains := rfl
@[simp] theorem State.wr_engines (s : State) (f : Fld) (v : Nat) : (s.wr f v).engines = s.engines := rfl
@[simp] theorem State.wr_touts (s : State) (f : Fld) (v : Nat) : (s.wr f v).touts = s.touts := rfl
@[simp] theorem State.wr_tins (s : State) (f : Fld) (v : Nat) : (s.wr f v).tins = s.tins := rfl
@[simp] theorem State.wr_links (s : State) (f : Fld) (v : Nat) : (s.wr f v).links = s.links := rfl
@[simp] theorem State.wr_tdcs (s : State) (f : Fld) (v : Nat) : (s.wr f v).tdcs = s.tdcs := rfl
@[simp] theorem State.wr_cals (s : State) (f : Fld) (v : Nat) : (s.wr f v).cals = s.cals := rfl
@[simp] theorem State.wr_ivls (s : State) (f : Fld) (v : Nat) : (s.wr f v).ivls = s.ivls := rfl
@[simp] theorem State.wr_trackers (s : State) (f : Fld) (v : Nat) : (s.wr f v).trackers = s.trackers := rfl
@[simp] theorem State.wr_power (s : State) (f : Fld) (v : Nat) : (s.wr f v).power = s.power := rfl
@[simp] theorem State.wr_hub (s : State) (f : Fld) (v : Nat) : (s.wr f v).hub = s.hub := rfl
@[simp] theorem State.wr_slot (s : State) (f : Fld) (v : Nat) : (s.wr f v).slot = s.slot := rfl
@[simp] theorem State.wr_slotTb (s : State) (f : Fld) (v : Nat) : (s.wr f v).slotTb = s.slotTb := rfl
@[simp] theorem State.wr_voqs (s : State) (f : Fld) (v : Nat) : (s.wr f v).voqs = s.voqs := rfl
@[simp] theorem State.wr_accts (s : State) (f : Fld) (v : Nat) : (s.wr f v).accts = s.accts := rfl
@[simp] theorem State.wr_inters (s : State) (f : Fld) (v : Nat) : (s.wr f v).inters = s.inters := rfl
@[simp] theorem State.wr_egrFull (s : State) (f : Fld) (v : Nat) : (s.wr f v).egrFull = s.egrFull := rfl
@[simp] theorem State.wr_rr (s : State) (f : Fld) (v : Nat) : (s.wr f v).rr = s.rr := rfl
@[simp] theorem State.wr_wires (s : State) (f : Fld) (v : Nat) : (s.wr f v).wires = s.wires := rfl
@[simp] theorem State.wr_reasms (s : State) (f : Fld) (v : Nat) : (s.wr f v).reasms = s.reasms := rfl
@[simp] theorem State.wr_egrQs (s : State) (f : Fld) (v : Nat) : (s.wr f v).egrQs = s.egrQs := rfl
@[simp] theorem State.wr_nextId (s : State) (f : Fld) (v : Nat) : (s.wr f v).nextId = s.nextId := rfl
@[simp] theorem State.wr_egresses (s : State) (f : Fld) (v : Nat) : (s.wr f v).egresses = s.egresses := rfl
@[simp] theorem State.wr_shapers (s : State) (f : Fld) (v : Nat) : (s.wr f v).shapers = s.shapers := rfl
@[simp] theorem State.wr_buckets (s : State) (f : Fld) (v : Nat) : (s.wr f v).buckets = s.buckets := rfl
@[simp] theorem State.wr_seqHists (s : State) (f : Fld) (v : Nat) : (s.wr f v).seqHists = s.seqHists := rfl
@[simp] theorem State.wr_sgLog (s : State) (f : Fld) (v : Nat) : (s.wr f v).sgLog = s.sgLog := rfl
@[simp] theorem State.wr_rsvIgnored (s : State) (f : Fld) (v : Nat) : (s.wr f v).rsvIgnored = s.rsvIgnored := rfl
@[simp] theorem State.wr_rsvReq (s : State) (f : Fld) (v : Nat) : (s.wr f v).rsvReq = s.rsvReq := rfl
@[simp] theorem State.wr_ptps (s : State) (f : Fld) (v : Nat) : (s.wr f v).ptps = s.ptps := rfl
@[simp] theorem State.wr_dsets (s : State) (f : Fld) (v : Nat) : (s.wr f v).dsets = s.dsets := rfl
@[simp] theorem State.wr_refs (s : State) (f : Fld) (v : Nat) : (s.wr f v).refs = s.refs := rfl
@[simp] theorem State.wr_cands (s : State) (f : Fld) (v : Nat) : (s.wr f v).cands = s.cands := rfl
@[simp] theorem State.wr_keys (s : State) (f : Fld) (v : Nat) : (s.wr f v).keys = s.keys := rfl
@[simp] theorem State.wr_binds (s : State) (f : Fld) (v : Nat) : (s.wr f v).binds = s.binds := rfl
@[simp] theorem State.wr_agent (s : State) (f : Fld) (v : Nat) : (s.wr f v).agent = s.agent := rfl
@[simp] theorem State.wr_mbs (s : State) (f : Fld) (v : Nat) : (s.wr f v).mbs = s.mbs := rfl
@[simp] theorem State.wr_posted (s : State) (f : Fld) (v : Nat) : (s.wr f v).posted = s.posted := rfl
@[simp] theorem State.wr_txns (s : State) (f : Fld) (v : Nat) : (s.wr f v).txns = s.txns := rfl
@[simp] theorem State.wr_journal (s : State) (f : Fld) (v : Nat) : (s.wr f v).journal = s.journal := rfl
@[simp] theorem State.wr_glists (s : State) (f : Fld) (v : Nat) : (s.wr f v).glists = s.glists := rfl
@[simp] theorem State.wr_gpends (s : State) (f : Fld) (v : Nat) : (s.wr f v).gpends = s.gpends := rfl
@[simp] theorem State.wr_trgLate (s : State) (f : Fld) (v : Nat) : (s.wr f v).trgLate = s.trgLate := rfl
@[simp] theorem State.wr_hlsLate (s : State) (f : Fld) (v : Nat) : (s.wr f v).hlsLate = s.hlsLate := rfl
@[simp] theorem State.wr_snapPend (s : State) (f : Fld) (v : Nat) : (s.wr f v).snapPend = s.snapPend := rfl
@[simp] theorem State.wr_out (s : State) (f : Fld) (v : Nat) : (s.wr f v).out = s.out := rfl
@[simp] theorem State.wr_freeCount (s : State) (f : Fld) (v : Nat) : (s.wr f v).freeCount = s.freeCount := rfl
@[simp] theorem State.wr_pending (s : State) (f : Fld) (v : Nat) : (s.wr f v).pending = s.pending := rfl
@[simp] theorem State.wr_shaper (s : State) (f : Fld) (v : Nat) (j : Nat) : (s.wr f v).shaper j = s.shaper j := rfl
@[simp] theorem State.wr_acct (s : State) (f : Fld) (v : Nat) (j : Nat) : (s.wr f v).acct j = s.acct j := rfl
@[simp] theorem State.wr_reasm (s : State) (f : Fld) (v : Nat) (j : Nat) : (s.wr f v).reasm j = s.reasm j := rfl
@[simp] theorem State.wr_egrQ (s : State) (f : Fld) (v : Nat) (j : Nat) : (s.wr f v).egrQ j = s.egrQ j := rfl
@[simp] theorem State.wr_egr (s : State) (f : Fld) (v : Nat) (j : Nat) : (s.wr f v).egr j = s.egr j := rfl
@[simp] theorem State.wr_wire (s : State) (f : Fld) (v : Nat) (j : Nat) : (s.wr f v).wire j = s.wire j := rfl
@[simp] theorem State.wr_seqHist (s : State) (f : Fld) (v : Nat) (j : Nat) : (s.wr f v).seqHist j = s.seqHist j := rfl
@[simp] theorem State.wr_bucket (s : State) (f : Fld) (v : Nat) (j : Nat) : (s.wr f v).bucket j = s.bucket j := rfl
@[simp] theorem State.wr_mb (s : State) (f : Fld) (v : Nat) (j : Nat) : (s.wr f v).mb j = s.mb j := rfl
@[simp] theorem State.wr_dom (s : State) (f : Fld) (v : Nat) (j : Nat) : (s.wr f v).dom j = s.dom j := rfl
@[simp] theorem State.wr_eng (s : State) (f : Fld) (v : Nat) (j : Nat) : (s.wr f v).eng j = s.eng j := rfl
@[simp] theorem State.wr_tout (s : State) (f : Fld) (v : Nat) (j : Nat) : (s.wr f v).tout j = s.tout j := rfl
@[simp] theorem State.wr_tin (s : State) (f : Fld) (v : Nat) (j : Nat) : (s.wr f v).tin j = s.tin j := rfl
@[simp] theorem State.wr_link (s : State) (f : Fld) (v : Nat) (j : Nat) : (s.wr f v).link j = s.link j := rfl
@[simp] theorem State.wr_glist (s : State) (f : Fld) (v : Nat) (j : Nat) : (s.wr f v).glist j = s.glist j := rfl
@[simp] theorem State.wr_gpend (s : State) (f : Fld) (v : Nat) (j : Nat) : (s.wr f v).gpend j = s.gpend j := rfl
@[simp] theorem State.wr_ptp (s : State) (f : Fld) (v : Nat) (j : Nat) : (s.wr f v).ptp j = s.ptp j := rfl
@[simp] theorem State.wr_ref (s : State) (f : Fld) (v : Nat) (j : Nat) : (s.wr f v).ref j = s.ref j := rfl
@[simp] theorem State.wr_tdc (s : State) (f : Fld) (v : Nat) (j : Nat) : (s.wr f v).tdc j = s.tdc j := rfl
@[simp] theorem State.wr_cal (s : State) (f : Fld) (v : Nat) (j : Nat) : (s.wr f v).cal j = s.cal j := rfl
@[simp] theorem State.wr_ivl (s : State) (f : Fld) (v : Nat) (j : Nat) : (s.wr f v).ivl j = s.ivl j := rfl
@[simp] theorem State.wr_tracker (s : State) (f : Fld) (v : Nat) (j : Nat) : (s.wr f v).tracker j = s.tracker j := rfl
@[simp] theorem State.wr_cand (s : State) (f : Fld) (v : Nat) (d' j : Nat) : (s.wr f v).cand d' j = s.cand d' j := rfl

/-! ## setBit -/

@[simp] theorem State.setBit_mode (s : State) (f : Fld) (b : Bool) : (s.setBit f b).mode = s.mode := rfl
@[simp] theorem State.setBit_role (s : State) (f : Fld) (b : Bool) : (s.setBit f b).role = s.role := rfl
@[simp] theorem State.setBit_sys (s : State) (f : Fld) (b : Bool) : (s.setBit f b).sys = s.sys := rfl
@[simp] theorem State.setBit_clk (s : State) (f : Fld) (b : Bool) : (s.setBit f b).clk = s.clk := rfl
@[simp] theorem State.setBit_twin (s : State) (f : Fld) (b : Bool) : (s.setBit f b).twin = s.twin := rfl
@[simp] theorem State.setBit_clfAges (s : State) (f : Fld) (b : Bool) : (s.setBit f b).clfAges = s.clfAges := rfl
@[simp] theorem State.setBit_prv (s : State) (f : Fld) (b : Bool) : (s.setBit f b).prv = s.prv := rfl
@[simp] theorem State.setBit_pcie (s : State) (f : Fld) (b : Bool) : (s.setBit f b).pcie = s.pcie := rfl
@[simp] theorem State.setBit_bus (s : State) (f : Fld) (b : Bool) : (s.setBit f b).bus = s.bus := rfl
@[simp] theorem State.setBit_tb (s : State) (f : Fld) (b : Bool) : (s.setBit f b).tb = s.tb := rfl
@[simp] theorem State.setBit_orbNum (s : State) (f : Fld) (b : Bool) : (s.setBit f b).orbNum = s.orbNum := rfl
@[simp] theorem State.setBit_orbit (s : State) (f : Fld) (b : Bool) : (s.setBit f b).orbit = s.orbit := rfl
@[simp] theorem State.setBit_domains (s : State) (f : Fld) (b : Bool) : (s.setBit f b).domains = s.domains := rfl
@[simp] theorem State.setBit_engines (s : State) (f : Fld) (b : Bool) : (s.setBit f b).engines = s.engines := rfl
@[simp] theorem State.setBit_touts (s : State) (f : Fld) (b : Bool) : (s.setBit f b).touts = s.touts := rfl
@[simp] theorem State.setBit_tins (s : State) (f : Fld) (b : Bool) : (s.setBit f b).tins = s.tins := rfl
@[simp] theorem State.setBit_links (s : State) (f : Fld) (b : Bool) : (s.setBit f b).links = s.links := rfl
@[simp] theorem State.setBit_tdcs (s : State) (f : Fld) (b : Bool) : (s.setBit f b).tdcs = s.tdcs := rfl
@[simp] theorem State.setBit_cals (s : State) (f : Fld) (b : Bool) : (s.setBit f b).cals = s.cals := rfl
@[simp] theorem State.setBit_ivls (s : State) (f : Fld) (b : Bool) : (s.setBit f b).ivls = s.ivls := rfl
@[simp] theorem State.setBit_trackers (s : State) (f : Fld) (b : Bool) : (s.setBit f b).trackers = s.trackers := rfl
@[simp] theorem State.setBit_power (s : State) (f : Fld) (b : Bool) : (s.setBit f b).power = s.power := rfl
@[simp] theorem State.setBit_hub (s : State) (f : Fld) (b : Bool) : (s.setBit f b).hub = s.hub := rfl
@[simp] theorem State.setBit_slot (s : State) (f : Fld) (b : Bool) : (s.setBit f b).slot = s.slot := rfl
@[simp] theorem State.setBit_slotTb (s : State) (f : Fld) (b : Bool) : (s.setBit f b).slotTb = s.slotTb := rfl
@[simp] theorem State.setBit_voqs (s : State) (f : Fld) (b : Bool) : (s.setBit f b).voqs = s.voqs := rfl
@[simp] theorem State.setBit_accts (s : State) (f : Fld) (b : Bool) : (s.setBit f b).accts = s.accts := rfl
@[simp] theorem State.setBit_inters (s : State) (f : Fld) (b : Bool) : (s.setBit f b).inters = s.inters := rfl
@[simp] theorem State.setBit_egrFull (s : State) (f : Fld) (b : Bool) : (s.setBit f b).egrFull = s.egrFull := rfl
@[simp] theorem State.setBit_rr (s : State) (f : Fld) (b : Bool) : (s.setBit f b).rr = s.rr := rfl
@[simp] theorem State.setBit_wires (s : State) (f : Fld) (b : Bool) : (s.setBit f b).wires = s.wires := rfl
@[simp] theorem State.setBit_reasms (s : State) (f : Fld) (b : Bool) : (s.setBit f b).reasms = s.reasms := rfl
@[simp] theorem State.setBit_egrQs (s : State) (f : Fld) (b : Bool) : (s.setBit f b).egrQs = s.egrQs := rfl
@[simp] theorem State.setBit_nextId (s : State) (f : Fld) (b : Bool) : (s.setBit f b).nextId = s.nextId := rfl
@[simp] theorem State.setBit_egresses (s : State) (f : Fld) (b : Bool) : (s.setBit f b).egresses = s.egresses := rfl
@[simp] theorem State.setBit_shapers (s : State) (f : Fld) (b : Bool) : (s.setBit f b).shapers = s.shapers := rfl
@[simp] theorem State.setBit_buckets (s : State) (f : Fld) (b : Bool) : (s.setBit f b).buckets = s.buckets := rfl
@[simp] theorem State.setBit_seqHists (s : State) (f : Fld) (b : Bool) : (s.setBit f b).seqHists = s.seqHists := rfl
@[simp] theorem State.setBit_sgLog (s : State) (f : Fld) (b : Bool) : (s.setBit f b).sgLog = s.sgLog := rfl
@[simp] theorem State.setBit_rsvIgnored (s : State) (f : Fld) (b : Bool) : (s.setBit f b).rsvIgnored = s.rsvIgnored := rfl
@[simp] theorem State.setBit_rsvReq (s : State) (f : Fld) (b : Bool) : (s.setBit f b).rsvReq = s.rsvReq := rfl
@[simp] theorem State.setBit_ptps (s : State) (f : Fld) (b : Bool) : (s.setBit f b).ptps = s.ptps := rfl
@[simp] theorem State.setBit_dsets (s : State) (f : Fld) (b : Bool) : (s.setBit f b).dsets = s.dsets := rfl
@[simp] theorem State.setBit_refs (s : State) (f : Fld) (b : Bool) : (s.setBit f b).refs = s.refs := rfl
@[simp] theorem State.setBit_cands (s : State) (f : Fld) (b : Bool) : (s.setBit f b).cands = s.cands := rfl
@[simp] theorem State.setBit_keys (s : State) (f : Fld) (b : Bool) : (s.setBit f b).keys = s.keys := rfl
@[simp] theorem State.setBit_binds (s : State) (f : Fld) (b : Bool) : (s.setBit f b).binds = s.binds := rfl
@[simp] theorem State.setBit_agent (s : State) (f : Fld) (b : Bool) : (s.setBit f b).agent = s.agent := rfl
@[simp] theorem State.setBit_mbs (s : State) (f : Fld) (b : Bool) : (s.setBit f b).mbs = s.mbs := rfl
@[simp] theorem State.setBit_posted (s : State) (f : Fld) (b : Bool) : (s.setBit f b).posted = s.posted := rfl
@[simp] theorem State.setBit_txns (s : State) (f : Fld) (b : Bool) : (s.setBit f b).txns = s.txns := rfl
@[simp] theorem State.setBit_journal (s : State) (f : Fld) (b : Bool) : (s.setBit f b).journal = s.journal := rfl
@[simp] theorem State.setBit_glists (s : State) (f : Fld) (b : Bool) : (s.setBit f b).glists = s.glists := rfl
@[simp] theorem State.setBit_gpends (s : State) (f : Fld) (b : Bool) : (s.setBit f b).gpends = s.gpends := rfl
@[simp] theorem State.setBit_trgLate (s : State) (f : Fld) (b : Bool) : (s.setBit f b).trgLate = s.trgLate := rfl
@[simp] theorem State.setBit_hlsLate (s : State) (f : Fld) (b : Bool) : (s.setBit f b).hlsLate = s.hlsLate := rfl
@[simp] theorem State.setBit_snapPend (s : State) (f : Fld) (b : Bool) : (s.setBit f b).snapPend = s.snapPend := rfl
@[simp] theorem State.setBit_out (s : State) (f : Fld) (b : Bool) : (s.setBit f b).out = s.out := rfl
@[simp] theorem State.setBit_freeCount (s : State) (f : Fld) (b : Bool) : (s.setBit f b).freeCount = s.freeCount := rfl
@[simp] theorem State.setBit_pending (s : State) (f : Fld) (b : Bool) : (s.setBit f b).pending = s.pending := rfl
@[simp] theorem State.setBit_shaper (s : State) (f : Fld) (b : Bool) (j : Nat) : (s.setBit f b).shaper j = s.shaper j := rfl
@[simp] theorem State.setBit_acct (s : State) (f : Fld) (b : Bool) (j : Nat) : (s.setBit f b).acct j = s.acct j := rfl
@[simp] theorem State.setBit_reasm (s : State) (f : Fld) (b : Bool) (j : Nat) : (s.setBit f b).reasm j = s.reasm j := rfl
@[simp] theorem State.setBit_egrQ (s : State) (f : Fld) (b : Bool) (j : Nat) : (s.setBit f b).egrQ j = s.egrQ j := rfl
@[simp] theorem State.setBit_egr (s : State) (f : Fld) (b : Bool) (j : Nat) : (s.setBit f b).egr j = s.egr j := rfl
@[simp] theorem State.setBit_wire (s : State) (f : Fld) (b : Bool) (j : Nat) : (s.setBit f b).wire j = s.wire j := rfl
@[simp] theorem State.setBit_seqHist (s : State) (f : Fld) (b : Bool) (j : Nat) : (s.setBit f b).seqHist j = s.seqHist j := rfl
@[simp] theorem State.setBit_bucket (s : State) (f : Fld) (b : Bool) (j : Nat) : (s.setBit f b).bucket j = s.bucket j := rfl
@[simp] theorem State.setBit_mb (s : State) (f : Fld) (b : Bool) (j : Nat) : (s.setBit f b).mb j = s.mb j := rfl
@[simp] theorem State.setBit_dom (s : State) (f : Fld) (b : Bool) (j : Nat) : (s.setBit f b).dom j = s.dom j := rfl
@[simp] theorem State.setBit_eng (s : State) (f : Fld) (b : Bool) (j : Nat) : (s.setBit f b).eng j = s.eng j := rfl
@[simp] theorem State.setBit_tout (s : State) (f : Fld) (b : Bool) (j : Nat) : (s.setBit f b).tout j = s.tout j := rfl
@[simp] theorem State.setBit_tin (s : State) (f : Fld) (b : Bool) (j : Nat) : (s.setBit f b).tin j = s.tin j := rfl
@[simp] theorem State.setBit_link (s : State) (f : Fld) (b : Bool) (j : Nat) : (s.setBit f b).link j = s.link j := rfl
@[simp] theorem State.setBit_glist (s : State) (f : Fld) (b : Bool) (j : Nat) : (s.setBit f b).glist j = s.glist j := rfl
@[simp] theorem State.setBit_gpend (s : State) (f : Fld) (b : Bool) (j : Nat) : (s.setBit f b).gpend j = s.gpend j := rfl
@[simp] theorem State.setBit_ptp (s : State) (f : Fld) (b : Bool) (j : Nat) : (s.setBit f b).ptp j = s.ptp j := rfl
@[simp] theorem State.setBit_ref (s : State) (f : Fld) (b : Bool) (j : Nat) : (s.setBit f b).ref j = s.ref j := rfl
@[simp] theorem State.setBit_tdc (s : State) (f : Fld) (b : Bool) (j : Nat) : (s.setBit f b).tdc j = s.tdc j := rfl
@[simp] theorem State.setBit_cal (s : State) (f : Fld) (b : Bool) (j : Nat) : (s.setBit f b).cal j = s.cal j := rfl
@[simp] theorem State.setBit_ivl (s : State) (f : Fld) (b : Bool) (j : Nat) : (s.setBit f b).ivl j = s.ivl j := rfl
@[simp] theorem State.setBit_tracker (s : State) (f : Fld) (b : Bool) (j : Nat) : (s.setBit f b).tracker j = s.tracker j := rfl
@[simp] theorem State.setBit_cand (s : State) (f : Fld) (b : Bool) (d' j : Nat) : (s.setBit f b).cand d' j = s.cand d' j := rfl

/-! ## emit -/

@[simp] theorem State.emit_mode (s : State) (o : Out) : (s.emit o).mode = s.mode := rfl
@[simp] theorem State.emit_role (s : State) (o : Out) : (s.emit o).role = s.role := rfl
@[simp] theorem State.emit_regs (s : State) (o : Out) : (s.emit o).regs = s.regs := rfl
@[simp] theorem State.emit_sys (s : State) (o : Out) : (s.emit o).sys = s.sys := rfl
@[simp] theorem State.emit_clk (s : State) (o : Out) : (s.emit o).clk = s.clk := rfl
@[simp] theorem State.emit_twin (s : State) (o : Out) : (s.emit o).twin = s.twin := rfl
@[simp] theorem State.emit_clfAges (s : State) (o : Out) : (s.emit o).clfAges = s.clfAges := rfl
@[simp] theorem State.emit_prv (s : State) (o : Out) : (s.emit o).prv = s.prv := rfl
@[simp] theorem State.emit_pcie (s : State) (o : Out) : (s.emit o).pcie = s.pcie := rfl
@[simp] theorem State.emit_bus (s : State) (o : Out) : (s.emit o).bus = s.bus := rfl
@[simp] theorem State.emit_tb (s : State) (o : Out) : (s.emit o).tb = s.tb := rfl
@[simp] theorem State.emit_orbNum (s : State) (o : Out) : (s.emit o).orbNum = s.orbNum := rfl
@[simp] theorem State.emit_orbit (s : State) (o : Out) : (s.emit o).orbit = s.orbit := rfl
@[simp] theorem State.emit_domains (s : State) (o : Out) : (s.emit o).domains = s.domains := rfl
@[simp] theorem State.emit_engines (s : State) (o : Out) : (s.emit o).engines = s.engines := rfl
@[simp] theorem State.emit_touts (s : State) (o : Out) : (s.emit o).touts = s.touts := rfl
@[simp] theorem State.emit_tins (s : State) (o : Out) : (s.emit o).tins = s.tins := rfl
@[simp] theorem State.emit_links (s : State) (o : Out) : (s.emit o).links = s.links := rfl
@[simp] theorem State.emit_tdcs (s : State) (o : Out) : (s.emit o).tdcs = s.tdcs := rfl
@[simp] theorem State.emit_cals (s : State) (o : Out) : (s.emit o).cals = s.cals := rfl
@[simp] theorem State.emit_ivls (s : State) (o : Out) : (s.emit o).ivls = s.ivls := rfl
@[simp] theorem State.emit_trackers (s : State) (o : Out) : (s.emit o).trackers = s.trackers := rfl
@[simp] theorem State.emit_power (s : State) (o : Out) : (s.emit o).power = s.power := rfl
@[simp] theorem State.emit_hub (s : State) (o : Out) : (s.emit o).hub = s.hub := rfl
@[simp] theorem State.emit_slot (s : State) (o : Out) : (s.emit o).slot = s.slot := rfl
@[simp] theorem State.emit_slotTb (s : State) (o : Out) : (s.emit o).slotTb = s.slotTb := rfl
@[simp] theorem State.emit_voqs (s : State) (o : Out) : (s.emit o).voqs = s.voqs := rfl
@[simp] theorem State.emit_accts (s : State) (o : Out) : (s.emit o).accts = s.accts := rfl
@[simp] theorem State.emit_inters (s : State) (o : Out) : (s.emit o).inters = s.inters := rfl
@[simp] theorem State.emit_egrFull (s : State) (o : Out) : (s.emit o).egrFull = s.egrFull := rfl
@[simp] theorem State.emit_rr (s : State) (o : Out) : (s.emit o).rr = s.rr := rfl
@[simp] theorem State.emit_wires (s : State) (o : Out) : (s.emit o).wires = s.wires := rfl
@[simp] theorem State.emit_reasms (s : State) (o : Out) : (s.emit o).reasms = s.reasms := rfl
@[simp] theorem State.emit_egrQs (s : State) (o : Out) : (s.emit o).egrQs = s.egrQs := rfl
@[simp] theorem State.emit_nextId (s : State) (o : Out) : (s.emit o).nextId = s.nextId := rfl
@[simp] theorem State.emit_egresses (s : State) (o : Out) : (s.emit o).egresses = s.egresses := rfl
@[simp] theorem State.emit_shapers (s : State) (o : Out) : (s.emit o).shapers = s.shapers := rfl
@[simp] theorem State.emit_buckets (s : State) (o : Out) : (s.emit o).buckets = s.buckets := rfl
@[simp] theorem State.emit_seqHists (s : State) (o : Out) : (s.emit o).seqHists = s.seqHists := rfl
@[simp] theorem State.emit_sgLog (s : State) (o : Out) : (s.emit o).sgLog = s.sgLog := rfl
@[simp] theorem State.emit_rsvIgnored (s : State) (o : Out) : (s.emit o).rsvIgnored = s.rsvIgnored := rfl
@[simp] theorem State.emit_rsvReq (s : State) (o : Out) : (s.emit o).rsvReq = s.rsvReq := rfl
@[simp] theorem State.emit_ptps (s : State) (o : Out) : (s.emit o).ptps = s.ptps := rfl
@[simp] theorem State.emit_dsets (s : State) (o : Out) : (s.emit o).dsets = s.dsets := rfl
@[simp] theorem State.emit_refs (s : State) (o : Out) : (s.emit o).refs = s.refs := rfl
@[simp] theorem State.emit_cands (s : State) (o : Out) : (s.emit o).cands = s.cands := rfl
@[simp] theorem State.emit_keys (s : State) (o : Out) : (s.emit o).keys = s.keys := rfl
@[simp] theorem State.emit_binds (s : State) (o : Out) : (s.emit o).binds = s.binds := rfl
@[simp] theorem State.emit_agent (s : State) (o : Out) : (s.emit o).agent = s.agent := rfl
@[simp] theorem State.emit_mbs (s : State) (o : Out) : (s.emit o).mbs = s.mbs := rfl
@[simp] theorem State.emit_posted (s : State) (o : Out) : (s.emit o).posted = s.posted := rfl
@[simp] theorem State.emit_txns (s : State) (o : Out) : (s.emit o).txns = s.txns := rfl
@[simp] theorem State.emit_journal (s : State) (o : Out) : (s.emit o).journal = s.journal := rfl
@[simp] theorem State.emit_glists (s : State) (o : Out) : (s.emit o).glists = s.glists := rfl
@[simp] theorem State.emit_gpends (s : State) (o : Out) : (s.emit o).gpends = s.gpends := rfl
@[simp] theorem State.emit_trgLate (s : State) (o : Out) : (s.emit o).trgLate = s.trgLate := rfl
@[simp] theorem State.emit_hlsLate (s : State) (o : Out) : (s.emit o).hlsLate = s.hlsLate := rfl
@[simp] theorem State.emit_snapPend (s : State) (o : Out) : (s.emit o).snapPend = s.snapPend := rfl
@[simp] theorem State.emit_freeCount (s : State) (o : Out) : (s.emit o).freeCount = s.freeCount := rfl
@[simp] theorem State.emit_pending (s : State) (o : Out) : (s.emit o).pending = s.pending := rfl
@[simp] theorem State.emit_reg (s : State) (o : Out) (a' : Nat) : (s.emit o).reg a' = s.reg a' := rfl
@[simp] theorem State.emit_rd (s : State) (o : Out) (g : Fld) : (s.emit o).rd g = s.rd g := rfl
@[simp] theorem State.emit_bit (s : State) (o : Out) (g : Fld) : (s.emit o).bit g = s.bit g := rfl
@[simp] theorem State.emit_shaper (s : State) (o : Out) (j : Nat) : (s.emit o).shaper j = s.shaper j := rfl
@[simp] theorem State.emit_acct (s : State) (o : Out) (j : Nat) : (s.emit o).acct j = s.acct j := rfl
@[simp] theorem State.emit_reasm (s : State) (o : Out) (j : Nat) : (s.emit o).reasm j = s.reasm j := rfl
@[simp] theorem State.emit_egrQ (s : State) (o : Out) (j : Nat) : (s.emit o).egrQ j = s.egrQ j := rfl
@[simp] theorem State.emit_egr (s : State) (o : Out) (j : Nat) : (s.emit o).egr j = s.egr j := rfl
@[simp] theorem State.emit_wire (s : State) (o : Out) (j : Nat) : (s.emit o).wire j = s.wire j := rfl
@[simp] theorem State.emit_seqHist (s : State) (o : Out) (j : Nat) : (s.emit o).seqHist j = s.seqHist j := rfl
@[simp] theorem State.emit_bucket (s : State) (o : Out) (j : Nat) : (s.emit o).bucket j = s.bucket j := rfl
@[simp] theorem State.emit_mb (s : State) (o : Out) (j : Nat) : (s.emit o).mb j = s.mb j := rfl
@[simp] theorem State.emit_dom (s : State) (o : Out) (j : Nat) : (s.emit o).dom j = s.dom j := rfl
@[simp] theorem State.emit_eng (s : State) (o : Out) (j : Nat) : (s.emit o).eng j = s.eng j := rfl
@[simp] theorem State.emit_tout (s : State) (o : Out) (j : Nat) : (s.emit o).tout j = s.tout j := rfl
@[simp] theorem State.emit_tin (s : State) (o : Out) (j : Nat) : (s.emit o).tin j = s.tin j := rfl
@[simp] theorem State.emit_link (s : State) (o : Out) (j : Nat) : (s.emit o).link j = s.link j := rfl
@[simp] theorem State.emit_glist (s : State) (o : Out) (j : Nat) : (s.emit o).glist j = s.glist j := rfl
@[simp] theorem State.emit_gpend (s : State) (o : Out) (j : Nat) : (s.emit o).gpend j = s.gpend j := rfl
@[simp] theorem State.emit_ptp (s : State) (o : Out) (j : Nat) : (s.emit o).ptp j = s.ptp j := rfl
@[simp] theorem State.emit_ref (s : State) (o : Out) (j : Nat) : (s.emit o).ref j = s.ref j := rfl
@[simp] theorem State.emit_tdc (s : State) (o : Out) (j : Nat) : (s.emit o).tdc j = s.tdc j := rfl
@[simp] theorem State.emit_cal (s : State) (o : Out) (j : Nat) : (s.emit o).cal j = s.cal j := rfl
@[simp] theorem State.emit_ivl (s : State) (o : Out) (j : Nat) : (s.emit o).ivl j = s.ivl j := rfl
@[simp] theorem State.emit_tracker (s : State) (o : Out) (j : Nat) : (s.emit o).tracker j = s.tracker j := rfl
@[simp] theorem State.emit_cand (s : State) (o : Out) (d' j : Nat) : (s.emit o).cand d' j = s.cand d' j := rfl

/-! ## setShaper -/

@[simp] theorem State.setShaper_mode (s : State) (k : Nat) (x : Shaper) : (s.setShaper k x).mode = s.mode := rfl
@[simp] theorem State.setShaper_role (s : State) (k : Nat) (x : Shaper) : (s.setShaper k x).role = s.role := rfl
@[simp] theorem State.setShaper_regs (s : State) (k : Nat) (x : Shaper) : (s.setShaper k x).regs = s.regs := rfl
@[simp] theorem State.setShaper_sys (s : State) (k : Nat) (x : Shaper) : (s.setShaper k x).sys = s.sys := rfl
@[simp] theorem State.setShaper_clk (s : State) (k : Nat) (x : Shaper) : (s.setShaper k x).clk = s.clk := rfl
@[simp] theorem State.setShaper_twin (s : State) (k : Nat) (x : Shaper) : (s.setShaper k x).twin = s.twin := rfl
@[simp] theorem State.setShaper_clfAges (s : State) (k : Nat) (x : Shaper) : (s.setShaper k x).clfAges = s.clfAges := rfl
@[simp] theorem State.setShaper_prv (s : State) (k : Nat) (x : Shaper) : (s.setShaper k x).prv = s.prv := rfl
@[simp] theorem State.setShaper_pcie (s : State) (k : Nat) (x : Shaper) : (s.setShaper k x).pcie = s.pcie := rfl
@[simp] theorem State.setShaper_bus (s : State) (k : Nat) (x : Shaper) : (s.setShaper k x).bus = s.bus := rfl
@[simp] theorem State.setShaper_tb (s : State) (k : Nat) (x : Shaper) : (s.setShaper k x).tb = s.tb := rfl
@[simp] theorem State.setShaper_orbNum (s : State) (k : Nat) (x : Shaper) : (s.setShaper k x).orbNum = s.orbNum := rfl
@[simp] theorem State.setShaper_orbit (s : State) (k : Nat) (x : Shaper) : (s.setShaper k x).orbit = s.orbit := rfl
@[simp] theorem State.setShaper_domains (s : State) (k : Nat) (x : Shaper) : (s.setShaper k x).domains = s.domains := rfl
@[simp] theorem State.setShaper_engines (s : State) (k : Nat) (x : Shaper) : (s.setShaper k x).engines = s.engines := rfl
@[simp] theorem State.setShaper_touts (s : State) (k : Nat) (x : Shaper) : (s.setShaper k x).touts = s.touts := rfl
@[simp] theorem State.setShaper_tins (s : State) (k : Nat) (x : Shaper) : (s.setShaper k x).tins = s.tins := rfl
@[simp] theorem State.setShaper_links (s : State) (k : Nat) (x : Shaper) : (s.setShaper k x).links = s.links := rfl
@[simp] theorem State.setShaper_tdcs (s : State) (k : Nat) (x : Shaper) : (s.setShaper k x).tdcs = s.tdcs := rfl
@[simp] theorem State.setShaper_cals (s : State) (k : Nat) (x : Shaper) : (s.setShaper k x).cals = s.cals := rfl
@[simp] theorem State.setShaper_ivls (s : State) (k : Nat) (x : Shaper) : (s.setShaper k x).ivls = s.ivls := rfl
@[simp] theorem State.setShaper_trackers (s : State) (k : Nat) (x : Shaper) : (s.setShaper k x).trackers = s.trackers := rfl
@[simp] theorem State.setShaper_power (s : State) (k : Nat) (x : Shaper) : (s.setShaper k x).power = s.power := rfl
@[simp] theorem State.setShaper_hub (s : State) (k : Nat) (x : Shaper) : (s.setShaper k x).hub = s.hub := rfl
@[simp] theorem State.setShaper_slot (s : State) (k : Nat) (x : Shaper) : (s.setShaper k x).slot = s.slot := rfl
@[simp] theorem State.setShaper_slotTb (s : State) (k : Nat) (x : Shaper) : (s.setShaper k x).slotTb = s.slotTb := rfl
@[simp] theorem State.setShaper_voqs (s : State) (k : Nat) (x : Shaper) : (s.setShaper k x).voqs = s.voqs := rfl
@[simp] theorem State.setShaper_accts (s : State) (k : Nat) (x : Shaper) : (s.setShaper k x).accts = s.accts := rfl
@[simp] theorem State.setShaper_inters (s : State) (k : Nat) (x : Shaper) : (s.setShaper k x).inters = s.inters := rfl
@[simp] theorem State.setShaper_egrFull (s : State) (k : Nat) (x : Shaper) : (s.setShaper k x).egrFull = s.egrFull := rfl
@[simp] theorem State.setShaper_rr (s : State) (k : Nat) (x : Shaper) : (s.setShaper k x).rr = s.rr := rfl
@[simp] theorem State.setShaper_wires (s : State) (k : Nat) (x : Shaper) : (s.setShaper k x).wires = s.wires := rfl
@[simp] theorem State.setShaper_reasms (s : State) (k : Nat) (x : Shaper) : (s.setShaper k x).reasms = s.reasms := rfl
@[simp] theorem State.setShaper_egrQs (s : State) (k : Nat) (x : Shaper) : (s.setShaper k x).egrQs = s.egrQs := rfl
@[simp] theorem State.setShaper_nextId (s : State) (k : Nat) (x : Shaper) : (s.setShaper k x).nextId = s.nextId := rfl
@[simp] theorem State.setShaper_egresses (s : State) (k : Nat) (x : Shaper) : (s.setShaper k x).egresses = s.egresses := rfl
@[simp] theorem State.setShaper_buckets (s : State) (k : Nat) (x : Shaper) : (s.setShaper k x).buckets = s.buckets := rfl
@[simp] theorem State.setShaper_seqHists (s : State) (k : Nat) (x : Shaper) : (s.setShaper k x).seqHists = s.seqHists := rfl
@[simp] theorem State.setShaper_sgLog (s : State) (k : Nat) (x : Shaper) : (s.setShaper k x).sgLog = s.sgLog := rfl
@[simp] theorem State.setShaper_rsvIgnored (s : State) (k : Nat) (x : Shaper) : (s.setShaper k x).rsvIgnored = s.rsvIgnored := rfl
@[simp] theorem State.setShaper_rsvReq (s : State) (k : Nat) (x : Shaper) : (s.setShaper k x).rsvReq = s.rsvReq := rfl
@[simp] theorem State.setShaper_ptps (s : State) (k : Nat) (x : Shaper) : (s.setShaper k x).ptps = s.ptps := rfl
@[simp] theorem State.setShaper_dsets (s : State) (k : Nat) (x : Shaper) : (s.setShaper k x).dsets = s.dsets := rfl
@[simp] theorem State.setShaper_refs (s : State) (k : Nat) (x : Shaper) : (s.setShaper k x).refs = s.refs := rfl
@[simp] theorem State.setShaper_cands (s : State) (k : Nat) (x : Shaper) : (s.setShaper k x).cands = s.cands := rfl
@[simp] theorem State.setShaper_keys (s : State) (k : Nat) (x : Shaper) : (s.setShaper k x).keys = s.keys := rfl
@[simp] theorem State.setShaper_binds (s : State) (k : Nat) (x : Shaper) : (s.setShaper k x).binds = s.binds := rfl
@[simp] theorem State.setShaper_agent (s : State) (k : Nat) (x : Shaper) : (s.setShaper k x).agent = s.agent := rfl
@[simp] theorem State.setShaper_mbs (s : State) (k : Nat) (x : Shaper) : (s.setShaper k x).mbs = s.mbs := rfl
@[simp] theorem State.setShaper_posted (s : State) (k : Nat) (x : Shaper) : (s.setShaper k x).posted = s.posted := rfl
@[simp] theorem State.setShaper_txns (s : State) (k : Nat) (x : Shaper) : (s.setShaper k x).txns = s.txns := rfl
@[simp] theorem State.setShaper_journal (s : State) (k : Nat) (x : Shaper) : (s.setShaper k x).journal = s.journal := rfl
@[simp] theorem State.setShaper_glists (s : State) (k : Nat) (x : Shaper) : (s.setShaper k x).glists = s.glists := rfl
@[simp] theorem State.setShaper_gpends (s : State) (k : Nat) (x : Shaper) : (s.setShaper k x).gpends = s.gpends := rfl
@[simp] theorem State.setShaper_trgLate (s : State) (k : Nat) (x : Shaper) : (s.setShaper k x).trgLate = s.trgLate := rfl
@[simp] theorem State.setShaper_hlsLate (s : State) (k : Nat) (x : Shaper) : (s.setShaper k x).hlsLate = s.hlsLate := rfl
@[simp] theorem State.setShaper_snapPend (s : State) (k : Nat) (x : Shaper) : (s.setShaper k x).snapPend = s.snapPend := rfl
@[simp] theorem State.setShaper_out (s : State) (k : Nat) (x : Shaper) : (s.setShaper k x).out = s.out := rfl
@[simp] theorem State.setShaper_freeCount (s : State) (k : Nat) (x : Shaper) : (s.setShaper k x).freeCount = s.freeCount := rfl
@[simp] theorem State.setShaper_pending (s : State) (k : Nat) (x : Shaper) : (s.setShaper k x).pending = s.pending := rfl
@[simp] theorem State.setShaper_reg (s : State) (k : Nat) (x : Shaper) (a' : Nat) : (s.setShaper k x).reg a' = s.reg a' := rfl
@[simp] theorem State.setShaper_rd (s : State) (k : Nat) (x : Shaper) (g : Fld) : (s.setShaper k x).rd g = s.rd g := rfl
@[simp] theorem State.setShaper_bit (s : State) (k : Nat) (x : Shaper) (g : Fld) : (s.setShaper k x).bit g = s.bit g := rfl
@[simp] theorem State.setShaper_acct (s : State) (k : Nat) (x : Shaper) (j : Nat) : (s.setShaper k x).acct j = s.acct j := rfl
@[simp] theorem State.setShaper_reasm (s : State) (k : Nat) (x : Shaper) (j : Nat) : (s.setShaper k x).reasm j = s.reasm j := rfl
@[simp] theorem State.setShaper_egrQ (s : State) (k : Nat) (x : Shaper) (j : Nat) : (s.setShaper k x).egrQ j = s.egrQ j := rfl
@[simp] theorem State.setShaper_egr (s : State) (k : Nat) (x : Shaper) (j : Nat) : (s.setShaper k x).egr j = s.egr j := rfl
@[simp] theorem State.setShaper_wire (s : State) (k : Nat) (x : Shaper) (j : Nat) : (s.setShaper k x).wire j = s.wire j := rfl
@[simp] theorem State.setShaper_seqHist (s : State) (k : Nat) (x : Shaper) (j : Nat) : (s.setShaper k x).seqHist j = s.seqHist j := rfl
@[simp] theorem State.setShaper_bucket (s : State) (k : Nat) (x : Shaper) (j : Nat) : (s.setShaper k x).bucket j = s.bucket j := rfl
@[simp] theorem State.setShaper_mb (s : State) (k : Nat) (x : Shaper) (j : Nat) : (s.setShaper k x).mb j = s.mb j := rfl
@[simp] theorem State.setShaper_dom (s : State) (k : Nat) (x : Shaper) (j : Nat) : (s.setShaper k x).dom j = s.dom j := rfl
@[simp] theorem State.setShaper_eng (s : State) (k : Nat) (x : Shaper) (j : Nat) : (s.setShaper k x).eng j = s.eng j := rfl
@[simp] theorem State.setShaper_tout (s : State) (k : Nat) (x : Shaper) (j : Nat) : (s.setShaper k x).tout j = s.tout j := rfl
@[simp] theorem State.setShaper_tin (s : State) (k : Nat) (x : Shaper) (j : Nat) : (s.setShaper k x).tin j = s.tin j := rfl
@[simp] theorem State.setShaper_link (s : State) (k : Nat) (x : Shaper) (j : Nat) : (s.setShaper k x).link j = s.link j := rfl
@[simp] theorem State.setShaper_glist (s : State) (k : Nat) (x : Shaper) (j : Nat) : (s.setShaper k x).glist j = s.glist j := rfl
@[simp] theorem State.setShaper_gpend (s : State) (k : Nat) (x : Shaper) (j : Nat) : (s.setShaper k x).gpend j = s.gpend j := rfl
@[simp] theorem State.setShaper_ptp (s : State) (k : Nat) (x : Shaper) (j : Nat) : (s.setShaper k x).ptp j = s.ptp j := rfl
@[simp] theorem State.setShaper_ref (s : State) (k : Nat) (x : Shaper) (j : Nat) : (s.setShaper k x).ref j = s.ref j := rfl
@[simp] theorem State.setShaper_tdc (s : State) (k : Nat) (x : Shaper) (j : Nat) : (s.setShaper k x).tdc j = s.tdc j := rfl
@[simp] theorem State.setShaper_cal (s : State) (k : Nat) (x : Shaper) (j : Nat) : (s.setShaper k x).cal j = s.cal j := rfl
@[simp] theorem State.setShaper_ivl (s : State) (k : Nat) (x : Shaper) (j : Nat) : (s.setShaper k x).ivl j = s.ivl j := rfl
@[simp] theorem State.setShaper_tracker (s : State) (k : Nat) (x : Shaper) (j : Nat) : (s.setShaper k x).tracker j = s.tracker j := rfl
@[simp] theorem State.setShaper_cand (s : State) (k : Nat) (x : Shaper) (d' j : Nat) : (s.setShaper k x).cand d' j = s.cand d' j := rfl

/-! ## setAcct -/

@[simp] theorem State.setAcct_mode (s : State) (k : Nat) (x : Acct) : (s.setAcct k x).mode = s.mode := rfl
@[simp] theorem State.setAcct_role (s : State) (k : Nat) (x : Acct) : (s.setAcct k x).role = s.role := rfl
@[simp] theorem State.setAcct_regs (s : State) (k : Nat) (x : Acct) : (s.setAcct k x).regs = s.regs := rfl
@[simp] theorem State.setAcct_sys (s : State) (k : Nat) (x : Acct) : (s.setAcct k x).sys = s.sys := rfl
@[simp] theorem State.setAcct_clk (s : State) (k : Nat) (x : Acct) : (s.setAcct k x).clk = s.clk := rfl
@[simp] theorem State.setAcct_twin (s : State) (k : Nat) (x : Acct) : (s.setAcct k x).twin = s.twin := rfl
@[simp] theorem State.setAcct_clfAges (s : State) (k : Nat) (x : Acct) : (s.setAcct k x).clfAges = s.clfAges := rfl
@[simp] theorem State.setAcct_prv (s : State) (k : Nat) (x : Acct) : (s.setAcct k x).prv = s.prv := rfl
@[simp] theorem State.setAcct_pcie (s : State) (k : Nat) (x : Acct) : (s.setAcct k x).pcie = s.pcie := rfl
@[simp] theorem State.setAcct_bus (s : State) (k : Nat) (x : Acct) : (s.setAcct k x).bus = s.bus := rfl
@[simp] theorem State.setAcct_tb (s : State) (k : Nat) (x : Acct) : (s.setAcct k x).tb = s.tb := rfl
@[simp] theorem State.setAcct_orbNum (s : State) (k : Nat) (x : Acct) : (s.setAcct k x).orbNum = s.orbNum := rfl
@[simp] theorem State.setAcct_orbit (s : State) (k : Nat) (x : Acct) : (s.setAcct k x).orbit = s.orbit := rfl
@[simp] theorem State.setAcct_domains (s : State) (k : Nat) (x : Acct) : (s.setAcct k x).domains = s.domains := rfl
@[simp] theorem State.setAcct_engines (s : State) (k : Nat) (x : Acct) : (s.setAcct k x).engines = s.engines := rfl
@[simp] theorem State.setAcct_touts (s : State) (k : Nat) (x : Acct) : (s.setAcct k x).touts = s.touts := rfl
@[simp] theorem State.setAcct_tins (s : State) (k : Nat) (x : Acct) : (s.setAcct k x).tins = s.tins := rfl
@[simp] theorem State.setAcct_links (s : State) (k : Nat) (x : Acct) : (s.setAcct k x).links = s.links := rfl
@[simp] theorem State.setAcct_tdcs (s : State) (k : Nat) (x : Acct) : (s.setAcct k x).tdcs = s.tdcs := rfl
@[simp] theorem State.setAcct_cals (s : State) (k : Nat) (x : Acct) : (s.setAcct k x).cals = s.cals := rfl
@[simp] theorem State.setAcct_ivls (s : State) (k : Nat) (x : Acct) : (s.setAcct k x).ivls = s.ivls := rfl
@[simp] theorem State.setAcct_trackers (s : State) (k : Nat) (x : Acct) : (s.setAcct k x).trackers = s.trackers := rfl
@[simp] theorem State.setAcct_power (s : State) (k : Nat) (x : Acct) : (s.setAcct k x).power = s.power := rfl
@[simp] theorem State.setAcct_hub (s : State) (k : Nat) (x : Acct) : (s.setAcct k x).hub = s.hub := rfl
@[simp] theorem State.setAcct_slot (s : State) (k : Nat) (x : Acct) : (s.setAcct k x).slot = s.slot := rfl
@[simp] theorem State.setAcct_slotTb (s : State) (k : Nat) (x : Acct) : (s.setAcct k x).slotTb = s.slotTb := rfl
@[simp] theorem State.setAcct_voqs (s : State) (k : Nat) (x : Acct) : (s.setAcct k x).voqs = s.voqs := rfl
@[simp] theorem State.setAcct_inters (s : State) (k : Nat) (x : Acct) : (s.setAcct k x).inters = s.inters := rfl
@[simp] theorem State.setAcct_egrFull (s : State) (k : Nat) (x : Acct) : (s.setAcct k x).egrFull = s.egrFull := rfl
@[simp] theorem State.setAcct_rr (s : State) (k : Nat) (x : Acct) : (s.setAcct k x).rr = s.rr := rfl
@[simp] theorem State.setAcct_wires (s : State) (k : Nat) (x : Acct) : (s.setAcct k x).wires = s.wires := rfl
@[simp] theorem State.setAcct_reasms (s : State) (k : Nat) (x : Acct) : (s.setAcct k x).reasms = s.reasms := rfl
@[simp] theorem State.setAcct_egrQs (s : State) (k : Nat) (x : Acct) : (s.setAcct k x).egrQs = s.egrQs := rfl
@[simp] theorem State.setAcct_nextId (s : State) (k : Nat) (x : Acct) : (s.setAcct k x).nextId = s.nextId := rfl
@[simp] theorem State.setAcct_egresses (s : State) (k : Nat) (x : Acct) : (s.setAcct k x).egresses = s.egresses := rfl
@[simp] theorem State.setAcct_shapers (s : State) (k : Nat) (x : Acct) : (s.setAcct k x).shapers = s.shapers := rfl
@[simp] theorem State.setAcct_buckets (s : State) (k : Nat) (x : Acct) : (s.setAcct k x).buckets = s.buckets := rfl
@[simp] theorem State.setAcct_seqHists (s : State) (k : Nat) (x : Acct) : (s.setAcct k x).seqHists = s.seqHists := rfl
@[simp] theorem State.setAcct_sgLog (s : State) (k : Nat) (x : Acct) : (s.setAcct k x).sgLog = s.sgLog := rfl
@[simp] theorem State.setAcct_rsvIgnored (s : State) (k : Nat) (x : Acct) : (s.setAcct k x).rsvIgnored = s.rsvIgnored := rfl
@[simp] theorem State.setAcct_rsvReq (s : State) (k : Nat) (x : Acct) : (s.setAcct k x).rsvReq = s.rsvReq := rfl
@[simp] theorem State.setAcct_ptps (s : State) (k : Nat) (x : Acct) : (s.setAcct k x).ptps = s.ptps := rfl
@[simp] theorem State.setAcct_dsets (s : State) (k : Nat) (x : Acct) : (s.setAcct k x).dsets = s.dsets := rfl
@[simp] theorem State.setAcct_refs (s : State) (k : Nat) (x : Acct) : (s.setAcct k x).refs = s.refs := rfl
@[simp] theorem State.setAcct_cands (s : State) (k : Nat) (x : Acct) : (s.setAcct k x).cands = s.cands := rfl
@[simp] theorem State.setAcct_keys (s : State) (k : Nat) (x : Acct) : (s.setAcct k x).keys = s.keys := rfl
@[simp] theorem State.setAcct_binds (s : State) (k : Nat) (x : Acct) : (s.setAcct k x).binds = s.binds := rfl
@[simp] theorem State.setAcct_agent (s : State) (k : Nat) (x : Acct) : (s.setAcct k x).agent = s.agent := rfl
@[simp] theorem State.setAcct_mbs (s : State) (k : Nat) (x : Acct) : (s.setAcct k x).mbs = s.mbs := rfl
@[simp] theorem State.setAcct_posted (s : State) (k : Nat) (x : Acct) : (s.setAcct k x).posted = s.posted := rfl
@[simp] theorem State.setAcct_txns (s : State) (k : Nat) (x : Acct) : (s.setAcct k x).txns = s.txns := rfl
@[simp] theorem State.setAcct_journal (s : State) (k : Nat) (x : Acct) : (s.setAcct k x).journal = s.journal := rfl
@[simp] theorem State.setAcct_glists (s : State) (k : Nat) (x : Acct) : (s.setAcct k x).glists = s.glists := rfl
@[simp] theorem State.setAcct_gpends (s : State) (k : Nat) (x : Acct) : (s.setAcct k x).gpends = s.gpends := rfl
@[simp] theorem State.setAcct_trgLate (s : State) (k : Nat) (x : Acct) : (s.setAcct k x).trgLate = s.trgLate := rfl
@[simp] theorem State.setAcct_hlsLate (s : State) (k : Nat) (x : Acct) : (s.setAcct k x).hlsLate = s.hlsLate := rfl
@[simp] theorem State.setAcct_snapPend (s : State) (k : Nat) (x : Acct) : (s.setAcct k x).snapPend = s.snapPend := rfl
@[simp] theorem State.setAcct_out (s : State) (k : Nat) (x : Acct) : (s.setAcct k x).out = s.out := rfl
@[simp] theorem State.setAcct_freeCount (s : State) (k : Nat) (x : Acct) : (s.setAcct k x).freeCount = s.freeCount := rfl
@[simp] theorem State.setAcct_pending (s : State) (k : Nat) (x : Acct) : (s.setAcct k x).pending = s.pending := rfl
@[simp] theorem State.setAcct_reg (s : State) (k : Nat) (x : Acct) (a' : Nat) : (s.setAcct k x).reg a' = s.reg a' := rfl
@[simp] theorem State.setAcct_rd (s : State) (k : Nat) (x : Acct) (g : Fld) : (s.setAcct k x).rd g = s.rd g := rfl
@[simp] theorem State.setAcct_bit (s : State) (k : Nat) (x : Acct) (g : Fld) : (s.setAcct k x).bit g = s.bit g := rfl
@[simp] theorem State.setAcct_shaper (s : State) (k : Nat) (x : Acct) (j : Nat) : (s.setAcct k x).shaper j = s.shaper j := rfl
@[simp] theorem State.setAcct_reasm (s : State) (k : Nat) (x : Acct) (j : Nat) : (s.setAcct k x).reasm j = s.reasm j := rfl
@[simp] theorem State.setAcct_egrQ (s : State) (k : Nat) (x : Acct) (j : Nat) : (s.setAcct k x).egrQ j = s.egrQ j := rfl
@[simp] theorem State.setAcct_egr (s : State) (k : Nat) (x : Acct) (j : Nat) : (s.setAcct k x).egr j = s.egr j := rfl
@[simp] theorem State.setAcct_wire (s : State) (k : Nat) (x : Acct) (j : Nat) : (s.setAcct k x).wire j = s.wire j := rfl
@[simp] theorem State.setAcct_seqHist (s : State) (k : Nat) (x : Acct) (j : Nat) : (s.setAcct k x).seqHist j = s.seqHist j := rfl
@[simp] theorem State.setAcct_bucket (s : State) (k : Nat) (x : Acct) (j : Nat) : (s.setAcct k x).bucket j = s.bucket j := rfl
@[simp] theorem State.setAcct_mb (s : State) (k : Nat) (x : Acct) (j : Nat) : (s.setAcct k x).mb j = s.mb j := rfl
@[simp] theorem State.setAcct_dom (s : State) (k : Nat) (x : Acct) (j : Nat) : (s.setAcct k x).dom j = s.dom j := rfl
@[simp] theorem State.setAcct_eng (s : State) (k : Nat) (x : Acct) (j : Nat) : (s.setAcct k x).eng j = s.eng j := rfl
@[simp] theorem State.setAcct_tout (s : State) (k : Nat) (x : Acct) (j : Nat) : (s.setAcct k x).tout j = s.tout j := rfl
@[simp] theorem State.setAcct_tin (s : State) (k : Nat) (x : Acct) (j : Nat) : (s.setAcct k x).tin j = s.tin j := rfl
@[simp] theorem State.setAcct_link (s : State) (k : Nat) (x : Acct) (j : Nat) : (s.setAcct k x).link j = s.link j := rfl
@[simp] theorem State.setAcct_glist (s : State) (k : Nat) (x : Acct) (j : Nat) : (s.setAcct k x).glist j = s.glist j := rfl
@[simp] theorem State.setAcct_gpend (s : State) (k : Nat) (x : Acct) (j : Nat) : (s.setAcct k x).gpend j = s.gpend j := rfl
@[simp] theorem State.setAcct_ptp (s : State) (k : Nat) (x : Acct) (j : Nat) : (s.setAcct k x).ptp j = s.ptp j := rfl
@[simp] theorem State.setAcct_ref (s : State) (k : Nat) (x : Acct) (j : Nat) : (s.setAcct k x).ref j = s.ref j := rfl
@[simp] theorem State.setAcct_tdc (s : State) (k : Nat) (x : Acct) (j : Nat) : (s.setAcct k x).tdc j = s.tdc j := rfl
@[simp] theorem State.setAcct_cal (s : State) (k : Nat) (x : Acct) (j : Nat) : (s.setAcct k x).cal j = s.cal j := rfl
@[simp] theorem State.setAcct_ivl (s : State) (k : Nat) (x : Acct) (j : Nat) : (s.setAcct k x).ivl j = s.ivl j := rfl
@[simp] theorem State.setAcct_tracker (s : State) (k : Nat) (x : Acct) (j : Nat) : (s.setAcct k x).tracker j = s.tracker j := rfl
@[simp] theorem State.setAcct_cand (s : State) (k : Nat) (x : Acct) (d' j : Nat) : (s.setAcct k x).cand d' j = s.cand d' j := rfl

/-! ## setReasm -/

@[simp] theorem State.setReasm_mode (s : State) (k : Nat) (x : Reasm) : (s.setReasm k x).mode = s.mode := rfl
@[simp] theorem State.setReasm_role (s : State) (k : Nat) (x : Reasm) : (s.setReasm k x).role = s.role := rfl
@[simp] theorem State.setReasm_regs (s : State) (k : Nat) (x : Reasm) : (s.setReasm k x).regs = s.regs := rfl
@[simp] theorem State.setReasm_sys (s : State) (k : Nat) (x : Reasm) : (s.setReasm k x).sys = s.sys := rfl
@[simp] theorem State.setReasm_clk (s : State) (k : Nat) (x : Reasm) : (s.setReasm k x).clk = s.clk := rfl
@[simp] theorem State.setReasm_twin (s : State) (k : Nat) (x : Reasm) : (s.setReasm k x).twin = s.twin := rfl
@[simp] theorem State.setReasm_clfAges (s : State) (k : Nat) (x : Reasm) : (s.setReasm k x).clfAges = s.clfAges := rfl
@[simp] theorem State.setReasm_prv (s : State) (k : Nat) (x : Reasm) : (s.setReasm k x).prv = s.prv := rfl
@[simp] theorem State.setReasm_pcie (s : State) (k : Nat) (x : Reasm) : (s.setReasm k x).pcie = s.pcie := rfl
@[simp] theorem State.setReasm_bus (s : State) (k : Nat) (x : Reasm) : (s.setReasm k x).bus = s.bus := rfl
@[simp] theorem State.setReasm_tb (s : State) (k : Nat) (x : Reasm) : (s.setReasm k x).tb = s.tb := rfl
@[simp] theorem State.setReasm_orbNum (s : State) (k : Nat) (x : Reasm) : (s.setReasm k x).orbNum = s.orbNum := rfl
@[simp] theorem State.setReasm_orbit (s : State) (k : Nat) (x : Reasm) : (s.setReasm k x).orbit = s.orbit := rfl
@[simp] theorem State.setReasm_domains (s : State) (k : Nat) (x : Reasm) : (s.setReasm k x).domains = s.domains := rfl
@[simp] theorem State.setReasm_engines (s : State) (k : Nat) (x : Reasm) : (s.setReasm k x).engines = s.engines := rfl
@[simp] theorem State.setReasm_touts (s : State) (k : Nat) (x : Reasm) : (s.setReasm k x).touts = s.touts := rfl
@[simp] theorem State.setReasm_tins (s : State) (k : Nat) (x : Reasm) : (s.setReasm k x).tins = s.tins := rfl
@[simp] theorem State.setReasm_links (s : State) (k : Nat) (x : Reasm) : (s.setReasm k x).links = s.links := rfl
@[simp] theorem State.setReasm_tdcs (s : State) (k : Nat) (x : Reasm) : (s.setReasm k x).tdcs = s.tdcs := rfl
@[simp] theorem State.setReasm_cals (s : State) (k : Nat) (x : Reasm) : (s.setReasm k x).cals = s.cals := rfl
@[simp] theorem State.setReasm_ivls (s : State) (k : Nat) (x : Reasm) : (s.setReasm k x).ivls = s.ivls := rfl
@[simp] theorem State.setReasm_trackers (s : State) (k : Nat) (x : Reasm) : (s.setReasm k x).trackers = s.trackers := rfl
@[simp] theorem State.setReasm_power (s : State) (k : Nat) (x : Reasm) : (s.setReasm k x).power = s.power := rfl
@[simp] theorem State.setReasm_hub (s : State) (k : Nat) (x : Reasm) : (s.setReasm k x).hub = s.hub := rfl
@[simp] theorem State.setReasm_slot (s : State) (k : Nat) (x : Reasm) : (s.setReasm k x).slot = s.slot := rfl
@[simp] theorem State.setReasm_slotTb (s : State) (k : Nat) (x : Reasm) : (s.setReasm k x).slotTb = s.slotTb := rfl
@[simp] theorem State.setReasm_voqs (s : State) (k : Nat) (x : Reasm) : (s.setReasm k x).voqs = s.voqs := rfl
@[simp] theorem State.setReasm_accts (s : State) (k : Nat) (x : Reasm) : (s.setReasm k x).accts = s.accts := rfl
@[simp] theorem State.setReasm_inters (s : State) (k : Nat) (x : Reasm) : (s.setReasm k x).inters = s.inters := rfl
@[simp] theorem State.setReasm_egrFull (s : State) (k : Nat) (x : Reasm) : (s.setReasm k x).egrFull = s.egrFull := rfl
@[simp] theorem State.setReasm_rr (s : State) (k : Nat) (x : Reasm) : (s.setReasm k x).rr = s.rr := rfl
@[simp] theorem State.setReasm_wires (s : State) (k : Nat) (x : Reasm) : (s.setReasm k x).wires = s.wires := rfl
@[simp] theorem State.setReasm_egrQs (s : State) (k : Nat) (x : Reasm) : (s.setReasm k x).egrQs = s.egrQs := rfl
@[simp] theorem State.setReasm_nextId (s : State) (k : Nat) (x : Reasm) : (s.setReasm k x).nextId = s.nextId := rfl
@[simp] theorem State.setReasm_egresses (s : State) (k : Nat) (x : Reasm) : (s.setReasm k x).egresses = s.egresses := rfl
@[simp] theorem State.setReasm_shapers (s : State) (k : Nat) (x : Reasm) : (s.setReasm k x).shapers = s.shapers := rfl
@[simp] theorem State.setReasm_buckets (s : State) (k : Nat) (x : Reasm) : (s.setReasm k x).buckets = s.buckets := rfl
@[simp] theorem State.setReasm_seqHists (s : State) (k : Nat) (x : Reasm) : (s.setReasm k x).seqHists = s.seqHists := rfl
@[simp] theorem State.setReasm_sgLog (s : State) (k : Nat) (x : Reasm) : (s.setReasm k x).sgLog = s.sgLog := rfl
@[simp] theorem State.setReasm_rsvIgnored (s : State) (k : Nat) (x : Reasm) : (s.setReasm k x).rsvIgnored = s.rsvIgnored := rfl
@[simp] theorem State.setReasm_rsvReq (s : State) (k : Nat) (x : Reasm) : (s.setReasm k x).rsvReq = s.rsvReq := rfl
@[simp] theorem State.setReasm_ptps (s : State) (k : Nat) (x : Reasm) : (s.setReasm k x).ptps = s.ptps := rfl
@[simp] theorem State.setReasm_dsets (s : State) (k : Nat) (x : Reasm) : (s.setReasm k x).dsets = s.dsets := rfl
@[simp] theorem State.setReasm_refs (s : State) (k : Nat) (x : Reasm) : (s.setReasm k x).refs = s.refs := rfl
@[simp] theorem State.setReasm_cands (s : State) (k : Nat) (x : Reasm) : (s.setReasm k x).cands = s.cands := rfl
@[simp] theorem State.setReasm_keys (s : State) (k : Nat) (x : Reasm) : (s.setReasm k x).keys = s.keys := rfl
@[simp] theorem State.setReasm_binds (s : State) (k : Nat) (x : Reasm) : (s.setReasm k x).binds = s.binds := rfl
@[simp] theorem State.setReasm_agent (s : State) (k : Nat) (x : Reasm) : (s.setReasm k x).agent = s.agent := rfl
@[simp] theorem State.setReasm_mbs (s : State) (k : Nat) (x : Reasm) : (s.setReasm k x).mbs = s.mbs := rfl
@[simp] theorem State.setReasm_posted (s : State) (k : Nat) (x : Reasm) : (s.setReasm k x).posted = s.posted := rfl
@[simp] theorem State.setReasm_txns (s : State) (k : Nat) (x : Reasm) : (s.setReasm k x).txns = s.txns := rfl
@[simp] theorem State.setReasm_journal (s : State) (k : Nat) (x : Reasm) : (s.setReasm k x).journal = s.journal := rfl
@[simp] theorem State.setReasm_glists (s : State) (k : Nat) (x : Reasm) : (s.setReasm k x).glists = s.glists := rfl
@[simp] theorem State.setReasm_gpends (s : State) (k : Nat) (x : Reasm) : (s.setReasm k x).gpends = s.gpends := rfl
@[simp] theorem State.setReasm_trgLate (s : State) (k : Nat) (x : Reasm) : (s.setReasm k x).trgLate = s.trgLate := rfl
@[simp] theorem State.setReasm_hlsLate (s : State) (k : Nat) (x : Reasm) : (s.setReasm k x).hlsLate = s.hlsLate := rfl
@[simp] theorem State.setReasm_snapPend (s : State) (k : Nat) (x : Reasm) : (s.setReasm k x).snapPend = s.snapPend := rfl
@[simp] theorem State.setReasm_out (s : State) (k : Nat) (x : Reasm) : (s.setReasm k x).out = s.out := rfl
@[simp] theorem State.setReasm_freeCount (s : State) (k : Nat) (x : Reasm) : (s.setReasm k x).freeCount = s.freeCount := rfl
@[simp] theorem State.setReasm_pending (s : State) (k : Nat) (x : Reasm) : (s.setReasm k x).pending = s.pending := rfl
@[simp] theorem State.setReasm_reg (s : State) (k : Nat) (x : Reasm) (a' : Nat) : (s.setReasm k x).reg a' = s.reg a' := rfl
@[simp] theorem State.setReasm_rd (s : State) (k : Nat) (x : Reasm) (g : Fld) : (s.setReasm k x).rd g = s.rd g := rfl
@[simp] theorem State.setReasm_bit (s : State) (k : Nat) (x : Reasm) (g : Fld) : (s.setReasm k x).bit g = s.bit g := rfl
@[simp] theorem State.setReasm_shaper (s : State) (k : Nat) (x : Reasm) (j : Nat) : (s.setReasm k x).shaper j = s.shaper j := rfl
@[simp] theorem State.setReasm_acct (s : State) (k : Nat) (x : Reasm) (j : Nat) : (s.setReasm k x).acct j = s.acct j := rfl
@[simp] theorem State.setReasm_egrQ (s : State) (k : Nat) (x : Reasm) (j : Nat) : (s.setReasm k x).egrQ j = s.egrQ j := rfl
@[simp] theorem State.setReasm_egr (s : State) (k : Nat) (x : Reasm) (j : Nat) : (s.setReasm k x).egr j = s.egr j := rfl
@[simp] theorem State.setReasm_wire (s : State) (k : Nat) (x : Reasm) (j : Nat) : (s.setReasm k x).wire j = s.wire j := rfl
@[simp] theorem State.setReasm_seqHist (s : State) (k : Nat) (x : Reasm) (j : Nat) : (s.setReasm k x).seqHist j = s.seqHist j := rfl
@[simp] theorem State.setReasm_bucket (s : State) (k : Nat) (x : Reasm) (j : Nat) : (s.setReasm k x).bucket j = s.bucket j := rfl
@[simp] theorem State.setReasm_mb (s : State) (k : Nat) (x : Reasm) (j : Nat) : (s.setReasm k x).mb j = s.mb j := rfl
@[simp] theorem State.setReasm_dom (s : State) (k : Nat) (x : Reasm) (j : Nat) : (s.setReasm k x).dom j = s.dom j := rfl
@[simp] theorem State.setReasm_eng (s : State) (k : Nat) (x : Reasm) (j : Nat) : (s.setReasm k x).eng j = s.eng j := rfl
@[simp] theorem State.setReasm_tout (s : State) (k : Nat) (x : Reasm) (j : Nat) : (s.setReasm k x).tout j = s.tout j := rfl
@[simp] theorem State.setReasm_tin (s : State) (k : Nat) (x : Reasm) (j : Nat) : (s.setReasm k x).tin j = s.tin j := rfl
@[simp] theorem State.setReasm_link (s : State) (k : Nat) (x : Reasm) (j : Nat) : (s.setReasm k x).link j = s.link j := rfl
@[simp] theorem State.setReasm_glist (s : State) (k : Nat) (x : Reasm) (j : Nat) : (s.setReasm k x).glist j = s.glist j := rfl
@[simp] theorem State.setReasm_gpend (s : State) (k : Nat) (x : Reasm) (j : Nat) : (s.setReasm k x).gpend j = s.gpend j := rfl
@[simp] theorem State.setReasm_ptp (s : State) (k : Nat) (x : Reasm) (j : Nat) : (s.setReasm k x).ptp j = s.ptp j := rfl
@[simp] theorem State.setReasm_ref (s : State) (k : Nat) (x : Reasm) (j : Nat) : (s.setReasm k x).ref j = s.ref j := rfl
@[simp] theorem State.setReasm_tdc (s : State) (k : Nat) (x : Reasm) (j : Nat) : (s.setReasm k x).tdc j = s.tdc j := rfl
@[simp] theorem State.setReasm_cal (s : State) (k : Nat) (x : Reasm) (j : Nat) : (s.setReasm k x).cal j = s.cal j := rfl
@[simp] theorem State.setReasm_ivl (s : State) (k : Nat) (x : Reasm) (j : Nat) : (s.setReasm k x).ivl j = s.ivl j := rfl
@[simp] theorem State.setReasm_tracker (s : State) (k : Nat) (x : Reasm) (j : Nat) : (s.setReasm k x).tracker j = s.tracker j := rfl
@[simp] theorem State.setReasm_cand (s : State) (k : Nat) (x : Reasm) (d' j : Nat) : (s.setReasm k x).cand d' j = s.cand d' j := rfl

/-! ## setEgrQ -/

@[simp] theorem State.setEgrQ_mode (s : State) (k : Nat) (x : EgrQ) : (s.setEgrQ k x).mode = s.mode := rfl
@[simp] theorem State.setEgrQ_role (s : State) (k : Nat) (x : EgrQ) : (s.setEgrQ k x).role = s.role := rfl
@[simp] theorem State.setEgrQ_regs (s : State) (k : Nat) (x : EgrQ) : (s.setEgrQ k x).regs = s.regs := rfl
@[simp] theorem State.setEgrQ_sys (s : State) (k : Nat) (x : EgrQ) : (s.setEgrQ k x).sys = s.sys := rfl
@[simp] theorem State.setEgrQ_clk (s : State) (k : Nat) (x : EgrQ) : (s.setEgrQ k x).clk = s.clk := rfl
@[simp] theorem State.setEgrQ_twin (s : State) (k : Nat) (x : EgrQ) : (s.setEgrQ k x).twin = s.twin := rfl
@[simp] theorem State.setEgrQ_clfAges (s : State) (k : Nat) (x : EgrQ) : (s.setEgrQ k x).clfAges = s.clfAges := rfl
@[simp] theorem State.setEgrQ_prv (s : State) (k : Nat) (x : EgrQ) : (s.setEgrQ k x).prv = s.prv := rfl
@[simp] theorem State.setEgrQ_pcie (s : State) (k : Nat) (x : EgrQ) : (s.setEgrQ k x).pcie = s.pcie := rfl
@[simp] theorem State.setEgrQ_bus (s : State) (k : Nat) (x : EgrQ) : (s.setEgrQ k x).bus = s.bus := rfl
@[simp] theorem State.setEgrQ_tb (s : State) (k : Nat) (x : EgrQ) : (s.setEgrQ k x).tb = s.tb := rfl
@[simp] theorem State.setEgrQ_orbNum (s : State) (k : Nat) (x : EgrQ) : (s.setEgrQ k x).orbNum = s.orbNum := rfl
@[simp] theorem State.setEgrQ_orbit (s : State) (k : Nat) (x : EgrQ) : (s.setEgrQ k x).orbit = s.orbit := rfl
@[simp] theorem State.setEgrQ_domains (s : State) (k : Nat) (x : EgrQ) : (s.setEgrQ k x).domains = s.domains := rfl
@[simp] theorem State.setEgrQ_engines (s : State) (k : Nat) (x : EgrQ) : (s.setEgrQ k x).engines = s.engines := rfl
@[simp] theorem State.setEgrQ_touts (s : State) (k : Nat) (x : EgrQ) : (s.setEgrQ k x).touts = s.touts := rfl
@[simp] theorem State.setEgrQ_tins (s : State) (k : Nat) (x : EgrQ) : (s.setEgrQ k x).tins = s.tins := rfl
@[simp] theorem State.setEgrQ_links (s : State) (k : Nat) (x : EgrQ) : (s.setEgrQ k x).links = s.links := rfl
@[simp] theorem State.setEgrQ_tdcs (s : State) (k : Nat) (x : EgrQ) : (s.setEgrQ k x).tdcs = s.tdcs := rfl
@[simp] theorem State.setEgrQ_cals (s : State) (k : Nat) (x : EgrQ) : (s.setEgrQ k x).cals = s.cals := rfl
@[simp] theorem State.setEgrQ_ivls (s : State) (k : Nat) (x : EgrQ) : (s.setEgrQ k x).ivls = s.ivls := rfl
@[simp] theorem State.setEgrQ_trackers (s : State) (k : Nat) (x : EgrQ) : (s.setEgrQ k x).trackers = s.trackers := rfl
@[simp] theorem State.setEgrQ_power (s : State) (k : Nat) (x : EgrQ) : (s.setEgrQ k x).power = s.power := rfl
@[simp] theorem State.setEgrQ_hub (s : State) (k : Nat) (x : EgrQ) : (s.setEgrQ k x).hub = s.hub := rfl
@[simp] theorem State.setEgrQ_slot (s : State) (k : Nat) (x : EgrQ) : (s.setEgrQ k x).slot = s.slot := rfl
@[simp] theorem State.setEgrQ_slotTb (s : State) (k : Nat) (x : EgrQ) : (s.setEgrQ k x).slotTb = s.slotTb := rfl
@[simp] theorem State.setEgrQ_voqs (s : State) (k : Nat) (x : EgrQ) : (s.setEgrQ k x).voqs = s.voqs := rfl
@[simp] theorem State.setEgrQ_accts (s : State) (k : Nat) (x : EgrQ) : (s.setEgrQ k x).accts = s.accts := rfl
@[simp] theorem State.setEgrQ_inters (s : State) (k : Nat) (x : EgrQ) : (s.setEgrQ k x).inters = s.inters := rfl
@[simp] theorem State.setEgrQ_egrFull (s : State) (k : Nat) (x : EgrQ) : (s.setEgrQ k x).egrFull = s.egrFull := rfl
@[simp] theorem State.setEgrQ_rr (s : State) (k : Nat) (x : EgrQ) : (s.setEgrQ k x).rr = s.rr := rfl
@[simp] theorem State.setEgrQ_wires (s : State) (k : Nat) (x : EgrQ) : (s.setEgrQ k x).wires = s.wires := rfl
@[simp] theorem State.setEgrQ_reasms (s : State) (k : Nat) (x : EgrQ) : (s.setEgrQ k x).reasms = s.reasms := rfl
@[simp] theorem State.setEgrQ_nextId (s : State) (k : Nat) (x : EgrQ) : (s.setEgrQ k x).nextId = s.nextId := rfl
@[simp] theorem State.setEgrQ_egresses (s : State) (k : Nat) (x : EgrQ) : (s.setEgrQ k x).egresses = s.egresses := rfl
@[simp] theorem State.setEgrQ_shapers (s : State) (k : Nat) (x : EgrQ) : (s.setEgrQ k x).shapers = s.shapers := rfl
@[simp] theorem State.setEgrQ_buckets (s : State) (k : Nat) (x : EgrQ) : (s.setEgrQ k x).buckets = s.buckets := rfl
@[simp] theorem State.setEgrQ_seqHists (s : State) (k : Nat) (x : EgrQ) : (s.setEgrQ k x).seqHists = s.seqHists := rfl
@[simp] theorem State.setEgrQ_sgLog (s : State) (k : Nat) (x : EgrQ) : (s.setEgrQ k x).sgLog = s.sgLog := rfl
@[simp] theorem State.setEgrQ_rsvIgnored (s : State) (k : Nat) (x : EgrQ) : (s.setEgrQ k x).rsvIgnored = s.rsvIgnored := rfl
@[simp] theorem State.setEgrQ_rsvReq (s : State) (k : Nat) (x : EgrQ) : (s.setEgrQ k x).rsvReq = s.rsvReq := rfl
@[simp] theorem State.setEgrQ_ptps (s : State) (k : Nat) (x : EgrQ) : (s.setEgrQ k x).ptps = s.ptps := rfl
@[simp] theorem State.setEgrQ_dsets (s : State) (k : Nat) (x : EgrQ) : (s.setEgrQ k x).dsets = s.dsets := rfl
@[simp] theorem State.setEgrQ_refs (s : State) (k : Nat) (x : EgrQ) : (s.setEgrQ k x).refs = s.refs := rfl
@[simp] theorem State.setEgrQ_cands (s : State) (k : Nat) (x : EgrQ) : (s.setEgrQ k x).cands = s.cands := rfl
@[simp] theorem State.setEgrQ_keys (s : State) (k : Nat) (x : EgrQ) : (s.setEgrQ k x).keys = s.keys := rfl
@[simp] theorem State.setEgrQ_binds (s : State) (k : Nat) (x : EgrQ) : (s.setEgrQ k x).binds = s.binds := rfl
@[simp] theorem State.setEgrQ_agent (s : State) (k : Nat) (x : EgrQ) : (s.setEgrQ k x).agent = s.agent := rfl
@[simp] theorem State.setEgrQ_mbs (s : State) (k : Nat) (x : EgrQ) : (s.setEgrQ k x).mbs = s.mbs := rfl
@[simp] theorem State.setEgrQ_posted (s : State) (k : Nat) (x : EgrQ) : (s.setEgrQ k x).posted = s.posted := rfl
@[simp] theorem State.setEgrQ_txns (s : State) (k : Nat) (x : EgrQ) : (s.setEgrQ k x).txns = s.txns := rfl
@[simp] theorem State.setEgrQ_journal (s : State) (k : Nat) (x : EgrQ) : (s.setEgrQ k x).journal = s.journal := rfl
@[simp] theorem State.setEgrQ_glists (s : State) (k : Nat) (x : EgrQ) : (s.setEgrQ k x).glists = s.glists := rfl
@[simp] theorem State.setEgrQ_gpends (s : State) (k : Nat) (x : EgrQ) : (s.setEgrQ k x).gpends = s.gpends := rfl
@[simp] theorem State.setEgrQ_trgLate (s : State) (k : Nat) (x : EgrQ) : (s.setEgrQ k x).trgLate = s.trgLate := rfl
@[simp] theorem State.setEgrQ_hlsLate (s : State) (k : Nat) (x : EgrQ) : (s.setEgrQ k x).hlsLate = s.hlsLate := rfl
@[simp] theorem State.setEgrQ_snapPend (s : State) (k : Nat) (x : EgrQ) : (s.setEgrQ k x).snapPend = s.snapPend := rfl
@[simp] theorem State.setEgrQ_out (s : State) (k : Nat) (x : EgrQ) : (s.setEgrQ k x).out = s.out := rfl
@[simp] theorem State.setEgrQ_freeCount (s : State) (k : Nat) (x : EgrQ) : (s.setEgrQ k x).freeCount = s.freeCount := rfl
@[simp] theorem State.setEgrQ_pending (s : State) (k : Nat) (x : EgrQ) : (s.setEgrQ k x).pending = s.pending := rfl
@[simp] theorem State.setEgrQ_reg (s : State) (k : Nat) (x : EgrQ) (a' : Nat) : (s.setEgrQ k x).reg a' = s.reg a' := rfl
@[simp] theorem State.setEgrQ_rd (s : State) (k : Nat) (x : EgrQ) (g : Fld) : (s.setEgrQ k x).rd g = s.rd g := rfl
@[simp] theorem State.setEgrQ_bit (s : State) (k : Nat) (x : EgrQ) (g : Fld) : (s.setEgrQ k x).bit g = s.bit g := rfl
@[simp] theorem State.setEgrQ_shaper (s : State) (k : Nat) (x : EgrQ) (j : Nat) : (s.setEgrQ k x).shaper j = s.shaper j := rfl
@[simp] theorem State.setEgrQ_acct (s : State) (k : Nat) (x : EgrQ) (j : Nat) : (s.setEgrQ k x).acct j = s.acct j := rfl
@[simp] theorem State.setEgrQ_reasm (s : State) (k : Nat) (x : EgrQ) (j : Nat) : (s.setEgrQ k x).reasm j = s.reasm j := rfl
@[simp] theorem State.setEgrQ_egr (s : State) (k : Nat) (x : EgrQ) (j : Nat) : (s.setEgrQ k x).egr j = s.egr j := rfl
@[simp] theorem State.setEgrQ_wire (s : State) (k : Nat) (x : EgrQ) (j : Nat) : (s.setEgrQ k x).wire j = s.wire j := rfl
@[simp] theorem State.setEgrQ_seqHist (s : State) (k : Nat) (x : EgrQ) (j : Nat) : (s.setEgrQ k x).seqHist j = s.seqHist j := rfl
@[simp] theorem State.setEgrQ_bucket (s : State) (k : Nat) (x : EgrQ) (j : Nat) : (s.setEgrQ k x).bucket j = s.bucket j := rfl
@[simp] theorem State.setEgrQ_mb (s : State) (k : Nat) (x : EgrQ) (j : Nat) : (s.setEgrQ k x).mb j = s.mb j := rfl
@[simp] theorem State.setEgrQ_dom (s : State) (k : Nat) (x : EgrQ) (j : Nat) : (s.setEgrQ k x).dom j = s.dom j := rfl
@[simp] theorem State.setEgrQ_eng (s : State) (k : Nat) (x : EgrQ) (j : Nat) : (s.setEgrQ k x).eng j = s.eng j := rfl
@[simp] theorem State.setEgrQ_tout (s : State) (k : Nat) (x : EgrQ) (j : Nat) : (s.setEgrQ k x).tout j = s.tout j := rfl
@[simp] theorem State.setEgrQ_tin (s : State) (k : Nat) (x : EgrQ) (j : Nat) : (s.setEgrQ k x).tin j = s.tin j := rfl
@[simp] theorem State.setEgrQ_link (s : State) (k : Nat) (x : EgrQ) (j : Nat) : (s.setEgrQ k x).link j = s.link j := rfl
@[simp] theorem State.setEgrQ_glist (s : State) (k : Nat) (x : EgrQ) (j : Nat) : (s.setEgrQ k x).glist j = s.glist j := rfl
@[simp] theorem State.setEgrQ_gpend (s : State) (k : Nat) (x : EgrQ) (j : Nat) : (s.setEgrQ k x).gpend j = s.gpend j := rfl
@[simp] theorem State.setEgrQ_ptp (s : State) (k : Nat) (x : EgrQ) (j : Nat) : (s.setEgrQ k x).ptp j = s.ptp j := rfl
@[simp] theorem State.setEgrQ_ref (s : State) (k : Nat) (x : EgrQ) (j : Nat) : (s.setEgrQ k x).ref j = s.ref j := rfl
@[simp] theorem State.setEgrQ_tdc (s : State) (k : Nat) (x : EgrQ) (j : Nat) : (s.setEgrQ k x).tdc j = s.tdc j := rfl
@[simp] theorem State.setEgrQ_cal (s : State) (k : Nat) (x : EgrQ) (j : Nat) : (s.setEgrQ k x).cal j = s.cal j := rfl
@[simp] theorem State.setEgrQ_ivl (s : State) (k : Nat) (x : EgrQ) (j : Nat) : (s.setEgrQ k x).ivl j = s.ivl j := rfl
@[simp] theorem State.setEgrQ_tracker (s : State) (k : Nat) (x : EgrQ) (j : Nat) : (s.setEgrQ k x).tracker j = s.tracker j := rfl
@[simp] theorem State.setEgrQ_cand (s : State) (k : Nat) (x : EgrQ) (d' j : Nat) : (s.setEgrQ k x).cand d' j = s.cand d' j := rfl

/-! ## setEgr -/

@[simp] theorem State.setEgr_mode (s : State) (k : Nat) (x : Egress) : (s.setEgr k x).mode = s.mode := rfl
@[simp] theorem State.setEgr_role (s : State) (k : Nat) (x : Egress) : (s.setEgr k x).role = s.role := rfl
@[simp] theorem State.setEgr_regs (s : State) (k : Nat) (x : Egress) : (s.setEgr k x).regs = s.regs := rfl
@[simp] theorem State.setEgr_sys (s : State) (k : Nat) (x : Egress) : (s.setEgr k x).sys = s.sys := rfl
@[simp] theorem State.setEgr_clk (s : State) (k : Nat) (x : Egress) : (s.setEgr k x).clk = s.clk := rfl
@[simp] theorem State.setEgr_twin (s : State) (k : Nat) (x : Egress) : (s.setEgr k x).twin = s.twin := rfl
@[simp] theorem State.setEgr_clfAges (s : State) (k : Nat) (x : Egress) : (s.setEgr k x).clfAges = s.clfAges := rfl
@[simp] theorem State.setEgr_prv (s : State) (k : Nat) (x : Egress) : (s.setEgr k x).prv = s.prv := rfl
@[simp] theorem State.setEgr_pcie (s : State) (k : Nat) (x : Egress) : (s.setEgr k x).pcie = s.pcie := rfl
@[simp] theorem State.setEgr_bus (s : State) (k : Nat) (x : Egress) : (s.setEgr k x).bus = s.bus := rfl
@[simp] theorem State.setEgr_tb (s : State) (k : Nat) (x : Egress) : (s.setEgr k x).tb = s.tb := rfl
@[simp] theorem State.setEgr_orbNum (s : State) (k : Nat) (x : Egress) : (s.setEgr k x).orbNum = s.orbNum := rfl
@[simp] theorem State.setEgr_orbit (s : State) (k : Nat) (x : Egress) : (s.setEgr k x).orbit = s.orbit := rfl
@[simp] theorem State.setEgr_domains (s : State) (k : Nat) (x : Egress) : (s.setEgr k x).domains = s.domains := rfl
@[simp] theorem State.setEgr_engines (s : State) (k : Nat) (x : Egress) : (s.setEgr k x).engines = s.engines := rfl
@[simp] theorem State.setEgr_touts (s : State) (k : Nat) (x : Egress) : (s.setEgr k x).touts = s.touts := rfl
@[simp] theorem State.setEgr_tins (s : State) (k : Nat) (x : Egress) : (s.setEgr k x).tins = s.tins := rfl
@[simp] theorem State.setEgr_links (s : State) (k : Nat) (x : Egress) : (s.setEgr k x).links = s.links := rfl
@[simp] theorem State.setEgr_tdcs (s : State) (k : Nat) (x : Egress) : (s.setEgr k x).tdcs = s.tdcs := rfl
@[simp] theorem State.setEgr_cals (s : State) (k : Nat) (x : Egress) : (s.setEgr k x).cals = s.cals := rfl
@[simp] theorem State.setEgr_ivls (s : State) (k : Nat) (x : Egress) : (s.setEgr k x).ivls = s.ivls := rfl
@[simp] theorem State.setEgr_trackers (s : State) (k : Nat) (x : Egress) : (s.setEgr k x).trackers = s.trackers := rfl
@[simp] theorem State.setEgr_power (s : State) (k : Nat) (x : Egress) : (s.setEgr k x).power = s.power := rfl
@[simp] theorem State.setEgr_hub (s : State) (k : Nat) (x : Egress) : (s.setEgr k x).hub = s.hub := rfl
@[simp] theorem State.setEgr_slot (s : State) (k : Nat) (x : Egress) : (s.setEgr k x).slot = s.slot := rfl
@[simp] theorem State.setEgr_slotTb (s : State) (k : Nat) (x : Egress) : (s.setEgr k x).slotTb = s.slotTb := rfl
@[simp] theorem State.setEgr_voqs (s : State) (k : Nat) (x : Egress) : (s.setEgr k x).voqs = s.voqs := rfl
@[simp] theorem State.setEgr_accts (s : State) (k : Nat) (x : Egress) : (s.setEgr k x).accts = s.accts := rfl
@[simp] theorem State.setEgr_inters (s : State) (k : Nat) (x : Egress) : (s.setEgr k x).inters = s.inters := rfl
@[simp] theorem State.setEgr_egrFull (s : State) (k : Nat) (x : Egress) : (s.setEgr k x).egrFull = s.egrFull := rfl
@[simp] theorem State.setEgr_rr (s : State) (k : Nat) (x : Egress) : (s.setEgr k x).rr = s.rr := rfl
@[simp] theorem State.setEgr_wires (s : State) (k : Nat) (x : Egress) : (s.setEgr k x).wires = s.wires := rfl
@[simp] theorem State.setEgr_reasms (s : State) (k : Nat) (x : Egress) : (s.setEgr k x).reasms = s.reasms := rfl
@[simp] theorem State.setEgr_egrQs (s : State) (k : Nat) (x : Egress) : (s.setEgr k x).egrQs = s.egrQs := rfl
@[simp] theorem State.setEgr_nextId (s : State) (k : Nat) (x : Egress) : (s.setEgr k x).nextId = s.nextId := rfl
@[simp] theorem State.setEgr_shapers (s : State) (k : Nat) (x : Egress) : (s.setEgr k x).shapers = s.shapers := rfl
@[simp] theorem State.setEgr_buckets (s : State) (k : Nat) (x : Egress) : (s.setEgr k x).buckets = s.buckets := rfl
@[simp] theorem State.setEgr_seqHists (s : State) (k : Nat) (x : Egress) : (s.setEgr k x).seqHists = s.seqHists := rfl
@[simp] theorem State.setEgr_sgLog (s : State) (k : Nat) (x : Egress) : (s.setEgr k x).sgLog = s.sgLog := rfl
@[simp] theorem State.setEgr_rsvIgnored (s : State) (k : Nat) (x : Egress) : (s.setEgr k x).rsvIgnored = s.rsvIgnored := rfl
@[simp] theorem State.setEgr_rsvReq (s : State) (k : Nat) (x : Egress) : (s.setEgr k x).rsvReq = s.rsvReq := rfl
@[simp] theorem State.setEgr_ptps (s : State) (k : Nat) (x : Egress) : (s.setEgr k x).ptps = s.ptps := rfl
@[simp] theorem State.setEgr_dsets (s : State) (k : Nat) (x : Egress) : (s.setEgr k x).dsets = s.dsets := rfl
@[simp] theorem State.setEgr_refs (s : State) (k : Nat) (x : Egress) : (s.setEgr k x).refs = s.refs := rfl
@[simp] theorem State.setEgr_cands (s : State) (k : Nat) (x : Egress) : (s.setEgr k x).cands = s.cands := rfl
@[simp] theorem State.setEgr_keys (s : State) (k : Nat) (x : Egress) : (s.setEgr k x).keys = s.keys := rfl
@[simp] theorem State.setEgr_binds (s : State) (k : Nat) (x : Egress) : (s.setEgr k x).binds = s.binds := rfl
@[simp] theorem State.setEgr_agent (s : State) (k : Nat) (x : Egress) : (s.setEgr k x).agent = s.agent := rfl
@[simp] theorem State.setEgr_mbs (s : State) (k : Nat) (x : Egress) : (s.setEgr k x).mbs = s.mbs := rfl
@[simp] theorem State.setEgr_posted (s : State) (k : Nat) (x : Egress) : (s.setEgr k x).posted = s.posted := rfl
@[simp] theorem State.setEgr_txns (s : State) (k : Nat) (x : Egress) : (s.setEgr k x).txns = s.txns := rfl
@[simp] theorem State.setEgr_journal (s : State) (k : Nat) (x : Egress) : (s.setEgr k x).journal = s.journal := rfl
@[simp] theorem State.setEgr_glists (s : State) (k : Nat) (x : Egress) : (s.setEgr k x).glists = s.glists := rfl
@[simp] theorem State.setEgr_gpends (s : State) (k : Nat) (x : Egress) : (s.setEgr k x).gpends = s.gpends := rfl
@[simp] theorem State.setEgr_trgLate (s : State) (k : Nat) (x : Egress) : (s.setEgr k x).trgLate = s.trgLate := rfl
@[simp] theorem State.setEgr_hlsLate (s : State) (k : Nat) (x : Egress) : (s.setEgr k x).hlsLate = s.hlsLate := rfl
@[simp] theorem State.setEgr_snapPend (s : State) (k : Nat) (x : Egress) : (s.setEgr k x).snapPend = s.snapPend := rfl
@[simp] theorem State.setEgr_out (s : State) (k : Nat) (x : Egress) : (s.setEgr k x).out = s.out := rfl
@[simp] theorem State.setEgr_freeCount (s : State) (k : Nat) (x : Egress) : (s.setEgr k x).freeCount = s.freeCount := rfl
@[simp] theorem State.setEgr_pending (s : State) (k : Nat) (x : Egress) : (s.setEgr k x).pending = s.pending := rfl
@[simp] theorem State.setEgr_reg (s : State) (k : Nat) (x : Egress) (a' : Nat) : (s.setEgr k x).reg a' = s.reg a' := rfl
@[simp] theorem State.setEgr_rd (s : State) (k : Nat) (x : Egress) (g : Fld) : (s.setEgr k x).rd g = s.rd g := rfl
@[simp] theorem State.setEgr_bit (s : State) (k : Nat) (x : Egress) (g : Fld) : (s.setEgr k x).bit g = s.bit g := rfl
@[simp] theorem State.setEgr_shaper (s : State) (k : Nat) (x : Egress) (j : Nat) : (s.setEgr k x).shaper j = s.shaper j := rfl
@[simp] theorem State.setEgr_acct (s : State) (k : Nat) (x : Egress) (j : Nat) : (s.setEgr k x).acct j = s.acct j := rfl
@[simp] theorem State.setEgr_reasm (s : State) (k : Nat) (x : Egress) (j : Nat) : (s.setEgr k x).reasm j = s.reasm j := rfl
@[simp] theorem State.setEgr_egrQ (s : State) (k : Nat) (x : Egress) (j : Nat) : (s.setEgr k x).egrQ j = s.egrQ j := rfl
@[simp] theorem State.setEgr_wire (s : State) (k : Nat) (x : Egress) (j : Nat) : (s.setEgr k x).wire j = s.wire j := rfl
@[simp] theorem State.setEgr_seqHist (s : State) (k : Nat) (x : Egress) (j : Nat) : (s.setEgr k x).seqHist j = s.seqHist j := rfl
@[simp] theorem State.setEgr_bucket (s : State) (k : Nat) (x : Egress) (j : Nat) : (s.setEgr k x).bucket j = s.bucket j := rfl
@[simp] theorem State.setEgr_mb (s : State) (k : Nat) (x : Egress) (j : Nat) : (s.setEgr k x).mb j = s.mb j := rfl
@[simp] theorem State.setEgr_dom (s : State) (k : Nat) (x : Egress) (j : Nat) : (s.setEgr k x).dom j = s.dom j := rfl
@[simp] theorem State.setEgr_eng (s : State) (k : Nat) (x : Egress) (j : Nat) : (s.setEgr k x).eng j = s.eng j := rfl
@[simp] theorem State.setEgr_tout (s : State) (k : Nat) (x : Egress) (j : Nat) : (s.setEgr k x).tout j = s.tout j := rfl
@[simp] theorem State.setEgr_tin (s : State) (k : Nat) (x : Egress) (j : Nat) : (s.setEgr k x).tin j = s.tin j := rfl
@[simp] theorem State.setEgr_link (s : State) (k : Nat) (x : Egress) (j : Nat) : (s.setEgr k x).link j = s.link j := rfl
@[simp] theorem State.setEgr_glist (s : State) (k : Nat) (x : Egress) (j : Nat) : (s.setEgr k x).glist j = s.glist j := rfl
@[simp] theorem State.setEgr_gpend (s : State) (k : Nat) (x : Egress) (j : Nat) : (s.setEgr k x).gpend j = s.gpend j := rfl
@[simp] theorem State.setEgr_ptp (s : State) (k : Nat) (x : Egress) (j : Nat) : (s.setEgr k x).ptp j = s.ptp j := rfl
@[simp] theorem State.setEgr_ref (s : State) (k : Nat) (x : Egress) (j : Nat) : (s.setEgr k x).ref j = s.ref j := rfl
@[simp] theorem State.setEgr_tdc (s : State) (k : Nat) (x : Egress) (j : Nat) : (s.setEgr k x).tdc j = s.tdc j := rfl
@[simp] theorem State.setEgr_cal (s : State) (k : Nat) (x : Egress) (j : Nat) : (s.setEgr k x).cal j = s.cal j := rfl
@[simp] theorem State.setEgr_ivl (s : State) (k : Nat) (x : Egress) (j : Nat) : (s.setEgr k x).ivl j = s.ivl j := rfl
@[simp] theorem State.setEgr_tracker (s : State) (k : Nat) (x : Egress) (j : Nat) : (s.setEgr k x).tracker j = s.tracker j := rfl
@[simp] theorem State.setEgr_cand (s : State) (k : Nat) (x : Egress) (d' j : Nat) : (s.setEgr k x).cand d' j = s.cand d' j := rfl

/-! ## setWire -/

@[simp] theorem State.setWire_mode (s : State) (k : Nat) (x : List Cell) : (s.setWire k x).mode = s.mode := rfl
@[simp] theorem State.setWire_role (s : State) (k : Nat) (x : List Cell) : (s.setWire k x).role = s.role := rfl
@[simp] theorem State.setWire_regs (s : State) (k : Nat) (x : List Cell) : (s.setWire k x).regs = s.regs := rfl
@[simp] theorem State.setWire_sys (s : State) (k : Nat) (x : List Cell) : (s.setWire k x).sys = s.sys := rfl
@[simp] theorem State.setWire_clk (s : State) (k : Nat) (x : List Cell) : (s.setWire k x).clk = s.clk := rfl
@[simp] theorem State.setWire_twin (s : State) (k : Nat) (x : List Cell) : (s.setWire k x).twin = s.twin := rfl
@[simp] theorem State.setWire_clfAges (s : State) (k : Nat) (x : List Cell) : (s.setWire k x).clfAges = s.clfAges := rfl
@[simp] theorem State.setWire_prv (s : State) (k : Nat) (x : List Cell) : (s.setWire k x).prv = s.prv := rfl
@[simp] theorem State.setWire_pcie (s : State) (k : Nat) (x : List Cell) : (s.setWire k x).pcie = s.pcie := rfl
@[simp] theorem State.setWire_bus (s : State) (k : Nat) (x : List Cell) : (s.setWire k x).bus = s.bus := rfl
@[simp] theorem State.setWire_tb (s : State) (k : Nat) (x : List Cell) : (s.setWire k x).tb = s.tb := rfl
@[simp] theorem State.setWire_orbNum (s : State) (k : Nat) (x : List Cell) : (s.setWire k x).orbNum = s.orbNum := rfl
@[simp] theorem State.setWire_orbit (s : State) (k : Nat) (x : List Cell) : (s.setWire k x).orbit = s.orbit := rfl
@[simp] theorem State.setWire_domains (s : State) (k : Nat) (x : List Cell) : (s.setWire k x).domains = s.domains := rfl
@[simp] theorem State.setWire_engines (s : State) (k : Nat) (x : List Cell) : (s.setWire k x).engines = s.engines := rfl
@[simp] theorem State.setWire_touts (s : State) (k : Nat) (x : List Cell) : (s.setWire k x).touts = s.touts := rfl
@[simp] theorem State.setWire_tins (s : State) (k : Nat) (x : List Cell) : (s.setWire k x).tins = s.tins := rfl
@[simp] theorem State.setWire_links (s : State) (k : Nat) (x : List Cell) : (s.setWire k x).links = s.links := rfl
@[simp] theorem State.setWire_tdcs (s : State) (k : Nat) (x : List Cell) : (s.setWire k x).tdcs = s.tdcs := rfl
@[simp] theorem State.setWire_cals (s : State) (k : Nat) (x : List Cell) : (s.setWire k x).cals = s.cals := rfl
@[simp] theorem State.setWire_ivls (s : State) (k : Nat) (x : List Cell) : (s.setWire k x).ivls = s.ivls := rfl
@[simp] theorem State.setWire_trackers (s : State) (k : Nat) (x : List Cell) : (s.setWire k x).trackers = s.trackers := rfl
@[simp] theorem State.setWire_power (s : State) (k : Nat) (x : List Cell) : (s.setWire k x).power = s.power := rfl
@[simp] theorem State.setWire_hub (s : State) (k : Nat) (x : List Cell) : (s.setWire k x).hub = s.hub := rfl
@[simp] theorem State.setWire_slot (s : State) (k : Nat) (x : List Cell) : (s.setWire k x).slot = s.slot := rfl
@[simp] theorem State.setWire_slotTb (s : State) (k : Nat) (x : List Cell) : (s.setWire k x).slotTb = s.slotTb := rfl
@[simp] theorem State.setWire_voqs (s : State) (k : Nat) (x : List Cell) : (s.setWire k x).voqs = s.voqs := rfl
@[simp] theorem State.setWire_accts (s : State) (k : Nat) (x : List Cell) : (s.setWire k x).accts = s.accts := rfl
@[simp] theorem State.setWire_inters (s : State) (k : Nat) (x : List Cell) : (s.setWire k x).inters = s.inters := rfl
@[simp] theorem State.setWire_egrFull (s : State) (k : Nat) (x : List Cell) : (s.setWire k x).egrFull = s.egrFull := rfl
@[simp] theorem State.setWire_rr (s : State) (k : Nat) (x : List Cell) : (s.setWire k x).rr = s.rr := rfl
@[simp] theorem State.setWire_reasms (s : State) (k : Nat) (x : List Cell) : (s.setWire k x).reasms = s.reasms := rfl
@[simp] theorem State.setWire_egrQs (s : State) (k : Nat) (x : List Cell) : (s.setWire k x).egrQs = s.egrQs := rfl
@[simp] theorem State.setWire_nextId (s : State) (k : Nat) (x : List Cell) : (s.setWire k x).nextId = s.nextId := rfl
@[simp] theorem State.setWire_egresses (s : State) (k : Nat) (x : List Cell) : (s.setWire k x).egresses = s.egresses := rfl
@[simp] theorem State.setWire_shapers (s : State) (k : Nat) (x : List Cell) : (s.setWire k x).shapers = s.shapers := rfl
@[simp] theorem State.setWire_buckets (s : State) (k : Nat) (x : List Cell) : (s.setWire k x).buckets = s.buckets := rfl
@[simp] theorem State.setWire_seqHists (s : State) (k : Nat) (x : List Cell) : (s.setWire k x).seqHists = s.seqHists := rfl
@[simp] theorem State.setWire_sgLog (s : State) (k : Nat) (x : List Cell) : (s.setWire k x).sgLog = s.sgLog := rfl
@[simp] theorem State.setWire_rsvIgnored (s : State) (k : Nat) (x : List Cell) : (s.setWire k x).rsvIgnored = s.rsvIgnored := rfl
@[simp] theorem State.setWire_rsvReq (s : State) (k : Nat) (x : List Cell) : (s.setWire k x).rsvReq = s.rsvReq := rfl
@[simp] theorem State.setWire_ptps (s : State) (k : Nat) (x : List Cell) : (s.setWire k x).ptps = s.ptps := rfl
@[simp] theorem State.setWire_dsets (s : State) (k : Nat) (x : List Cell) : (s.setWire k x).dsets = s.dsets := rfl
@[simp] theorem State.setWire_refs (s : State) (k : Nat) (x : List Cell) : (s.setWire k x).refs = s.refs := rfl
@[simp] theorem State.setWire_cands (s : State) (k : Nat) (x : List Cell) : (s.setWire k x).cands = s.cands := rfl
@[simp] theorem State.setWire_keys (s : State) (k : Nat) (x : List Cell) : (s.setWire k x).keys = s.keys := rfl
@[simp] theorem State.setWire_binds (s : State) (k : Nat) (x : List Cell) : (s.setWire k x).binds = s.binds := rfl
@[simp] theorem State.setWire_agent (s : State) (k : Nat) (x : List Cell) : (s.setWire k x).agent = s.agent := rfl
@[simp] theorem State.setWire_mbs (s : State) (k : Nat) (x : List Cell) : (s.setWire k x).mbs = s.mbs := rfl
@[simp] theorem State.setWire_posted (s : State) (k : Nat) (x : List Cell) : (s.setWire k x).posted = s.posted := rfl
@[simp] theorem State.setWire_txns (s : State) (k : Nat) (x : List Cell) : (s.setWire k x).txns = s.txns := rfl
@[simp] theorem State.setWire_journal (s : State) (k : Nat) (x : List Cell) : (s.setWire k x).journal = s.journal := rfl
@[simp] theorem State.setWire_glists (s : State) (k : Nat) (x : List Cell) : (s.setWire k x).glists = s.glists := rfl
@[simp] theorem State.setWire_gpends (s : State) (k : Nat) (x : List Cell) : (s.setWire k x).gpends = s.gpends := rfl
@[simp] theorem State.setWire_trgLate (s : State) (k : Nat) (x : List Cell) : (s.setWire k x).trgLate = s.trgLate := rfl
@[simp] theorem State.setWire_hlsLate (s : State) (k : Nat) (x : List Cell) : (s.setWire k x).hlsLate = s.hlsLate := rfl
@[simp] theorem State.setWire_snapPend (s : State) (k : Nat) (x : List Cell) : (s.setWire k x).snapPend = s.snapPend := rfl
@[simp] theorem State.setWire_out (s : State) (k : Nat) (x : List Cell) : (s.setWire k x).out = s.out := rfl
@[simp] theorem State.setWire_freeCount (s : State) (k : Nat) (x : List Cell) : (s.setWire k x).freeCount = s.freeCount := rfl
@[simp] theorem State.setWire_pending (s : State) (k : Nat) (x : List Cell) : (s.setWire k x).pending = s.pending := rfl
@[simp] theorem State.setWire_reg (s : State) (k : Nat) (x : List Cell) (a' : Nat) : (s.setWire k x).reg a' = s.reg a' := rfl
@[simp] theorem State.setWire_rd (s : State) (k : Nat) (x : List Cell) (g : Fld) : (s.setWire k x).rd g = s.rd g := rfl
@[simp] theorem State.setWire_bit (s : State) (k : Nat) (x : List Cell) (g : Fld) : (s.setWire k x).bit g = s.bit g := rfl
@[simp] theorem State.setWire_shaper (s : State) (k : Nat) (x : List Cell) (j : Nat) : (s.setWire k x).shaper j = s.shaper j := rfl
@[simp] theorem State.setWire_acct (s : State) (k : Nat) (x : List Cell) (j : Nat) : (s.setWire k x).acct j = s.acct j := rfl
@[simp] theorem State.setWire_reasm (s : State) (k : Nat) (x : List Cell) (j : Nat) : (s.setWire k x).reasm j = s.reasm j := rfl
@[simp] theorem State.setWire_egrQ (s : State) (k : Nat) (x : List Cell) (j : Nat) : (s.setWire k x).egrQ j = s.egrQ j := rfl
@[simp] theorem State.setWire_egr (s : State) (k : Nat) (x : List Cell) (j : Nat) : (s.setWire k x).egr j = s.egr j := rfl
@[simp] theorem State.setWire_seqHist (s : State) (k : Nat) (x : List Cell) (j : Nat) : (s.setWire k x).seqHist j = s.seqHist j := rfl
@[simp] theorem State.setWire_bucket (s : State) (k : Nat) (x : List Cell) (j : Nat) : (s.setWire k x).bucket j = s.bucket j := rfl
@[simp] theorem State.setWire_mb (s : State) (k : Nat) (x : List Cell) (j : Nat) : (s.setWire k x).mb j = s.mb j := rfl
@[simp] theorem State.setWire_dom (s : State) (k : Nat) (x : List Cell) (j : Nat) : (s.setWire k x).dom j = s.dom j := rfl
@[simp] theorem State.setWire_eng (s : State) (k : Nat) (x : List Cell) (j : Nat) : (s.setWire k x).eng j = s.eng j := rfl
@[simp] theorem State.setWire_tout (s : State) (k : Nat) (x : List Cell) (j : Nat) : (s.setWire k x).tout j = s.tout j := rfl
@[simp] theorem State.setWire_tin (s : State) (k : Nat) (x : List Cell) (j : Nat) : (s.setWire k x).tin j = s.tin j := rfl
@[simp] theorem State.setWire_link (s : State) (k : Nat) (x : List Cell) (j : Nat) : (s.setWire k x).link j = s.link j := rfl
@[simp] theorem State.setWire_glist (s : State) (k : Nat) (x : List Cell) (j : Nat) : (s.setWire k x).glist j = s.glist j := rfl
@[simp] theorem State.setWire_gpend (s : State) (k : Nat) (x : List Cell) (j : Nat) : (s.setWire k x).gpend j = s.gpend j := rfl
@[simp] theorem State.setWire_ptp (s : State) (k : Nat) (x : List Cell) (j : Nat) : (s.setWire k x).ptp j = s.ptp j := rfl
@[simp] theorem State.setWire_ref (s : State) (k : Nat) (x : List Cell) (j : Nat) : (s.setWire k x).ref j = s.ref j := rfl
@[simp] theorem State.setWire_tdc (s : State) (k : Nat) (x : List Cell) (j : Nat) : (s.setWire k x).tdc j = s.tdc j := rfl
@[simp] theorem State.setWire_cal (s : State) (k : Nat) (x : List Cell) (j : Nat) : (s.setWire k x).cal j = s.cal j := rfl
@[simp] theorem State.setWire_ivl (s : State) (k : Nat) (x : List Cell) (j : Nat) : (s.setWire k x).ivl j = s.ivl j := rfl
@[simp] theorem State.setWire_tracker (s : State) (k : Nat) (x : List Cell) (j : Nat) : (s.setWire k x).tracker j = s.tracker j := rfl
@[simp] theorem State.setWire_cand (s : State) (k : Nat) (x : List Cell) (d' j : Nat) : (s.setWire k x).cand d' j = s.cand d' j := rfl

/-! ## setSeqHist -/

@[simp] theorem State.setSeqHist_mode (s : State) (k : Nat) (x : SeqHist) : (s.setSeqHist k x).mode = s.mode := rfl
@[simp] theorem State.setSeqHist_role (s : State) (k : Nat) (x : SeqHist) : (s.setSeqHist k x).role = s.role := rfl
@[simp] theorem State.setSeqHist_regs (s : State) (k : Nat) (x : SeqHist) : (s.setSeqHist k x).regs = s.regs := rfl
@[simp] theorem State.setSeqHist_sys (s : State) (k : Nat) (x : SeqHist) : (s.setSeqHist k x).sys = s.sys := rfl
@[simp] theorem State.setSeqHist_clk (s : State) (k : Nat) (x : SeqHist) : (s.setSeqHist k x).clk = s.clk := rfl
@[simp] theorem State.setSeqHist_twin (s : State) (k : Nat) (x : SeqHist) : (s.setSeqHist k x).twin = s.twin := rfl
@[simp] theorem State.setSeqHist_clfAges (s : State) (k : Nat) (x : SeqHist) : (s.setSeqHist k x).clfAges = s.clfAges := rfl
@[simp] theorem State.setSeqHist_prv (s : State) (k : Nat) (x : SeqHist) : (s.setSeqHist k x).prv = s.prv := rfl
@[simp] theorem State.setSeqHist_pcie (s : State) (k : Nat) (x : SeqHist) : (s.setSeqHist k x).pcie = s.pcie := rfl
@[simp] theorem State.setSeqHist_bus (s : State) (k : Nat) (x : SeqHist) : (s.setSeqHist k x).bus = s.bus := rfl
@[simp] theorem State.setSeqHist_tb (s : State) (k : Nat) (x : SeqHist) : (s.setSeqHist k x).tb = s.tb := rfl
@[simp] theorem State.setSeqHist_orbNum (s : State) (k : Nat) (x : SeqHist) : (s.setSeqHist k x).orbNum = s.orbNum := rfl
@[simp] theorem State.setSeqHist_orbit (s : State) (k : Nat) (x : SeqHist) : (s.setSeqHist k x).orbit = s.orbit := rfl
@[simp] theorem State.setSeqHist_domains (s : State) (k : Nat) (x : SeqHist) : (s.setSeqHist k x).domains = s.domains := rfl
@[simp] theorem State.setSeqHist_engines (s : State) (k : Nat) (x : SeqHist) : (s.setSeqHist k x).engines = s.engines := rfl
@[simp] theorem State.setSeqHist_touts (s : State) (k : Nat) (x : SeqHist) : (s.setSeqHist k x).touts = s.touts := rfl
@[simp] theorem State.setSeqHist_tins (s : State) (k : Nat) (x : SeqHist) : (s.setSeqHist k x).tins = s.tins := rfl
@[simp] theorem State.setSeqHist_links (s : State) (k : Nat) (x : SeqHist) : (s.setSeqHist k x).links = s.links := rfl
@[simp] theorem State.setSeqHist_tdcs (s : State) (k : Nat) (x : SeqHist) : (s.setSeqHist k x).tdcs = s.tdcs := rfl
@[simp] theorem State.setSeqHist_cals (s : State) (k : Nat) (x : SeqHist) : (s.setSeqHist k x).cals = s.cals := rfl
@[simp] theorem State.setSeqHist_ivls (s : State) (k : Nat) (x : SeqHist) : (s.setSeqHist k x).ivls = s.ivls := rfl
@[simp] theorem State.setSeqHist_trackers (s : State) (k : Nat) (x : SeqHist) : (s.setSeqHist k x).trackers = s.trackers := rfl
@[simp] theorem State.setSeqHist_power (s : State) (k : Nat) (x : SeqHist) : (s.setSeqHist k x).power = s.power := rfl
@[simp] theorem State.setSeqHist_hub (s : State) (k : Nat) (x : SeqHist) : (s.setSeqHist k x).hub = s.hub := rfl
@[simp] theorem State.setSeqHist_slot (s : State) (k : Nat) (x : SeqHist) : (s.setSeqHist k x).slot = s.slot := rfl
@[simp] theorem State.setSeqHist_slotTb (s : State) (k : Nat) (x : SeqHist) : (s.setSeqHist k x).slotTb = s.slotTb := rfl
@[simp] theorem State.setSeqHist_voqs (s : State) (k : Nat) (x : SeqHist) : (s.setSeqHist k x).voqs = s.voqs := rfl
@[simp] theorem State.setSeqHist_accts (s : State) (k : Nat) (x : SeqHist) : (s.setSeqHist k x).accts = s.accts := rfl
@[simp] theorem State.setSeqHist_inters (s : State) (k : Nat) (x : SeqHist) : (s.setSeqHist k x).inters = s.inters := rfl
@[simp] theorem State.setSeqHist_egrFull (s : State) (k : Nat) (x : SeqHist) : (s.setSeqHist k x).egrFull = s.egrFull := rfl
@[simp] theorem State.setSeqHist_rr (s : State) (k : Nat) (x : SeqHist) : (s.setSeqHist k x).rr = s.rr := rfl
@[simp] theorem State.setSeqHist_wires (s : State) (k : Nat) (x : SeqHist) : (s.setSeqHist k x).wires = s.wires := rfl
@[simp] theorem State.setSeqHist_reasms (s : State) (k : Nat) (x : SeqHist) : (s.setSeqHist k x).reasms = s.reasms := rfl
@[simp] theorem State.setSeqHist_egrQs (s : State) (k : Nat) (x : SeqHist) : (s.setSeqHist k x).egrQs = s.egrQs := rfl
@[simp] theorem State.setSeqHist_nextId (s : State) (k : Nat) (x : SeqHist) : (s.setSeqHist k x).nextId = s.nextId := rfl
@[simp] theorem State.setSeqHist_egresses (s : State) (k : Nat) (x : SeqHist) : (s.setSeqHist k x).egresses = s.egresses := rfl
@[simp] theorem State.setSeqHist_shapers (s : State) (k : Nat) (x : SeqHist) : (s.setSeqHist k x).shapers = s.shapers := rfl
@[simp] theorem State.setSeqHist_buckets (s : State) (k : Nat) (x : SeqHist) : (s.setSeqHist k x).buckets = s.buckets := rfl
@[simp] theorem State.setSeqHist_sgLog (s : State) (k : Nat) (x : SeqHist) : (s.setSeqHist k x).sgLog = s.sgLog := rfl
@[simp] theorem State.setSeqHist_rsvIgnored (s : State) (k : Nat) (x : SeqHist) : (s.setSeqHist k x).rsvIgnored = s.rsvIgnored := rfl
@[simp] theorem State.setSeqHist_rsvReq (s : State) (k : Nat) (x : SeqHist) : (s.setSeqHist k x).rsvReq = s.rsvReq := rfl
@[simp] theorem State.setSeqHist_ptps (s : State) (k : Nat) (x : SeqHist) : (s.setSeqHist k x).ptps = s.ptps := rfl
@[simp] theorem State.setSeqHist_dsets (s : State) (k : Nat) (x : SeqHist) : (s.setSeqHist k x).dsets = s.dsets := rfl
@[simp] theorem State.setSeqHist_refs (s : State) (k : Nat) (x : SeqHist) : (s.setSeqHist k x).refs = s.refs := rfl
@[simp] theorem State.setSeqHist_cands (s : State) (k : Nat) (x : SeqHist) : (s.setSeqHist k x).cands = s.cands := rfl
@[simp] theorem State.setSeqHist_keys (s : State) (k : Nat) (x : SeqHist) : (s.setSeqHist k x).keys = s.keys := rfl
@[simp] theorem State.setSeqHist_binds (s : State) (k : Nat) (x : SeqHist) : (s.setSeqHist k x).binds = s.binds := rfl
@[simp] theorem State.setSeqHist_agent (s : State) (k : Nat) (x : SeqHist) : (s.setSeqHist k x).agent = s.agent := rfl
@[simp] theorem State.setSeqHist_mbs (s : State) (k : Nat) (x : SeqHist) : (s.setSeqHist k x).mbs = s.mbs := rfl
@[simp] theorem State.setSeqHist_posted (s : State) (k : Nat) (x : SeqHist) : (s.setSeqHist k x).posted = s.posted := rfl
@[simp] theorem State.setSeqHist_txns (s : State) (k : Nat) (x : SeqHist) : (s.setSeqHist k x).txns = s.txns := rfl
@[simp] theorem State.setSeqHist_journal (s : State) (k : Nat) (x : SeqHist) : (s.setSeqHist k x).journal = s.journal := rfl
@[simp] theorem State.setSeqHist_glists (s : State) (k : Nat) (x : SeqHist) : (s.setSeqHist k x).glists = s.glists := rfl
@[simp] theorem State.setSeqHist_gpends (s : State) (k : Nat) (x : SeqHist) : (s.setSeqHist k x).gpends = s.gpends := rfl
@[simp] theorem State.setSeqHist_trgLate (s : State) (k : Nat) (x : SeqHist) : (s.setSeqHist k x).trgLate = s.trgLate := rfl
@[simp] theorem State.setSeqHist_hlsLate (s : State) (k : Nat) (x : SeqHist) : (s.setSeqHist k x).hlsLate = s.hlsLate := rfl
@[simp] theorem State.setSeqHist_snapPend (s : State) (k : Nat) (x : SeqHist) : (s.setSeqHist k x).snapPend = s.snapPend := rfl
@[simp] theorem State.setSeqHist_out (s : State) (k : Nat) (x : SeqHist) : (s.setSeqHist k x).out = s.out := rfl
@[simp] theorem State.setSeqHist_freeCount (s : State) (k : Nat) (x : SeqHist) : (s.setSeqHist k x).freeCount = s.freeCount := rfl
@[simp] theorem State.setSeqHist_pending (s : State) (k : Nat) (x : SeqHist) : (s.setSeqHist k x).pending = s.pending := rfl
@[simp] theorem State.setSeqHist_reg (s : State) (k : Nat) (x : SeqHist) (a' : Nat) : (s.setSeqHist k x).reg a' = s.reg a' := rfl
@[simp] theorem State.setSeqHist_rd (s : State) (k : Nat) (x : SeqHist) (g : Fld) : (s.setSeqHist k x).rd g = s.rd g := rfl
@[simp] theorem State.setSeqHist_bit (s : State) (k : Nat) (x : SeqHist) (g : Fld) : (s.setSeqHist k x).bit g = s.bit g := rfl
@[simp] theorem State.setSeqHist_shaper (s : State) (k : Nat) (x : SeqHist) (j : Nat) : (s.setSeqHist k x).shaper j = s.shaper j := rfl
@[simp] theorem State.setSeqHist_acct (s : State) (k : Nat) (x : SeqHist) (j : Nat) : (s.setSeqHist k x).acct j = s.acct j := rfl
@[simp] theorem State.setSeqHist_reasm (s : State) (k : Nat) (x : SeqHist) (j : Nat) : (s.setSeqHist k x).reasm j = s.reasm j := rfl
@[simp] theorem State.setSeqHist_egrQ (s : State) (k : Nat) (x : SeqHist) (j : Nat) : (s.setSeqHist k x).egrQ j = s.egrQ j := rfl
@[simp] theorem State.setSeqHist_egr (s : State) (k : Nat) (x : SeqHist) (j : Nat) : (s.setSeqHist k x).egr j = s.egr j := rfl
@[simp] theorem State.setSeqHist_wire (s : State) (k : Nat) (x : SeqHist) (j : Nat) : (s.setSeqHist k x).wire j = s.wire j := rfl
@[simp] theorem State.setSeqHist_bucket (s : State) (k : Nat) (x : SeqHist) (j : Nat) : (s.setSeqHist k x).bucket j = s.bucket j := rfl
@[simp] theorem State.setSeqHist_mb (s : State) (k : Nat) (x : SeqHist) (j : Nat) : (s.setSeqHist k x).mb j = s.mb j := rfl
@[simp] theorem State.setSeqHist_dom (s : State) (k : Nat) (x : SeqHist) (j : Nat) : (s.setSeqHist k x).dom j = s.dom j := rfl
@[simp] theorem State.setSeqHist_eng (s : State) (k : Nat) (x : SeqHist) (j : Nat) : (s.setSeqHist k x).eng j = s.eng j := rfl
@[simp] theorem State.setSeqHist_tout (s : State) (k : Nat) (x : SeqHist) (j : Nat) : (s.setSeqHist k x).tout j = s.tout j := rfl
@[simp] theorem State.setSeqHist_tin (s : State) (k : Nat) (x : SeqHist) (j : Nat) : (s.setSeqHist k x).tin j = s.tin j := rfl
@[simp] theorem State.setSeqHist_link (s : State) (k : Nat) (x : SeqHist) (j : Nat) : (s.setSeqHist k x).link j = s.link j := rfl
@[simp] theorem State.setSeqHist_glist (s : State) (k : Nat) (x : SeqHist) (j : Nat) : (s.setSeqHist k x).glist j = s.glist j := rfl
@[simp] theorem State.setSeqHist_gpend (s : State) (k : Nat) (x : SeqHist) (j : Nat) : (s.setSeqHist k x).gpend j = s.gpend j := rfl
@[simp] theorem State.setSeqHist_ptp (s : State) (k : Nat) (x : SeqHist) (j : Nat) : (s.setSeqHist k x).ptp j = s.ptp j := rfl
@[simp] theorem State.setSeqHist_ref (s : State) (k : Nat) (x : SeqHist) (j : Nat) : (s.setSeqHist k x).ref j = s.ref j := rfl
@[simp] theorem State.setSeqHist_tdc (s : State) (k : Nat) (x : SeqHist) (j : Nat) : (s.setSeqHist k x).tdc j = s.tdc j := rfl
@[simp] theorem State.setSeqHist_cal (s : State) (k : Nat) (x : SeqHist) (j : Nat) : (s.setSeqHist k x).cal j = s.cal j := rfl
@[simp] theorem State.setSeqHist_ivl (s : State) (k : Nat) (x : SeqHist) (j : Nat) : (s.setSeqHist k x).ivl j = s.ivl j := rfl
@[simp] theorem State.setSeqHist_tracker (s : State) (k : Nat) (x : SeqHist) (j : Nat) : (s.setSeqHist k x).tracker j = s.tracker j := rfl
@[simp] theorem State.setSeqHist_cand (s : State) (k : Nat) (x : SeqHist) (d' j : Nat) : (s.setSeqHist k x).cand d' j = s.cand d' j := rfl

/-! ## setBucket -/

@[simp] theorem State.setBucket_mode (s : State) (k : Nat) (x : Bucket) : (s.setBucket k x).mode = s.mode := rfl
@[simp] theorem State.setBucket_role (s : State) (k : Nat) (x : Bucket) : (s.setBucket k x).role = s.role := rfl
@[simp] theorem State.setBucket_regs (s : State) (k : Nat) (x : Bucket) : (s.setBucket k x).regs = s.regs := rfl
@[simp] theorem State.setBucket_sys (s : State) (k : Nat) (x : Bucket) : (s.setBucket k x).sys = s.sys := rfl
@[simp] theorem State.setBucket_clk (s : State) (k : Nat) (x : Bucket) : (s.setBucket k x).clk = s.clk := rfl
@[simp] theorem State.setBucket_twin (s : State) (k : Nat) (x : Bucket) : (s.setBucket k x).twin = s.twin := rfl
@[simp] theorem State.setBucket_clfAges (s : State) (k : Nat) (x : Bucket) : (s.setBucket k x).clfAges = s.clfAges := rfl
@[simp] theorem State.setBucket_prv (s : State) (k : Nat) (x : Bucket) : (s.setBucket k x).prv = s.prv := rfl
@[simp] theorem State.setBucket_pcie (s : State) (k : Nat) (x : Bucket) : (s.setBucket k x).pcie = s.pcie := rfl
@[simp] theorem State.setBucket_bus (s : State) (k : Nat) (x : Bucket) : (s.setBucket k x).bus = s.bus := rfl
@[simp] theorem State.setBucket_tb (s : State) (k : Nat) (x : Bucket) : (s.setBucket k x).tb = s.tb := rfl
@[simp] theorem State.setBucket_orbNum (s : State) (k : Nat) (x : Bucket) : (s.setBucket k x).orbNum = s.orbNum := rfl
@[simp] theorem State.setBucket_orbit (s : State) (k : Nat) (x : Bucket) : (s.setBucket k x).orbit = s.orbit := rfl
@[simp] theorem State.setBucket_domains (s : State) (k : Nat) (x : Bucket) : (s.setBucket k x).domains = s.domains := rfl
@[simp] theorem State.setBucket_engines (s : State) (k : Nat) (x : Bucket) : (s.setBucket k x).engines = s.engines := rfl
@[simp] theorem State.setBucket_touts (s : State) (k : Nat) (x : Bucket) : (s.setBucket k x).touts = s.touts := rfl
@[simp] theorem State.setBucket_tins (s : State) (k : Nat) (x : Bucket) : (s.setBucket k x).tins = s.tins := rfl
@[simp] theorem State.setBucket_links (s : State) (k : Nat) (x : Bucket) : (s.setBucket k x).links = s.links := rfl
@[simp] theorem State.setBucket_tdcs (s : State) (k : Nat) (x : Bucket) : (s.setBucket k x).tdcs = s.tdcs := rfl
@[simp] theorem State.setBucket_cals (s : State) (k : Nat) (x : Bucket) : (s.setBucket k x).cals = s.cals := rfl
@[simp] theorem State.setBucket_ivls (s : State) (k : Nat) (x : Bucket) : (s.setBucket k x).ivls = s.ivls := rfl
@[simp] theorem State.setBucket_trackers (s : State) (k : Nat) (x : Bucket) : (s.setBucket k x).trackers = s.trackers := rfl
@[simp] theorem State.setBucket_power (s : State) (k : Nat) (x : Bucket) : (s.setBucket k x).power = s.power := rfl
@[simp] theorem State.setBucket_hub (s : State) (k : Nat) (x : Bucket) : (s.setBucket k x).hub = s.hub := rfl
@[simp] theorem State.setBucket_slot (s : State) (k : Nat) (x : Bucket) : (s.setBucket k x).slot = s.slot := rfl
@[simp] theorem State.setBucket_slotTb (s : State) (k : Nat) (x : Bucket) : (s.setBucket k x).slotTb = s.slotTb := rfl
@[simp] theorem State.setBucket_voqs (s : State) (k : Nat) (x : Bucket) : (s.setBucket k x).voqs = s.voqs := rfl
@[simp] theorem State.setBucket_accts (s : State) (k : Nat) (x : Bucket) : (s.setBucket k x).accts = s.accts := rfl
@[simp] theorem State.setBucket_inters (s : State) (k : Nat) (x : Bucket) : (s.setBucket k x).inters = s.inters := rfl
@[simp] theorem State.setBucket_egrFull (s : State) (k : Nat) (x : Bucket) : (s.setBucket k x).egrFull = s.egrFull := rfl
@[simp] theorem State.setBucket_rr (s : State) (k : Nat) (x : Bucket) : (s.setBucket k x).rr = s.rr := rfl
@[simp] theorem State.setBucket_wires (s : State) (k : Nat) (x : Bucket) : (s.setBucket k x).wires = s.wires := rfl
@[simp] theorem State.setBucket_reasms (s : State) (k : Nat) (x : Bucket) : (s.setBucket k x).reasms = s.reasms := rfl
@[simp] theorem State.setBucket_egrQs (s : State) (k : Nat) (x : Bucket) : (s.setBucket k x).egrQs = s.egrQs := rfl
@[simp] theorem State.setBucket_nextId (s : State) (k : Nat) (x : Bucket) : (s.setBucket k x).nextId = s.nextId := rfl
@[simp] theorem State.setBucket_egresses (s : State) (k : Nat) (x : Bucket) : (s.setBucket k x).egresses = s.egresses := rfl
@[simp] theorem State.setBucket_shapers (s : State) (k : Nat) (x : Bucket) : (s.setBucket k x).shapers = s.shapers := rfl
@[simp] theorem State.setBucket_seqHists (s : State) (k : Nat) (x : Bucket) : (s.setBucket k x).seqHists = s.seqHists := rfl
@[simp] theorem State.setBucket_sgLog (s : State) (k : Nat) (x : Bucket) : (s.setBucket k x).sgLog = s.sgLog := rfl
@[simp] theorem State.setBucket_rsvIgnored (s : State) (k : Nat) (x : Bucket) : (s.setBucket k x).rsvIgnored = s.rsvIgnored := rfl
@[simp] theorem State.setBucket_rsvReq (s : State) (k : Nat) (x : Bucket) : (s.setBucket k x).rsvReq = s.rsvReq := rfl
@[simp] theorem State.setBucket_ptps (s : State) (k : Nat) (x : Bucket) : (s.setBucket k x).ptps = s.ptps := rfl
@[simp] theorem State.setBucket_dsets (s : State) (k : Nat) (x : Bucket) : (s.setBucket k x).dsets = s.dsets := rfl
@[simp] theorem State.setBucket_refs (s : State) (k : Nat) (x : Bucket) : (s.setBucket k x).refs = s.refs := rfl
@[simp] theorem State.setBucket_cands (s : State) (k : Nat) (x : Bucket) : (s.setBucket k x).cands = s.cands := rfl
@[simp] theorem State.setBucket_keys (s : State) (k : Nat) (x : Bucket) : (s.setBucket k x).keys = s.keys := rfl
@[simp] theorem State.setBucket_binds (s : State) (k : Nat) (x : Bucket) : (s.setBucket k x).binds = s.binds := rfl
@[simp] theorem State.setBucket_agent (s : State) (k : Nat) (x : Bucket) : (s.setBucket k x).agent = s.agent := rfl
@[simp] theorem State.setBucket_mbs (s : State) (k : Nat) (x : Bucket) : (s.setBucket k x).mbs = s.mbs := rfl
@[simp] theorem State.setBucket_posted (s : State) (k : Nat) (x : Bucket) : (s.setBucket k x).posted = s.posted := rfl
@[simp] theorem State.setBucket_txns (s : State) (k : Nat) (x : Bucket) : (s.setBucket k x).txns = s.txns := rfl
@[simp] theorem State.setBucket_journal (s : State) (k : Nat) (x : Bucket) : (s.setBucket k x).journal = s.journal := rfl
@[simp] theorem State.setBucket_glists (s : State) (k : Nat) (x : Bucket) : (s.setBucket k x).glists = s.glists := rfl
@[simp] theorem State.setBucket_gpends (s : State) (k : Nat) (x : Bucket) : (s.setBucket k x).gpends = s.gpends := rfl
@[simp] theorem State.setBucket_trgLate (s : State) (k : Nat) (x : Bucket) : (s.setBucket k x).trgLate = s.trgLate := rfl
@[simp] theorem State.setBucket_hlsLate (s : State) (k : Nat) (x : Bucket) : (s.setBucket k x).hlsLate = s.hlsLate := rfl
@[simp] theorem State.setBucket_snapPend (s : State) (k : Nat) (x : Bucket) : (s.setBucket k x).snapPend = s.snapPend := rfl
@[simp] theorem State.setBucket_out (s : State) (k : Nat) (x : Bucket) : (s.setBucket k x).out = s.out := rfl
@[simp] theorem State.setBucket_freeCount (s : State) (k : Nat) (x : Bucket) : (s.setBucket k x).freeCount = s.freeCount := rfl
@[simp] theorem State.setBucket_pending (s : State) (k : Nat) (x : Bucket) : (s.setBucket k x).pending = s.pending := rfl
@[simp] theorem State.setBucket_reg (s : State) (k : Nat) (x : Bucket) (a' : Nat) : (s.setBucket k x).reg a' = s.reg a' := rfl
@[simp] theorem State.setBucket_rd (s : State) (k : Nat) (x : Bucket) (g : Fld) : (s.setBucket k x).rd g = s.rd g := rfl
@[simp] theorem State.setBucket_bit (s : State) (k : Nat) (x : Bucket) (g : Fld) : (s.setBucket k x).bit g = s.bit g := rfl
@[simp] theorem State.setBucket_shaper (s : State) (k : Nat) (x : Bucket) (j : Nat) : (s.setBucket k x).shaper j = s.shaper j := rfl
@[simp] theorem State.setBucket_acct (s : State) (k : Nat) (x : Bucket) (j : Nat) : (s.setBucket k x).acct j = s.acct j := rfl
@[simp] theorem State.setBucket_reasm (s : State) (k : Nat) (x : Bucket) (j : Nat) : (s.setBucket k x).reasm j = s.reasm j := rfl
@[simp] theorem State.setBucket_egrQ (s : State) (k : Nat) (x : Bucket) (j : Nat) : (s.setBucket k x).egrQ j = s.egrQ j := rfl
@[simp] theorem State.setBucket_egr (s : State) (k : Nat) (x : Bucket) (j : Nat) : (s.setBucket k x).egr j = s.egr j := rfl
@[simp] theorem State.setBucket_wire (s : State) (k : Nat) (x : Bucket) (j : Nat) : (s.setBucket k x).wire j = s.wire j := rfl
@[simp] theorem State.setBucket_seqHist (s : State) (k : Nat) (x : Bucket) (j : Nat) : (s.setBucket k x).seqHist j = s.seqHist j := rfl
@[simp] theorem State.setBucket_mb (s : State) (k : Nat) (x : Bucket) (j : Nat) : (s.setBucket k x).mb j = s.mb j := rfl
@[simp] theorem State.setBucket_dom (s : State) (k : Nat) (x : Bucket) (j : Nat) : (s.setBucket k x).dom j = s.dom j := rfl
@[simp] theorem State.setBucket_eng (s : State) (k : Nat) (x : Bucket) (j : Nat) : (s.setBucket k x).eng j = s.eng j := rfl
@[simp] theorem State.setBucket_tout (s : State) (k : Nat) (x : Bucket) (j : Nat) : (s.setBucket k x).tout j = s.tout j := rfl
@[simp] theorem State.setBucket_tin (s : State) (k : Nat) (x : Bucket) (j : Nat) : (s.setBucket k x).tin j = s.tin j := rfl
@[simp] theorem State.setBucket_link (s : State) (k : Nat) (x : Bucket) (j : Nat) : (s.setBucket k x).link j = s.link j := rfl
@[simp] theorem State.setBucket_glist (s : State) (k : Nat) (x : Bucket) (j : Nat) : (s.setBucket k x).glist j = s.glist j := rfl
@[simp] theorem State.setBucket_gpend (s : State) (k : Nat) (x : Bucket) (j : Nat) : (s.setBucket k x).gpend j = s.gpend j := rfl
@[simp] theorem State.setBucket_ptp (s : State) (k : Nat) (x : Bucket) (j : Nat) : (s.setBucket k x).ptp j = s.ptp j := rfl
@[simp] theorem State.setBucket_ref (s : State) (k : Nat) (x : Bucket) (j : Nat) : (s.setBucket k x).ref j = s.ref j := rfl
@[simp] theorem State.setBucket_tdc (s : State) (k : Nat) (x : Bucket) (j : Nat) : (s.setBucket k x).tdc j = s.tdc j := rfl
@[simp] theorem State.setBucket_cal (s : State) (k : Nat) (x : Bucket) (j : Nat) : (s.setBucket k x).cal j = s.cal j := rfl
@[simp] theorem State.setBucket_ivl (s : State) (k : Nat) (x : Bucket) (j : Nat) : (s.setBucket k x).ivl j = s.ivl j := rfl
@[simp] theorem State.setBucket_tracker (s : State) (k : Nat) (x : Bucket) (j : Nat) : (s.setBucket k x).tracker j = s.tracker j := rfl
@[simp] theorem State.setBucket_cand (s : State) (k : Nat) (x : Bucket) (d' j : Nat) : (s.setBucket k x).cand d' j = s.cand d' j := rfl

/-! ## setMb -/

@[simp] theorem State.setMb_mode (s : State) (k : Nat) (x : Mb) : (s.setMb k x).mode = s.mode := rfl
@[simp] theorem State.setMb_role (s : State) (k : Nat) (x : Mb) : (s.setMb k x).role = s.role := rfl
@[simp] theorem State.setMb_regs (s : State) (k : Nat) (x : Mb) : (s.setMb k x).regs = s.regs := rfl
@[simp] theorem State.setMb_sys (s : State) (k : Nat) (x : Mb) : (s.setMb k x).sys = s.sys := rfl
@[simp] theorem State.setMb_clk (s : State) (k : Nat) (x : Mb) : (s.setMb k x).clk = s.clk := rfl
@[simp] theorem State.setMb_twin (s : State) (k : Nat) (x : Mb) : (s.setMb k x).twin = s.twin := rfl
@[simp] theorem State.setMb_clfAges (s : State) (k : Nat) (x : Mb) : (s.setMb k x).clfAges = s.clfAges := rfl
@[simp] theorem State.setMb_prv (s : State) (k : Nat) (x : Mb) : (s.setMb k x).prv = s.prv := rfl
@[simp] theorem State.setMb_pcie (s : State) (k : Nat) (x : Mb) : (s.setMb k x).pcie = s.pcie := rfl
@[simp] theorem State.setMb_bus (s : State) (k : Nat) (x : Mb) : (s.setMb k x).bus = s.bus := rfl
@[simp] theorem State.setMb_tb (s : State) (k : Nat) (x : Mb) : (s.setMb k x).tb = s.tb := rfl
@[simp] theorem State.setMb_orbNum (s : State) (k : Nat) (x : Mb) : (s.setMb k x).orbNum = s.orbNum := rfl
@[simp] theorem State.setMb_orbit (s : State) (k : Nat) (x : Mb) : (s.setMb k x).orbit = s.orbit := rfl
@[simp] theorem State.setMb_domains (s : State) (k : Nat) (x : Mb) : (s.setMb k x).domains = s.domains := rfl
@[simp] theorem State.setMb_engines (s : State) (k : Nat) (x : Mb) : (s.setMb k x).engines = s.engines := rfl
@[simp] theorem State.setMb_touts (s : State) (k : Nat) (x : Mb) : (s.setMb k x).touts = s.touts := rfl
@[simp] theorem State.setMb_tins (s : State) (k : Nat) (x : Mb) : (s.setMb k x).tins = s.tins := rfl
@[simp] theorem State.setMb_links (s : State) (k : Nat) (x : Mb) : (s.setMb k x).links = s.links := rfl
@[simp] theorem State.setMb_tdcs (s : State) (k : Nat) (x : Mb) : (s.setMb k x).tdcs = s.tdcs := rfl
@[simp] theorem State.setMb_cals (s : State) (k : Nat) (x : Mb) : (s.setMb k x).cals = s.cals := rfl
@[simp] theorem State.setMb_ivls (s : State) (k : Nat) (x : Mb) : (s.setMb k x).ivls = s.ivls := rfl
@[simp] theorem State.setMb_trackers (s : State) (k : Nat) (x : Mb) : (s.setMb k x).trackers = s.trackers := rfl
@[simp] theorem State.setMb_power (s : State) (k : Nat) (x : Mb) : (s.setMb k x).power = s.power := rfl
@[simp] theorem State.setMb_hub (s : State) (k : Nat) (x : Mb) : (s.setMb k x).hub = s.hub := rfl
@[simp] theorem State.setMb_slot (s : State) (k : Nat) (x : Mb) : (s.setMb k x).slot = s.slot := rfl
@[simp] theorem State.setMb_slotTb (s : State) (k : Nat) (x : Mb) : (s.setMb k x).slotTb = s.slotTb := rfl
@[simp] theorem State.setMb_voqs (s : State) (k : Nat) (x : Mb) : (s.setMb k x).voqs = s.voqs := rfl
@[simp] theorem State.setMb_accts (s : State) (k : Nat) (x : Mb) : (s.setMb k x).accts = s.accts := rfl
@[simp] theorem State.setMb_inters (s : State) (k : Nat) (x : Mb) : (s.setMb k x).inters = s.inters := rfl
@[simp] theorem State.setMb_egrFull (s : State) (k : Nat) (x : Mb) : (s.setMb k x).egrFull = s.egrFull := rfl
@[simp] theorem State.setMb_rr (s : State) (k : Nat) (x : Mb) : (s.setMb k x).rr = s.rr := rfl
@[simp] theorem State.setMb_wires (s : State) (k : Nat) (x : Mb) : (s.setMb k x).wires = s.wires := rfl
@[simp] theorem State.setMb_reasms (s : State) (k : Nat) (x : Mb) : (s.setMb k x).reasms = s.reasms := rfl
@[simp] theorem State.setMb_egrQs (s : State) (k : Nat) (x : Mb) : (s.setMb k x).egrQs = s.egrQs := rfl
@[simp] theorem State.setMb_nextId (s : State) (k : Nat) (x : Mb) : (s.setMb k x).nextId = s.nextId := rfl
@[simp] theorem State.setMb_egresses (s : State) (k : Nat) (x : Mb) : (s.setMb k x).egresses = s.egresses := rfl
@[simp] theorem State.setMb_shapers (s : State) (k : Nat) (x : Mb) : (s.setMb k x).shapers = s.shapers := rfl
@[simp] theorem State.setMb_buckets (s : State) (k : Nat) (x : Mb) : (s.setMb k x).buckets = s.buckets := rfl
@[simp] theorem State.setMb_seqHists (s : State) (k : Nat) (x : Mb) : (s.setMb k x).seqHists = s.seqHists := rfl
@[simp] theorem State.setMb_sgLog (s : State) (k : Nat) (x : Mb) : (s.setMb k x).sgLog = s.sgLog := rfl
@[simp] theorem State.setMb_rsvIgnored (s : State) (k : Nat) (x : Mb) : (s.setMb k x).rsvIgnored = s.rsvIgnored := rfl
@[simp] theorem State.setMb_rsvReq (s : State) (k : Nat) (x : Mb) : (s.setMb k x).rsvReq = s.rsvReq := rfl
@[simp] theorem State.setMb_ptps (s : State) (k : Nat) (x : Mb) : (s.setMb k x).ptps = s.ptps := rfl
@[simp] theorem State.setMb_dsets (s : State) (k : Nat) (x : Mb) : (s.setMb k x).dsets = s.dsets := rfl
@[simp] theorem State.setMb_refs (s : State) (k : Nat) (x : Mb) : (s.setMb k x).refs = s.refs := rfl
@[simp] theorem State.setMb_cands (s : State) (k : Nat) (x : Mb) : (s.setMb k x).cands = s.cands := rfl
@[simp] theorem State.setMb_keys (s : State) (k : Nat) (x : Mb) : (s.setMb k x).keys = s.keys := rfl
@[simp] theorem State.setMb_binds (s : State) (k : Nat) (x : Mb) : (s.setMb k x).binds = s.binds := rfl
@[simp] theorem State.setMb_agent (s : State) (k : Nat) (x : Mb) : (s.setMb k x).agent = s.agent := rfl
@[simp] theorem State.setMb_posted (s : State) (k : Nat) (x : Mb) : (s.setMb k x).posted = s.posted := rfl
@[simp] theorem State.setMb_txns (s : State) (k : Nat) (x : Mb) : (s.setMb k x).txns = s.txns := rfl
@[simp] theorem State.setMb_journal (s : State) (k : Nat) (x : Mb) : (s.setMb k x).journal = s.journal := rfl
@[simp] theorem State.setMb_glists (s : State) (k : Nat) (x : Mb) : (s.setMb k x).glists = s.glists := rfl
@[simp] theorem State.setMb_gpends (s : State) (k : Nat) (x : Mb) : (s.setMb k x).gpends = s.gpends := rfl
@[simp] theorem State.setMb_trgLate (s : State) (k : Nat) (x : Mb) : (s.setMb k x).trgLate = s.trgLate := rfl
@[simp] theorem State.setMb_hlsLate (s : State) (k : Nat) (x : Mb) : (s.setMb k x).hlsLate = s.hlsLate := rfl
@[simp] theorem State.setMb_snapPend (s : State) (k : Nat) (x : Mb) : (s.setMb k x).snapPend = s.snapPend := rfl
@[simp] theorem State.setMb_out (s : State) (k : Nat) (x : Mb) : (s.setMb k x).out = s.out := rfl
@[simp] theorem State.setMb_freeCount (s : State) (k : Nat) (x : Mb) : (s.setMb k x).freeCount = s.freeCount := rfl
@[simp] theorem State.setMb_pending (s : State) (k : Nat) (x : Mb) : (s.setMb k x).pending = s.pending := rfl
@[simp] theorem State.setMb_reg (s : State) (k : Nat) (x : Mb) (a' : Nat) : (s.setMb k x).reg a' = s.reg a' := rfl
@[simp] theorem State.setMb_rd (s : State) (k : Nat) (x : Mb) (g : Fld) : (s.setMb k x).rd g = s.rd g := rfl
@[simp] theorem State.setMb_bit (s : State) (k : Nat) (x : Mb) (g : Fld) : (s.setMb k x).bit g = s.bit g := rfl
@[simp] theorem State.setMb_shaper (s : State) (k : Nat) (x : Mb) (j : Nat) : (s.setMb k x).shaper j = s.shaper j := rfl
@[simp] theorem State.setMb_acct (s : State) (k : Nat) (x : Mb) (j : Nat) : (s.setMb k x).acct j = s.acct j := rfl
@[simp] theorem State.setMb_reasm (s : State) (k : Nat) (x : Mb) (j : Nat) : (s.setMb k x).reasm j = s.reasm j := rfl
@[simp] theorem State.setMb_egrQ (s : State) (k : Nat) (x : Mb) (j : Nat) : (s.setMb k x).egrQ j = s.egrQ j := rfl
@[simp] theorem State.setMb_egr (s : State) (k : Nat) (x : Mb) (j : Nat) : (s.setMb k x).egr j = s.egr j := rfl
@[simp] theorem State.setMb_wire (s : State) (k : Nat) (x : Mb) (j : Nat) : (s.setMb k x).wire j = s.wire j := rfl
@[simp] theorem State.setMb_seqHist (s : State) (k : Nat) (x : Mb) (j : Nat) : (s.setMb k x).seqHist j = s.seqHist j := rfl
@[simp] theorem State.setMb_bucket (s : State) (k : Nat) (x : Mb) (j : Nat) : (s.setMb k x).bucket j = s.bucket j := rfl
@[simp] theorem State.setMb_dom (s : State) (k : Nat) (x : Mb) (j : Nat) : (s.setMb k x).dom j = s.dom j := rfl
@[simp] theorem State.setMb_eng (s : State) (k : Nat) (x : Mb) (j : Nat) : (s.setMb k x).eng j = s.eng j := rfl
@[simp] theorem State.setMb_tout (s : State) (k : Nat) (x : Mb) (j : Nat) : (s.setMb k x).tout j = s.tout j := rfl
@[simp] theorem State.setMb_tin (s : State) (k : Nat) (x : Mb) (j : Nat) : (s.setMb k x).tin j = s.tin j := rfl
@[simp] theorem State.setMb_link (s : State) (k : Nat) (x : Mb) (j : Nat) : (s.setMb k x).link j = s.link j := rfl
@[simp] theorem State.setMb_glist (s : State) (k : Nat) (x : Mb) (j : Nat) : (s.setMb k x).glist j = s.glist j := rfl
@[simp] theorem State.setMb_gpend (s : State) (k : Nat) (x : Mb) (j : Nat) : (s.setMb k x).gpend j = s.gpend j := rfl
@[simp] theorem State.setMb_ptp (s : State) (k : Nat) (x : Mb) (j : Nat) : (s.setMb k x).ptp j = s.ptp j := rfl
@[simp] theorem State.setMb_ref (s : State) (k : Nat) (x : Mb) (j : Nat) : (s.setMb k x).ref j = s.ref j := rfl
@[simp] theorem State.setMb_tdc (s : State) (k : Nat) (x : Mb) (j : Nat) : (s.setMb k x).tdc j = s.tdc j := rfl
@[simp] theorem State.setMb_cal (s : State) (k : Nat) (x : Mb) (j : Nat) : (s.setMb k x).cal j = s.cal j := rfl
@[simp] theorem State.setMb_ivl (s : State) (k : Nat) (x : Mb) (j : Nat) : (s.setMb k x).ivl j = s.ivl j := rfl
@[simp] theorem State.setMb_tracker (s : State) (k : Nat) (x : Mb) (j : Nat) : (s.setMb k x).tracker j = s.tracker j := rfl
@[simp] theorem State.setMb_cand (s : State) (k : Nat) (x : Mb) (d' j : Nat) : (s.setMb k x).cand d' j = s.cand d' j := rfl

/-! ## setDom -/

@[simp] theorem State.setDom_mode (s : State) (k : Nat) (x : Domain) : (s.setDom k x).mode = s.mode := rfl
@[simp] theorem State.setDom_role (s : State) (k : Nat) (x : Domain) : (s.setDom k x).role = s.role := rfl
@[simp] theorem State.setDom_regs (s : State) (k : Nat) (x : Domain) : (s.setDom k x).regs = s.regs := rfl
@[simp] theorem State.setDom_sys (s : State) (k : Nat) (x : Domain) : (s.setDom k x).sys = s.sys := rfl
@[simp] theorem State.setDom_clk (s : State) (k : Nat) (x : Domain) : (s.setDom k x).clk = s.clk := rfl
@[simp] theorem State.setDom_twin (s : State) (k : Nat) (x : Domain) : (s.setDom k x).twin = s.twin := rfl
@[simp] theorem State.setDom_clfAges (s : State) (k : Nat) (x : Domain) : (s.setDom k x).clfAges = s.clfAges := rfl
@[simp] theorem State.setDom_prv (s : State) (k : Nat) (x : Domain) : (s.setDom k x).prv = s.prv := rfl
@[simp] theorem State.setDom_pcie (s : State) (k : Nat) (x : Domain) : (s.setDom k x).pcie = s.pcie := rfl
@[simp] theorem State.setDom_bus (s : State) (k : Nat) (x : Domain) : (s.setDom k x).bus = s.bus := rfl
@[simp] theorem State.setDom_tb (s : State) (k : Nat) (x : Domain) : (s.setDom k x).tb = s.tb := rfl
@[simp] theorem State.setDom_orbNum (s : State) (k : Nat) (x : Domain) : (s.setDom k x).orbNum = s.orbNum := rfl
@[simp] theorem State.setDom_orbit (s : State) (k : Nat) (x : Domain) : (s.setDom k x).orbit = s.orbit := rfl
@[simp] theorem State.setDom_engines (s : State) (k : Nat) (x : Domain) : (s.setDom k x).engines = s.engines := rfl
@[simp] theorem State.setDom_touts (s : State) (k : Nat) (x : Domain) : (s.setDom k x).touts = s.touts := rfl
@[simp] theorem State.setDom_tins (s : State) (k : Nat) (x : Domain) : (s.setDom k x).tins = s.tins := rfl
@[simp] theorem State.setDom_links (s : State) (k : Nat) (x : Domain) : (s.setDom k x).links = s.links := rfl
@[simp] theorem State.setDom_tdcs (s : State) (k : Nat) (x : Domain) : (s.setDom k x).tdcs = s.tdcs := rfl
@[simp] theorem State.setDom_cals (s : State) (k : Nat) (x : Domain) : (s.setDom k x).cals = s.cals := rfl
@[simp] theorem State.setDom_ivls (s : State) (k : Nat) (x : Domain) : (s.setDom k x).ivls = s.ivls := rfl
@[simp] theorem State.setDom_trackers (s : State) (k : Nat) (x : Domain) : (s.setDom k x).trackers = s.trackers := rfl
@[simp] theorem State.setDom_power (s : State) (k : Nat) (x : Domain) : (s.setDom k x).power = s.power := rfl
@[simp] theorem State.setDom_hub (s : State) (k : Nat) (x : Domain) : (s.setDom k x).hub = s.hub := rfl
@[simp] theorem State.setDom_slot (s : State) (k : Nat) (x : Domain) : (s.setDom k x).slot = s.slot := rfl
@[simp] theorem State.setDom_slotTb (s : State) (k : Nat) (x : Domain) : (s.setDom k x).slotTb = s.slotTb := rfl
@[simp] theorem State.setDom_voqs (s : State) (k : Nat) (x : Domain) : (s.setDom k x).voqs = s.voqs := rfl
@[simp] theorem State.setDom_accts (s : State) (k : Nat) (x : Domain) : (s.setDom k x).accts = s.accts := rfl
@[simp] theorem State.setDom_inters (s : State) (k : Nat) (x : Domain) : (s.setDom k x).inters = s.inters := rfl
@[simp] theorem State.setDom_egrFull (s : State) (k : Nat) (x : Domain) : (s.setDom k x).egrFull = s.egrFull := rfl
@[simp] theorem State.setDom_rr (s : State) (k : Nat) (x : Domain) : (s.setDom k x).rr = s.rr := rfl
@[simp] theorem State.setDom_wires (s : State) (k : Nat) (x : Domain) : (s.setDom k x).wires = s.wires := rfl
@[simp] theorem State.setDom_reasms (s : State) (k : Nat) (x : Domain) : (s.setDom k x).reasms = s.reasms := rfl
@[simp] theorem State.setDom_egrQs (s : State) (k : Nat) (x : Domain) : (s.setDom k x).egrQs = s.egrQs := rfl
@[simp] theorem State.setDom_nextId (s : State) (k : Nat) (x : Domain) : (s.setDom k x).nextId = s.nextId := rfl
@[simp] theorem State.setDom_egresses (s : State) (k : Nat) (x : Domain) : (s.setDom k x).egresses = s.egresses := rfl
@[simp] theorem State.setDom_shapers (s : State) (k : Nat) (x : Domain) : (s.setDom k x).shapers = s.shapers := rfl
@[simp] theorem State.setDom_buckets (s : State) (k : Nat) (x : Domain) : (s.setDom k x).buckets = s.buckets := rfl
@[simp] theorem State.setDom_seqHists (s : State) (k : Nat) (x : Domain) : (s.setDom k x).seqHists = s.seqHists := rfl
@[simp] theorem State.setDom_sgLog (s : State) (k : Nat) (x : Domain) : (s.setDom k x).sgLog = s.sgLog := rfl
@[simp] theorem State.setDom_rsvIgnored (s : State) (k : Nat) (x : Domain) : (s.setDom k x).rsvIgnored = s.rsvIgnored := rfl
@[simp] theorem State.setDom_rsvReq (s : State) (k : Nat) (x : Domain) : (s.setDom k x).rsvReq = s.rsvReq := rfl
@[simp] theorem State.setDom_ptps (s : State) (k : Nat) (x : Domain) : (s.setDom k x).ptps = s.ptps := rfl
@[simp] theorem State.setDom_dsets (s : State) (k : Nat) (x : Domain) : (s.setDom k x).dsets = s.dsets := rfl
@[simp] theorem State.setDom_refs (s : State) (k : Nat) (x : Domain) : (s.setDom k x).refs = s.refs := rfl
@[simp] theorem State.setDom_cands (s : State) (k : Nat) (x : Domain) : (s.setDom k x).cands = s.cands := rfl
@[simp] theorem State.setDom_keys (s : State) (k : Nat) (x : Domain) : (s.setDom k x).keys = s.keys := rfl
@[simp] theorem State.setDom_binds (s : State) (k : Nat) (x : Domain) : (s.setDom k x).binds = s.binds := rfl
@[simp] theorem State.setDom_agent (s : State) (k : Nat) (x : Domain) : (s.setDom k x).agent = s.agent := rfl
@[simp] theorem State.setDom_mbs (s : State) (k : Nat) (x : Domain) : (s.setDom k x).mbs = s.mbs := rfl
@[simp] theorem State.setDom_posted (s : State) (k : Nat) (x : Domain) : (s.setDom k x).posted = s.posted := rfl
@[simp] theorem State.setDom_txns (s : State) (k : Nat) (x : Domain) : (s.setDom k x).txns = s.txns := rfl
@[simp] theorem State.setDom_journal (s : State) (k : Nat) (x : Domain) : (s.setDom k x).journal = s.journal := rfl
@[simp] theorem State.setDom_glists (s : State) (k : Nat) (x : Domain) : (s.setDom k x).glists = s.glists := rfl
@[simp] theorem State.setDom_gpends (s : State) (k : Nat) (x : Domain) : (s.setDom k x).gpends = s.gpends := rfl
@[simp] theorem State.setDom_trgLate (s : State) (k : Nat) (x : Domain) : (s.setDom k x).trgLate = s.trgLate := rfl
@[simp] theorem State.setDom_hlsLate (s : State) (k : Nat) (x : Domain) : (s.setDom k x).hlsLate = s.hlsLate := rfl
@[simp] theorem State.setDom_snapPend (s : State) (k : Nat) (x : Domain) : (s.setDom k x).snapPend = s.snapPend := rfl
@[simp] theorem State.setDom_out (s : State) (k : Nat) (x : Domain) : (s.setDom k x).out = s.out := rfl
@[simp] theorem State.setDom_freeCount (s : State) (k : Nat) (x : Domain) : (s.setDom k x).freeCount = s.freeCount := rfl
@[simp] theorem State.setDom_pending (s : State) (k : Nat) (x : Domain) : (s.setDom k x).pending = s.pending := rfl
@[simp] theorem State.setDom_reg (s : State) (k : Nat) (x : Domain) (a' : Nat) : (s.setDom k x).reg a' = s.reg a' := rfl
@[simp] theorem State.setDom_rd (s : State) (k : Nat) (x : Domain) (g : Fld) : (s.setDom k x).rd g = s.rd g := rfl
@[simp] theorem State.setDom_bit (s : State) (k : Nat) (x : Domain) (g : Fld) : (s.setDom k x).bit g = s.bit g := rfl
@[simp] theorem State.setDom_shaper (s : State) (k : Nat) (x : Domain) (j : Nat) : (s.setDom k x).shaper j = s.shaper j := rfl
@[simp] theorem State.setDom_acct (s : State) (k : Nat) (x : Domain) (j : Nat) : (s.setDom k x).acct j = s.acct j := rfl
@[simp] theorem State.setDom_reasm (s : State) (k : Nat) (x : Domain) (j : Nat) : (s.setDom k x).reasm j = s.reasm j := rfl
@[simp] theorem State.setDom_egrQ (s : State) (k : Nat) (x : Domain) (j : Nat) : (s.setDom k x).egrQ j = s.egrQ j := rfl
@[simp] theorem State.setDom_egr (s : State) (k : Nat) (x : Domain) (j : Nat) : (s.setDom k x).egr j = s.egr j := rfl
@[simp] theorem State.setDom_wire (s : State) (k : Nat) (x : Domain) (j : Nat) : (s.setDom k x).wire j = s.wire j := rfl
@[simp] theorem State.setDom_seqHist (s : State) (k : Nat) (x : Domain) (j : Nat) : (s.setDom k x).seqHist j = s.seqHist j := rfl
@[simp] theorem State.setDom_bucket (s : State) (k : Nat) (x : Domain) (j : Nat) : (s.setDom k x).bucket j = s.bucket j := rfl
@[simp] theorem State.setDom_mb (s : State) (k : Nat) (x : Domain) (j : Nat) : (s.setDom k x).mb j = s.mb j := rfl
@[simp] theorem State.setDom_eng (s : State) (k : Nat) (x : Domain) (j : Nat) : (s.setDom k x).eng j = s.eng j := rfl
@[simp] theorem State.setDom_tout (s : State) (k : Nat) (x : Domain) (j : Nat) : (s.setDom k x).tout j = s.tout j := rfl
@[simp] theorem State.setDom_tin (s : State) (k : Nat) (x : Domain) (j : Nat) : (s.setDom k x).tin j = s.tin j := rfl
@[simp] theorem State.setDom_link (s : State) (k : Nat) (x : Domain) (j : Nat) : (s.setDom k x).link j = s.link j := rfl
@[simp] theorem State.setDom_glist (s : State) (k : Nat) (x : Domain) (j : Nat) : (s.setDom k x).glist j = s.glist j := rfl
@[simp] theorem State.setDom_gpend (s : State) (k : Nat) (x : Domain) (j : Nat) : (s.setDom k x).gpend j = s.gpend j := rfl
@[simp] theorem State.setDom_ptp (s : State) (k : Nat) (x : Domain) (j : Nat) : (s.setDom k x).ptp j = s.ptp j := rfl
@[simp] theorem State.setDom_ref (s : State) (k : Nat) (x : Domain) (j : Nat) : (s.setDom k x).ref j = s.ref j := rfl
@[simp] theorem State.setDom_tdc (s : State) (k : Nat) (x : Domain) (j : Nat) : (s.setDom k x).tdc j = s.tdc j := rfl
@[simp] theorem State.setDom_cal (s : State) (k : Nat) (x : Domain) (j : Nat) : (s.setDom k x).cal j = s.cal j := rfl
@[simp] theorem State.setDom_ivl (s : State) (k : Nat) (x : Domain) (j : Nat) : (s.setDom k x).ivl j = s.ivl j := rfl
@[simp] theorem State.setDom_tracker (s : State) (k : Nat) (x : Domain) (j : Nat) : (s.setDom k x).tracker j = s.tracker j := rfl
@[simp] theorem State.setDom_cand (s : State) (k : Nat) (x : Domain) (d' j : Nat) : (s.setDom k x).cand d' j = s.cand d' j := rfl

/-! ## setEng -/

@[simp] theorem State.setEng_mode (s : State) (k : Nat) (x : Engine) : (s.setEng k x).mode = s.mode := rfl
@[simp] theorem State.setEng_role (s : State) (k : Nat) (x : Engine) : (s.setEng k x).role = s.role := rfl
@[simp] theorem State.setEng_regs (s : State) (k : Nat) (x : Engine) : (s.setEng k x).regs = s.regs := rfl
@[simp] theorem State.setEng_sys (s : State) (k : Nat) (x : Engine) : (s.setEng k x).sys = s.sys := rfl
@[simp] theorem State.setEng_clk (s : State) (k : Nat) (x : Engine) : (s.setEng k x).clk = s.clk := rfl
@[simp] theorem State.setEng_twin (s : State) (k : Nat) (x : Engine) : (s.setEng k x).twin = s.twin := rfl
@[simp] theorem State.setEng_clfAges (s : State) (k : Nat) (x : Engine) : (s.setEng k x).clfAges = s.clfAges := rfl
@[simp] theorem State.setEng_prv (s : State) (k : Nat) (x : Engine) : (s.setEng k x).prv = s.prv := rfl
@[simp] theorem State.setEng_pcie (s : State) (k : Nat) (x : Engine) : (s.setEng k x).pcie = s.pcie := rfl
@[simp] theorem State.setEng_bus (s : State) (k : Nat) (x : Engine) : (s.setEng k x).bus = s.bus := rfl
@[simp] theorem State.setEng_tb (s : State) (k : Nat) (x : Engine) : (s.setEng k x).tb = s.tb := rfl
@[simp] theorem State.setEng_orbNum (s : State) (k : Nat) (x : Engine) : (s.setEng k x).orbNum = s.orbNum := rfl
@[simp] theorem State.setEng_orbit (s : State) (k : Nat) (x : Engine) : (s.setEng k x).orbit = s.orbit := rfl
@[simp] theorem State.setEng_domains (s : State) (k : Nat) (x : Engine) : (s.setEng k x).domains = s.domains := rfl
@[simp] theorem State.setEng_touts (s : State) (k : Nat) (x : Engine) : (s.setEng k x).touts = s.touts := rfl
@[simp] theorem State.setEng_tins (s : State) (k : Nat) (x : Engine) : (s.setEng k x).tins = s.tins := rfl
@[simp] theorem State.setEng_links (s : State) (k : Nat) (x : Engine) : (s.setEng k x).links = s.links := rfl
@[simp] theorem State.setEng_tdcs (s : State) (k : Nat) (x : Engine) : (s.setEng k x).tdcs = s.tdcs := rfl
@[simp] theorem State.setEng_cals (s : State) (k : Nat) (x : Engine) : (s.setEng k x).cals = s.cals := rfl
@[simp] theorem State.setEng_ivls (s : State) (k : Nat) (x : Engine) : (s.setEng k x).ivls = s.ivls := rfl
@[simp] theorem State.setEng_trackers (s : State) (k : Nat) (x : Engine) : (s.setEng k x).trackers = s.trackers := rfl
@[simp] theorem State.setEng_power (s : State) (k : Nat) (x : Engine) : (s.setEng k x).power = s.power := rfl
@[simp] theorem State.setEng_hub (s : State) (k : Nat) (x : Engine) : (s.setEng k x).hub = s.hub := rfl
@[simp] theorem State.setEng_slot (s : State) (k : Nat) (x : Engine) : (s.setEng k x).slot = s.slot := rfl
@[simp] theorem State.setEng_slotTb (s : State) (k : Nat) (x : Engine) : (s.setEng k x).slotTb = s.slotTb := rfl
@[simp] theorem State.setEng_voqs (s : State) (k : Nat) (x : Engine) : (s.setEng k x).voqs = s.voqs := rfl
@[simp] theorem State.setEng_accts (s : State) (k : Nat) (x : Engine) : (s.setEng k x).accts = s.accts := rfl
@[simp] theorem State.setEng_inters (s : State) (k : Nat) (x : Engine) : (s.setEng k x).inters = s.inters := rfl
@[simp] theorem State.setEng_egrFull (s : State) (k : Nat) (x : Engine) : (s.setEng k x).egrFull = s.egrFull := rfl
@[simp] theorem State.setEng_rr (s : State) (k : Nat) (x : Engine) : (s.setEng k x).rr = s.rr := rfl
@[simp] theorem State.setEng_wires (s : State) (k : Nat) (x : Engine) : (s.setEng k x).wires = s.wires := rfl
@[simp] theorem State.setEng_reasms (s : State) (k : Nat) (x : Engine) : (s.setEng k x).reasms = s.reasms := rfl
@[simp] theorem State.setEng_egrQs (s : State) (k : Nat) (x : Engine) : (s.setEng k x).egrQs = s.egrQs := rfl
@[simp] theorem State.setEng_nextId (s : State) (k : Nat) (x : Engine) : (s.setEng k x).nextId = s.nextId := rfl
@[simp] theorem State.setEng_egresses (s : State) (k : Nat) (x : Engine) : (s.setEng k x).egresses = s.egresses := rfl
@[simp] theorem State.setEng_shapers (s : State) (k : Nat) (x : Engine) : (s.setEng k x).shapers = s.shapers := rfl
@[simp] theorem State.setEng_buckets (s : State) (k : Nat) (x : Engine) : (s.setEng k x).buckets = s.buckets := rfl
@[simp] theorem State.setEng_seqHists (s : State) (k : Nat) (x : Engine) : (s.setEng k x).seqHists = s.seqHists := rfl
@[simp] theorem State.setEng_sgLog (s : State) (k : Nat) (x : Engine) : (s.setEng k x).sgLog = s.sgLog := rfl
@[simp] theorem State.setEng_rsvIgnored (s : State) (k : Nat) (x : Engine) : (s.setEng k x).rsvIgnored = s.rsvIgnored := rfl
@[simp] theorem State.setEng_rsvReq (s : State) (k : Nat) (x : Engine) : (s.setEng k x).rsvReq = s.rsvReq := rfl
@[simp] theorem State.setEng_ptps (s : State) (k : Nat) (x : Engine) : (s.setEng k x).ptps = s.ptps := rfl
@[simp] theorem State.setEng_dsets (s : State) (k : Nat) (x : Engine) : (s.setEng k x).dsets = s.dsets := rfl
@[simp] theorem State.setEng_refs (s : State) (k : Nat) (x : Engine) : (s.setEng k x).refs = s.refs := rfl
@[simp] theorem State.setEng_cands (s : State) (k : Nat) (x : Engine) : (s.setEng k x).cands = s.cands := rfl
@[simp] theorem State.setEng_keys (s : State) (k : Nat) (x : Engine) : (s.setEng k x).keys = s.keys := rfl
@[simp] theorem State.setEng_binds (s : State) (k : Nat) (x : Engine) : (s.setEng k x).binds = s.binds := rfl
@[simp] theorem State.setEng_agent (s : State) (k : Nat) (x : Engine) : (s.setEng k x).agent = s.agent := rfl
@[simp] theorem State.setEng_mbs (s : State) (k : Nat) (x : Engine) : (s.setEng k x).mbs = s.mbs := rfl
@[simp] theorem State.setEng_posted (s : State) (k : Nat) (x : Engine) : (s.setEng k x).posted = s.posted := rfl
@[simp] theorem State.setEng_txns (s : State) (k : Nat) (x : Engine) : (s.setEng k x).txns = s.txns := rfl
@[simp] theorem State.setEng_journal (s : State) (k : Nat) (x : Engine) : (s.setEng k x).journal = s.journal := rfl
@[simp] theorem State.setEng_glists (s : State) (k : Nat) (x : Engine) : (s.setEng k x).glists = s.glists := rfl
@[simp] theorem State.setEng_gpends (s : State) (k : Nat) (x : Engine) : (s.setEng k x).gpends = s.gpends := rfl
@[simp] theorem State.setEng_trgLate (s : State) (k : Nat) (x : Engine) : (s.setEng k x).trgLate = s.trgLate := rfl
@[simp] theorem State.setEng_hlsLate (s : State) (k : Nat) (x : Engine) : (s.setEng k x).hlsLate = s.hlsLate := rfl
@[simp] theorem State.setEng_snapPend (s : State) (k : Nat) (x : Engine) : (s.setEng k x).snapPend = s.snapPend := rfl
@[simp] theorem State.setEng_out (s : State) (k : Nat) (x : Engine) : (s.setEng k x).out = s.out := rfl
@[simp] theorem State.setEng_freeCount (s : State) (k : Nat) (x : Engine) : (s.setEng k x).freeCount = s.freeCount := rfl
@[simp] theorem State.setEng_pending (s : State) (k : Nat) (x : Engine) : (s.setEng k x).pending = s.pending := rfl
@[simp] theorem State.setEng_reg (s : State) (k : Nat) (x : Engine) (a' : Nat) : (s.setEng k x).reg a' = s.reg a' := rfl
@[simp] theorem State.setEng_rd (s : State) (k : Nat) (x : Engine) (g : Fld) : (s.setEng k x).rd g = s.rd g := rfl
@[simp] theorem State.setEng_bit (s : State) (k : Nat) (x : Engine) (g : Fld) : (s.setEng k x).bit g = s.bit g := rfl
@[simp] theorem State.setEng_shaper (s : State) (k : Nat) (x : Engine) (j : Nat) : (s.setEng k x).shaper j = s.shaper j := rfl
@[simp] theorem State.setEng_acct (s : State) (k : Nat) (x : Engine) (j : Nat) : (s.setEng k x).acct j = s.acct j := rfl
@[simp] theorem State.setEng_reasm (s : State) (k : Nat) (x : Engine) (j : Nat) : (s.setEng k x).reasm j = s.reasm j := rfl
@[simp] theorem State.setEng_egrQ (s : State) (k : Nat) (x : Engine) (j : Nat) : (s.setEng k x).egrQ j = s.egrQ j := rfl
@[simp] theorem State.setEng_egr (s : State) (k : Nat) (x : Engine) (j : Nat) : (s.setEng k x).egr j = s.egr j := rfl
@[simp] theorem State.setEng_wire (s : State) (k : Nat) (x : Engine) (j : Nat) : (s.setEng k x).wire j = s.wire j := rfl
@[simp] theorem State.setEng_seqHist (s : State) (k : Nat) (x : Engine) (j : Nat) : (s.setEng k x).seqHist j = s.seqHist j := rfl
@[simp] theorem State.setEng_bucket (s : State) (k : Nat) (x : Engine) (j : Nat) : (s.setEng k x).bucket j = s.bucket j := rfl
@[simp] theorem State.setEng_mb (s : State) (k : Nat) (x : Engine) (j : Nat) : (s.setEng k x).mb j = s.mb j := rfl
@[simp] theorem State.setEng_dom (s : State) (k : Nat) (x : Engine) (j : Nat) : (s.setEng k x).dom j = s.dom j := rfl
@[simp] theorem State.setEng_tout (s : State) (k : Nat) (x : Engine) (j : Nat) : (s.setEng k x).tout j = s.tout j := rfl
@[simp] theorem State.setEng_tin (s : State) (k : Nat) (x : Engine) (j : Nat) : (s.setEng k x).tin j = s.tin j := rfl
@[simp] theorem State.setEng_link (s : State) (k : Nat) (x : Engine) (j : Nat) : (s.setEng k x).link j = s.link j := rfl
@[simp] theorem State.setEng_glist (s : State) (k : Nat) (x : Engine) (j : Nat) : (s.setEng k x).glist j = s.glist j := rfl
@[simp] theorem State.setEng_gpend (s : State) (k : Nat) (x : Engine) (j : Nat) : (s.setEng k x).gpend j = s.gpend j := rfl
@[simp] theorem State.setEng_ptp (s : State) (k : Nat) (x : Engine) (j : Nat) : (s.setEng k x).ptp j = s.ptp j := rfl
@[simp] theorem State.setEng_ref (s : State) (k : Nat) (x : Engine) (j : Nat) : (s.setEng k x).ref j = s.ref j := rfl
@[simp] theorem State.setEng_tdc (s : State) (k : Nat) (x : Engine) (j : Nat) : (s.setEng k x).tdc j = s.tdc j := rfl
@[simp] theorem State.setEng_cal (s : State) (k : Nat) (x : Engine) (j : Nat) : (s.setEng k x).cal j = s.cal j := rfl
@[simp] theorem State.setEng_ivl (s : State) (k : Nat) (x : Engine) (j : Nat) : (s.setEng k x).ivl j = s.ivl j := rfl
@[simp] theorem State.setEng_tracker (s : State) (k : Nat) (x : Engine) (j : Nat) : (s.setEng k x).tracker j = s.tracker j := rfl
@[simp] theorem State.setEng_cand (s : State) (k : Nat) (x : Engine) (d' j : Nat) : (s.setEng k x).cand d' j = s.cand d' j := rfl

/-! ## setTout -/

@[simp] theorem State.setTout_mode (s : State) (k : Nat) (x : Tout) : (s.setTout k x).mode = s.mode := rfl
@[simp] theorem State.setTout_role (s : State) (k : Nat) (x : Tout) : (s.setTout k x).role = s.role := rfl
@[simp] theorem State.setTout_regs (s : State) (k : Nat) (x : Tout) : (s.setTout k x).regs = s.regs := rfl
@[simp] theorem State.setTout_sys (s : State) (k : Nat) (x : Tout) : (s.setTout k x).sys = s.sys := rfl
@[simp] theorem State.setTout_clk (s : State) (k : Nat) (x : Tout) : (s.setTout k x).clk = s.clk := rfl
@[simp] theorem State.setTout_twin (s : State) (k : Nat) (x : Tout) : (s.setTout k x).twin = s.twin := rfl
@[simp] theorem State.setTout_clfAges (s : State) (k : Nat) (x : Tout) : (s.setTout k x).clfAges = s.clfAges := rfl
@[simp] theorem State.setTout_prv (s : State) (k : Nat) (x : Tout) : (s.setTout k x).prv = s.prv := rfl
@[simp] theorem State.setTout_pcie (s : State) (k : Nat) (x : Tout) : (s.setTout k x).pcie = s.pcie := rfl
@[simp] theorem State.setTout_bus (s : State) (k : Nat) (x : Tout) : (s.setTout k x).bus = s.bus := rfl
@[simp] theorem State.setTout_tb (s : State) (k : Nat) (x : Tout) : (s.setTout k x).tb = s.tb := rfl
@[simp] theorem State.setTout_orbNum (s : State) (k : Nat) (x : Tout) : (s.setTout k x).orbNum = s.orbNum := rfl
@[simp] theorem State.setTout_orbit (s : State) (k : Nat) (x : Tout) : (s.setTout k x).orbit = s.orbit := rfl
@[simp] theorem State.setTout_domains (s : State) (k : Nat) (x : Tout) : (s.setTout k x).domains = s.domains := rfl
@[simp] theorem State.setTout_engines (s : State) (k : Nat) (x : Tout) : (s.setTout k x).engines = s.engines := rfl
@[simp] theorem State.setTout_tins (s : State) (k : Nat) (x : Tout) : (s.setTout k x).tins = s.tins := rfl
@[simp] theorem State.setTout_links (s : State) (k : Nat) (x : Tout) : (s.setTout k x).links = s.links := rfl
@[simp] theorem State.setTout_tdcs (s : State) (k : Nat) (x : Tout) : (s.setTout k x).tdcs = s.tdcs := rfl
@[simp] theorem State.setTout_cals (s : State) (k : Nat) (x : Tout) : (s.setTout k x).cals = s.cals := rfl
@[simp] theorem State.setTout_ivls (s : State) (k : Nat) (x : Tout) : (s.setTout k x).ivls = s.ivls := rfl
@[simp] theorem State.setTout_trackers (s : State) (k : Nat) (x : Tout) : (s.setTout k x).trackers = s.trackers := rfl
@[simp] theorem State.setTout_power (s : State) (k : Nat) (x : Tout) : (s.setTout k x).power = s.power := rfl
@[simp] theorem State.setTout_hub (s : State) (k : Nat) (x : Tout) : (s.setTout k x).hub = s.hub := rfl
@[simp] theorem State.setTout_slot (s : State) (k : Nat) (x : Tout) : (s.setTout k x).slot = s.slot := rfl
@[simp] theorem State.setTout_slotTb (s : State) (k : Nat) (x : Tout) : (s.setTout k x).slotTb = s.slotTb := rfl
@[simp] theorem State.setTout_voqs (s : State) (k : Nat) (x : Tout) : (s.setTout k x).voqs = s.voqs := rfl
@[simp] theorem State.setTout_accts (s : State) (k : Nat) (x : Tout) : (s.setTout k x).accts = s.accts := rfl
@[simp] theorem State.setTout_inters (s : State) (k : Nat) (x : Tout) : (s.setTout k x).inters = s.inters := rfl
@[simp] theorem State.setTout_egrFull (s : State) (k : Nat) (x : Tout) : (s.setTout k x).egrFull = s.egrFull := rfl
@[simp] theorem State.setTout_rr (s : State) (k : Nat) (x : Tout) : (s.setTout k x).rr = s.rr := rfl
@[simp] theorem State.setTout_wires (s : State) (k : Nat) (x : Tout) : (s.setTout k x).wires = s.wires := rfl
@[simp] theorem State.setTout_reasms (s : State) (k : Nat) (x : Tout) : (s.setTout k x).reasms = s.reasms := rfl
@[simp] theorem State.setTout_egrQs (s : State) (k : Nat) (x : Tout) : (s.setTout k x).egrQs = s.egrQs := rfl
@[simp] theorem State.setTout_nextId (s : State) (k : Nat) (x : Tout) : (s.setTout k x).nextId = s.nextId := rfl
@[simp] theorem State.setTout_egresses (s : State) (k : Nat) (x : Tout) : (s.setTout k x).egresses = s.egresses := rfl
@[simp] theorem State.setTout_shapers (s : State) (k : Nat) (x : Tout) : (s.setTout k x).shapers = s.shapers := rfl
@[simp] theorem State.setTout_buckets (s : State) (k : Nat) (x : Tout) : (s.setTout k x).buckets = s.buckets := rfl
@[simp] theorem State.setTout_seqHists (s : State) (k : Nat) (x : Tout) : (s.setTout k x).seqHists = s.seqHists := rfl
@[simp] theorem State.setTout_sgLog (s : State) (k : Nat) (x : Tout) : (s.setTout k x).sgLog = s.sgLog := rfl
@[simp] theorem State.setTout_rsvIgnored (s : State) (k : Nat) (x : Tout) : (s.setTout k x).rsvIgnored = s.rsvIgnored := rfl
@[simp] theorem State.setTout_rsvReq (s : State) (k : Nat) (x : Tout) : (s.setTout k x).rsvReq = s.rsvReq := rfl
@[simp] theorem State.setTout_ptps (s : State) (k : Nat) (x : Tout) : (s.setTout k x).ptps = s.ptps := rfl
@[simp] theorem State.setTout_dsets (s : State) (k : Nat) (x : Tout) : (s.setTout k x).dsets = s.dsets := rfl
@[simp] theorem State.setTout_refs (s : State) (k : Nat) (x : Tout) : (s.setTout k x).refs = s.refs := rfl
@[simp] theorem State.setTout_cands (s : State) (k : Nat) (x : Tout) : (s.setTout k x).cands = s.cands := rfl
@[simp] theorem State.setTout_keys (s : State) (k : Nat) (x : Tout) : (s.setTout k x).keys = s.keys := rfl
@[simp] theorem State.setTout_binds (s : State) (k : Nat) (x : Tout) : (s.setTout k x).binds = s.binds := rfl
@[simp] theorem State.setTout_agent (s : State) (k : Nat) (x : Tout) : (s.setTout k x).agent = s.agent := rfl
@[simp] theorem State.setTout_mbs (s : State) (k : Nat) (x : Tout) : (s.setTout k x).mbs = s.mbs := rfl
@[simp] theorem State.setTout_posted (s : State) (k : Nat) (x : Tout) : (s.setTout k x).posted = s.posted := rfl
@[simp] theorem State.setTout_txns (s : State) (k : Nat) (x : Tout) : (s.setTout k x).txns = s.txns := rfl
@[simp] theorem State.setTout_journal (s : State) (k : Nat) (x : Tout) : (s.setTout k x).journal = s.journal := rfl
@[simp] theorem State.setTout_glists (s : State) (k : Nat) (x : Tout) : (s.setTout k x).glists = s.glists := rfl
@[simp] theorem State.setTout_gpends (s : State) (k : Nat) (x : Tout) : (s.setTout k x).gpends = s.gpends := rfl
@[simp] theorem State.setTout_trgLate (s : State) (k : Nat) (x : Tout) : (s.setTout k x).trgLate = s.trgLate := rfl
@[simp] theorem State.setTout_hlsLate (s : State) (k : Nat) (x : Tout) : (s.setTout k x).hlsLate = s.hlsLate := rfl
@[simp] theorem State.setTout_snapPend (s : State) (k : Nat) (x : Tout) : (s.setTout k x).snapPend = s.snapPend := rfl
@[simp] theorem State.setTout_out (s : State) (k : Nat) (x : Tout) : (s.setTout k x).out = s.out := rfl
@[simp] theorem State.setTout_freeCount (s : State) (k : Nat) (x : Tout) : (s.setTout k x).freeCount = s.freeCount := rfl
@[simp] theorem State.setTout_pending (s : State) (k : Nat) (x : Tout) : (s.setTout k x).pending = s.pending := rfl
@[simp] theorem State.setTout_reg (s : State) (k : Nat) (x : Tout) (a' : Nat) : (s.setTout k x).reg a' = s.reg a' := rfl
@[simp] theorem State.setTout_rd (s : State) (k : Nat) (x : Tout) (g : Fld) : (s.setTout k x).rd g = s.rd g := rfl
@[simp] theorem State.setTout_bit (s : State) (k : Nat) (x : Tout) (g : Fld) : (s.setTout k x).bit g = s.bit g := rfl
@[simp] theorem State.setTout_shaper (s : State) (k : Nat) (x : Tout) (j : Nat) : (s.setTout k x).shaper j = s.shaper j := rfl
@[simp] theorem State.setTout_acct (s : State) (k : Nat) (x : Tout) (j : Nat) : (s.setTout k x).acct j = s.acct j := rfl
@[simp] theorem State.setTout_reasm (s : State) (k : Nat) (x : Tout) (j : Nat) : (s.setTout k x).reasm j = s.reasm j := rfl
@[simp] theorem State.setTout_egrQ (s : State) (k : Nat) (x : Tout) (j : Nat) : (s.setTout k x).egrQ j = s.egrQ j := rfl
@[simp] theorem State.setTout_egr (s : State) (k : Nat) (x : Tout) (j : Nat) : (s.setTout k x).egr j = s.egr j := rfl
@[simp] theorem State.setTout_wire (s : State) (k : Nat) (x : Tout) (j : Nat) : (s.setTout k x).wire j = s.wire j := rfl
@[simp] theorem State.setTout_seqHist (s : State) (k : Nat) (x : Tout) (j : Nat) : (s.setTout k x).seqHist j = s.seqHist j := rfl
@[simp] theorem State.setTout_bucket (s : State) (k : Nat) (x : Tout) (j : Nat) : (s.setTout k x).bucket j = s.bucket j := rfl
@[simp] theorem State.setTout_mb (s : State) (k : Nat) (x : Tout) (j : Nat) : (s.setTout k x).mb j = s.mb j := rfl
@[simp] theorem State.setTout_dom (s : State) (k : Nat) (x : Tout) (j : Nat) : (s.setTout k x).dom j = s.dom j := rfl
@[simp] theorem State.setTout_eng (s : State) (k : Nat) (x : Tout) (j : Nat) : (s.setTout k x).eng j = s.eng j := rfl
@[simp] theorem State.setTout_tin (s : State) (k : Nat) (x : Tout) (j : Nat) : (s.setTout k x).tin j = s.tin j := rfl
@[simp] theorem State.setTout_link (s : State) (k : Nat) (x : Tout) (j : Nat) : (s.setTout k x).link j = s.link j := rfl
@[simp] theorem State.setTout_glist (s : State) (k : Nat) (x : Tout) (j : Nat) : (s.setTout k x).glist j = s.glist j := rfl
@[simp] theorem State.setTout_gpend (s : State) (k : Nat) (x : Tout) (j : Nat) : (s.setTout k x).gpend j = s.gpend j := rfl
@[simp] theorem State.setTout_ptp (s : State) (k : Nat) (x : Tout) (j : Nat) : (s.setTout k x).ptp j = s.ptp j := rfl
@[simp] theorem State.setTout_ref (s : State) (k : Nat) (x : Tout) (j : Nat) : (s.setTout k x).ref j = s.ref j := rfl
@[simp] theorem State.setTout_tdc (s : State) (k : Nat) (x : Tout) (j : Nat) : (s.setTout k x).tdc j = s.tdc j := rfl
@[simp] theorem State.setTout_cal (s : State) (k : Nat) (x : Tout) (j : Nat) : (s.setTout k x).cal j = s.cal j := rfl
@[simp] theorem State.setTout_ivl (s : State) (k : Nat) (x : Tout) (j : Nat) : (s.setTout k x).ivl j = s.ivl j := rfl
@[simp] theorem State.setTout_tracker (s : State) (k : Nat) (x : Tout) (j : Nat) : (s.setTout k x).tracker j = s.tracker j := rfl
@[simp] theorem State.setTout_cand (s : State) (k : Nat) (x : Tout) (d' j : Nat) : (s.setTout k x).cand d' j = s.cand d' j := rfl

/-! ## setTin -/

@[simp] theorem State.setTin_mode (s : State) (k : Nat) (x : Tin) : (s.setTin k x).mode = s.mode := rfl
@[simp] theorem State.setTin_role (s : State) (k : Nat) (x : Tin) : (s.setTin k x).role = s.role := rfl
@[simp] theorem State.setTin_regs (s : State) (k : Nat) (x : Tin) : (s.setTin k x).regs = s.regs := rfl
@[simp] theorem State.setTin_sys (s : State) (k : Nat) (x : Tin) : (s.setTin k x).sys = s.sys := rfl
@[simp] theorem State.setTin_clk (s : State) (k : Nat) (x : Tin) : (s.setTin k x).clk = s.clk := rfl
@[simp] theorem State.setTin_twin (s : State) (k : Nat) (x : Tin) : (s.setTin k x).twin = s.twin := rfl
@[simp] theorem State.setTin_clfAges (s : State) (k : Nat) (x : Tin) : (s.setTin k x).clfAges = s.clfAges := rfl
@[simp] theorem State.setTin_prv (s : State) (k : Nat) (x : Tin) : (s.setTin k x).prv = s.prv := rfl
@[simp] theorem State.setTin_pcie (s : State) (k : Nat) (x : Tin) : (s.setTin k x).pcie = s.pcie := rfl
@[simp] theorem State.setTin_bus (s : State) (k : Nat) (x : Tin) : (s.setTin k x).bus = s.bus := rfl
@[simp] theorem State.setTin_tb (s : State) (k : Nat) (x : Tin) : (s.setTin k x).tb = s.tb := rfl
@[simp] theorem State.setTin_orbNum (s : State) (k : Nat) (x : Tin) : (s.setTin k x).orbNum = s.orbNum := rfl
@[simp] theorem State.setTin_orbit (s : State) (k : Nat) (x : Tin) : (s.setTin k x).orbit = s.orbit := rfl
@[simp] theorem State.setTin_domains (s : State) (k : Nat) (x : Tin) : (s.setTin k x).domains = s.domains := rfl
@[simp] theorem State.setTin_engines (s : State) (k : Nat) (x : Tin) : (s.setTin k x).engines = s.engines := rfl
@[simp] theorem State.setTin_touts (s : State) (k : Nat) (x : Tin) : (s.setTin k x).touts = s.touts := rfl
@[simp] theorem State.setTin_links (s : State) (k : Nat) (x : Tin) : (s.setTin k x).links = s.links := rfl
@[simp] theorem State.setTin_tdcs (s : State) (k : Nat) (x : Tin) : (s.setTin k x).tdcs = s.tdcs := rfl
@[simp] theorem State.setTin_cals (s : State) (k : Nat) (x : Tin) : (s.setTin k x).cals = s.cals := rfl
@[simp] theorem State.setTin_ivls (s : State) (k : Nat) (x : Tin) : (s.setTin k x).ivls = s.ivls := rfl
@[simp] theorem State.setTin_trackers (s : State) (k : Nat) (x : Tin) : (s.setTin k x).trackers = s.trackers := rfl
@[simp] theorem State.setTin_power (s : State) (k : Nat) (x : Tin) : (s.setTin k x).power = s.power := rfl
@[simp] theorem State.setTin_hub (s : State) (k : Nat) (x : Tin) : (s.setTin k x).hub = s.hub := rfl
@[simp] theorem State.setTin_slot (s : State) (k : Nat) (x : Tin) : (s.setTin k x).slot = s.slot := rfl
@[simp] theorem State.setTin_slotTb (s : State) (k : Nat) (x : Tin) : (s.setTin k x).slotTb = s.slotTb := rfl
@[simp] theorem State.setTin_voqs (s : State) (k : Nat) (x : Tin) : (s.setTin k x).voqs = s.voqs := rfl
@[simp] theorem State.setTin_accts (s : State) (k : Nat) (x : Tin) : (s.setTin k x).accts = s.accts := rfl
@[simp] theorem State.setTin_inters (s : State) (k : Nat) (x : Tin) : (s.setTin k x).inters = s.inters := rfl
@[simp] theorem State.setTin_egrFull (s : State) (k : Nat) (x : Tin) : (s.setTin k x).egrFull = s.egrFull := rfl
@[simp] theorem State.setTin_rr (s : State) (k : Nat) (x : Tin) : (s.setTin k x).rr = s.rr := rfl
@[simp] theorem State.setTin_wires (s : State) (k : Nat) (x : Tin) : (s.setTin k x).wires = s.wires := rfl
@[simp] theorem State.setTin_reasms (s : State) (k : Nat) (x : Tin) : (s.setTin k x).reasms = s.reasms := rfl
@[simp] theorem State.setTin_egrQs (s : State) (k : Nat) (x : Tin) : (s.setTin k x).egrQs = s.egrQs := rfl
@[simp] theorem State.setTin_nextId (s : State) (k : Nat) (x : Tin) : (s.setTin k x).nextId = s.nextId := rfl
@[simp] theorem State.setTin_egresses (s : State) (k : Nat) (x : Tin) : (s.setTin k x).egresses = s.egresses := rfl
@[simp] theorem State.setTin_shapers (s : State) (k : Nat) (x : Tin) : (s.setTin k x).shapers = s.shapers := rfl
@[simp] theorem State.setTin_buckets (s : State) (k : Nat) (x : Tin) : (s.setTin k x).buckets = s.buckets := rfl
@[simp] theorem State.setTin_seqHists (s : State) (k : Nat) (x : Tin) : (s.setTin k x).seqHists = s.seqHists := rfl
@[simp] theorem State.setTin_sgLog (s : State) (k : Nat) (x : Tin) : (s.setTin k x).sgLog = s.sgLog := rfl
@[simp] theorem State.setTin_rsvIgnored (s : State) (k : Nat) (x : Tin) : (s.setTin k x).rsvIgnored = s.rsvIgnored := rfl
@[simp] theorem State.setTin_rsvReq (s : State) (k : Nat) (x : Tin) : (s.setTin k x).rsvReq = s.rsvReq := rfl
@[simp] theorem State.setTin_ptps (s : State) (k : Nat) (x : Tin) : (s.setTin k x).ptps = s.ptps := rfl
@[simp] theorem State.setTin_dsets (s : State) (k : Nat) (x : Tin) : (s.setTin k x).dsets = s.dsets := rfl
@[simp] theorem State.setTin_refs (s : State) (k : Nat) (x : Tin) : (s.setTin k x).refs = s.refs := rfl
@[simp] theorem State.setTin_cands (s : State) (k : Nat) (x : Tin) : (s.setTin k x).cands = s.cands := rfl
@[simp] theorem State.setTin_keys (s : State) (k : Nat) (x : Tin) : (s.setTin k x).keys = s.keys := rfl
@[simp] theorem State.setTin_binds (s : State) (k : Nat) (x : Tin) : (s.setTin k x).binds = s.binds := rfl
@[simp] theorem State.setTin_agent (s : State) (k : Nat) (x : Tin) : (s.setTin k x).agent = s.agent := rfl
@[simp] theorem State.setTin_mbs (s : State) (k : Nat) (x : Tin) : (s.setTin k x).mbs = s.mbs := rfl
@[simp] theorem State.setTin_posted (s : State) (k : Nat) (x : Tin) : (s.setTin k x).posted = s.posted := rfl
@[simp] theorem State.setTin_txns (s : State) (k : Nat) (x : Tin) : (s.setTin k x).txns = s.txns := rfl
@[simp] theorem State.setTin_journal (s : State) (k : Nat) (x : Tin) : (s.setTin k x).journal = s.journal := rfl
@[simp] theorem State.setTin_glists (s : State) (k : Nat) (x : Tin) : (s.setTin k x).glists = s.glists := rfl
@[simp] theorem State.setTin_gpends (s : State) (k : Nat) (x : Tin) : (s.setTin k x).gpends = s.gpends := rfl
@[simp] theorem State.setTin_trgLate (s : State) (k : Nat) (x : Tin) : (s.setTin k x).trgLate = s.trgLate := rfl
@[simp] theorem State.setTin_hlsLate (s : State) (k : Nat) (x : Tin) : (s.setTin k x).hlsLate = s.hlsLate := rfl
@[simp] theorem State.setTin_snapPend (s : State) (k : Nat) (x : Tin) : (s.setTin k x).snapPend = s.snapPend := rfl
@[simp] theorem State.setTin_out (s : State) (k : Nat) (x : Tin) : (s.setTin k x).out = s.out := rfl
@[simp] theorem State.setTin_freeCount (s : State) (k : Nat) (x : Tin) : (s.setTin k x).freeCount = s.freeCount := rfl
@[simp] theorem State.setTin_pending (s : State) (k : Nat) (x : Tin) : (s.setTin k x).pending = s.pending := rfl
@[simp] theorem State.setTin_reg (s : State) (k : Nat) (x : Tin) (a' : Nat) : (s.setTin k x).reg a' = s.reg a' := rfl
@[simp] theorem State.setTin_rd (s : State) (k : Nat) (x : Tin) (g : Fld) : (s.setTin k x).rd g = s.rd g := rfl
@[simp] theorem State.setTin_bit (s : State) (k : Nat) (x : Tin) (g : Fld) : (s.setTin k x).bit g = s.bit g := rfl
@[simp] theorem State.setTin_shaper (s : State) (k : Nat) (x : Tin) (j : Nat) : (s.setTin k x).shaper j = s.shaper j := rfl
@[simp] theorem State.setTin_acct (s : State) (k : Nat) (x : Tin) (j : Nat) : (s.setTin k x).acct j = s.acct j := rfl
@[simp] theorem State.setTin_reasm (s : State) (k : Nat) (x : Tin) (j : Nat) : (s.setTin k x).reasm j = s.reasm j := rfl
@[simp] theorem State.setTin_egrQ (s : State) (k : Nat) (x : Tin) (j : Nat) : (s.setTin k x).egrQ j = s.egrQ j := rfl
@[simp] theorem State.setTin_egr (s : State) (k : Nat) (x : Tin) (j : Nat) : (s.setTin k x).egr j = s.egr j := rfl
@[simp] theorem State.setTin_wire (s : State) (k : Nat) (x : Tin) (j : Nat) : (s.setTin k x).wire j = s.wire j := rfl
@[simp] theorem State.setTin_seqHist (s : State) (k : Nat) (x : Tin) (j : Nat) : (s.setTin k x).seqHist j = s.seqHist j := rfl
@[simp] theorem State.setTin_bucket (s : State) (k : Nat) (x : Tin) (j : Nat) : (s.setTin k x).bucket j = s.bucket j := rfl
@[simp] theorem State.setTin_mb (s : State) (k : Nat) (x : Tin) (j : Nat) : (s.setTin k x).mb j = s.mb j := rfl
@[simp] theorem State.setTin_dom (s : State) (k : Nat) (x : Tin) (j : Nat) : (s.setTin k x).dom j = s.dom j := rfl
@[simp] theorem State.setTin_eng (s : State) (k : Nat) (x : Tin) (j : Nat) : (s.setTin k x).eng j = s.eng j := rfl
@[simp] theorem State.setTin_tout (s : State) (k : Nat) (x : Tin) (j : Nat) : (s.setTin k x).tout j = s.tout j := rfl
@[simp] theorem State.setTin_link (s : State) (k : Nat) (x : Tin) (j : Nat) : (s.setTin k x).link j = s.link j := rfl
@[simp] theorem State.setTin_glist (s : State) (k : Nat) (x : Tin) (j : Nat) : (s.setTin k x).glist j = s.glist j := rfl
@[simp] theorem State.setTin_gpend (s : State) (k : Nat) (x : Tin) (j : Nat) : (s.setTin k x).gpend j = s.gpend j := rfl
@[simp] theorem State.setTin_ptp (s : State) (k : Nat) (x : Tin) (j : Nat) : (s.setTin k x).ptp j = s.ptp j := rfl
@[simp] theorem State.setTin_ref (s : State) (k : Nat) (x : Tin) (j : Nat) : (s.setTin k x).ref j = s.ref j := rfl
@[simp] theorem State.setTin_tdc (s : State) (k : Nat) (x : Tin) (j : Nat) : (s.setTin k x).tdc j = s.tdc j := rfl
@[simp] theorem State.setTin_cal (s : State) (k : Nat) (x : Tin) (j : Nat) : (s.setTin k x).cal j = s.cal j := rfl
@[simp] theorem State.setTin_ivl (s : State) (k : Nat) (x : Tin) (j : Nat) : (s.setTin k x).ivl j = s.ivl j := rfl
@[simp] theorem State.setTin_tracker (s : State) (k : Nat) (x : Tin) (j : Nat) : (s.setTin k x).tracker j = s.tracker j := rfl
@[simp] theorem State.setTin_cand (s : State) (k : Nat) (x : Tin) (d' j : Nat) : (s.setTin k x).cand d' j = s.cand d' j := rfl

/-! ## setLink -/

@[simp] theorem State.setLink_mode (s : State) (k : Nat) (x : Link) : (s.setLink k x).mode = s.mode := rfl
@[simp] theorem State.setLink_role (s : State) (k : Nat) (x : Link) : (s.setLink k x).role = s.role := rfl
@[simp] theorem State.setLink_regs (s : State) (k : Nat) (x : Link) : (s.setLink k x).regs = s.regs := rfl
@[simp] theorem State.setLink_sys (s : State) (k : Nat) (x : Link) : (s.setLink k x).sys = s.sys := rfl
@[simp] theorem State.setLink_clk (s : State) (k : Nat) (x : Link) : (s.setLink k x).clk = s.clk := rfl
@[simp] theorem State.setLink_twin (s : State) (k : Nat) (x : Link) : (s.setLink k x).twin = s.twin := rfl
@[simp] theorem State.setLink_clfAges (s : State) (k : Nat) (x : Link) : (s.setLink k x).clfAges = s.clfAges := rfl
@[simp] theorem State.setLink_prv (s : State) (k : Nat) (x : Link) : (s.setLink k x).prv = s.prv := rfl
@[simp] theorem State.setLink_pcie (s : State) (k : Nat) (x : Link) : (s.setLink k x).pcie = s.pcie := rfl
@[simp] theorem State.setLink_bus (s : State) (k : Nat) (x : Link) : (s.setLink k x).bus = s.bus := rfl
@[simp] theorem State.setLink_tb (s : State) (k : Nat) (x : Link) : (s.setLink k x).tb = s.tb := rfl
@[simp] theorem State.setLink_orbNum (s : State) (k : Nat) (x : Link) : (s.setLink k x).orbNum = s.orbNum := rfl
@[simp] theorem State.setLink_orbit (s : State) (k : Nat) (x : Link) : (s.setLink k x).orbit = s.orbit := rfl
@[simp] theorem State.setLink_domains (s : State) (k : Nat) (x : Link) : (s.setLink k x).domains = s.domains := rfl
@[simp] theorem State.setLink_engines (s : State) (k : Nat) (x : Link) : (s.setLink k x).engines = s.engines := rfl
@[simp] theorem State.setLink_touts (s : State) (k : Nat) (x : Link) : (s.setLink k x).touts = s.touts := rfl
@[simp] theorem State.setLink_tins (s : State) (k : Nat) (x : Link) : (s.setLink k x).tins = s.tins := rfl
@[simp] theorem State.setLink_tdcs (s : State) (k : Nat) (x : Link) : (s.setLink k x).tdcs = s.tdcs := rfl
@[simp] theorem State.setLink_cals (s : State) (k : Nat) (x : Link) : (s.setLink k x).cals = s.cals := rfl
@[simp] theorem State.setLink_ivls (s : State) (k : Nat) (x : Link) : (s.setLink k x).ivls = s.ivls := rfl
@[simp] theorem State.setLink_trackers (s : State) (k : Nat) (x : Link) : (s.setLink k x).trackers = s.trackers := rfl
@[simp] theorem State.setLink_power (s : State) (k : Nat) (x : Link) : (s.setLink k x).power = s.power := rfl
@[simp] theorem State.setLink_hub (s : State) (k : Nat) (x : Link) : (s.setLink k x).hub = s.hub := rfl
@[simp] theorem State.setLink_slot (s : State) (k : Nat) (x : Link) : (s.setLink k x).slot = s.slot := rfl
@[simp] theorem State.setLink_slotTb (s : State) (k : Nat) (x : Link) : (s.setLink k x).slotTb = s.slotTb := rfl
@[simp] theorem State.setLink_voqs (s : State) (k : Nat) (x : Link) : (s.setLink k x).voqs = s.voqs := rfl
@[simp] theorem State.setLink_accts (s : State) (k : Nat) (x : Link) : (s.setLink k x).accts = s.accts := rfl
@[simp] theorem State.setLink_inters (s : State) (k : Nat) (x : Link) : (s.setLink k x).inters = s.inters := rfl
@[simp] theorem State.setLink_egrFull (s : State) (k : Nat) (x : Link) : (s.setLink k x).egrFull = s.egrFull := rfl
@[simp] theorem State.setLink_rr (s : State) (k : Nat) (x : Link) : (s.setLink k x).rr = s.rr := rfl
@[simp] theorem State.setLink_wires (s : State) (k : Nat) (x : Link) : (s.setLink k x).wires = s.wires := rfl
@[simp] theorem State.setLink_reasms (s : State) (k : Nat) (x : Link) : (s.setLink k x).reasms = s.reasms := rfl
@[simp] theorem State.setLink_egrQs (s : State) (k : Nat) (x : Link) : (s.setLink k x).egrQs = s.egrQs := rfl
@[simp] theorem State.setLink_nextId (s : State) (k : Nat) (x : Link) : (s.setLink k x).nextId = s.nextId := rfl
@[simp] theorem State.setLink_egresses (s : State) (k : Nat) (x : Link) : (s.setLink k x).egresses = s.egresses := rfl
@[simp] theorem State.setLink_shapers (s : State) (k : Nat) (x : Link) : (s.setLink k x).shapers = s.shapers := rfl
@[simp] theorem State.setLink_buckets (s : State) (k : Nat) (x : Link) : (s.setLink k x).buckets = s.buckets := rfl
@[simp] theorem State.setLink_seqHists (s : State) (k : Nat) (x : Link) : (s.setLink k x).seqHists = s.seqHists := rfl
@[simp] theorem State.setLink_sgLog (s : State) (k : Nat) (x : Link) : (s.setLink k x).sgLog = s.sgLog := rfl
@[simp] theorem State.setLink_rsvIgnored (s : State) (k : Nat) (x : Link) : (s.setLink k x).rsvIgnored = s.rsvIgnored := rfl
@[simp] theorem State.setLink_rsvReq (s : State) (k : Nat) (x : Link) : (s.setLink k x).rsvReq = s.rsvReq := rfl
@[simp] theorem State.setLink_ptps (s : State) (k : Nat) (x : Link) : (s.setLink k x).ptps = s.ptps := rfl
@[simp] theorem State.setLink_dsets (s : State) (k : Nat) (x : Link) : (s.setLink k x).dsets = s.dsets := rfl
@[simp] theorem State.setLink_refs (s : State) (k : Nat) (x : Link) : (s.setLink k x).refs = s.refs := rfl
@[simp] theorem State.setLink_cands (s : State) (k : Nat) (x : Link) : (s.setLink k x).cands = s.cands := rfl
@[simp] theorem State.setLink_keys (s : State) (k : Nat) (x : Link) : (s.setLink k x).keys = s.keys := rfl
@[simp] theorem State.setLink_binds (s : State) (k : Nat) (x : Link) : (s.setLink k x).binds = s.binds := rfl
@[simp] theorem State.setLink_agent (s : State) (k : Nat) (x : Link) : (s.setLink k x).agent = s.agent := rfl
@[simp] theorem State.setLink_mbs (s : State) (k : Nat) (x : Link) : (s.setLink k x).mbs = s.mbs := rfl
@[simp] theorem State.setLink_posted (s : State) (k : Nat) (x : Link) : (s.setLink k x).posted = s.posted := rfl
@[simp] theorem State.setLink_txns (s : State) (k : Nat) (x : Link) : (s.setLink k x).txns = s.txns := rfl
@[simp] theorem State.setLink_journal (s : State) (k : Nat) (x : Link) : (s.setLink k x).journal = s.journal := rfl
@[simp] theorem State.setLink_glists (s : State) (k : Nat) (x : Link) : (s.setLink k x).glists = s.glists := rfl
@[simp] theorem State.setLink_gpends (s : State) (k : Nat) (x : Link) : (s.setLink k x).gpends = s.gpends := rfl
@[simp] theorem State.setLink_trgLate (s : State) (k : Nat) (x : Link) : (s.setLink k x).trgLate = s.trgLate := rfl
@[simp] theorem State.setLink_hlsLate (s : State) (k : Nat) (x : Link) : (s.setLink k x).hlsLate = s.hlsLate := rfl
@[simp] theorem State.setLink_snapPend (s : State) (k : Nat) (x : Link) : (s.setLink k x).snapPend = s.snapPend := rfl
@[simp] theorem State.setLink_out (s : State) (k : Nat) (x : Link) : (s.setLink k x).out = s.out := rfl
@[simp] theorem State.setLink_freeCount (s : State) (k : Nat) (x : Link) : (s.setLink k x).freeCount = s.freeCount := rfl
@[simp] theorem State.setLink_pending (s : State) (k : Nat) (x : Link) : (s.setLink k x).pending = s.pending := rfl
@[simp] theorem State.setLink_reg (s : State) (k : Nat) (x : Link) (a' : Nat) : (s.setLink k x).reg a' = s.reg a' := rfl
@[simp] theorem State.setLink_rd (s : State) (k : Nat) (x : Link) (g : Fld) : (s.setLink k x).rd g = s.rd g := rfl
@[simp] theorem State.setLink_bit (s : State) (k : Nat) (x : Link) (g : Fld) : (s.setLink k x).bit g = s.bit g := rfl
@[simp] theorem State.setLink_shaper (s : State) (k : Nat) (x : Link) (j : Nat) : (s.setLink k x).shaper j = s.shaper j := rfl
@[simp] theorem State.setLink_acct (s : State) (k : Nat) (x : Link) (j : Nat) : (s.setLink k x).acct j = s.acct j := rfl
@[simp] theorem State.setLink_reasm (s : State) (k : Nat) (x : Link) (j : Nat) : (s.setLink k x).reasm j = s.reasm j := rfl
@[simp] theorem State.setLink_egrQ (s : State) (k : Nat) (x : Link) (j : Nat) : (s.setLink k x).egrQ j = s.egrQ j := rfl
@[simp] theorem State.setLink_egr (s : State) (k : Nat) (x : Link) (j : Nat) : (s.setLink k x).egr j = s.egr j := rfl
@[simp] theorem State.setLink_wire (s : State) (k : Nat) (x : Link) (j : Nat) : (s.setLink k x).wire j = s.wire j := rfl
@[simp] theorem State.setLink_seqHist (s : State) (k : Nat) (x : Link) (j : Nat) : (s.setLink k x).seqHist j = s.seqHist j := rfl
@[simp] theorem State.setLink_bucket (s : State) (k : Nat) (x : Link) (j : Nat) : (s.setLink k x).bucket j = s.bucket j := rfl
@[simp] theorem State.setLink_mb (s : State) (k : Nat) (x : Link) (j : Nat) : (s.setLink k x).mb j = s.mb j := rfl
@[simp] theorem State.setLink_dom (s : State) (k : Nat) (x : Link) (j : Nat) : (s.setLink k x).dom j = s.dom j := rfl
@[simp] theorem State.setLink_eng (s : State) (k : Nat) (x : Link) (j : Nat) : (s.setLink k x).eng j = s.eng j := rfl
@[simp] theorem State.setLink_tout (s : State) (k : Nat) (x : Link) (j : Nat) : (s.setLink k x).tout j = s.tout j := rfl
@[simp] theorem State.setLink_tin (s : State) (k : Nat) (x : Link) (j : Nat) : (s.setLink k x).tin j = s.tin j := rfl
@[simp] theorem State.setLink_glist (s : State) (k : Nat) (x : Link) (j : Nat) : (s.setLink k x).glist j = s.glist j := rfl
@[simp] theorem State.setLink_gpend (s : State) (k : Nat) (x : Link) (j : Nat) : (s.setLink k x).gpend j = s.gpend j := rfl
@[simp] theorem State.setLink_ptp (s : State) (k : Nat) (x : Link) (j : Nat) : (s.setLink k x).ptp j = s.ptp j := rfl
@[simp] theorem State.setLink_ref (s : State) (k : Nat) (x : Link) (j : Nat) : (s.setLink k x).ref j = s.ref j := rfl
@[simp] theorem State.setLink_tdc (s : State) (k : Nat) (x : Link) (j : Nat) : (s.setLink k x).tdc j = s.tdc j := rfl
@[simp] theorem State.setLink_cal (s : State) (k : Nat) (x : Link) (j : Nat) : (s.setLink k x).cal j = s.cal j := rfl
@[simp] theorem State.setLink_ivl (s : State) (k : Nat) (x : Link) (j : Nat) : (s.setLink k x).ivl j = s.ivl j := rfl
@[simp] theorem State.setLink_tracker (s : State) (k : Nat) (x : Link) (j : Nat) : (s.setLink k x).tracker j = s.tracker j := rfl
@[simp] theorem State.setLink_cand (s : State) (k : Nat) (x : Link) (d' j : Nat) : (s.setLink k x).cand d' j = s.cand d' j := rfl

/-! ## setGlist -/

@[simp] theorem State.setGlist_mode (s : State) (k : Nat) (x : Option GateList) : (s.setGlist k x).mode = s.mode := rfl
@[simp] theorem State.setGlist_role (s : State) (k : Nat) (x : Option GateList) : (s.setGlist k x).role = s.role := rfl
@[simp] theorem State.setGlist_regs (s : State) (k : Nat) (x : Option GateList) : (s.setGlist k x).regs = s.regs := rfl
@[simp] theorem State.setGlist_sys (s : State) (k : Nat) (x : Option GateList) : (s.setGlist k x).sys = s.sys := rfl
@[simp] theorem State.setGlist_clk (s : State) (k : Nat) (x : Option GateList) : (s.setGlist k x).clk = s.clk := rfl
@[simp] theorem State.setGlist_twin (s : State) (k : Nat) (x : Option GateList) : (s.setGlist k x).twin = s.twin := rfl
@[simp] theorem State.setGlist_clfAges (s : State) (k : Nat) (x : Option GateList) : (s.setGlist k x).clfAges = s.clfAges := rfl
@[simp] theorem State.setGlist_prv (s : State) (k : Nat) (x : Option GateList) : (s.setGlist k x).prv = s.prv := rfl
@[simp] theorem State.setGlist_pcie (s : State) (k : Nat) (x : Option GateList) : (s.setGlist k x).pcie = s.pcie := rfl
@[simp] theorem State.setGlist_bus (s : State) (k : Nat) (x : Option GateList) : (s.setGlist k x).bus = s.bus := rfl
@[simp] theorem State.setGlist_tb (s : State) (k : Nat) (x : Option GateList) : (s.setGlist k x).tb = s.tb := rfl
@[simp] theorem State.setGlist_orbNum (s : State) (k : Nat) (x : Option GateList) : (s.setGlist k x).orbNum = s.orbNum := rfl
@[simp] theorem State.setGlist_orbit (s : State) (k : Nat) (x : Option GateList) : (s.setGlist k x).orbit = s.orbit := rfl
@[simp] theorem State.setGlist_domains (s : State) (k : Nat) (x : Option GateList) : (s.setGlist k x).domains = s.domains := rfl
@[simp] theorem State.setGlist_engines (s : State) (k : Nat) (x : Option GateList) : (s.setGlist k x).engines = s.engines := rfl
@[simp] theorem State.setGlist_touts (s : State) (k : Nat) (x : Option GateList) : (s.setGlist k x).touts = s.touts := rfl
@[simp] theorem State.setGlist_tins (s : State) (k : Nat) (x : Option GateList) : (s.setGlist k x).tins = s.tins := rfl
@[simp] theorem State.setGlist_links (s : State) (k : Nat) (x : Option GateList) : (s.setGlist k x).links = s.links := rfl
@[simp] theorem State.setGlist_tdcs (s : State) (k : Nat) (x : Option GateList) : (s.setGlist k x).tdcs = s.tdcs := rfl
@[simp] theorem State.setGlist_cals (s : State) (k : Nat) (x : Option GateList) : (s.setGlist k x).cals = s.cals := rfl
@[simp] theorem State.setGlist_ivls (s : State) (k : Nat) (x : Option GateList) : (s.setGlist k x).ivls = s.ivls := rfl
@[simp] theorem State.setGlist_trackers (s : State) (k : Nat) (x : Option GateList) : (s.setGlist k x).trackers = s.trackers := rfl
@[simp] theorem State.setGlist_power (s : State) (k : Nat) (x : Option GateList) : (s.setGlist k x).power = s.power := rfl
@[simp] theorem State.setGlist_hub (s : State) (k : Nat) (x : Option GateList) : (s.setGlist k x).hub = s.hub := rfl
@[simp] theorem State.setGlist_slot (s : State) (k : Nat) (x : Option GateList) : (s.setGlist k x).slot = s.slot := rfl
@[simp] theorem State.setGlist_slotTb (s : State) (k : Nat) (x : Option GateList) : (s.setGlist k x).slotTb = s.slotTb := rfl
@[simp] theorem State.setGlist_voqs (s : State) (k : Nat) (x : Option GateList) : (s.setGlist k x).voqs = s.voqs := rfl
@[simp] theorem State.setGlist_accts (s : State) (k : Nat) (x : Option GateList) : (s.setGlist k x).accts = s.accts := rfl
@[simp] theorem State.setGlist_inters (s : State) (k : Nat) (x : Option GateList) : (s.setGlist k x).inters = s.inters := rfl
@[simp] theorem State.setGlist_egrFull (s : State) (k : Nat) (x : Option GateList) : (s.setGlist k x).egrFull = s.egrFull := rfl
@[simp] theorem State.setGlist_rr (s : State) (k : Nat) (x : Option GateList) : (s.setGlist k x).rr = s.rr := rfl
@[simp] theorem State.setGlist_wires (s : State) (k : Nat) (x : Option GateList) : (s.setGlist k x).wires = s.wires := rfl
@[simp] theorem State.setGlist_reasms (s : State) (k : Nat) (x : Option GateList) : (s.setGlist k x).reasms = s.reasms := rfl
@[simp] theorem State.setGlist_egrQs (s : State) (k : Nat) (x : Option GateList) : (s.setGlist k x).egrQs = s.egrQs := rfl
@[simp] theorem State.setGlist_nextId (s : State) (k : Nat) (x : Option GateList) : (s.setGlist k x).nextId = s.nextId := rfl
@[simp] theorem State.setGlist_egresses (s : State) (k : Nat) (x : Option GateList) : (s.setGlist k x).egresses = s.egresses := rfl
@[simp] theorem State.setGlist_shapers (s : State) (k : Nat) (x : Option GateList) : (s.setGlist k x).shapers = s.shapers := rfl
@[simp] theorem State.setGlist_buckets (s : State) (k : Nat) (x : Option GateList) : (s.setGlist k x).buckets = s.buckets := rfl
@[simp] theorem State.setGlist_seqHists (s : State) (k : Nat) (x : Option GateList) : (s.setGlist k x).seqHists = s.seqHists := rfl
@[simp] theorem State.setGlist_sgLog (s : State) (k : Nat) (x : Option GateList) : (s.setGlist k x).sgLog = s.sgLog := rfl
@[simp] theorem State.setGlist_rsvIgnored (s : State) (k : Nat) (x : Option GateList) : (s.setGlist k x).rsvIgnored = s.rsvIgnored := rfl
@[simp] theorem State.setGlist_rsvReq (s : State) (k : Nat) (x : Option GateList) : (s.setGlist k x).rsvReq = s.rsvReq := rfl
@[simp] theorem State.setGlist_ptps (s : State) (k : Nat) (x : Option GateList) : (s.setGlist k x).ptps = s.ptps := rfl
@[simp] theorem State.setGlist_dsets (s : State) (k : Nat) (x : Option GateList) : (s.setGlist k x).dsets = s.dsets := rfl
@[simp] theorem State.setGlist_refs (s : State) (k : Nat) (x : Option GateList) : (s.setGlist k x).refs = s.refs := rfl
@[simp] theorem State.setGlist_cands (s : State) (k : Nat) (x : Option GateList) : (s.setGlist k x).cands = s.cands := rfl
@[simp] theorem State.setGlist_keys (s : State) (k : Nat) (x : Option GateList) : (s.setGlist k x).keys = s.keys := rfl
@[simp] theorem State.setGlist_binds (s : State) (k : Nat) (x : Option GateList) : (s.setGlist k x).binds = s.binds := rfl
@[simp] theorem State.setGlist_agent (s : State) (k : Nat) (x : Option GateList) : (s.setGlist k x).agent = s.agent := rfl
@[simp] theorem State.setGlist_mbs (s : State) (k : Nat) (x : Option GateList) : (s.setGlist k x).mbs = s.mbs := rfl
@[simp] theorem State.setGlist_posted (s : State) (k : Nat) (x : Option GateList) : (s.setGlist k x).posted = s.posted := rfl
@[simp] theorem State.setGlist_txns (s : State) (k : Nat) (x : Option GateList) : (s.setGlist k x).txns = s.txns := rfl
@[simp] theorem State.setGlist_journal (s : State) (k : Nat) (x : Option GateList) : (s.setGlist k x).journal = s.journal := rfl
@[simp] theorem State.setGlist_gpends (s : State) (k : Nat) (x : Option GateList) : (s.setGlist k x).gpends = s.gpends := rfl
@[simp] theorem State.setGlist_trgLate (s : State) (k : Nat) (x : Option GateList) : (s.setGlist k x).trgLate = s.trgLate := rfl
@[simp] theorem State.setGlist_hlsLate (s : State) (k : Nat) (x : Option GateList) : (s.setGlist k x).hlsLate = s.hlsLate := rfl
@[simp] theorem State.setGlist_snapPend (s : State) (k : Nat) (x : Option GateList) : (s.setGlist k x).snapPend = s.snapPend := rfl
@[simp] theorem State.setGlist_out (s : State) (k : Nat) (x : Option GateList) : (s.setGlist k x).out = s.out := rfl
@[simp] theorem State.setGlist_freeCount (s : State) (k : Nat) (x : Option GateList) : (s.setGlist k x).freeCount = s.freeCount := rfl
@[simp] theorem State.setGlist_pending (s : State) (k : Nat) (x : Option GateList) : (s.setGlist k x).pending = s.pending := rfl
@[simp] theorem State.setGlist_reg (s : State) (k : Nat) (x : Option GateList) (a' : Nat) : (s.setGlist k x).reg a' = s.reg a' := rfl
@[simp] theorem State.setGlist_rd (s : State) (k : Nat) (x : Option GateList) (g : Fld) : (s.setGlist k x).rd g = s.rd g := rfl
@[simp] theorem State.setGlist_bit (s : State) (k : Nat) (x : Option GateList) (g : Fld) : (s.setGlist k x).bit g = s.bit g := rfl
@[simp] theorem State.setGlist_shaper (s : State) (k : Nat) (x : Option GateList) (j : Nat) : (s.setGlist k x).shaper j = s.shaper j := rfl
@[simp] theorem State.setGlist_acct (s : State) (k : Nat) (x : Option GateList) (j : Nat) : (s.setGlist k x).acct j = s.acct j := rfl
@[simp] theorem State.setGlist_reasm (s : State) (k : Nat) (x : Option GateList) (j : Nat) : (s.setGlist k x).reasm j = s.reasm j := rfl
@[simp] theorem State.setGlist_egrQ (s : State) (k : Nat) (x : Option GateList) (j : Nat) : (s.setGlist k x).egrQ j = s.egrQ j := rfl
@[simp] theorem State.setGlist_egr (s : State) (k : Nat) (x : Option GateList) (j : Nat) : (s.setGlist k x).egr j = s.egr j := rfl
@[simp] theorem State.setGlist_wire (s : State) (k : Nat) (x : Option GateList) (j : Nat) : (s.setGlist k x).wire j = s.wire j := rfl
@[simp] theorem State.setGlist_seqHist (s : State) (k : Nat) (x : Option GateList) (j : Nat) : (s.setGlist k x).seqHist j = s.seqHist j := rfl
@[simp] theorem State.setGlist_bucket (s : State) (k : Nat) (x : Option GateList) (j : Nat) : (s.setGlist k x).bucket j = s.bucket j := rfl
@[simp] theorem State.setGlist_mb (s : State) (k : Nat) (x : Option GateList) (j : Nat) : (s.setGlist k x).mb j = s.mb j := rfl
@[simp] theorem State.setGlist_dom (s : State) (k : Nat) (x : Option GateList) (j : Nat) : (s.setGlist k x).dom j = s.dom j := rfl
@[simp] theorem State.setGlist_eng (s : State) (k : Nat) (x : Option GateList) (j : Nat) : (s.setGlist k x).eng j = s.eng j := rfl
@[simp] theorem State.setGlist_tout (s : State) (k : Nat) (x : Option GateList) (j : Nat) : (s.setGlist k x).tout j = s.tout j := rfl
@[simp] theorem State.setGlist_tin (s : State) (k : Nat) (x : Option GateList) (j : Nat) : (s.setGlist k x).tin j = s.tin j := rfl
@[simp] theorem State.setGlist_link (s : State) (k : Nat) (x : Option GateList) (j : Nat) : (s.setGlist k x).link j = s.link j := rfl
@[simp] theorem State.setGlist_gpend (s : State) (k : Nat) (x : Option GateList) (j : Nat) : (s.setGlist k x).gpend j = s.gpend j := rfl
@[simp] theorem State.setGlist_ptp (s : State) (k : Nat) (x : Option GateList) (j : Nat) : (s.setGlist k x).ptp j = s.ptp j := rfl
@[simp] theorem State.setGlist_ref (s : State) (k : Nat) (x : Option GateList) (j : Nat) : (s.setGlist k x).ref j = s.ref j := rfl
@[simp] theorem State.setGlist_tdc (s : State) (k : Nat) (x : Option GateList) (j : Nat) : (s.setGlist k x).tdc j = s.tdc j := rfl
@[simp] theorem State.setGlist_cal (s : State) (k : Nat) (x : Option GateList) (j : Nat) : (s.setGlist k x).cal j = s.cal j := rfl
@[simp] theorem State.setGlist_ivl (s : State) (k : Nat) (x : Option GateList) (j : Nat) : (s.setGlist k x).ivl j = s.ivl j := rfl
@[simp] theorem State.setGlist_tracker (s : State) (k : Nat) (x : Option GateList) (j : Nat) : (s.setGlist k x).tracker j = s.tracker j := rfl
@[simp] theorem State.setGlist_cand (s : State) (k : Nat) (x : Option GateList) (d' j : Nat) : (s.setGlist k x).cand d' j = s.cand d' j := rfl

/-! ## setGpend -/

@[simp] theorem State.setGpend_mode (s : State) (k : Nat) (x : Option GateList) : (s.setGpend k x).mode = s.mode := rfl
@[simp] theorem State.setGpend_role (s : State) (k : Nat) (x : Option GateList) : (s.setGpend k x).role = s.role := rfl
@[simp] theorem State.setGpend_regs (s : State) (k : Nat) (x : Option GateList) : (s.setGpend k x).regs = s.regs := rfl
@[simp] theorem State.setGpend_sys (s : State) (k : Nat) (x : Option GateList) : (s.setGpend k x).sys = s.sys := rfl
@[simp] theorem State.setGpend_clk (s : State) (k : Nat) (x : Option GateList) : (s.setGpend k x).clk = s.clk := rfl
@[simp] theorem State.setGpend_twin (s : State) (k : Nat) (x : Option GateList) : (s.setGpend k x).twin = s.twin := rfl
@[simp] theorem State.setGpend_clfAges (s : State) (k : Nat) (x : Option GateList) : (s.setGpend k x).clfAges = s.clfAges := rfl
@[simp] theorem State.setGpend_prv (s : State) (k : Nat) (x : Option GateList) : (s.setGpend k x).prv = s.prv := rfl
@[simp] theorem State.setGpend_pcie (s : State) (k : Nat) (x : Option GateList) : (s.setGpend k x).pcie = s.pcie := rfl
@[simp] theorem State.setGpend_bus (s : State) (k : Nat) (x : Option GateList) : (s.setGpend k x).bus = s.bus := rfl
@[simp] theorem State.setGpend_tb (s : State) (k : Nat) (x : Option GateList) : (s.setGpend k x).tb = s.tb := rfl
@[simp] theorem State.setGpend_orbNum (s : State) (k : Nat) (x : Option GateList) : (s.setGpend k x).orbNum = s.orbNum := rfl
@[simp] theorem State.setGpend_orbit (s : State) (k : Nat) (x : Option GateList) : (s.setGpend k x).orbit = s.orbit := rfl
@[simp] theorem State.setGpend_domains (s : State) (k : Nat) (x : Option GateList) : (s.setGpend k x).domains = s.domains := rfl
@[simp] theorem State.setGpend_engines (s : State) (k : Nat) (x : Option GateList) : (s.setGpend k x).engines = s.engines := rfl
@[simp] theorem State.setGpend_touts (s : State) (k : Nat) (x : Option GateList) : (s.setGpend k x).touts = s.touts := rfl
@[simp] theorem State.setGpend_tins (s : State) (k : Nat) (x : Option GateList) : (s.setGpend k x).tins = s.tins := rfl
@[simp] theorem State.setGpend_links (s : State) (k : Nat) (x : Option GateList) : (s.setGpend k x).links = s.links := rfl
@[simp] theorem State.setGpend_tdcs (s : State) (k : Nat) (x : Option GateList) : (s.setGpend k x).tdcs = s.tdcs := rfl
@[simp] theorem State.setGpend_cals (s : State) (k : Nat) (x : Option GateList) : (s.setGpend k x).cals = s.cals := rfl
@[simp] theorem State.setGpend_ivls (s : State) (k : Nat) (x : Option GateList) : (s.setGpend k x).ivls = s.ivls := rfl
@[simp] theorem State.setGpend_trackers (s : State) (k : Nat) (x : Option GateList) : (s.setGpend k x).trackers = s.trackers := rfl
@[simp] theorem State.setGpend_power (s : State) (k : Nat) (x : Option GateList) : (s.setGpend k x).power = s.power := rfl
@[simp] theorem State.setGpend_hub (s : State) (k : Nat) (x : Option GateList) : (s.setGpend k x).hub = s.hub := rfl
@[simp] theorem State.setGpend_slot (s : State) (k : Nat) (x : Option GateList) : (s.setGpend k x).slot = s.slot := rfl
@[simp] theorem State.setGpend_slotTb (s : State) (k : Nat) (x : Option GateList) : (s.setGpend k x).slotTb = s.slotTb := rfl
@[simp] theorem State.setGpend_voqs (s : State) (k : Nat) (x : Option GateList) : (s.setGpend k x).voqs = s.voqs := rfl
@[simp] theorem State.setGpend_accts (s : State) (k : Nat) (x : Option GateList) : (s.setGpend k x).accts = s.accts := rfl
@[simp] theorem State.setGpend_inters (s : State) (k : Nat) (x : Option GateList) : (s.setGpend k x).inters = s.inters := rfl
@[simp] theorem State.setGpend_egrFull (s : State) (k : Nat) (x : Option GateList) : (s.setGpend k x).egrFull = s.egrFull := rfl
@[simp] theorem State.setGpend_rr (s : State) (k : Nat) (x : Option GateList) : (s.setGpend k x).rr = s.rr := rfl
@[simp] theorem State.setGpend_wires (s : State) (k : Nat) (x : Option GateList) : (s.setGpend k x).wires = s.wires := rfl
@[simp] theorem State.setGpend_reasms (s : State) (k : Nat) (x : Option GateList) : (s.setGpend k x).reasms = s.reasms := rfl
@[simp] theorem State.setGpend_egrQs (s : State) (k : Nat) (x : Option GateList) : (s.setGpend k x).egrQs = s.egrQs := rfl
@[simp] theorem State.setGpend_nextId (s : State) (k : Nat) (x : Option GateList) : (s.setGpend k x).nextId = s.nextId := rfl
@[simp] theorem State.setGpend_egresses (s : State) (k : Nat) (x : Option GateList) : (s.setGpend k x).egresses = s.egresses := rfl
@[simp] theorem State.setGpend_shapers (s : State) (k : Nat) (x : Option GateList) : (s.setGpend k x).shapers = s.shapers := rfl
@[simp] theorem State.setGpend_buckets (s : State) (k : Nat) (x : Option GateList) : (s.setGpend k x).buckets = s.buckets := rfl
@[simp] theorem State.setGpend_seqHists (s : State) (k : Nat) (x : Option GateList) : (s.setGpend k x).seqHists = s.seqHists := rfl
@[simp] theorem State.setGpend_sgLog (s : State) (k : Nat) (x : Option GateList) : (s.setGpend k x).sgLog = s.sgLog := rfl
@[simp] theorem State.setGpend_rsvIgnored (s : State) (k : Nat) (x : Option GateList) : (s.setGpend k x).rsvIgnored = s.rsvIgnored := rfl
@[simp] theorem State.setGpend_rsvReq (s : State) (k : Nat) (x : Option GateList) : (s.setGpend k x).rsvReq = s.rsvReq := rfl
@[simp] theorem State.setGpend_ptps (s : State) (k : Nat) (x : Option GateList) : (s.setGpend k x).ptps = s.ptps := rfl
@[simp] theorem State.setGpend_dsets (s : State) (k : Nat) (x : Option GateList) : (s.setGpend k x).dsets = s.dsets := rfl
@[simp] theorem State.setGpend_refs (s : State) (k : Nat) (x : Option GateList) : (s.setGpend k x).refs = s.refs := rfl
@[simp] theorem State.setGpend_cands (s : State) (k : Nat) (x : Option GateList) : (s.setGpend k x).cands = s.cands := rfl
@[simp] theorem State.setGpend_keys (s : State) (k : Nat) (x : Option GateList) : (s.setGpend k x).keys = s.keys := rfl
@[simp] theorem State.setGpend_binds (s : State) (k : Nat) (x : Option GateList) : (s.setGpend k x).binds = s.binds := rfl
@[simp] theorem State.setGpend_agent (s : State) (k : Nat) (x : Option GateList) : (s.setGpend k x).agent = s.agent := rfl
@[simp] theorem State.setGpend_mbs (s : State) (k : Nat) (x : Option GateList) : (s.setGpend k x).mbs = s.mbs := rfl
@[simp] theorem State.setGpend_posted (s : State) (k : Nat) (x : Option GateList) : (s.setGpend k x).posted = s.posted := rfl
@[simp] theorem State.setGpend_txns (s : State) (k : Nat) (x : Option GateList) : (s.setGpend k x).txns = s.txns := rfl
@[simp] theorem State.setGpend_journal (s : State) (k : Nat) (x : Option GateList) : (s.setGpend k x).journal = s.journal := rfl
@[simp] theorem State.setGpend_glists (s : State) (k : Nat) (x : Option GateList) : (s.setGpend k x).glists = s.glists := rfl
@[simp] theorem State.setGpend_trgLate (s : State) (k : Nat) (x : Option GateList) : (s.setGpend k x).trgLate = s.trgLate := rfl
@[simp] theorem State.setGpend_hlsLate (s : State) (k : Nat) (x : Option GateList) : (s.setGpend k x).hlsLate = s.hlsLate := rfl
@[simp] theorem State.setGpend_snapPend (s : State) (k : Nat) (x : Option GateList) : (s.setGpend k x).snapPend = s.snapPend := rfl
@[simp] theorem State.setGpend_out (s : State) (k : Nat) (x : Option GateList) : (s.setGpend k x).out = s.out := rfl
@[simp] theorem State.setGpend_freeCount (s : State) (k : Nat) (x : Option GateList) : (s.setGpend k x).freeCount = s.freeCount := rfl
@[simp] theorem State.setGpend_pending (s : State) (k : Nat) (x : Option GateList) : (s.setGpend k x).pending = s.pending := rfl
@[simp] theorem State.setGpend_reg (s : State) (k : Nat) (x : Option GateList) (a' : Nat) : (s.setGpend k x).reg a' = s.reg a' := rfl
@[simp] theorem State.setGpend_rd (s : State) (k : Nat) (x : Option GateList) (g : Fld) : (s.setGpend k x).rd g = s.rd g := rfl
@[simp] theorem State.setGpend_bit (s : State) (k : Nat) (x : Option GateList) (g : Fld) : (s.setGpend k x).bit g = s.bit g := rfl
@[simp] theorem State.setGpend_shaper (s : State) (k : Nat) (x : Option GateList) (j : Nat) : (s.setGpend k x).shaper j = s.shaper j := rfl
@[simp] theorem State.setGpend_acct (s : State) (k : Nat) (x : Option GateList) (j : Nat) : (s.setGpend k x).acct j = s.acct j := rfl
@[simp] theorem State.setGpend_reasm (s : State) (k : Nat) (x : Option GateList) (j : Nat) : (s.setGpend k x).reasm j = s.reasm j := rfl
@[simp] theorem State.setGpend_egrQ (s : State) (k : Nat) (x : Option GateList) (j : Nat) : (s.setGpend k x).egrQ j = s.egrQ j := rfl
@[simp] theorem State.setGpend_egr (s : State) (k : Nat) (x : Option GateList) (j : Nat) : (s.setGpend k x).egr j = s.egr j := rfl
@[simp] theorem State.setGpend_wire (s : State) (k : Nat) (x : Option GateList) (j : Nat) : (s.setGpend k x).wire j = s.wire j := rfl
@[simp] theorem State.setGpend_seqHist (s : State) (k : Nat) (x : Option GateList) (j : Nat) : (s.setGpend k x).seqHist j = s.seqHist j := rfl
@[simp] theorem State.setGpend_bucket (s : State) (k : Nat) (x : Option GateList) (j : Nat) : (s.setGpend k x).bucket j = s.bucket j := rfl
@[simp] theorem State.setGpend_mb (s : State) (k : Nat) (x : Option GateList) (j : Nat) : (s.setGpend k x).mb j = s.mb j := rfl
@[simp] theorem State.setGpend_dom (s : State) (k : Nat) (x : Option GateList) (j : Nat) : (s.setGpend k x).dom j = s.dom j := rfl
@[simp] theorem State.setGpend_eng (s : State) (k : Nat) (x : Option GateList) (j : Nat) : (s.setGpend k x).eng j = s.eng j := rfl
@[simp] theorem State.setGpend_tout (s : State) (k : Nat) (x : Option GateList) (j : Nat) : (s.setGpend k x).tout j = s.tout j := rfl
@[simp] theorem State.setGpend_tin (s : State) (k : Nat) (x : Option GateList) (j : Nat) : (s.setGpend k x).tin j = s.tin j := rfl
@[simp] theorem State.setGpend_link (s : State) (k : Nat) (x : Option GateList) (j : Nat) : (s.setGpend k x).link j = s.link j := rfl
@[simp] theorem State.setGpend_glist (s : State) (k : Nat) (x : Option GateList) (j : Nat) : (s.setGpend k x).glist j = s.glist j := rfl
@[simp] theorem State.setGpend_ptp (s : State) (k : Nat) (x : Option GateList) (j : Nat) : (s.setGpend k x).ptp j = s.ptp j := rfl
@[simp] theorem State.setGpend_ref (s : State) (k : Nat) (x : Option GateList) (j : Nat) : (s.setGpend k x).ref j = s.ref j := rfl
@[simp] theorem State.setGpend_tdc (s : State) (k : Nat) (x : Option GateList) (j : Nat) : (s.setGpend k x).tdc j = s.tdc j := rfl
@[simp] theorem State.setGpend_cal (s : State) (k : Nat) (x : Option GateList) (j : Nat) : (s.setGpend k x).cal j = s.cal j := rfl
@[simp] theorem State.setGpend_ivl (s : State) (k : Nat) (x : Option GateList) (j : Nat) : (s.setGpend k x).ivl j = s.ivl j := rfl
@[simp] theorem State.setGpend_tracker (s : State) (k : Nat) (x : Option GateList) (j : Nat) : (s.setGpend k x).tracker j = s.tracker j := rfl
@[simp] theorem State.setGpend_cand (s : State) (k : Nat) (x : Option GateList) (d' j : Nat) : (s.setGpend k x).cand d' j = s.cand d' j := rfl

/-! ## setPtp -/

@[simp] theorem State.setPtp_mode (s : State) (k : Nat) (x : PtpPort) : (s.setPtp k x).mode = s.mode := rfl
@[simp] theorem State.setPtp_role (s : State) (k : Nat) (x : PtpPort) : (s.setPtp k x).role = s.role := rfl
@[simp] theorem State.setPtp_regs (s : State) (k : Nat) (x : PtpPort) : (s.setPtp k x).regs = s.regs := rfl
@[simp] theorem State.setPtp_sys (s : State) (k : Nat) (x : PtpPort) : (s.setPtp k x).sys = s.sys := rfl
@[simp] theorem State.setPtp_clk (s : State) (k : Nat) (x : PtpPort) : (s.setPtp k x).clk = s.clk := rfl
@[simp] theorem State.setPtp_twin (s : State) (k : Nat) (x : PtpPort) : (s.setPtp k x).twin = s.twin := rfl
@[simp] theorem State.setPtp_clfAges (s : State) (k : Nat) (x : PtpPort) : (s.setPtp k x).clfAges = s.clfAges := rfl
@[simp] theorem State.setPtp_prv (s : State) (k : Nat) (x : PtpPort) : (s.setPtp k x).prv = s.prv := rfl
@[simp] theorem State.setPtp_pcie (s : State) (k : Nat) (x : PtpPort) : (s.setPtp k x).pcie = s.pcie := rfl
@[simp] theorem State.setPtp_bus (s : State) (k : Nat) (x : PtpPort) : (s.setPtp k x).bus = s.bus := rfl
@[simp] theorem State.setPtp_tb (s : State) (k : Nat) (x : PtpPort) : (s.setPtp k x).tb = s.tb := rfl
@[simp] theorem State.setPtp_orbNum (s : State) (k : Nat) (x : PtpPort) : (s.setPtp k x).orbNum = s.orbNum := rfl
@[simp] theorem State.setPtp_orbit (s : State) (k : Nat) (x : PtpPort) : (s.setPtp k x).orbit = s.orbit := rfl
@[simp] theorem State.setPtp_domains (s : State) (k : Nat) (x : PtpPort) : (s.setPtp k x).domains = s.domains := rfl
@[simp] theorem State.setPtp_engines (s : State) (k : Nat) (x : PtpPort) : (s.setPtp k x).engines = s.engines := rfl
@[simp] theorem State.setPtp_touts (s : State) (k : Nat) (x : PtpPort) : (s.setPtp k x).touts = s.touts := rfl
@[simp] theorem State.setPtp_tins (s : State) (k : Nat) (x : PtpPort) : (s.setPtp k x).tins = s.tins := rfl
@[simp] theorem State.setPtp_links (s : State) (k : Nat) (x : PtpPort) : (s.setPtp k x).links = s.links := rfl
@[simp] theorem State.setPtp_tdcs (s : State) (k : Nat) (x : PtpPort) : (s.setPtp k x).tdcs = s.tdcs := rfl
@[simp] theorem State.setPtp_cals (s : State) (k : Nat) (x : PtpPort) : (s.setPtp k x).cals = s.cals := rfl
@[simp] theorem State.setPtp_ivls (s : State) (k : Nat) (x : PtpPort) : (s.setPtp k x).ivls = s.ivls := rfl
@[simp] theorem State.setPtp_trackers (s : State) (k : Nat) (x : PtpPort) : (s.setPtp k x).trackers = s.trackers := rfl
@[simp] theorem State.setPtp_power (s : State) (k : Nat) (x : PtpPort) : (s.setPtp k x).power = s.power := rfl
@[simp] theorem State.setPtp_hub (s : State) (k : Nat) (x : PtpPort) : (s.setPtp k x).hub = s.hub := rfl
@[simp] theorem State.setPtp_slot (s : State) (k : Nat) (x : PtpPort) : (s.setPtp k x).slot = s.slot := rfl
@[simp] theorem State.setPtp_slotTb (s : State) (k : Nat) (x : PtpPort) : (s.setPtp k x).slotTb = s.slotTb := rfl
@[simp] theorem State.setPtp_voqs (s : State) (k : Nat) (x : PtpPort) : (s.setPtp k x).voqs = s.voqs := rfl
@[simp] theorem State.setPtp_accts (s : State) (k : Nat) (x : PtpPort) : (s.setPtp k x).accts = s.accts := rfl
@[simp] theorem State.setPtp_inters (s : State) (k : Nat) (x : PtpPort) : (s.setPtp k x).inters = s.inters := rfl
@[simp] theorem State.setPtp_egrFull (s : State) (k : Nat) (x : PtpPort) : (s.setPtp k x).egrFull = s.egrFull := rfl
@[simp] theorem State.setPtp_rr (s : State) (k : Nat) (x : PtpPort) : (s.setPtp k x).rr = s.rr := rfl
@[simp] theorem State.setPtp_wires (s : State) (k : Nat) (x : PtpPort) : (s.setPtp k x).wires = s.wires := rfl
@[simp] theorem State.setPtp_reasms (s : State) (k : Nat) (x : PtpPort) : (s.setPtp k x).reasms = s.reasms := rfl
@[simp] theorem State.setPtp_egrQs (s : State) (k : Nat) (x : PtpPort) : (s.setPtp k x).egrQs = s.egrQs := rfl
@[simp] theorem State.setPtp_nextId (s : State) (k : Nat) (x : PtpPort) : (s.setPtp k x).nextId = s.nextId := rfl
@[simp] theorem State.setPtp_egresses (s : State) (k : Nat) (x : PtpPort) : (s.setPtp k x).egresses = s.egresses := rfl
@[simp] theorem State.setPtp_shapers (s : State) (k : Nat) (x : PtpPort) : (s.setPtp k x).shapers = s.shapers := rfl
@[simp] theorem State.setPtp_buckets (s : State) (k : Nat) (x : PtpPort) : (s.setPtp k x).buckets = s.buckets := rfl
@[simp] theorem State.setPtp_seqHists (s : State) (k : Nat) (x : PtpPort) : (s.setPtp k x).seqHists = s.seqHists := rfl
@[simp] theorem State.setPtp_sgLog (s : State) (k : Nat) (x : PtpPort) : (s.setPtp k x).sgLog = s.sgLog := rfl
@[simp] theorem State.setPtp_rsvIgnored (s : State) (k : Nat) (x : PtpPort) : (s.setPtp k x).rsvIgnored = s.rsvIgnored := rfl
@[simp] theorem State.setPtp_rsvReq (s : State) (k : Nat) (x : PtpPort) : (s.setPtp k x).rsvReq = s.rsvReq := rfl
@[simp] theorem State.setPtp_dsets (s : State) (k : Nat) (x : PtpPort) : (s.setPtp k x).dsets = s.dsets := rfl
@[simp] theorem State.setPtp_refs (s : State) (k : Nat) (x : PtpPort) : (s.setPtp k x).refs = s.refs := rfl
@[simp] theorem State.setPtp_cands (s : State) (k : Nat) (x : PtpPort) : (s.setPtp k x).cands = s.cands := rfl
@[simp] theorem State.setPtp_keys (s : State) (k : Nat) (x : PtpPort) : (s.setPtp k x).keys = s.keys := rfl
@[simp] theorem State.setPtp_binds (s : State) (k : Nat) (x : PtpPort) : (s.setPtp k x).binds = s.binds := rfl
@[simp] theorem State.setPtp_agent (s : State) (k : Nat) (x : PtpPort) : (s.setPtp k x).agent = s.agent := rfl
@[simp] theorem State.setPtp_mbs (s : State) (k : Nat) (x : PtpPort) : (s.setPtp k x).mbs = s.mbs := rfl
@[simp] theorem State.setPtp_posted (s : State) (k : Nat) (x : PtpPort) : (s.setPtp k x).posted = s.posted := rfl
@[simp] theorem State.setPtp_txns (s : State) (k : Nat) (x : PtpPort) : (s.setPtp k x).txns = s.txns := rfl
@[simp] theorem State.setPtp_journal (s : State) (k : Nat) (x : PtpPort) : (s.setPtp k x).journal = s.journal := rfl
@[simp] theorem State.setPtp_glists (s : State) (k : Nat) (x : PtpPort) : (s.setPtp k x).glists = s.glists := rfl
@[simp] theorem State.setPtp_gpends (s : State) (k : Nat) (x : PtpPort) : (s.setPtp k x).gpends = s.gpends := rfl
@[simp] theorem State.setPtp_trgLate (s : State) (k : Nat) (x : PtpPort) : (s.setPtp k x).trgLate = s.trgLate := rfl
@[simp] theorem State.setPtp_hlsLate (s : State) (k : Nat) (x : PtpPort) : (s.setPtp k x).hlsLate = s.hlsLate := rfl
@[simp] theorem State.setPtp_snapPend (s : State) (k : Nat) (x : PtpPort) : (s.setPtp k x).snapPend = s.snapPend := rfl
@[simp] theorem State.setPtp_out (s : State) (k : Nat) (x : PtpPort) : (s.setPtp k x).out = s.out := rfl
@[simp] theorem State.setPtp_freeCount (s : State) (k : Nat) (x : PtpPort) : (s.setPtp k x).freeCount = s.freeCount := rfl
@[simp] theorem State.setPtp_pending (s : State) (k : Nat) (x : PtpPort) : (s.setPtp k x).pending = s.pending := rfl
@[simp] theorem State.setPtp_reg (s : State) (k : Nat) (x : PtpPort) (a' : Nat) : (s.setPtp k x).reg a' = s.reg a' := rfl
@[simp] theorem State.setPtp_rd (s : State) (k : Nat) (x : PtpPort) (g : Fld) : (s.setPtp k x).rd g = s.rd g := rfl
@[simp] theorem State.setPtp_bit (s : State) (k : Nat) (x : PtpPort) (g : Fld) : (s.setPtp k x).bit g = s.bit g := rfl
@[simp] theorem State.setPtp_shaper (s : State) (k : Nat) (x : PtpPort) (j : Nat) : (s.setPtp k x).shaper j = s.shaper j := rfl
@[simp] theorem State.setPtp_acct (s : State) (k : Nat) (x : PtpPort) (j : Nat) : (s.setPtp k x).acct j = s.acct j := rfl
@[simp] theorem State.setPtp_reasm (s : State) (k : Nat) (x : PtpPort) (j : Nat) : (s.setPtp k x).reasm j = s.reasm j := rfl
@[simp] theorem State.setPtp_egrQ (s : State) (k : Nat) (x : PtpPort) (j : Nat) : (s.setPtp k x).egrQ j = s.egrQ j := rfl
@[simp] theorem State.setPtp_egr (s : State) (k : Nat) (x : PtpPort) (j : Nat) : (s.setPtp k x).egr j = s.egr j := rfl
@[simp] theorem State.setPtp_wire (s : State) (k : Nat) (x : PtpPort) (j : Nat) : (s.setPtp k x).wire j = s.wire j := rfl
@[simp] theorem State.setPtp_seqHist (s : State) (k : Nat) (x : PtpPort) (j : Nat) : (s.setPtp k x).seqHist j = s.seqHist j := rfl
@[simp] theorem State.setPtp_bucket (s : State) (k : Nat) (x : PtpPort) (j : Nat) : (s.setPtp k x).bucket j = s.bucket j := rfl
@[simp] theorem State.setPtp_mb (s : State) (k : Nat) (x : PtpPort) (j : Nat) : (s.setPtp k x).mb j = s.mb j := rfl
@[simp] theorem State.setPtp_dom (s : State) (k : Nat) (x : PtpPort) (j : Nat) : (s.setPtp k x).dom j = s.dom j := rfl
@[simp] theorem State.setPtp_eng (s : State) (k : Nat) (x : PtpPort) (j : Nat) : (s.setPtp k x).eng j = s.eng j := rfl
@[simp] theorem State.setPtp_tout (s : State) (k : Nat) (x : PtpPort) (j : Nat) : (s.setPtp k x).tout j = s.tout j := rfl
@[simp] theorem State.setPtp_tin (s : State) (k : Nat) (x : PtpPort) (j : Nat) : (s.setPtp k x).tin j = s.tin j := rfl
@[simp] theorem State.setPtp_link (s : State) (k : Nat) (x : PtpPort) (j : Nat) : (s.setPtp k x).link j = s.link j := rfl
@[simp] theorem State.setPtp_glist (s : State) (k : Nat) (x : PtpPort) (j : Nat) : (s.setPtp k x).glist j = s.glist j := rfl
@[simp] theorem State.setPtp_gpend (s : State) (k : Nat) (x : PtpPort) (j : Nat) : (s.setPtp k x).gpend j = s.gpend j := rfl
@[simp] theorem State.setPtp_ref (s : State) (k : Nat) (x : PtpPort) (j : Nat) : (s.setPtp k x).ref j = s.ref j := rfl
@[simp] theorem State.setPtp_tdc (s : State) (k : Nat) (x : PtpPort) (j : Nat) : (s.setPtp k x).tdc j = s.tdc j := rfl
@[simp] theorem State.setPtp_cal (s : State) (k : Nat) (x : PtpPort) (j : Nat) : (s.setPtp k x).cal j = s.cal j := rfl
@[simp] theorem State.setPtp_ivl (s : State) (k : Nat) (x : PtpPort) (j : Nat) : (s.setPtp k x).ivl j = s.ivl j := rfl
@[simp] theorem State.setPtp_tracker (s : State) (k : Nat) (x : PtpPort) (j : Nat) : (s.setPtp k x).tracker j = s.tracker j := rfl
@[simp] theorem State.setPtp_cand (s : State) (k : Nat) (x : PtpPort) (d' j : Nat) : (s.setPtp k x).cand d' j = s.cand d' j := rfl

/-! ## setRef -/

@[simp] theorem State.setRef_mode (s : State) (k : Nat) (x : Ref) : (s.setRef k x).mode = s.mode := rfl
@[simp] theorem State.setRef_role (s : State) (k : Nat) (x : Ref) : (s.setRef k x).role = s.role := rfl
@[simp] theorem State.setRef_regs (s : State) (k : Nat) (x : Ref) : (s.setRef k x).regs = s.regs := rfl
@[simp] theorem State.setRef_sys (s : State) (k : Nat) (x : Ref) : (s.setRef k x).sys = s.sys := rfl
@[simp] theorem State.setRef_clk (s : State) (k : Nat) (x : Ref) : (s.setRef k x).clk = s.clk := rfl
@[simp] theorem State.setRef_twin (s : State) (k : Nat) (x : Ref) : (s.setRef k x).twin = s.twin := rfl
@[simp] theorem State.setRef_clfAges (s : State) (k : Nat) (x : Ref) : (s.setRef k x).clfAges = s.clfAges := rfl
@[simp] theorem State.setRef_prv (s : State) (k : Nat) (x : Ref) : (s.setRef k x).prv = s.prv := rfl
@[simp] theorem State.setRef_pcie (s : State) (k : Nat) (x : Ref) : (s.setRef k x).pcie = s.pcie := rfl
@[simp] theorem State.setRef_bus (s : State) (k : Nat) (x : Ref) : (s.setRef k x).bus = s.bus := rfl
@[simp] theorem State.setRef_tb (s : State) (k : Nat) (x : Ref) : (s.setRef k x).tb = s.tb := rfl
@[simp] theorem State.setRef_orbNum (s : State) (k : Nat) (x : Ref) : (s.setRef k x).orbNum = s.orbNum := rfl
@[simp] theorem State.setRef_orbit (s : State) (k : Nat) (x : Ref) : (s.setRef k x).orbit = s.orbit := rfl
@[simp] theorem State.setRef_domains (s : State) (k : Nat) (x : Ref) : (s.setRef k x).domains = s.domains := rfl
@[simp] theorem State.setRef_engines (s : State) (k : Nat) (x : Ref) : (s.setRef k x).engines = s.engines := rfl
@[simp] theorem State.setRef_touts (s : State) (k : Nat) (x : Ref) : (s.setRef k x).touts = s.touts := rfl
@[simp] theorem State.setRef_tins (s : State) (k : Nat) (x : Ref) : (s.setRef k x).tins = s.tins := rfl
@[simp] theorem State.setRef_links (s : State) (k : Nat) (x : Ref) : (s.setRef k x).links = s.links := rfl
@[simp] theorem State.setRef_tdcs (s : State) (k : Nat) (x : Ref) : (s.setRef k x).tdcs = s.tdcs := rfl
@[simp] theorem State.setRef_cals (s : State) (k : Nat) (x : Ref) : (s.setRef k x).cals = s.cals := rfl
@[simp] theorem State.setRef_ivls (s : State) (k : Nat) (x : Ref) : (s.setRef k x).ivls = s.ivls := rfl
@[simp] theorem State.setRef_trackers (s : State) (k : Nat) (x : Ref) : (s.setRef k x).trackers = s.trackers := rfl
@[simp] theorem State.setRef_power (s : State) (k : Nat) (x : Ref) : (s.setRef k x).power = s.power := rfl
@[simp] theorem State.setRef_hub (s : State) (k : Nat) (x : Ref) : (s.setRef k x).hub = s.hub := rfl
@[simp] theorem State.setRef_slot (s : State) (k : Nat) (x : Ref) : (s.setRef k x).slot = s.slot := rfl
@[simp] theorem State.setRef_slotTb (s : State) (k : Nat) (x : Ref) : (s.setRef k x).slotTb = s.slotTb := rfl
@[simp] theorem State.setRef_voqs (s : State) (k : Nat) (x : Ref) : (s.setRef k x).voqs = s.voqs := rfl
@[simp] theorem State.setRef_accts (s : State) (k : Nat) (x : Ref) : (s.setRef k x).accts = s.accts := rfl
@[simp] theorem State.setRef_inters (s : State) (k : Nat) (x : Ref) : (s.setRef k x).inters = s.inters := rfl
@[simp] theorem State.setRef_egrFull (s : State) (k : Nat) (x : Ref) : (s.setRef k x).egrFull = s.egrFull := rfl
@[simp] theorem State.setRef_rr (s : State) (k : Nat) (x : Ref) : (s.setRef k x).rr = s.rr := rfl
@[simp] theorem State.setRef_wires (s : State) (k : Nat) (x : Ref) : (s.setRef k x).wires = s.wires := rfl
@[simp] theorem State.setRef_reasms (s : State) (k : Nat) (x : Ref) : (s.setRef k x).reasms = s.reasms := rfl
@[simp] theorem State.setRef_egrQs (s : State) (k : Nat) (x : Ref) : (s.setRef k x).egrQs = s.egrQs := rfl
@[simp] theorem State.setRef_nextId (s : State) (k : Nat) (x : Ref) : (s.setRef k x).nextId = s.nextId := rfl
@[simp] theorem State.setRef_egresses (s : State) (k : Nat) (x : Ref) : (s.setRef k x).egresses = s.egresses := rfl
@[simp] theorem State.setRef_shapers (s : State) (k : Nat) (x : Ref) : (s.setRef k x).shapers = s.shapers := rfl
@[simp] theorem State.setRef_buckets (s : State) (k : Nat) (x : Ref) : (s.setRef k x).buckets = s.buckets := rfl
@[simp] theorem State.setRef_seqHists (s : State) (k : Nat) (x : Ref) : (s.setRef k x).seqHists = s.seqHists := rfl
@[simp] theorem State.setRef_sgLog (s : State) (k : Nat) (x : Ref) : (s.setRef k x).sgLog = s.sgLog := rfl
@[simp] theorem State.setRef_rsvIgnored (s : State) (k : Nat) (x : Ref) : (s.setRef k x).rsvIgnored = s.rsvIgnored := rfl
@[simp] theorem State.setRef_rsvReq (s : State) (k : Nat) (x : Ref) : (s.setRef k x).rsvReq = s.rsvReq := rfl
@[simp] theorem State.setRef_ptps (s : State) (k : Nat) (x : Ref) : (s.setRef k x).ptps = s.ptps := rfl
@[simp] theorem State.setRef_dsets (s : State) (k : Nat) (x : Ref) : (s.setRef k x).dsets = s.dsets := rfl
@[simp] theorem State.setRef_cands (s : State) (k : Nat) (x : Ref) : (s.setRef k x).cands = s.cands := rfl
@[simp] theorem State.setRef_keys (s : State) (k : Nat) (x : Ref) : (s.setRef k x).keys = s.keys := rfl
@[simp] theorem State.setRef_binds (s : State) (k : Nat) (x : Ref) : (s.setRef k x).binds = s.binds := rfl
@[simp] theorem State.setRef_agent (s : State) (k : Nat) (x : Ref) : (s.setRef k x).agent = s.agent := rfl
@[simp] theorem State.setRef_mbs (s : State) (k : Nat) (x : Ref) : (s.setRef k x).mbs = s.mbs := rfl
@[simp] theorem State.setRef_posted (s : State) (k : Nat) (x : Ref) : (s.setRef k x).posted = s.posted := rfl
@[simp] theorem State.setRef_txns (s : State) (k : Nat) (x : Ref) : (s.setRef k x).txns = s.txns := rfl
@[simp] theorem State.setRef_journal (s : State) (k : Nat) (x : Ref) : (s.setRef k x).journal = s.journal := rfl
@[simp] theorem State.setRef_glists (s : State) (k : Nat) (x : Ref) : (s.setRef k x).glists = s.glists := rfl
@[simp] theorem State.setRef_gpends (s : State) (k : Nat) (x : Ref) : (s.setRef k x).gpends = s.gpends := rfl
@[simp] theorem State.setRef_trgLate (s : State) (k : Nat) (x : Ref) : (s.setRef k x).trgLate = s.trgLate := rfl
@[simp] theorem State.setRef_hlsLate (s : State) (k : Nat) (x : Ref) : (s.setRef k x).hlsLate = s.hlsLate := rfl
@[simp] theorem State.setRef_snapPend (s : State) (k : Nat) (x : Ref) : (s.setRef k x).snapPend = s.snapPend := rfl
@[simp] theorem State.setRef_out (s : State) (k : Nat) (x : Ref) : (s.setRef k x).out = s.out := rfl
@[simp] theorem State.setRef_freeCount (s : State) (k : Nat) (x : Ref) : (s.setRef k x).freeCount = s.freeCount := rfl
@[simp] theorem State.setRef_pending (s : State) (k : Nat) (x : Ref) : (s.setRef k x).pending = s.pending := rfl
@[simp] theorem State.setRef_reg (s : State) (k : Nat) (x : Ref) (a' : Nat) : (s.setRef k x).reg a' = s.reg a' := rfl
@[simp] theorem State.setRef_rd (s : State) (k : Nat) (x : Ref) (g : Fld) : (s.setRef k x).rd g = s.rd g := rfl
@[simp] theorem State.setRef_bit (s : State) (k : Nat) (x : Ref) (g : Fld) : (s.setRef k x).bit g = s.bit g := rfl
@[simp] theorem State.setRef_shaper (s : State) (k : Nat) (x : Ref) (j : Nat) : (s.setRef k x).shaper j = s.shaper j := rfl
@[simp] theorem State.setRef_acct (s : State) (k : Nat) (x : Ref) (j : Nat) : (s.setRef k x).acct j = s.acct j := rfl
@[simp] theorem State.setRef_reasm (s : State) (k : Nat) (x : Ref) (j : Nat) : (s.setRef k x).reasm j = s.reasm j := rfl
@[simp] theorem State.setRef_egrQ (s : State) (k : Nat) (x : Ref) (j : Nat) : (s.setRef k x).egrQ j = s.egrQ j := rfl
@[simp] theorem State.setRef_egr (s : State) (k : Nat) (x : Ref) (j : Nat) : (s.setRef k x).egr j = s.egr j := rfl
@[simp] theorem State.setRef_wire (s : State) (k : Nat) (x : Ref) (j : Nat) : (s.setRef k x).wire j = s.wire j := rfl
@[simp] theorem State.setRef_seqHist (s : State) (k : Nat) (x : Ref) (j : Nat) : (s.setRef k x).seqHist j = s.seqHist j := rfl
@[simp] theorem State.setRef_bucket (s : State) (k : Nat) (x : Ref) (j : Nat) : (s.setRef k x).bucket j = s.bucket j := rfl
@[simp] theorem State.setRef_mb (s : State) (k : Nat) (x : Ref) (j : Nat) : (s.setRef k x).mb j = s.mb j := rfl
@[simp] theorem State.setRef_dom (s : State) (k : Nat) (x : Ref) (j : Nat) : (s.setRef k x).dom j = s.dom j := rfl
@[simp] theorem State.setRef_eng (s : State) (k : Nat) (x : Ref) (j : Nat) : (s.setRef k x).eng j = s.eng j := rfl
@[simp] theorem State.setRef_tout (s : State) (k : Nat) (x : Ref) (j : Nat) : (s.setRef k x).tout j = s.tout j := rfl
@[simp] theorem State.setRef_tin (s : State) (k : Nat) (x : Ref) (j : Nat) : (s.setRef k x).tin j = s.tin j := rfl
@[simp] theorem State.setRef_link (s : State) (k : Nat) (x : Ref) (j : Nat) : (s.setRef k x).link j = s.link j := rfl
@[simp] theorem State.setRef_glist (s : State) (k : Nat) (x : Ref) (j : Nat) : (s.setRef k x).glist j = s.glist j := rfl
@[simp] theorem State.setRef_gpend (s : State) (k : Nat) (x : Ref) (j : Nat) : (s.setRef k x).gpend j = s.gpend j := rfl
@[simp] theorem State.setRef_ptp (s : State) (k : Nat) (x : Ref) (j : Nat) : (s.setRef k x).ptp j = s.ptp j := rfl
@[simp] theorem State.setRef_tdc (s : State) (k : Nat) (x : Ref) (j : Nat) : (s.setRef k x).tdc j = s.tdc j := rfl
@[simp] theorem State.setRef_cal (s : State) (k : Nat) (x : Ref) (j : Nat) : (s.setRef k x).cal j = s.cal j := rfl
@[simp] theorem State.setRef_ivl (s : State) (k : Nat) (x : Ref) (j : Nat) : (s.setRef k x).ivl j = s.ivl j := rfl
@[simp] theorem State.setRef_tracker (s : State) (k : Nat) (x : Ref) (j : Nat) : (s.setRef k x).tracker j = s.tracker j := rfl
@[simp] theorem State.setRef_cand (s : State) (k : Nat) (x : Ref) (d' j : Nat) : (s.setRef k x).cand d' j = s.cand d' j := rfl

/-! ## setTdc -/

@[simp] theorem State.setTdc_mode (s : State) (k : Nat) (x : TdcChan) : (s.setTdc k x).mode = s.mode := rfl
@[simp] theorem State.setTdc_role (s : State) (k : Nat) (x : TdcChan) : (s.setTdc k x).role = s.role := rfl
@[simp] theorem State.setTdc_regs (s : State) (k : Nat) (x : TdcChan) : (s.setTdc k x).regs = s.regs := rfl
@[simp] theorem State.setTdc_sys (s : State) (k : Nat) (x : TdcChan) : (s.setTdc k x).sys = s.sys := rfl
@[simp] theorem State.setTdc_clk (s : State) (k : Nat) (x : TdcChan) : (s.setTdc k x).clk = s.clk := rfl
@[simp] theorem State.setTdc_twin (s : State) (k : Nat) (x : TdcChan) : (s.setTdc k x).twin = s.twin := rfl
@[simp] theorem State.setTdc_clfAges (s : State) (k : Nat) (x : TdcChan) : (s.setTdc k x).clfAges = s.clfAges := rfl
@[simp] theorem State.setTdc_prv (s : State) (k : Nat) (x : TdcChan) : (s.setTdc k x).prv = s.prv := rfl
@[simp] theorem State.setTdc_pcie (s : State) (k : Nat) (x : TdcChan) : (s.setTdc k x).pcie = s.pcie := rfl
@[simp] theorem State.setTdc_bus (s : State) (k : Nat) (x : TdcChan) : (s.setTdc k x).bus = s.bus := rfl
@[simp] theorem State.setTdc_tb (s : State) (k : Nat) (x : TdcChan) : (s.setTdc k x).tb = s.tb := rfl
@[simp] theorem State.setTdc_orbNum (s : State) (k : Nat) (x : TdcChan) : (s.setTdc k x).orbNum = s.orbNum := rfl
@[simp] theorem State.setTdc_orbit (s : State) (k : Nat) (x : TdcChan) : (s.setTdc k x).orbit = s.orbit := rfl
@[simp] theorem State.setTdc_domains (s : State) (k : Nat) (x : TdcChan) : (s.setTdc k x).domains = s.domains := rfl
@[simp] theorem State.setTdc_engines (s : State) (k : Nat) (x : TdcChan) : (s.setTdc k x).engines = s.engines := rfl
@[simp] theorem State.setTdc_touts (s : State) (k : Nat) (x : TdcChan) : (s.setTdc k x).touts = s.touts := rfl
@[simp] theorem State.setTdc_tins (s : State) (k : Nat) (x : TdcChan) : (s.setTdc k x).tins = s.tins := rfl
@[simp] theorem State.setTdc_links (s : State) (k : Nat) (x : TdcChan) : (s.setTdc k x).links = s.links := rfl
@[simp] theorem State.setTdc_cals (s : State) (k : Nat) (x : TdcChan) : (s.setTdc k x).cals = s.cals := rfl
@[simp] theorem State.setTdc_ivls (s : State) (k : Nat) (x : TdcChan) : (s.setTdc k x).ivls = s.ivls := rfl
@[simp] theorem State.setTdc_trackers (s : State) (k : Nat) (x : TdcChan) : (s.setTdc k x).trackers = s.trackers := rfl
@[simp] theorem State.setTdc_power (s : State) (k : Nat) (x : TdcChan) : (s.setTdc k x).power = s.power := rfl
@[simp] theorem State.setTdc_hub (s : State) (k : Nat) (x : TdcChan) : (s.setTdc k x).hub = s.hub := rfl
@[simp] theorem State.setTdc_slot (s : State) (k : Nat) (x : TdcChan) : (s.setTdc k x).slot = s.slot := rfl
@[simp] theorem State.setTdc_slotTb (s : State) (k : Nat) (x : TdcChan) : (s.setTdc k x).slotTb = s.slotTb := rfl
@[simp] theorem State.setTdc_voqs (s : State) (k : Nat) (x : TdcChan) : (s.setTdc k x).voqs = s.voqs := rfl
@[simp] theorem State.setTdc_accts (s : State) (k : Nat) (x : TdcChan) : (s.setTdc k x).accts = s.accts := rfl
@[simp] theorem State.setTdc_inters (s : State) (k : Nat) (x : TdcChan) : (s.setTdc k x).inters = s.inters := rfl
@[simp] theorem State.setTdc_egrFull (s : State) (k : Nat) (x : TdcChan) : (s.setTdc k x).egrFull = s.egrFull := rfl
@[simp] theorem State.setTdc_rr (s : State) (k : Nat) (x : TdcChan) : (s.setTdc k x).rr = s.rr := rfl
@[simp] theorem State.setTdc_wires (s : State) (k : Nat) (x : TdcChan) : (s.setTdc k x).wires = s.wires := rfl
@[simp] theorem State.setTdc_reasms (s : State) (k : Nat) (x : TdcChan) : (s.setTdc k x).reasms = s.reasms := rfl
@[simp] theorem State.setTdc_egrQs (s : State) (k : Nat) (x : TdcChan) : (s.setTdc k x).egrQs = s.egrQs := rfl
@[simp] theorem State.setTdc_nextId (s : State) (k : Nat) (x : TdcChan) : (s.setTdc k x).nextId = s.nextId := rfl
@[simp] theorem State.setTdc_egresses (s : State) (k : Nat) (x : TdcChan) : (s.setTdc k x).egresses = s.egresses := rfl
@[simp] theorem State.setTdc_shapers (s : State) (k : Nat) (x : TdcChan) : (s.setTdc k x).shapers = s.shapers := rfl
@[simp] theorem State.setTdc_buckets (s : State) (k : Nat) (x : TdcChan) : (s.setTdc k x).buckets = s.buckets := rfl
@[simp] theorem State.setTdc_seqHists (s : State) (k : Nat) (x : TdcChan) : (s.setTdc k x).seqHists = s.seqHists := rfl
@[simp] theorem State.setTdc_sgLog (s : State) (k : Nat) (x : TdcChan) : (s.setTdc k x).sgLog = s.sgLog := rfl
@[simp] theorem State.setTdc_rsvIgnored (s : State) (k : Nat) (x : TdcChan) : (s.setTdc k x).rsvIgnored = s.rsvIgnored := rfl
@[simp] theorem State.setTdc_rsvReq (s : State) (k : Nat) (x : TdcChan) : (s.setTdc k x).rsvReq = s.rsvReq := rfl
@[simp] theorem State.setTdc_ptps (s : State) (k : Nat) (x : TdcChan) : (s.setTdc k x).ptps = s.ptps := rfl
@[simp] theorem State.setTdc_dsets (s : State) (k : Nat) (x : TdcChan) : (s.setTdc k x).dsets = s.dsets := rfl
@[simp] theorem State.setTdc_refs (s : State) (k : Nat) (x : TdcChan) : (s.setTdc k x).refs = s.refs := rfl
@[simp] theorem State.setTdc_cands (s : State) (k : Nat) (x : TdcChan) : (s.setTdc k x).cands = s.cands := rfl
@[simp] theorem State.setTdc_keys (s : State) (k : Nat) (x : TdcChan) : (s.setTdc k x).keys = s.keys := rfl
@[simp] theorem State.setTdc_binds (s : State) (k : Nat) (x : TdcChan) : (s.setTdc k x).binds = s.binds := rfl
@[simp] theorem State.setTdc_agent (s : State) (k : Nat) (x : TdcChan) : (s.setTdc k x).agent = s.agent := rfl
@[simp] theorem State.setTdc_mbs (s : State) (k : Nat) (x : TdcChan) : (s.setTdc k x).mbs = s.mbs := rfl
@[simp] theorem State.setTdc_posted (s : State) (k : Nat) (x : TdcChan) : (s.setTdc k x).posted = s.posted := rfl
@[simp] theorem State.setTdc_txns (s : State) (k : Nat) (x : TdcChan) : (s.setTdc k x).txns = s.txns := rfl
@[simp] theorem State.setTdc_journal (s : State) (k : Nat) (x : TdcChan) : (s.setTdc k x).journal = s.journal := rfl
@[simp] theorem State.setTdc_glists (s : State) (k : Nat) (x : TdcChan) : (s.setTdc k x).glists = s.glists := rfl
@[simp] theorem State.setTdc_gpends (s : State) (k : Nat) (x : TdcChan) : (s.setTdc k x).gpends = s.gpends := rfl
@[simp] theorem State.setTdc_trgLate (s : State) (k : Nat) (x : TdcChan) : (s.setTdc k x).trgLate = s.trgLate := rfl
@[simp] theorem State.setTdc_hlsLate (s : State) (k : Nat) (x : TdcChan) : (s.setTdc k x).hlsLate = s.hlsLate := rfl
@[simp] theorem State.setTdc_snapPend (s : State) (k : Nat) (x : TdcChan) : (s.setTdc k x).snapPend = s.snapPend := rfl
@[simp] theorem State.setTdc_out (s : State) (k : Nat) (x : TdcChan) : (s.setTdc k x).out = s.out := rfl
@[simp] theorem State.setTdc_freeCount (s : State) (k : Nat) (x : TdcChan) : (s.setTdc k x).freeCount = s.freeCount := rfl
@[simp] theorem State.setTdc_pending (s : State) (k : Nat) (x : TdcChan) : (s.setTdc k x).pending = s.pending := rfl
@[simp] theorem State.setTdc_reg (s : State) (k : Nat) (x : TdcChan) (a' : Nat) : (s.setTdc k x).reg a' = s.reg a' := rfl
@[simp] theorem State.setTdc_rd (s : State) (k : Nat) (x : TdcChan) (g : Fld) : (s.setTdc k x).rd g = s.rd g := rfl
@[simp] theorem State.setTdc_bit (s : State) (k : Nat) (x : TdcChan) (g : Fld) : (s.setTdc k x).bit g = s.bit g := rfl
@[simp] theorem State.setTdc_shaper (s : State) (k : Nat) (x : TdcChan) (j : Nat) : (s.setTdc k x).shaper j = s.shaper j := rfl
@[simp] theorem State.setTdc_acct (s : State) (k : Nat) (x : TdcChan) (j : Nat) : (s.setTdc k x).acct j = s.acct j := rfl
@[simp] theorem State.setTdc_reasm (s : State) (k : Nat) (x : TdcChan) (j : Nat) : (s.setTdc k x).reasm j = s.reasm j := rfl
@[simp] theorem State.setTdc_egrQ (s : State) (k : Nat) (x : TdcChan) (j : Nat) : (s.setTdc k x).egrQ j = s.egrQ j := rfl
@[simp] theorem State.setTdc_egr (s : State) (k : Nat) (x : TdcChan) (j : Nat) : (s.setTdc k x).egr j = s.egr j := rfl
@[simp] theorem State.setTdc_wire (s : State) (k : Nat) (x : TdcChan) (j : Nat) : (s.setTdc k x).wire j = s.wire j := rfl
@[simp] theorem State.setTdc_seqHist (s : State) (k : Nat) (x : TdcChan) (j : Nat) : (s.setTdc k x).seqHist j = s.seqHist j := rfl
@[simp] theorem State.setTdc_bucket (s : State) (k : Nat) (x : TdcChan) (j : Nat) : (s.setTdc k x).bucket j = s.bucket j := rfl
@[simp] theorem State.setTdc_mb (s : State) (k : Nat) (x : TdcChan) (j : Nat) : (s.setTdc k x).mb j = s.mb j := rfl
@[simp] theorem State.setTdc_dom (s : State) (k : Nat) (x : TdcChan) (j : Nat) : (s.setTdc k x).dom j = s.dom j := rfl
@[simp] theorem State.setTdc_eng (s : State) (k : Nat) (x : TdcChan) (j : Nat) : (s.setTdc k x).eng j = s.eng j := rfl
@[simp] theorem State.setTdc_tout (s : State) (k : Nat) (x : TdcChan) (j : Nat) : (s.setTdc k x).tout j = s.tout j := rfl
@[simp] theorem State.setTdc_tin (s : State) (k : Nat) (x : TdcChan) (j : Nat) : (s.setTdc k x).tin j = s.tin j := rfl
@[simp] theorem State.setTdc_link (s : State) (k : Nat) (x : TdcChan) (j : Nat) : (s.setTdc k x).link j = s.link j := rfl
@[simp] theorem State.setTdc_glist (s : State) (k : Nat) (x : TdcChan) (j : Nat) : (s.setTdc k x).glist j = s.glist j := rfl
@[simp] theorem State.setTdc_gpend (s : State) (k : Nat) (x : TdcChan) (j : Nat) : (s.setTdc k x).gpend j = s.gpend j := rfl
@[simp] theorem State.setTdc_ptp (s : State) (k : Nat) (x : TdcChan) (j : Nat) : (s.setTdc k x).ptp j = s.ptp j := rfl
@[simp] theorem State.setTdc_ref (s : State) (k : Nat) (x : TdcChan) (j : Nat) : (s.setTdc k x).ref j = s.ref j := rfl
@[simp] theorem State.setTdc_cal (s : State) (k : Nat) (x : TdcChan) (j : Nat) : (s.setTdc k x).cal j = s.cal j := rfl
@[simp] theorem State.setTdc_ivl (s : State) (k : Nat) (x : TdcChan) (j : Nat) : (s.setTdc k x).ivl j = s.ivl j := rfl
@[simp] theorem State.setTdc_tracker (s : State) (k : Nat) (x : TdcChan) (j : Nat) : (s.setTdc k x).tracker j = s.tracker j := rfl
@[simp] theorem State.setTdc_cand (s : State) (k : Nat) (x : TdcChan) (d' j : Nat) : (s.setTdc k x).cand d' j = s.cand d' j := rfl

/-! ## setCal -/

@[simp] theorem State.setCal_mode (s : State) (k : Nat) (x : Option CalRun) : (s.setCal k x).mode = s.mode := rfl
@[simp] theorem State.setCal_role (s : State) (k : Nat) (x : Option CalRun) : (s.setCal k x).role = s.role := rfl
@[simp] theorem State.setCal_regs (s : State) (k : Nat) (x : Option CalRun) : (s.setCal k x).regs = s.regs := rfl
@[simp] theorem State.setCal_sys (s : State) (k : Nat) (x : Option CalRun) : (s.setCal k x).sys = s.sys := rfl
@[simp] theorem State.setCal_clk (s : State) (k : Nat) (x : Option CalRun) : (s.setCal k x).clk = s.clk := rfl
@[simp] theorem State.setCal_twin (s : State) (k : Nat) (x : Option CalRun) : (s.setCal k x).twin = s.twin := rfl
@[simp] theorem State.setCal_clfAges (s : State) (k : Nat) (x : Option CalRun) : (s.setCal k x).clfAges = s.clfAges := rfl
@[simp] theorem State.setCal_prv (s : State) (k : Nat) (x : Option CalRun) : (s.setCal k x).prv = s.prv := rfl
@[simp] theorem State.setCal_pcie (s : State) (k : Nat) (x : Option CalRun) : (s.setCal k x).pcie = s.pcie := rfl
@[simp] theorem State.setCal_bus (s : State) (k : Nat) (x : Option CalRun) : (s.setCal k x).bus = s.bus := rfl
@[simp] theorem State.setCal_tb (s : State) (k : Nat) (x : Option CalRun) : (s.setCal k x).tb = s.tb := rfl
@[simp] theorem State.setCal_orbNum (s : State) (k : Nat) (x : Option CalRun) : (s.setCal k x).orbNum = s.orbNum := rfl
@[simp] theorem State.setCal_orbit (s : State) (k : Nat) (x : Option CalRun) : (s.setCal k x).orbit = s.orbit := rfl
@[simp] theorem State.setCal_domains (s : State) (k : Nat) (x : Option CalRun) : (s.setCal k x).domains = s.domains := rfl
@[simp] theorem State.setCal_engines (s : State) (k : Nat) (x : Option CalRun) : (s.setCal k x).engines = s.engines := rfl
@[simp] theorem State.setCal_touts (s : State) (k : Nat) (x : Option CalRun) : (s.setCal k x).touts = s.touts := rfl
@[simp] theorem State.setCal_tins (s : State) (k : Nat) (x : Option CalRun) : (s.setCal k x).tins = s.tins := rfl
@[simp] theorem State.setCal_links (s : State) (k : Nat) (x : Option CalRun) : (s.setCal k x).links = s.links := rfl
@[simp] theorem State.setCal_tdcs (s : State) (k : Nat) (x : Option CalRun) : (s.setCal k x).tdcs = s.tdcs := rfl
@[simp] theorem State.setCal_ivls (s : State) (k : Nat) (x : Option CalRun) : (s.setCal k x).ivls = s.ivls := rfl
@[simp] theorem State.setCal_trackers (s : State) (k : Nat) (x : Option CalRun) : (s.setCal k x).trackers = s.trackers := rfl
@[simp] theorem State.setCal_power (s : State) (k : Nat) (x : Option CalRun) : (s.setCal k x).power = s.power := rfl
@[simp] theorem State.setCal_hub (s : State) (k : Nat) (x : Option CalRun) : (s.setCal k x).hub = s.hub := rfl
@[simp] theorem State.setCal_slot (s : State) (k : Nat) (x : Option CalRun) : (s.setCal k x).slot = s.slot := rfl
@[simp] theorem State.setCal_slotTb (s : State) (k : Nat) (x : Option CalRun) : (s.setCal k x).slotTb = s.slotTb := rfl
@[simp] theorem State.setCal_voqs (s : State) (k : Nat) (x : Option CalRun) : (s.setCal k x).voqs = s.voqs := rfl
@[simp] theorem State.setCal_accts (s : State) (k : Nat) (x : Option CalRun) : (s.setCal k x).accts = s.accts := rfl
@[simp] theorem State.setCal_inters (s : State) (k : Nat) (x : Option CalRun) : (s.setCal k x).inters = s.inters := rfl
@[simp] theorem State.setCal_egrFull (s : State) (k : Nat) (x : Option CalRun) : (s.setCal k x).egrFull = s.egrFull := rfl
@[simp] theorem State.setCal_rr (s : State) (k : Nat) (x : Option CalRun) : (s.setCal k x).rr = s.rr := rfl
@[simp] theorem State.setCal_wires (s : State) (k : Nat) (x : Option CalRun) : (s.setCal k x).wires = s.wires := rfl
@[simp] theorem State.setCal_reasms (s : State) (k : Nat) (x : Option CalRun) : (s.setCal k x).reasms = s.reasms := rfl
@[simp] theorem State.setCal_egrQs (s : State) (k : Nat) (x : Option CalRun) : (s.setCal k x).egrQs = s.egrQs := rfl
@[simp] theorem State.setCal_nextId (s : State) (k : Nat) (x : Option CalRun) : (s.setCal k x).nextId = s.nextId := rfl
@[simp] theorem State.setCal_egresses (s : State) (k : Nat) (x : Option CalRun) : (s.setCal k x).egresses = s.egresses := rfl
@[simp] theorem State.setCal_shapers (s : State) (k : Nat) (x : Option CalRun) : (s.setCal k x).shapers = s.shapers := rfl
@[simp] theorem State.setCal_buckets (s : State) (k : Nat) (x : Option CalRun) : (s.setCal k x).buckets = s.buckets := rfl
@[simp] theorem State.setCal_seqHists (s : State) (k : Nat) (x : Option CalRun) : (s.setCal k x).seqHists = s.seqHists := rfl
@[simp] theorem State.setCal_sgLog (s : State) (k : Nat) (x : Option CalRun) : (s.setCal k x).sgLog = s.sgLog := rfl
@[simp] theorem State.setCal_rsvIgnored (s : State) (k : Nat) (x : Option CalRun) : (s.setCal k x).rsvIgnored = s.rsvIgnored := rfl
@[simp] theorem State.setCal_rsvReq (s : State) (k : Nat) (x : Option CalRun) : (s.setCal k x).rsvReq = s.rsvReq := rfl
@[simp] theorem State.setCal_ptps (s : State) (k : Nat) (x : Option CalRun) : (s.setCal k x).ptps = s.ptps := rfl
@[simp] theorem State.setCal_dsets (s : State) (k : Nat) (x : Option CalRun) : (s.setCal k x).dsets = s.dsets := rfl
@[simp] theorem State.setCal_refs (s : State) (k : Nat) (x : Option CalRun) : (s.setCal k x).refs = s.refs := rfl
@[simp] theorem State.setCal_cands (s : State) (k : Nat) (x : Option CalRun) : (s.setCal k x).cands = s.cands := rfl
@[simp] theorem State.setCal_keys (s : State) (k : Nat) (x : Option CalRun) : (s.setCal k x).keys = s.keys := rfl
@[simp] theorem State.setCal_binds (s : State) (k : Nat) (x : Option CalRun) : (s.setCal k x).binds = s.binds := rfl
@[simp] theorem State.setCal_agent (s : State) (k : Nat) (x : Option CalRun) : (s.setCal k x).agent = s.agent := rfl
@[simp] theorem State.setCal_mbs (s : State) (k : Nat) (x : Option CalRun) : (s.setCal k x).mbs = s.mbs := rfl
@[simp] theorem State.setCal_posted (s : State) (k : Nat) (x : Option CalRun) : (s.setCal k x).posted = s.posted := rfl
@[simp] theorem State.setCal_txns (s : State) (k : Nat) (x : Option CalRun) : (s.setCal k x).txns = s.txns := rfl
@[simp] theorem State.setCal_journal (s : State) (k : Nat) (x : Option CalRun) : (s.setCal k x).journal = s.journal := rfl
@[simp] theorem State.setCal_glists (s : State) (k : Nat) (x : Option CalRun) : (s.setCal k x).glists = s.glists := rfl
@[simp] theorem State.setCal_gpends (s : State) (k : Nat) (x : Option CalRun) : (s.setCal k x).gpends = s.gpends := rfl
@[simp] theorem State.setCal_trgLate (s : State) (k : Nat) (x : Option CalRun) : (s.setCal k x).trgLate = s.trgLate := rfl
@[simp] theorem State.setCal_hlsLate (s : State) (k : Nat) (x : Option CalRun) : (s.setCal k x).hlsLate = s.hlsLate := rfl
@[simp] theorem State.setCal_snapPend (s : State) (k : Nat) (x : Option CalRun) : (s.setCal k x).snapPend = s.snapPend := rfl
@[simp] theorem State.setCal_out (s : State) (k : Nat) (x : Option CalRun) : (s.setCal k x).out = s.out := rfl
@[simp] theorem State.setCal_freeCount (s : State) (k : Nat) (x : Option CalRun) : (s.setCal k x).freeCount = s.freeCount := rfl
@[simp] theorem State.setCal_pending (s : State) (k : Nat) (x : Option CalRun) : (s.setCal k x).pending = s.pending := rfl
@[simp] theorem State.setCal_reg (s : State) (k : Nat) (x : Option CalRun) (a' : Nat) : (s.setCal k x).reg a' = s.reg a' := rfl
@[simp] theorem State.setCal_rd (s : State) (k : Nat) (x : Option CalRun) (g : Fld) : (s.setCal k x).rd g = s.rd g := rfl
@[simp] theorem State.setCal_bit (s : State) (k : Nat) (x : Option CalRun) (g : Fld) : (s.setCal k x).bit g = s.bit g := rfl
@[simp] theorem State.setCal_shaper (s : State) (k : Nat) (x : Option CalRun) (j : Nat) : (s.setCal k x).shaper j = s.shaper j := rfl
@[simp] theorem State.setCal_acct (s : State) (k : Nat) (x : Option CalRun) (j : Nat) : (s.setCal k x).acct j = s.acct j := rfl
@[simp] theorem State.setCal_reasm (s : State) (k : Nat) (x : Option CalRun) (j : Nat) : (s.setCal k x).reasm j = s.reasm j := rfl
@[simp] theorem State.setCal_egrQ (s : State) (k : Nat) (x : Option CalRun) (j : Nat) : (s.setCal k x).egrQ j = s.egrQ j := rfl
@[simp] theorem State.setCal_egr (s : State) (k : Nat) (x : Option CalRun) (j : Nat) : (s.setCal k x).egr j = s.egr j := rfl
@[simp] theorem State.setCal_wire (s : State) (k : Nat) (x : Option CalRun) (j : Nat) : (s.setCal k x).wire j = s.wire j := rfl
@[simp] theorem State.setCal_seqHist (s : State) (k : Nat) (x : Option CalRun) (j : Nat) : (s.setCal k x).seqHist j = s.seqHist j := rfl
@[simp] theorem State.setCal_bucket (s : State) (k : Nat) (x : Option CalRun) (j : Nat) : (s.setCal k x).bucket j = s.bucket j := rfl
@[simp] theorem State.setCal_mb (s : State) (k : Nat) (x : Option CalRun) (j : Nat) : (s.setCal k x).mb j = s.mb j := rfl
@[simp] theorem State.setCal_dom (s : State) (k : Nat) (x : Option CalRun) (j : Nat) : (s.setCal k x).dom j = s.dom j := rfl
@[simp] theorem State.setCal_eng (s : State) (k : Nat) (x : Option CalRun) (j : Nat) : (s.setCal k x).eng j = s.eng j := rfl
@[simp] theorem State.setCal_tout (s : State) (k : Nat) (x : Option CalRun) (j : Nat) : (s.setCal k x).tout j = s.tout j := rfl
@[simp] theorem State.setCal_tin (s : State) (k : Nat) (x : Option CalRun) (j : Nat) : (s.setCal k x).tin j = s.tin j := rfl
@[simp] theorem State.setCal_link (s : State) (k : Nat) (x : Option CalRun) (j : Nat) : (s.setCal k x).link j = s.link j := rfl
@[simp] theorem State.setCal_glist (s : State) (k : Nat) (x : Option CalRun) (j : Nat) : (s.setCal k x).glist j = s.glist j := rfl
@[simp] theorem State.setCal_gpend (s : State) (k : Nat) (x : Option CalRun) (j : Nat) : (s.setCal k x).gpend j = s.gpend j := rfl
@[simp] theorem State.setCal_ptp (s : State) (k : Nat) (x : Option CalRun) (j : Nat) : (s.setCal k x).ptp j = s.ptp j := rfl
@[simp] theorem State.setCal_ref (s : State) (k : Nat) (x : Option CalRun) (j : Nat) : (s.setCal k x).ref j = s.ref j := rfl
@[simp] theorem State.setCal_tdc (s : State) (k : Nat) (x : Option CalRun) (j : Nat) : (s.setCal k x).tdc j = s.tdc j := rfl
@[simp] theorem State.setCal_ivl (s : State) (k : Nat) (x : Option CalRun) (j : Nat) : (s.setCal k x).ivl j = s.ivl j := rfl
@[simp] theorem State.setCal_tracker (s : State) (k : Nat) (x : Option CalRun) (j : Nat) : (s.setCal k x).tracker j = s.tracker j := rfl
@[simp] theorem State.setCal_cand (s : State) (k : Nat) (x : Option CalRun) (d' j : Nat) : (s.setCal k x).cand d' j = s.cand d' j := rfl

/-! ## setIvl -/

@[simp] theorem State.setIvl_mode (s : State) (k : Nat) (x : Ivl) : (s.setIvl k x).mode = s.mode := rfl
@[simp] theorem State.setIvl_role (s : State) (k : Nat) (x : Ivl) : (s.setIvl k x).role = s.role := rfl
@[simp] theorem State.setIvl_regs (s : State) (k : Nat) (x : Ivl) : (s.setIvl k x).regs = s.regs := rfl
@[simp] theorem State.setIvl_sys (s : State) (k : Nat) (x : Ivl) : (s.setIvl k x).sys = s.sys := rfl
@[simp] theorem State.setIvl_clk (s : State) (k : Nat) (x : Ivl) : (s.setIvl k x).clk = s.clk := rfl
@[simp] theorem State.setIvl_twin (s : State) (k : Nat) (x : Ivl) : (s.setIvl k x).twin = s.twin := rfl
@[simp] theorem State.setIvl_clfAges (s : State) (k : Nat) (x : Ivl) : (s.setIvl k x).clfAges = s.clfAges := rfl
@[simp] theorem State.setIvl_prv (s : State) (k : Nat) (x : Ivl) : (s.setIvl k x).prv = s.prv := rfl
@[simp] theorem State.setIvl_pcie (s : State) (k : Nat) (x : Ivl) : (s.setIvl k x).pcie = s.pcie := rfl
@[simp] theorem State.setIvl_bus (s : State) (k : Nat) (x : Ivl) : (s.setIvl k x).bus = s.bus := rfl
@[simp] theorem State.setIvl_tb (s : State) (k : Nat) (x : Ivl) : (s.setIvl k x).tb = s.tb := rfl
@[simp] theorem State.setIvl_orbNum (s : State) (k : Nat) (x : Ivl) : (s.setIvl k x).orbNum = s.orbNum := rfl
@[simp] theorem State.setIvl_orbit (s : State) (k : Nat) (x : Ivl) : (s.setIvl k x).orbit = s.orbit := rfl
@[simp] theorem State.setIvl_domains (s : State) (k : Nat) (x : Ivl) : (s.setIvl k x).domains = s.domains := rfl
@[simp] theorem State.setIvl_engines (s : State) (k : Nat) (x : Ivl) : (s.setIvl k x).engines = s.engines := rfl
@[simp] theorem State.setIvl_touts (s : State) (k : Nat) (x : Ivl) : (s.setIvl k x).touts = s.touts := rfl
@[simp] theorem State.setIvl_tins (s : State) (k : Nat) (x : Ivl) : (s.setIvl k x).tins = s.tins := rfl
@[simp] theorem State.setIvl_links (s : State) (k : Nat) (x : Ivl) : (s.setIvl k x).links = s.links := rfl
@[simp] theorem State.setIvl_tdcs (s : State) (k : Nat) (x : Ivl) : (s.setIvl k x).tdcs = s.tdcs := rfl
@[simp] theorem State.setIvl_cals (s : State) (k : Nat) (x : Ivl) : (s.setIvl k x).cals = s.cals := rfl
@[simp] theorem State.setIvl_trackers (s : State) (k : Nat) (x : Ivl) : (s.setIvl k x).trackers = s.trackers := rfl
@[simp] theorem State.setIvl_power (s : State) (k : Nat) (x : Ivl) : (s.setIvl k x).power = s.power := rfl
@[simp] theorem State.setIvl_hub (s : State) (k : Nat) (x : Ivl) : (s.setIvl k x).hub = s.hub := rfl
@[simp] theorem State.setIvl_slot (s : State) (k : Nat) (x : Ivl) : (s.setIvl k x).slot = s.slot := rfl
@[simp] theorem State.setIvl_slotTb (s : State) (k : Nat) (x : Ivl) : (s.setIvl k x).slotTb = s.slotTb := rfl
@[simp] theorem State.setIvl_voqs (s : State) (k : Nat) (x : Ivl) : (s.setIvl k x).voqs = s.voqs := rfl
@[simp] theorem State.setIvl_accts (s : State) (k : Nat) (x : Ivl) : (s.setIvl k x).accts = s.accts := rfl
@[simp] theorem State.setIvl_inters (s : State) (k : Nat) (x : Ivl) : (s.setIvl k x).inters = s.inters := rfl
@[simp] theorem State.setIvl_egrFull (s : State) (k : Nat) (x : Ivl) : (s.setIvl k x).egrFull = s.egrFull := rfl
@[simp] theorem State.setIvl_rr (s : State) (k : Nat) (x : Ivl) : (s.setIvl k x).rr = s.rr := rfl
@[simp] theorem State.setIvl_wires (s : State) (k : Nat) (x : Ivl) : (s.setIvl k x).wires = s.wires := rfl
@[simp] theorem State.setIvl_reasms (s : State) (k : Nat) (x : Ivl) : (s.setIvl k x).reasms = s.reasms := rfl
@[simp] theorem State.setIvl_egrQs (s : State) (k : Nat) (x : Ivl) : (s.setIvl k x).egrQs = s.egrQs := rfl
@[simp] theorem State.setIvl_nextId (s : State) (k : Nat) (x : Ivl) : (s.setIvl k x).nextId = s.nextId := rfl
@[simp] theorem State.setIvl_egresses (s : State) (k : Nat) (x : Ivl) : (s.setIvl k x).egresses = s.egresses := rfl
@[simp] theorem State.setIvl_shapers (s : State) (k : Nat) (x : Ivl) : (s.setIvl k x).shapers = s.shapers := rfl
@[simp] theorem State.setIvl_buckets (s : State) (k : Nat) (x : Ivl) : (s.setIvl k x).buckets = s.buckets := rfl
@[simp] theorem State.setIvl_seqHists (s : State) (k : Nat) (x : Ivl) : (s.setIvl k x).seqHists = s.seqHists := rfl
@[simp] theorem State.setIvl_sgLog (s : State) (k : Nat) (x : Ivl) : (s.setIvl k x).sgLog = s.sgLog := rfl
@[simp] theorem State.setIvl_rsvIgnored (s : State) (k : Nat) (x : Ivl) : (s.setIvl k x).rsvIgnored = s.rsvIgnored := rfl
@[simp] theorem State.setIvl_rsvReq (s : State) (k : Nat) (x : Ivl) : (s.setIvl k x).rsvReq = s.rsvReq := rfl
@[simp] theorem State.setIvl_ptps (s : State) (k : Nat) (x : Ivl) : (s.setIvl k x).ptps = s.ptps := rfl
@[simp] theorem State.setIvl_dsets (s : State) (k : Nat) (x : Ivl) : (s.setIvl k x).dsets = s.dsets := rfl
@[simp] theorem State.setIvl_refs (s : State) (k : Nat) (x : Ivl) : (s.setIvl k x).refs = s.refs := rfl
@[simp] theorem State.setIvl_cands (s : State) (k : Nat) (x : Ivl) : (s.setIvl k x).cands = s.cands := rfl
@[simp] theorem State.setIvl_keys (s : State) (k : Nat) (x : Ivl) : (s.setIvl k x).keys = s.keys := rfl
@[simp] theorem State.setIvl_binds (s : State) (k : Nat) (x : Ivl) : (s.setIvl k x).binds = s.binds := rfl
@[simp] theorem State.setIvl_agent (s : State) (k : Nat) (x : Ivl) : (s.setIvl k x).agent = s.agent := rfl
@[simp] theorem State.setIvl_mbs (s : State) (k : Nat) (x : Ivl) : (s.setIvl k x).mbs = s.mbs := rfl
@[simp] theorem State.setIvl_posted (s : State) (k : Nat) (x : Ivl) : (s.setIvl k x).posted = s.posted := rfl
@[simp] theorem State.setIvl_txns (s : State) (k : Nat) (x : Ivl) : (s.setIvl k x).txns = s.txns := rfl
@[simp] theorem State.setIvl_journal (s : State) (k : Nat) (x : Ivl) : (s.setIvl k x).journal = s.journal := rfl
@[simp] theorem State.setIvl_glists (s : State) (k : Nat) (x : Ivl) : (s.setIvl k x).glists = s.glists := rfl
@[simp] theorem State.setIvl_gpends (s : State) (k : Nat) (x : Ivl) : (s.setIvl k x).gpends = s.gpends := rfl
@[simp] theorem State.setIvl_trgLate (s : State) (k : Nat) (x : Ivl) : (s.setIvl k x).trgLate = s.trgLate := rfl
@[simp] theorem State.setIvl_hlsLate (s : State) (k : Nat) (x : Ivl) : (s.setIvl k x).hlsLate = s.hlsLate := rfl
@[simp] theorem State.setIvl_snapPend (s : State) (k : Nat) (x : Ivl) : (s.setIvl k x).snapPend = s.snapPend := rfl
@[simp] theorem State.setIvl_out (s : State) (k : Nat) (x : Ivl) : (s.setIvl k x).out = s.out := rfl
@[simp] theorem State.setIvl_freeCount (s : State) (k : Nat) (x : Ivl) : (s.setIvl k x).freeCount = s.freeCount := rfl
@[simp] theorem State.setIvl_pending (s : State) (k : Nat) (x : Ivl) : (s.setIvl k x).pending = s.pending := rfl
@[simp] theorem State.setIvl_reg (s : State) (k : Nat) (x : Ivl) (a' : Nat) : (s.setIvl k x).reg a' = s.reg a' := rfl
@[simp] theorem State.setIvl_rd (s : State) (k : Nat) (x : Ivl) (g : Fld) : (s.setIvl k x).rd g = s.rd g := rfl
@[simp] theorem State.setIvl_bit (s : State) (k : Nat) (x : Ivl) (g : Fld) : (s.setIvl k x).bit g = s.bit g := rfl
@[simp] theorem State.setIvl_shaper (s : State) (k : Nat) (x : Ivl) (j : Nat) : (s.setIvl k x).shaper j = s.shaper j := rfl
@[simp] theorem State.setIvl_acct (s : State) (k : Nat) (x : Ivl) (j : Nat) : (s.setIvl k x).acct j = s.acct j := rfl
@[simp] theorem State.setIvl_reasm (s : State) (k : Nat) (x : Ivl) (j : Nat) : (s.setIvl k x).reasm j = s.reasm j := rfl
@[simp] theorem State.setIvl_egrQ (s : State) (k : Nat) (x : Ivl) (j : Nat) : (s.setIvl k x).egrQ j = s.egrQ j := rfl
@[simp] theorem State.setIvl_egr (s : State) (k : Nat) (x : Ivl) (j : Nat) : (s.setIvl k x).egr j = s.egr j := rfl
@[simp] theorem State.setIvl_wire (s : State) (k : Nat) (x : Ivl) (j : Nat) : (s.setIvl k x).wire j = s.wire j := rfl
@[simp] theorem State.setIvl_seqHist (s : State) (k : Nat) (x : Ivl) (j : Nat) : (s.setIvl k x).seqHist j = s.seqHist j := rfl
@[simp] theorem State.setIvl_bucket (s : State) (k : Nat) (x : Ivl) (j : Nat) : (s.setIvl k x).bucket j = s.bucket j := rfl
@[simp] theorem State.setIvl_mb (s : State) (k : Nat) (x : Ivl) (j : Nat) : (s.setIvl k x).mb j = s.mb j := rfl
@[simp] theorem State.setIvl_dom (s : State) (k : Nat) (x : Ivl) (j : Nat) : (s.setIvl k x).dom j = s.dom j := rfl
@[simp] theorem State.setIvl_eng (s : State) (k : Nat) (x : Ivl) (j : Nat) : (s.setIvl k x).eng j = s.eng j := rfl
@[simp] theorem State.setIvl_tout (s : State) (k : Nat) (x : Ivl) (j : Nat) : (s.setIvl k x).tout j = s.tout j := rfl
@[simp] theorem State.setIvl_tin (s : State) (k : Nat) (x : Ivl) (j : Nat) : (s.setIvl k x).tin j = s.tin j := rfl
@[simp] theorem State.setIvl_link (s : State) (k : Nat) (x : Ivl) (j : Nat) : (s.setIvl k x).link j = s.link j := rfl
@[simp] theorem State.setIvl_glist (s : State) (k : Nat) (x : Ivl) (j : Nat) : (s.setIvl k x).glist j = s.glist j := rfl
@[simp] theorem State.setIvl_gpend (s : State) (k : Nat) (x : Ivl) (j : Nat) : (s.setIvl k x).gpend j = s.gpend j := rfl
@[simp] theorem State.setIvl_ptp (s : State) (k : Nat) (x : Ivl) (j : Nat) : (s.setIvl k x).ptp j = s.ptp j := rfl
@[simp] theorem State.setIvl_ref (s : State) (k : Nat) (x : Ivl) (j : Nat) : (s.setIvl k x).ref j = s.ref j := rfl
@[simp] theorem State.setIvl_tdc (s : State) (k : Nat) (x : Ivl) (j : Nat) : (s.setIvl k x).tdc j = s.tdc j := rfl
@[simp] theorem State.setIvl_cal (s : State) (k : Nat) (x : Ivl) (j : Nat) : (s.setIvl k x).cal j = s.cal j := rfl
@[simp] theorem State.setIvl_tracker (s : State) (k : Nat) (x : Ivl) (j : Nat) : (s.setIvl k x).tracker j = s.tracker j := rfl
@[simp] theorem State.setIvl_cand (s : State) (k : Nat) (x : Ivl) (d' j : Nat) : (s.setIvl k x).cand d' j = s.cand d' j := rfl

/-! ## setTracker -/

@[simp] theorem State.setTracker_mode (s : State) (k : Nat) (x : Tracker) : (s.setTracker k x).mode = s.mode := rfl
@[simp] theorem State.setTracker_role (s : State) (k : Nat) (x : Tracker) : (s.setTracker k x).role = s.role := rfl
@[simp] theorem State.setTracker_regs (s : State) (k : Nat) (x : Tracker) : (s.setTracker k x).regs = s.regs := rfl
@[simp] theorem State.setTracker_sys (s : State) (k : Nat) (x : Tracker) : (s.setTracker k x).sys = s.sys := rfl
@[simp] theorem State.setTracker_clk (s : State) (k : Nat) (x : Tracker) : (s.setTracker k x).clk = s.clk := rfl
@[simp] theorem State.setTracker_twin (s : State) (k : Nat) (x : Tracker) : (s.setTracker k x).twin = s.twin := rfl
@[simp] theorem State.setTracker_clfAges (s : State) (k : Nat) (x : Tracker) : (s.setTracker k x).clfAges = s.clfAges := rfl
@[simp] theorem State.setTracker_prv (s : State) (k : Nat) (x : Tracker) : (s.setTracker k x).prv = s.prv := rfl
@[simp] theorem State.setTracker_pcie (s : State) (k : Nat) (x : Tracker) : (s.setTracker k x).pcie = s.pcie := rfl
@[simp] theorem State.setTracker_bus (s : State) (k : Nat) (x : Tracker) : (s.setTracker k x).bus = s.bus := rfl
@[simp] theorem State.setTracker_tb (s : State) (k : Nat) (x : Tracker) : (s.setTracker k x).tb = s.tb := rfl
@[simp] theorem State.setTracker_orbNum (s : State) (k : Nat) (x : Tracker) : (s.setTracker k x).orbNum = s.orbNum := rfl
@[simp] theorem State.setTracker_orbit (s : State) (k : Nat) (x : Tracker) : (s.setTracker k x).orbit = s.orbit := rfl
@[simp] theorem State.setTracker_domains (s : State) (k : Nat) (x : Tracker) : (s.setTracker k x).domains = s.domains := rfl
@[simp] theorem State.setTracker_engines (s : State) (k : Nat) (x : Tracker) : (s.setTracker k x).engines = s.engines := rfl
@[simp] theorem State.setTracker_touts (s : State) (k : Nat) (x : Tracker) : (s.setTracker k x).touts = s.touts := rfl
@[simp] theorem State.setTracker_tins (s : State) (k : Nat) (x : Tracker) : (s.setTracker k x).tins = s.tins := rfl
@[simp] theorem State.setTracker_links (s : State) (k : Nat) (x : Tracker) : (s.setTracker k x).links = s.links := rfl
@[simp] theorem State.setTracker_tdcs (s : State) (k : Nat) (x : Tracker) : (s.setTracker k x).tdcs = s.tdcs := rfl
@[simp] theorem State.setTracker_cals (s : State) (k : Nat) (x : Tracker) : (s.setTracker k x).cals = s.cals := rfl
@[simp] theorem State.setTracker_ivls (s : State) (k : Nat) (x : Tracker) : (s.setTracker k x).ivls = s.ivls := rfl
@[simp] theorem State.setTracker_power (s : State) (k : Nat) (x : Tracker) : (s.setTracker k x).power = s.power := rfl
@[simp] theorem State.setTracker_hub (s : State) (k : Nat) (x : Tracker) : (s.setTracker k x).hub = s.hub := rfl
@[simp] theorem State.setTracker_slot (s : State) (k : Nat) (x : Tracker) : (s.setTracker k x).slot = s.slot := rfl
@[simp] theorem State.setTracker_slotTb (s : State) (k : Nat) (x : Tracker) : (s.setTracker k x).slotTb = s.slotTb := rfl
@[simp] theorem State.setTracker_voqs (s : State) (k : Nat) (x : Tracker) : (s.setTracker k x).voqs = s.voqs := rfl
@[simp] theorem State.setTracker_accts (s : State) (k : Nat) (x : Tracker) : (s.setTracker k x).accts = s.accts := rfl
@[simp] theorem State.setTracker_inters (s : State) (k : Nat) (x : Tracker) : (s.setTracker k x).inters = s.inters := rfl
@[simp] theorem State.setTracker_egrFull (s : State) (k : Nat) (x : Tracker) : (s.setTracker k x).egrFull = s.egrFull := rfl
@[simp] theorem State.setTracker_rr (s : State) (k : Nat) (x : Tracker) : (s.setTracker k x).rr = s.rr := rfl
@[simp] theorem State.setTracker_wires (s : State) (k : Nat) (x : Tracker) : (s.setTracker k x).wires = s.wires := rfl
@[simp] theorem State.setTracker_reasms (s : State) (k : Nat) (x : Tracker) : (s.setTracker k x).reasms = s.reasms := rfl
@[simp] theorem State.setTracker_egrQs (s : State) (k : Nat) (x : Tracker) : (s.setTracker k x).egrQs = s.egrQs := rfl
@[simp] theorem State.setTracker_nextId (s : State) (k : Nat) (x : Tracker) : (s.setTracker k x).nextId = s.nextId := rfl
@[simp] theorem State.setTracker_egresses (s : State) (k : Nat) (x : Tracker) : (s.setTracker k x).egresses = s.egresses := rfl
@[simp] theorem State.setTracker_shapers (s : State) (k : Nat) (x : Tracker) : (s.setTracker k x).shapers = s.shapers := rfl
@[simp] theorem State.setTracker_buckets (s : State) (k : Nat) (x : Tracker) : (s.setTracker k x).buckets = s.buckets := rfl
@[simp] theorem State.setTracker_seqHists (s : State) (k : Nat) (x : Tracker) : (s.setTracker k x).seqHists = s.seqHists := rfl
@[simp] theorem State.setTracker_sgLog (s : State) (k : Nat) (x : Tracker) : (s.setTracker k x).sgLog = s.sgLog := rfl
@[simp] theorem State.setTracker_rsvIgnored (s : State) (k : Nat) (x : Tracker) : (s.setTracker k x).rsvIgnored = s.rsvIgnored := rfl
@[simp] theorem State.setTracker_rsvReq (s : State) (k : Nat) (x : Tracker) : (s.setTracker k x).rsvReq = s.rsvReq := rfl
@[simp] theorem State.setTracker_ptps (s : State) (k : Nat) (x : Tracker) : (s.setTracker k x).ptps = s.ptps := rfl
@[simp] theorem State.setTracker_dsets (s : State) (k : Nat) (x : Tracker) : (s.setTracker k x).dsets = s.dsets := rfl
@[simp] theorem State.setTracker_refs (s : State) (k : Nat) (x : Tracker) : (s.setTracker k x).refs = s.refs := rfl
@[simp] theorem State.setTracker_cands (s : State) (k : Nat) (x : Tracker) : (s.setTracker k x).cands = s.cands := rfl
@[simp] theorem State.setTracker_keys (s : State) (k : Nat) (x : Tracker) : (s.setTracker k x).keys = s.keys := rfl
@[simp] theorem State.setTracker_binds (s : State) (k : Nat) (x : Tracker) : (s.setTracker k x).binds = s.binds := rfl
@[simp] theorem State.setTracker_agent (s : State) (k : Nat) (x : Tracker) : (s.setTracker k x).agent = s.agent := rfl
@[simp] theorem State.setTracker_mbs (s : State) (k : Nat) (x : Tracker) : (s.setTracker k x).mbs = s.mbs := rfl
@[simp] theorem State.setTracker_posted (s : State) (k : Nat) (x : Tracker) : (s.setTracker k x).posted = s.posted := rfl
@[simp] theorem State.setTracker_txns (s : State) (k : Nat) (x : Tracker) : (s.setTracker k x).txns = s.txns := rfl
@[simp] theorem State.setTracker_journal (s : State) (k : Nat) (x : Tracker) : (s.setTracker k x).journal = s.journal := rfl
@[simp] theorem State.setTracker_glists (s : State) (k : Nat) (x : Tracker) : (s.setTracker k x).glists = s.glists := rfl
@[simp] theorem State.setTracker_gpends (s : State) (k : Nat) (x : Tracker) : (s.setTracker k x).gpends = s.gpends := rfl
@[simp] theorem State.setTracker_trgLate (s : State) (k : Nat) (x : Tracker) : (s.setTracker k x).trgLate = s.trgLate := rfl
@[simp] theorem State.setTracker_hlsLate (s : State) (k : Nat) (x : Tracker) : (s.setTracker k x).hlsLate = s.hlsLate := rfl
@[simp] theorem State.setTracker_snapPend (s : State) (k : Nat) (x : Tracker) : (s.setTracker k x).snapPend = s.snapPend := rfl
@[simp] theorem State.setTracker_out (s : State) (k : Nat) (x : Tracker) : (s.setTracker k x).out = s.out := rfl
@[simp] theorem State.setTracker_freeCount (s : State) (k : Nat) (x : Tracker) : (s.setTracker k x).freeCount = s.freeCount := rfl
@[simp] theorem State.setTracker_pending (s : State) (k : Nat) (x : Tracker) : (s.setTracker k x).pending = s.pending := rfl
@[simp] theorem State.setTracker_reg (s : State) (k : Nat) (x : Tracker) (a' : Nat) : (s.setTracker k x).reg a' = s.reg a' := rfl
@[simp] theorem State.setTracker_rd (s : State) (k : Nat) (x : Tracker) (g : Fld) : (s.setTracker k x).rd g = s.rd g := rfl
@[simp] theorem State.setTracker_bit (s : State) (k : Nat) (x : Tracker) (g : Fld) : (s.setTracker k x).bit g = s.bit g := rfl
@[simp] theorem State.setTracker_shaper (s : State) (k : Nat) (x : Tracker) (j : Nat) : (s.setTracker k x).shaper j = s.shaper j := rfl
@[simp] theorem State.setTracker_acct (s : State) (k : Nat) (x : Tracker) (j : Nat) : (s.setTracker k x).acct j = s.acct j := rfl
@[simp] theorem State.setTracker_reasm (s : State) (k : Nat) (x : Tracker) (j : Nat) : (s.setTracker k x).reasm j = s.reasm j := rfl
@[simp] theorem State.setTracker_egrQ (s : State) (k : Nat) (x : Tracker) (j : Nat) : (s.setTracker k x).egrQ j = s.egrQ j := rfl
@[simp] theorem State.setTracker_egr (s : State) (k : Nat) (x : Tracker) (j : Nat) : (s.setTracker k x).egr j = s.egr j := rfl
@[simp] theorem State.setTracker_wire (s : State) (k : Nat) (x : Tracker) (j : Nat) : (s.setTracker k x).wire j = s.wire j := rfl
@[simp] theorem State.setTracker_seqHist (s : State) (k : Nat) (x : Tracker) (j : Nat) : (s.setTracker k x).seqHist j = s.seqHist j := rfl
@[simp] theorem State.setTracker_bucket (s : State) (k : Nat) (x : Tracker) (j : Nat) : (s.setTracker k x).bucket j = s.bucket j := rfl
@[simp] theorem State.setTracker_mb (s : State) (k : Nat) (x : Tracker) (j : Nat) : (s.setTracker k x).mb j = s.mb j := rfl
@[simp] theorem State.setTracker_dom (s : State) (k : Nat) (x : Tracker) (j : Nat) : (s.setTracker k x).dom j = s.dom j := rfl
@[simp] theorem State.setTracker_eng (s : State) (k : Nat) (x : Tracker) (j : Nat) : (s.setTracker k x).eng j = s.eng j := rfl
@[simp] theorem State.setTracker_tout (s : State) (k : Nat) (x : Tracker) (j : Nat) : (s.setTracker k x).tout j = s.tout j := rfl
@[simp] theorem State.setTracker_tin (s : State) (k : Nat) (x : Tracker) (j : Nat) : (s.setTracker k x).tin j = s.tin j := rfl
@[simp] theorem State.setTracker_link (s : State) (k : Nat) (x : Tracker) (j : Nat) : (s.setTracker k x).link j = s.link j := rfl
@[simp] theorem State.setTracker_glist (s : State) (k : Nat) (x : Tracker) (j : Nat) : (s.setTracker k x).glist j = s.glist j := rfl
@[simp] theorem State.setTracker_gpend (s : State) (k : Nat) (x : Tracker) (j : Nat) : (s.setTracker k x).gpend j = s.gpend j := rfl
@[simp] theorem State.setTracker_ptp (s : State) (k : Nat) (x : Tracker) (j : Nat) : (s.setTracker k x).ptp j = s.ptp j := rfl
@[simp] theorem State.setTracker_ref (s : State) (k : Nat) (x : Tracker) (j : Nat) : (s.setTracker k x).ref j = s.ref j := rfl
@[simp] theorem State.setTracker_tdc (s : State) (k : Nat) (x : Tracker) (j : Nat) : (s.setTracker k x).tdc j = s.tdc j := rfl
@[simp] theorem State.setTracker_cal (s : State) (k : Nat) (x : Tracker) (j : Nat) : (s.setTracker k x).cal j = s.cal j := rfl
@[simp] theorem State.setTracker_ivl (s : State) (k : Nat) (x : Tracker) (j : Nat) : (s.setTracker k x).ivl j = s.ivl j := rfl
@[simp] theorem State.setTracker_cand (s : State) (k : Nat) (x : Tracker) (d' j : Nat) : (s.setTracker k x).cand d' j = s.cand d' j := rfl

/-! ## setCand -/

@[simp] theorem State.setCand_mode (s : State) (d k : Nat) (x : Cand) : (s.setCand d k x).mode = s.mode := rfl
@[simp] theorem State.setCand_role (s : State) (d k : Nat) (x : Cand) : (s.setCand d k x).role = s.role := rfl
@[simp] theorem State.setCand_regs (s : State) (d k : Nat) (x : Cand) : (s.setCand d k x).regs = s.regs := rfl
@[simp] theorem State.setCand_sys (s : State) (d k : Nat) (x : Cand) : (s.setCand d k x).sys = s.sys := rfl
@[simp] theorem State.setCand_clk (s : State) (d k : Nat) (x : Cand) : (s.setCand d k x).clk = s.clk := rfl
@[simp] theorem State.setCand_twin (s : State) (d k : Nat) (x : Cand) : (s.setCand d k x).twin = s.twin := rfl
@[simp] theorem State.setCand_clfAges (s : State) (d k : Nat) (x : Cand) : (s.setCand d k x).clfAges = s.clfAges := rfl
@[simp] theorem State.setCand_prv (s : State) (d k : Nat) (x : Cand) : (s.setCand d k x).prv = s.prv := rfl
@[simp] theorem State.setCand_pcie (s : State) (d k : Nat) (x : Cand) : (s.setCand d k x).pcie = s.pcie := rfl
@[simp] theorem State.setCand_bus (s : State) (d k : Nat) (x : Cand) : (s.setCand d k x).bus = s.bus := rfl
@[simp] theorem State.setCand_tb (s : State) (d k : Nat) (x : Cand) : (s.setCand d k x).tb = s.tb := rfl
@[simp] theorem State.setCand_orbNum (s : State) (d k : Nat) (x : Cand) : (s.setCand d k x).orbNum = s.orbNum := rfl
@[simp] theorem State.setCand_orbit (s : State) (d k : Nat) (x : Cand) : (s.setCand d k x).orbit = s.orbit := rfl
@[simp] theorem State.setCand_domains (s : State) (d k : Nat) (x : Cand) : (s.setCand d k x).domains = s.domains := rfl
@[simp] theorem State.setCand_engines (s : State) (d k : Nat) (x : Cand) : (s.setCand d k x).engines = s.engines := rfl
@[simp] theorem State.setCand_touts (s : State) (d k : Nat) (x : Cand) : (s.setCand d k x).touts = s.touts := rfl
@[simp] theorem State.setCand_tins (s : State) (d k : Nat) (x : Cand) : (s.setCand d k x).tins = s.tins := rfl
@[simp] theorem State.setCand_links (s : State) (d k : Nat) (x : Cand) : (s.setCand d k x).links = s.links := rfl
@[simp] theorem State.setCand_tdcs (s : State) (d k : Nat) (x : Cand) : (s.setCand d k x).tdcs = s.tdcs := rfl
@[simp] theorem State.setCand_cals (s : State) (d k : Nat) (x : Cand) : (s.setCand d k x).cals = s.cals := rfl
@[simp] theorem State.setCand_ivls (s : State) (d k : Nat) (x : Cand) : (s.setCand d k x).ivls = s.ivls := rfl
@[simp] theorem State.setCand_trackers (s : State) (d k : Nat) (x : Cand) : (s.setCand d k x).trackers = s.trackers := rfl
@[simp] theorem State.setCand_power (s : State) (d k : Nat) (x : Cand) : (s.setCand d k x).power = s.power := rfl
@[simp] theorem State.setCand_hub (s : State) (d k : Nat) (x : Cand) : (s.setCand d k x).hub = s.hub := rfl
@[simp] theorem State.setCand_slot (s : State) (d k : Nat) (x : Cand) : (s.setCand d k x).slot = s.slot := rfl
@[simp] theorem State.setCand_slotTb (s : State) (d k : Nat) (x : Cand) : (s.setCand d k x).slotTb = s.slotTb := rfl
@[simp] theorem State.setCand_voqs (s : State) (d k : Nat) (x : Cand) : (s.setCand d k x).voqs = s.voqs := rfl
@[simp] theorem State.setCand_accts (s : State) (d k : Nat) (x : Cand) : (s.setCand d k x).accts = s.accts := rfl
@[simp] theorem State.setCand_inters (s : State) (d k : Nat) (x : Cand) : (s.setCand d k x).inters = s.inters := rfl
@[simp] theorem State.setCand_egrFull (s : State) (d k : Nat) (x : Cand) : (s.setCand d k x).egrFull = s.egrFull := rfl
@[simp] theorem State.setCand_rr (s : State) (d k : Nat) (x : Cand) : (s.setCand d k x).rr = s.rr := rfl
@[simp] theorem State.setCand_wires (s : State) (d k : Nat) (x : Cand) : (s.setCand d k x).wires = s.wires := rfl
@[simp] theorem State.setCand_reasms (s : State) (d k : Nat) (x : Cand) : (s.setCand d k x).reasms = s.reasms := rfl
@[simp] theorem State.setCand_egrQs (s : State) (d k : Nat) (x : Cand) : (s.setCand d k x).egrQs = s.egrQs := rfl
@[simp] theorem State.setCand_nextId (s : State) (d k : Nat) (x : Cand) : (s.setCand d k x).nextId = s.nextId := rfl
@[simp] theorem State.setCand_egresses (s : State) (d k : Nat) (x : Cand) : (s.setCand d k x).egresses = s.egresses := rfl
@[simp] theorem State.setCand_shapers (s : State) (d k : Nat) (x : Cand) : (s.setCand d k x).shapers = s.shapers := rfl
@[simp] theorem State.setCand_buckets (s : State) (d k : Nat) (x : Cand) : (s.setCand d k x).buckets = s.buckets := rfl
@[simp] theorem State.setCand_seqHists (s : State) (d k : Nat) (x : Cand) : (s.setCand d k x).seqHists = s.seqHists := rfl
@[simp] theorem State.setCand_sgLog (s : State) (d k : Nat) (x : Cand) : (s.setCand d k x).sgLog = s.sgLog := rfl
@[simp] theorem State.setCand_rsvIgnored (s : State) (d k : Nat) (x : Cand) : (s.setCand d k x).rsvIgnored = s.rsvIgnored := rfl
@[simp] theorem State.setCand_rsvReq (s : State) (d k : Nat) (x : Cand) : (s.setCand d k x).rsvReq = s.rsvReq := rfl
@[simp] theorem State.setCand_ptps (s : State) (d k : Nat) (x : Cand) : (s.setCand d k x).ptps = s.ptps := rfl
@[simp] theorem State.setCand_dsets (s : State) (d k : Nat) (x : Cand) : (s.setCand d k x).dsets = s.dsets := rfl
@[simp] theorem State.setCand_refs (s : State) (d k : Nat) (x : Cand) : (s.setCand d k x).refs = s.refs := rfl
@[simp] theorem State.setCand_keys (s : State) (d k : Nat) (x : Cand) : (s.setCand d k x).keys = s.keys := rfl
@[simp] theorem State.setCand_binds (s : State) (d k : Nat) (x : Cand) : (s.setCand d k x).binds = s.binds := rfl
@[simp] theorem State.setCand_agent (s : State) (d k : Nat) (x : Cand) : (s.setCand d k x).agent = s.agent := rfl
@[simp] theorem State.setCand_mbs (s : State) (d k : Nat) (x : Cand) : (s.setCand d k x).mbs = s.mbs := rfl
@[simp] theorem State.setCand_posted (s : State) (d k : Nat) (x : Cand) : (s.setCand d k x).posted = s.posted := rfl
@[simp] theorem State.setCand_txns (s : State) (d k : Nat) (x : Cand) : (s.setCand d k x).txns = s.txns := rfl
@[simp] theorem State.setCand_journal (s : State) (d k : Nat) (x : Cand) : (s.setCand d k x).journal = s.journal := rfl
@[simp] theorem State.setCand_glists (s : State) (d k : Nat) (x : Cand) : (s.setCand d k x).glists = s.glists := rfl
@[simp] theorem State.setCand_gpends (s : State) (d k : Nat) (x : Cand) : (s.setCand d k x).gpends = s.gpends := rfl
@[simp] theorem State.setCand_trgLate (s : State) (d k : Nat) (x : Cand) : (s.setCand d k x).trgLate = s.trgLate := rfl
@[simp] theorem State.setCand_hlsLate (s : State) (d k : Nat) (x : Cand) : (s.setCand d k x).hlsLate = s.hlsLate := rfl
@[simp] theorem State.setCand_snapPend (s : State) (d k : Nat) (x : Cand) : (s.setCand d k x).snapPend = s.snapPend := rfl
@[simp] theorem State.setCand_out (s : State) (d k : Nat) (x : Cand) : (s.setCand d k x).out = s.out := rfl
@[simp] theorem State.setCand_freeCount (s : State) (d k : Nat) (x : Cand) : (s.setCand d k x).freeCount = s.freeCount := rfl
@[simp] theorem State.setCand_pending (s : State) (d k : Nat) (x : Cand) : (s.setCand d k x).pending = s.pending := rfl
@[simp] theorem State.setCand_reg (s : State) (d k : Nat) (x : Cand) (a' : Nat) : (s.setCand d k x).reg a' = s.reg a' := rfl
@[simp] theorem State.setCand_rd (s : State) (d k : Nat) (x : Cand) (g : Fld) : (s.setCand d k x).rd g = s.rd g := rfl
@[simp] theorem State.setCand_bit (s : State) (d k : Nat) (x : Cand) (g : Fld) : (s.setCand d k x).bit g = s.bit g := rfl
@[simp] theorem State.setCand_shaper (s : State) (d k : Nat) (x : Cand) (j : Nat) : (s.setCand d k x).shaper j = s.shaper j := rfl
@[simp] theorem State.setCand_acct (s : State) (d k : Nat) (x : Cand) (j : Nat) : (s.setCand d k x).acct j = s.acct j := rfl
@[simp] theorem State.setCand_reasm (s : State) (d k : Nat) (x : Cand) (j : Nat) : (s.setCand d k x).reasm j = s.reasm j := rfl
@[simp] theorem State.setCand_egrQ (s : State) (d k : Nat) (x : Cand) (j : Nat) : (s.setCand d k x).egrQ j = s.egrQ j := rfl
@[simp] theorem State.setCand_egr (s : State) (d k : Nat) (x : Cand) (j : Nat) : (s.setCand d k x).egr j = s.egr j := rfl
@[simp] theorem State.setCand_wire (s : State) (d k : Nat) (x : Cand) (j : Nat) : (s.setCand d k x).wire j = s.wire j := rfl
@[simp] theorem State.setCand_seqHist (s : State) (d k : Nat) (x : Cand) (j : Nat) : (s.setCand d k x).seqHist j = s.seqHist j := rfl
@[simp] theorem State.setCand_bucket (s : State) (d k : Nat) (x : Cand) (j : Nat) : (s.setCand d k x).bucket j = s.bucket j := rfl
@[simp] theorem State.setCand_mb (s : State) (d k : Nat) (x : Cand) (j : Nat) : (s.setCand d k x).mb j = s.mb j := rfl
@[simp] theorem State.setCand_dom (s : State) (d k : Nat) (x : Cand) (j : Nat) : (s.setCand d k x).dom j = s.dom j := rfl
@[simp] theorem State.setCand_eng (s : State) (d k : Nat) (x : Cand) (j : Nat) : (s.setCand d k x).eng j = s.eng j := rfl
@[simp] theorem State.setCand_tout (s : State) (d k : Nat) (x : Cand) (j : Nat) : (s.setCand d k x).tout j = s.tout j := rfl
@[simp] theorem State.setCand_tin (s : State) (d k : Nat) (x : Cand) (j : Nat) : (s.setCand d k x).tin j = s.tin j := rfl
@[simp] theorem State.setCand_link (s : State) (d k : Nat) (x : Cand) (j : Nat) : (s.setCand d k x).link j = s.link j := rfl
@[simp] theorem State.setCand_glist (s : State) (d k : Nat) (x : Cand) (j : Nat) : (s.setCand d k x).glist j = s.glist j := rfl
@[simp] theorem State.setCand_gpend (s : State) (d k : Nat) (x : Cand) (j : Nat) : (s.setCand d k x).gpend j = s.gpend j := rfl
@[simp] theorem State.setCand_ptp (s : State) (d k : Nat) (x : Cand) (j : Nat) : (s.setCand d k x).ptp j = s.ptp j := rfl
@[simp] theorem State.setCand_ref (s : State) (d k : Nat) (x : Cand) (j : Nat) : (s.setCand d k x).ref j = s.ref j := rfl
@[simp] theorem State.setCand_tdc (s : State) (d k : Nat) (x : Cand) (j : Nat) : (s.setCand d k x).tdc j = s.tdc j := rfl
@[simp] theorem State.setCand_cal (s : State) (d k : Nat) (x : Cand) (j : Nat) : (s.setCand d k x).cal j = s.cal j := rfl
@[simp] theorem State.setCand_ivl (s : State) (d k : Nat) (x : Cand) (j : Nat) : (s.setCand d k x).ivl j = s.ivl j := rfl
@[simp] theorem State.setCand_tracker (s : State) (d k : Nat) (x : Cand) (j : Nat) : (s.setCand d k x).tracker j = s.tracker j := rfl

/-! ## A part after its own update -/

@[simp] theorem State.shaper_setShaper_same (s : State) (k : Nat) (x : Shaper) : (s.setShaper k x).shaper k = x := storeGet_storeSet_same _ _ _ _
theorem State.shaper_setShaper_ne (s : State) {j k : Nat} (h : j ≠ k) (x : Shaper) : (s.setShaper k x).shaper j = s.shaper j := storeGet_storeSet_ne _ _ h _
@[simp] theorem State.acct_setAcct_same (s : State) (k : Nat) (x : Acct) : (s.setAcct k x).acct k = x := storeGet_storeSet_same _ _ _ _
theorem State.acct_setAcct_ne (s : State) {j k : Nat} (h : j ≠ k) (x : Acct) : (s.setAcct k x).acct j = s.acct j := storeGet_storeSet_ne _ _ h _
@[simp] theorem State.reasm_setReasm_same (s : State) (k : Nat) (x : Reasm) : (s.setReasm k x).reasm k = x := storeGet_storeSet_same _ _ _ _
theorem State.reasm_setReasm_ne (s : State) {j k : Nat} (h : j ≠ k) (x : Reasm) : (s.setReasm k x).reasm j = s.reasm j := storeGet_storeSet_ne _ _ h _
@[simp] theorem State.egrQ_setEgrQ_same (s : State) (k : Nat) (x : EgrQ) : (s.setEgrQ k x).egrQ k = x := storeGet_storeSet_same _ _ _ _
theorem State.egrQ_setEgrQ_ne (s : State) {j k : Nat} (h : j ≠ k) (x : EgrQ) : (s.setEgrQ k x).egrQ j = s.egrQ j := storeGet_storeSet_ne _ _ h _
@[simp] theorem State.egr_setEgr_same (s : State) (k : Nat) (x : Egress) : (s.setEgr k x).egr k = x := storeGet_storeSet_same _ _ _ _
theorem State.egr_setEgr_ne (s : State) {j k : Nat} (h : j ≠ k) (x : Egress) : (s.setEgr k x).egr j = s.egr j := storeGet_storeSet_ne _ _ h _
@[simp] theorem State.wire_setWire_same (s : State) (k : Nat) (x : List Cell) : (s.setWire k x).wire k = x := storeGet_storeSet_same _ _ _ _
theorem State.wire_setWire_ne (s : State) {j k : Nat} (h : j ≠ k) (x : List Cell) : (s.setWire k x).wire j = s.wire j := storeGet_storeSet_ne _ _ h _
@[simp] theorem State.seqHist_setSeqHist_same (s : State) (k : Nat) (x : SeqHist) : (s.setSeqHist k x).seqHist k = x := storeGet_storeSet_same _ _ _ _
theorem State.seqHist_setSeqHist_ne (s : State) {j k : Nat} (h : j ≠ k) (x : SeqHist) : (s.setSeqHist k x).seqHist j = s.seqHist j := storeGet_storeSet_ne _ _ h _
@[simp] theorem State.bucket_setBucket_same (s : State) (k : Nat) (x : Bucket) : (s.setBucket k x).bucket k = x := storeGet_storeSet_same _ _ _ _
theorem State.bucket_setBucket_ne (s : State) {j k : Nat} (h : j ≠ k) (x : Bucket) : (s.setBucket k x).bucket j = s.bucket j := storeGet_storeSet_ne _ _ h _
@[simp] theorem State.mb_setMb_same (s : State) (k : Nat) (x : Mb) : (s.setMb k x).mb k = x := storeGet_storeSet_same _ _ _ _
theorem State.mb_setMb_ne (s : State) {j k : Nat} (h : j ≠ k) (x : Mb) : (s.setMb k x).mb j = s.mb j := storeGet_storeSet_ne _ _ h _
@[simp] theorem State.dom_setDom_same (s : State) (k : Nat) (x : Domain) : (s.setDom k x).dom k = x := storeGet_storeSet_same _ _ _ _
theorem State.dom_setDom_ne (s : State) {j k : Nat} (h : j ≠ k) (x : Domain) : (s.setDom k x).dom j = s.dom j := storeGet_storeSet_ne _ _ h _
@[simp] theorem State.eng_setEng_same (s : State) (k : Nat) (x : Engine) : (s.setEng k x).eng k = x := storeGet_storeSet_same _ _ _ _
theorem State.eng_setEng_ne (s : State) {j k : Nat} (h : j ≠ k) (x : Engine) : (s.setEng k x).eng j = s.eng j := storeGet_storeSet_ne _ _ h _
@[simp] theorem State.tout_setTout_same (s : State) (k : Nat) (x : Tout) : (s.setTout k x).tout k = x := storeGet_storeSet_same _ _ _ _
theorem State.tout_setTout_ne (s : State) {j k : Nat} (h : j ≠ k) (x : Tout) : (s.setTout k x).tout j = s.tout j := storeGet_storeSet_ne _ _ h _
@[simp] theorem State.tin_setTin_same (s : State) (k : Nat) (x : Tin) : (s.setTin k x).tin k = x := storeGet_storeSet_same _ _ _ _
theorem State.tin_setTin_ne (s : State) {j k : Nat} (h : j ≠ k) (x : Tin) : (s.setTin k x).tin j = s.tin j := storeGet_storeSet_ne _ _ h _
@[simp] theorem State.link_setLink_same (s : State) (k : Nat) (x : Link) : (s.setLink k x).link k = x := storeGet_storeSet_same _ _ _ _
theorem State.link_setLink_ne (s : State) {j k : Nat} (h : j ≠ k) (x : Link) : (s.setLink k x).link j = s.link j := storeGet_storeSet_ne _ _ h _
@[simp] theorem State.glist_setGlist_same (s : State) (k : Nat) (x : Option GateList) : (s.setGlist k x).glist k = x := storeGet_storeSet_same _ _ _ _
theorem State.glist_setGlist_ne (s : State) {j k : Nat} (h : j ≠ k) (x : Option GateList) : (s.setGlist k x).glist j = s.glist j := storeGet_storeSet_ne _ _ h _
@[simp] theorem State.gpend_setGpend_same (s : State) (k : Nat) (x : Option GateList) : (s.setGpend k x).gpend k = x := storeGet_storeSet_same _ _ _ _
theorem State.gpend_setGpend_ne (s : State) {j k : Nat} (h : j ≠ k) (x : Option GateList) : (s.setGpend k x).gpend j = s.gpend j := storeGet_storeSet_ne _ _ h _
@[simp] theorem State.ptp_setPtp_same (s : State) (k : Nat) (x : PtpPort) : (s.setPtp k x).ptp k = x := storeGet_storeSet_same _ _ _ _
theorem State.ptp_setPtp_ne (s : State) {j k : Nat} (h : j ≠ k) (x : PtpPort) : (s.setPtp k x).ptp j = s.ptp j := storeGet_storeSet_ne _ _ h _
@[simp] theorem State.ref_setRef_same (s : State) (k : Nat) (x : Ref) : (s.setRef k x).ref k = x := storeGet_storeSet_same _ _ _ _
theorem State.ref_setRef_ne (s : State) {j k : Nat} (h : j ≠ k) (x : Ref) : (s.setRef k x).ref j = s.ref j := storeGet_storeSet_ne _ _ h _
@[simp] theorem State.tdc_setTdc_same (s : State) (k : Nat) (x : TdcChan) : (s.setTdc k x).tdc k = x := storeGet_storeSet_same _ _ _ _
theorem State.tdc_setTdc_ne (s : State) {j k : Nat} (h : j ≠ k) (x : TdcChan) : (s.setTdc k x).tdc j = s.tdc j := storeGet_storeSet_ne _ _ h _
@[simp] theorem State.cal_setCal_same (s : State) (k : Nat) (x : Option CalRun) : (s.setCal k x).cal k = x := storeGet_storeSet_same _ _ _ _
theorem State.cal_setCal_ne (s : State) {j k : Nat} (h : j ≠ k) (x : Option CalRun) : (s.setCal k x).cal j = s.cal j := storeGet_storeSet_ne _ _ h _
@[simp] theorem State.ivl_setIvl_same (s : State) (k : Nat) (x : Ivl) : (s.setIvl k x).ivl k = x := storeGet_storeSet_same _ _ _ _
theorem State.ivl_setIvl_ne (s : State) {j k : Nat} (h : j ≠ k) (x : Ivl) : (s.setIvl k x).ivl j = s.ivl j := storeGet_storeSet_ne _ _ h _
@[simp] theorem State.tracker_setTracker_same (s : State) (k : Nat) (x : Tracker) : (s.setTracker k x).tracker k = x := storeGet_storeSet_same _ _ _ _
theorem State.tracker_setTracker_ne (s : State) {j k : Nat} (h : j ≠ k) (x : Tracker) : (s.setTracker k x).tracker j = s.tracker j := storeGet_storeSet_ne _ _ h _
@[simp] theorem State.cand_setCand_same (s : State) (d k : Nat) (x : Cand) : (s.setCand d k x).cand d k = x := storeGet_storeSet_same _ _ _ _
theorem State.cand_setCand_ne (s : State) {d k d' k' : Nat} (h : 16 * d' + k' ≠ 16 * d + k) (x : Cand) : (s.setCand d k x).cand d' k' = s.cand d' k' := storeGet_storeSet_ne _ _ h _
@[simp] theorem State.reg_setReg_same (s : State) (a : Nat) (w : Word) : (s.setReg a w).reg a = w := storeGet_storeSet_same _ _ _ _
theorem State.reg_setReg_ne (s : State) {a b : Nat} (h : b ≠ a) (w : Word) : (s.setReg a w).reg b = s.reg b := storeGet_storeSet_ne _ _ h _

/-! ## Fields of registers -/

theorem State.reg_wr_same (s : State) (f : Fld) (v : Nat) : (s.wr f v).reg f.addr = f.put (s.reg f.addr) v := s.reg_setReg_same _ _
theorem State.reg_wr_ne (s : State) {f : Fld} {b : Nat} (h : b ≠ f.addr) (v : Nat) : (s.wr f v).reg b = s.reg b := s.reg_setReg_ne h _
theorem State.reg_setBit_ne (s : State) {f : Fld} {b : Nat} (h : b ≠ f.addr) (v : Bool) : (s.setBit f v).reg b = s.reg b := s.reg_setReg_ne h _

/-- A field reads as it was written, modulo its width. -/
theorem State.rd_wr_same (s : State) (f : Fld) (hf : f.lo + f.width ≤ 32) (v : Nat) : (s.wr f v).rd f = v % 2 ^ f.width := by
  unfold State.rd
  rw [State.reg_wr_same, Fld.get_put_same f hf]

/-- A field of another word is left. -/
theorem State.rd_wr_ne (s : State) {f g : Fld} (h : g.addr ≠ f.addr) (v : Nat) : (s.wr f v).rd g = s.rd g := by
  unfold State.rd
  rw [State.reg_wr_ne s h]

/-- A disjoint field of the same word is left. -/
theorem State.rd_wr_disjoint (s : State) {f g : Fld} (ha : g.addr = f.addr) (hf : f.lo + f.width ≤ 32)
    (h : f.lo + f.width ≤ g.lo ∨ g.lo + g.width ≤ f.lo) (v : Nat) : (s.wr f v).rd g = s.rd g := by
  unfold State.rd
  rw [ha, State.reg_wr_same]
  rcases h with h | h
  · exact Fld.get_put_above f g hf h _ _
  · exact Fld.get_put_below f g hf h _ _

/-- A one-bit field reads as it was set. -/
theorem State.bit_setBit_same (s : State) (f : Fld) (hw : f.width = 1) (hf : f.lo < 32) (b : Bool) : (s.setBit f b).bit f = b := by
  unfold State.bit State.setBit
  rw [State.rd_wr_same s f (by omega), hw]
  cases b <;> rfl

/-! ## The canonical form of the registers -/

theorem State.setReg_regsOk (s : State) (a : Nat) (w : Word) (h : storeWf resetWord s.regs = true) :
    storeWf resetWord (s.setReg a w).regs = true := storeWf_storeSet _ _ _ h
theorem State.wr_regsOk (s : State) (f : Fld) (v : Nat) (h : storeWf resetWord s.regs = true) :
    storeWf resetWord (s.wr f v).regs = true := s.setReg_regsOk _ _ h
theorem State.setBit_regsOk (s : State) (f : Fld) (b : Bool) (h : storeWf resetWord s.regs = true) :
    storeWf resetWord (s.setBit f b).regs = true := s.wr_regsOk _ _ h

end Sys2Proof.Machine
end

