-- ==== Sys2Proof/Laws/Ops.lean ====
section
/-! SUPPORT. What the shared operations can do: those that touch registers only, and those that touch registers, interrupt lines and outputs only. From `OnlyRegs` or `OnlyBus` every other part of the state reads as before by `h.<part>`. -/

namespace Sys2Proof.Machine

/-! ## Registers only -/

theorem OnlyRegs.refl (s : State) : OnlyRegs s s := ⟨_, rfl⟩
theorem OnlyRegs.trans {s t u : State} (h : OnlyRegs s t) (k : OnlyRegs t u) : OnlyRegs s u := by
  obtain ⟨r, rfl⟩ := h
  obtain ⟨r', rfl⟩ := k
  exact ⟨r', rfl⟩
theorem OnlyRegs.bus {s t : State} (h : OnlyRegs s t) : OnlyBus s t := by
  obtain ⟨r, rfl⟩ := h
  exact ⟨r, _, _, rfl⟩
theorem OnlyRegs.setReg (s : State) (a : Nat) (w : Word) : OnlyRegs s (s.setReg a w) := ⟨_, rfl⟩
theorem OnlyRegs.wr (s : State) (f : Fld) (v : Nat) : OnlyRegs s (s.wr f v) := ⟨_, rfl⟩
theorem OnlyRegs.setBit (s : State) (f : Fld) (b : Bool) : OnlyRegs s (s.setBit f b) := ⟨_, rfl⟩

theorem OnlyRegs.setWords (s : State) (a : Nat) (ws : List Word) : OnlyRegs s (s.setWords a ws) := by
  induction ws generalizing s a with
  | nil => exact OnlyRegs.refl s
  | cons w t ih => exact (OnlyRegs.setReg s a w).trans (ih _ _)

theorem OnlyRegs.setCtr (s : State) (c : Ctr) (v : Nat) : OnlyRegs s (s.setCtr c v) := by
  unfold State.setCtr
  split
  · exact OnlyRegs.wr s _ _
  · exact (OnlyRegs.wr s _ _).trans (OnlyRegs.wr _ _ _)

/-! ## Registers, lines and outputs -/

theorem OnlyBus.refl (s : State) : OnlyBus s s := ⟨_, _, _, rfl⟩
theorem OnlyBus.trans {s t u : State} (h : OnlyBus s t) (k : OnlyBus t u) : OnlyBus s u := by
  obtain ⟨r, p, o, rfl⟩ := h
  obtain ⟨r', p', o', rfl⟩ := k
  exact ⟨r', p', o', rfl⟩
theorem OnlyBus.emit (s : State) (o : Out) : OnlyBus s (s.emit o) := ⟨_, _, _, rfl⟩

theorem OnlyBus.deliver (s : State) (v : Nat) : OnlyBus s (s.deliver v) := by
  unfold State.deliver
  split
  · exact OnlyBus.refl s
  · split
    · exact (OnlyRegs.setBit s _ _).bus
    · exact (OnlyRegs.setBit s _ _).bus.trans (OnlyBus.emit _ _)

theorem OnlyBus.syncVec (s : State) (v : Nat) : OnlyBus s (s.syncVec v) := by
  unfold State.syncVec
  simp only
  split
  · split
    · exact OnlyBus.refl s
    · exact OnlyBus.trans (⟨_, _, _, rfl⟩ : OnlyBus s { s with pcie := { s.pcie with lines := s.pcie.lines ||| BitVec.twoPow 64 v } }) (OnlyBus.deliver _ v)
  · split
    · exact OnlyBus.trans (⟨_, _, _, rfl⟩ : OnlyBus s { s with pcie := { s.pcie with lines := s.pcie.lines &&& ~~~(BitVec.twoPow 64 v) } }) (OnlyRegs.setBit _ _ _).bus
    · exact OnlyBus.refl s

theorem OnlyBus.overflowed (s : State) (c : Ctr) : OnlyBus s (s.overflowed c) := by
  unfold State.overflowed
  dsimp only
  refine OnlyBus.trans (OnlyRegs.setBit s c.sticky true).bus ?_
  split
  · exact (OnlyRegs.setBit _ _ _).bus.trans (OnlyBus.syncVec _ _)
  · exact OnlyBus.refl _

theorem OnlyBus.countBy (s : State) (c : Ctr) (n : Nat) : OnlyBus s (s.countBy c n) := by
  unfold State.countBy
  simp only
  split
  · exact OnlyBus.refl s
  · split
    · split
      · exact OnlyBus.refl s
      · split
        · exact (OnlyRegs.setCtr s c _).bus.trans (OnlyBus.overflowed _ _)
        · exact (OnlyRegs.setCtr s c _).bus
    · split
      · exact (OnlyRegs.setCtr s c _).bus.trans (OnlyBus.overflowed _ _)
      · exact (OnlyRegs.setCtr s c _).bus

theorem OnlyBus.count (s : State) (c : Ctr) : OnlyBus s (s.count c) := OnlyBus.countBy s c 1

theorem OnlyBus.logAs (s : State) (src sev : Nat) (int : Bool) (code p0 p1 : Nat) : OnlyBus s (s.logAs src sev int code p0 p1) := by
  unfold State.logAs
  dsimp only
  refine OnlyBus.trans ?_ (OnlyRegs.wr _ _ _).bus
  refine (OnlyRegs.setWords s (evlAddr (s.rd R.EVL_HEAD_INDEX) 0) (evlWords s (s.rd R.EVL_HEAD_INDEX) code src sev int p0 p1)).bus.trans ?_
  split
  · exact (OnlyBus.count _ _).trans (OnlyRegs.wr _ _ _).bus
  · exact OnlyBus.refl _

theorem OnlyBus.log (s : State) (code p0 p1 : Nat) : OnlyBus s (s.log code p0 p1) := OnlyBus.logAs s _ _ _ _ _ _

theorem OnlyBus.putSample (s : State) (ws : List Word) : OnlyBus s (s.putSample ws) := by
  unfold State.putSample
  simp only
  split
  · exact OnlyBus.refl s
  · split
    · exact OnlyBus.count s _
    · exact (OnlyRegs.wr s _ _).bus.trans (OnlyBus.emit _ _)

theorem OnlyBus.sampleDone (s : State) (e : Nat) (t : Option Tag) : OnlyBus s (s.sampleDone e t) := by
  unfold State.sampleDone
  split
  · exact OnlyBus.refl s
  · exact OnlyBus.putSample s _

/-- A change of mode reaches its mode, and otherwise touches registers, lines, outputs and the instant of entry to the forwarding modes. -/
theorem State.toMode_cases (s : State) (m : Mode) (cause detail : Nat) :
    (s.mode = m ∧ s.toMode m cause detail = s) ∨
    (s.mode ≠ m ∧ ∃ since r p o, s.toMode m cause detail =
      { s with mode := m, regs := r, pcie := p, out := o, sys := { s.sys with fwdSince := since } }) := by
  unfold State.toMode
  split
  · rename_i h
    exact .inl ⟨h, rfl⟩
  · rename_i h
    refine .inr ⟨h, ?_⟩
    obtain ⟨r, p, o, hr⟩ := OnlyBus.log s 1 (s.mode.code + 16 * m.code) (cause % 256 + 256 * (detail % 256))
    dsimp only
    rw [hr]
    generalize (if m.fwd = true then (if s.mode.fwd = true then s.sys.fwdSince else some s.tb) else none) = since
    obtain ⟨r', p', o', h'⟩ := OnlyBus.syncVec (State.setBit { s with mode := m, regs := r, pcie := p, out := o, sys := { s.sys with fwdSince := since } } R.GLB_ISRC_MODE true) 1
    exact ⟨since, r', p', o', h'⟩

@[simp] theorem State.toMode_mode (s : State) (m : Mode) (cause detail : Nat) : (s.toMode m cause detail).mode = m := by
  rcases s.toMode_cases m cause detail with ⟨h, e⟩ | ⟨_, _, _, _, _, e⟩ <;> rw [e]
  exact h

end Sys2Proof.Machine
end

