-- ==== Sys2Proof/Laws/Engine.lean ====
section
/-! SUPPORT. What the shared operations of the engines can do: an instruction issued, an action issued, a run stopped. -/

namespace Sys2Proof.Machine

theorem OnlyBus.eng {s t : State} (h : OnlyBus s t) (k : Nat) : t.eng k = s.eng k := by
  obtain ⟨_, _, _, rfl⟩ := h; rfl

/-- A state that differs in engines, registers, lines and outputs only. -/
def OnlyEng (s t : State) : Prop := ∃ en r p o, t = { s with engines := en, regs := r, pcie := p, out := o }

theorem OnlyEng.refl (s : State) : OnlyEng s s := ⟨_, _, _, _, rfl⟩
theorem OnlyEng.trans {s t u : State} (h : OnlyEng s t) (k : OnlyEng t u) : OnlyEng s u := by
  obtain ⟨a, b, c, d, rfl⟩ := h
  obtain ⟨a', b', c', d', rfl⟩ := k
  exact ⟨a', b', c', d', rfl⟩
theorem OnlyEng.setEng (s : State) (e : Nat) (E : Engine) : OnlyEng s (s.setEng e E) := ⟨_, _, _, _, rfl⟩
theorem OnlyBus.onlyEng {s t : State} (h : OnlyBus s t) : OnlyEng s t := by
  obtain ⟨r, p, o, rfl⟩ := h
  exact ⟨_, r, p, o, rfl⟩
theorem OnlyEng.eq {s t : State} (h : OnlyEng s t) : t = { s with engines := t.engines, regs := t.regs, pcie := t.pcie, out := t.out } := by
  obtain ⟨a, b, c, d, rfl⟩ := h
  rfl

theorem OnlyEng.sampleAct (s : State) (e : Nat) (a : Act) (d : Option Nat) (x : Int) : OnlyEng s (s.sampleAct e a d x) := by
  unfold State.sampleAct
  split
  · exact OnlyEng.refl s
  · exact (OnlyEng.setEng s _ _).trans (OnlyBus.putSample _ _).onlyEng

theorem OnlyEng.sampleDiscard (s : State) (e c : Nat) (l : List Act) : OnlyEng s (s.sampleDiscard e c l) := by
  unfold State.sampleDiscard
  induction l generalizing s with
  | nil => exact OnlyEng.refl s
  | cons a t ih => exact (OnlyEng.sampleAct s e a _ _).trans (ih _)

theorem OnlyEng.noteCyc (s : State) (e n : Nat) : OnlyEng s (s.noteCyc e n) := by
  unfold State.noteCyc
  split
  · exact (OnlyRegs.wr s _ _).bus.onlyEng
  · exact OnlyEng.refl s

theorem OnlyEng.abandonRun (s : State) (e n : Nat) : OnlyEng s (s.abandonRun e n) := by
  unfold State.abandonRun
  exact (((OnlyEng.sampleDiscard s e 1 _).trans (OnlyBus.countBy _ _ _).onlyEng).trans (OnlyEng.noteCyc _ _ _)).trans (OnlyEng.setEng _ _ _)

theorem OnlyEng.engFault (s : State) (e c f : Nat) : OnlyEng s (s.engFault e c f) := by
  unfold State.engFault
  dsimp only
  refine OnlyEng.trans ?_ (OnlyBus.syncVec _ _).onlyEng
  have h : OnlyEng s (((((s.abandonRun e (s.eng e).cyc).count (.eng e 2)).setBit (R.ENG_STAT_FAULT e) true).wr (R.ENG_STAT_FCODE e) c).wr (R.ENG_STAT_FPC e) f) :=
    ((OnlyEng.abandonRun s e _).trans (OnlyBus.count _ _).onlyEng).trans
      (((OnlyRegs.setBit _ _ _).trans (OnlyRegs.wr _ _ _)).trans (OnlyRegs.wr _ _ _)).bus.onlyEng
  split
  · exact h
  · exact h.trans (OnlyEng.setEng _ _ _)

/-- The issue of an instruction changes the sampler's part of its engine only, and nothing where the engine is not sampled. -/
theorem State.sampleIssue_cases (s : State) (e op : Nat) :
    (s.sampling e = false ∧ s.sampleIssue e op = (s, none)) ∨
    (s.sampling e = true ∧ ∃ l, (s.sampleIssue e op).1 = s.setEng e { s.eng e with lfsr := l }) := by
  unfold State.sampleIssue
  cases h : s.sampling e
  · left; simp
  · right; exact ⟨rfl, lfsrNext (s.eng e).lfsr, by simp⟩

theorem State.sampleIssue_eng (s : State) (e op : Nat) :
    ∃ l, (s.sampleIssue e op).1.eng e = { s.eng e with lfsr := l } := by
  rcases s.sampleIssue_cases e op with ⟨_, h⟩ | ⟨_, l, h⟩
  · exact ⟨(s.eng e).lfsr, by rw [h]⟩
  · exact ⟨l, by rw [h, State.eng_setEng_same]⟩

theorem State.sampleIssue_other (s : State) (e op k : Nat) (hk : k ≠ e) : (s.sampleIssue e op).1.eng k = s.eng k := by
  rcases s.sampleIssue_cases e op with ⟨_, h⟩ | ⟨_, l, h⟩
  · rw [h]
  · rw [h, State.eng_setEng_ne _ hk]

theorem OnlyEng.sampleIssue (s : State) (e op : Nat) : OnlyEng s (s.sampleIssue e op).1 := by
  rcases s.sampleIssue_cases e op with ⟨_, h⟩ | ⟨_, l, h⟩
  · rw [h]; exact OnlyEng.refl s
  · rw [h]; exact OnlyEng.setEng s _ _

/-- An instruction that goes on at the next address. -/
theorem State.issue_seq (s : State) (e : Fin 9) (op : Nat) (f : Engine → EngRes) (E' : Engine) (n : Nat)
    (hI : Issues s e) (hE : E'.pc = (s.eng e).pc)
    (hf : ∀ l, f { s.eng e with lfsr := l } = .seq { E' with lfsr := l } n) :
    EngBecomes s (s.issue e op true f) e { E' with cyc := (s.eng e).cyc + n, pc := (s.eng e).pc + 1 } := by
  obtain ⟨hc, hp⟩ := hI
  unfold State.issue
  simp only [hc, Bool.not_true, Bool.false_eq_true, if_false]
  obtain ⟨l, hl⟩ := s.sampleIssue_eng e op
  rw [hl, hf l]
  dsimp only
  have hb := OnlyBus.sampleDone (((s.sampleIssue e op).1).setEng e { E' with lfsr := l, cyc := (s.eng e).cyc + n }) e (s.sampleIssue e op).2
  have hu : (((s.sampleIssue e op).1.setEng e { E' with lfsr := l, cyc := (s.eng e).cyc + n }).sampleDone e (s.sampleIssue e op).2).eng e =
      { E' with lfsr := l, cyc := (s.eng e).cyc + n } := by rw [hb.eng, State.eng_setEng_same]
  unfold State.advance
  dsimp only
  rw [hu, if_neg (by dsimp only; omega)]
  refine ⟨⟨l, E'.tagged, ?_⟩, fun k hk => ?_, ?_, fun hs => ?_⟩
  · rw [State.eng_setEng_same]; simp only [hE]
  · rw [State.eng_setEng_ne _ hk, hb.eng, State.eng_setEng_ne _ hk, s.sampleIssue_other e op k hk]
  · exact OnlyEng.eq ((((OnlyEng.sampleIssue s e op).trans (OnlyEng.setEng _ _ _)).trans hb.onlyEng).trans (OnlyEng.setEng _ _ _))
  · rcases s.sampleIssue_cases e op with ⟨_, h⟩ | ⟨h, _⟩
    · rw [h]; exact ⟨rfl, rfl, rfl⟩
    · rw [hs] at h; cases h

/-- An instruction that goes on at an address of its own. -/
theorem State.issue_jump (s : State) (e : Fin 9) (op : Nat) (f : Engine → EngRes) (E' : Engine) (n pc : Nat)
    (hc : (s.eng e).canIssue = true) (hf : ∀ l, f { s.eng e with lfsr := l } = .jump { E' with lfsr := l } pc n) :
    EngBecomes s (s.issue e op true f) e { E' with cyc := (s.eng e).cyc + n, pc := pc } := by
  unfold State.issue
  simp only [hc, Bool.not_true, Bool.false_eq_true, if_false]
  obtain ⟨l, hl⟩ := s.sampleIssue_eng e op
  rw [hl, hf l]
  dsimp only
  have hb := OnlyBus.sampleDone (((s.sampleIssue e op).1).setEng e { E' with lfsr := l, cyc := (s.eng e).cyc + n, pc := pc }) e (s.sampleIssue e op).2
  refine ⟨⟨l, E'.tagged, ?_⟩, fun k hk => ?_, ?_, fun hs => ?_⟩
  · rw [hb.eng, State.eng_setEng_same]
  · rw [hb.eng, State.eng_setEng_ne _ hk, s.sampleIssue_other e op k hk]
  · exact OnlyEng.eq (((OnlyEng.sampleIssue s e op).trans (OnlyEng.setEng _ _ _)).trans hb.onlyEng)
  · rcases s.sampleIssue_cases e op with ⟨_, h⟩ | ⟨h, _⟩
    · rw [h]; exact ⟨rfl, rfl, rfl⟩
    · rw [hs] at h; cases h

end Sys2Proof.Machine
end

