-- ==== Sys2Proof/Tests/Slice0.lean ====
section
/-! SUPPORT. The author's tests: ill-formed commands that the check refuses, engine words written out from the formats, one result or refusal of some commands, and for every statement with hypotheses a state and operands that meet them. -/

open Sys2Proof Sys2Proof.Machine

namespace Sys2Proof.Tests
set_option Elab.async false

/-! ## Ill-formed commands are refused -/

def pkt0 : Pkt := { dst := 0x0180C2000001, src := 2, vlans := [], rtag := none, hsr := none, prp := none, etype := 0x88B5, ip := none, prov := none, ptp := none, body := [] }
def rx0 : RxFrame := { pkt := pkt0, len := 64, fcsOk := true, macErr := false, code := 0, bitPos := 0 }
def boot0 : BootResult := { romOk := true, ramOk := true, fuses := [], fails := [], ns := 0 }
def cmd (p : Fin 4) (ws : List Word) : MbCmd := ⟨p, true, ws⟩

theorem test_wf_reset_pulse : (Instr.resetN 99 0 false).wellFormed = false ∧ (Instr.resetN 100 0 false).wellFormed = true := by decide
theorem test_wf_fuses : (Instr.bootComplete { boot0 with fuses := List.replicate 129 0 }).wellFormed = false ∧ (Instr.bootComplete boot0).wellFormed = true := by decide +kernel
theorem test_wf_thermal : (Instr.thermalAlarm 0 399).wellFormed = false ∧ (Instr.thermalTrip 8 447).wellFormed = false ∧
    (Instr.thermalAlarmClear (List.replicate 8 0)).wellFormed = false ∧ (Instr.thermalAlarmClear (List.replicate 9 380)).wellFormed = false ∧
    (Instr.thermalAlarmClear (List.replicate 9 379)).wellFormed = true := by decide
theorem test_wf_agent : (Instr.agentFrame 0 1 (List.replicate 257 0) (List.replicate 16 0)).wellFormed = false ∧ (Instr.agentFrame 0 1 [] (List.replicate 15 0)).wellFormed = false ∧
    (Instr.agentFrame 0 1 [] (List.replicate 16 0)).wellFormed = true := by decide +kernel
theorem test_wf_relay : (Instr.relayMessage (List.replicate 1025 0)).wellFormed = false ∧ (Instr.relayResponse 0 (List.replicate 1025 0)).wellFormed = false := by decide +kernel
theorem test_wf_record : (cmd 1 (List.replicate 129 0)).wellFormed = false ∧ (cmd 0 (List.replicate 129 0)).wellFormed = true ∧ (Instr.keyLoad (cmd 1 (List.replicate 129 0))).wellFormed = false := by decide +kernel
theorem test_wf_frame : frameOk { rx0 with len := 17 } = false ∧ frameOk { rx0 with pkt := { pkt0 with vlans := List.replicate 3 ⟨false, 0, false, 1⟩ } } = false ∧
    frameOk { rx0 with pkt := { pkt0 with rtag := some ⟨0, 0⟩, hsr := some ⟨0, 0, 0⟩ } } = false ∧ (Instr.frameReceive 0 .whole { rx0 with len := 17 } false).wellFormed = false ∧
    (Instr.ptpFrameReceive 0 rx0 false).wellFormed = false ∧ (Instr.frameReceive 0 .whole rx0 false).wellFormed = true := by decide
theorem test_wf_addresses : (Instr.rawTableWrite 2 0).wellFormed = false ∧ (Instr.rawTableWrite 0x8000000 0).wellFormed = false ∧ (Instr.counterHighWrite 6 0).wellFormed = false ∧
    (Instr.counterLowWrite 0x8000000 0).wellFormed = false ∧ (Instr.latchingRead 1).wellFormed = false ∧ (Instr.registerWrite 1 0x40000 15 0).wellFormed = false ∧
    (Instr.registerWrite 2 0x4000 15 0).wellFormed = false ∧ (Instr.mbusRead 5 0x10000 false).wellFormed = false ∧ (Instr.counterLowRead 0 0x8000001).wellFormed = false ∧
    (Instr.clockGateForce 5 3 true).wellFormed = false ∧ (Instr.registerWrite 0 0x7FFFFFC 15 0).wellFormed = true := by decide
theorem test_wf_counts : (Instr.calCollectEnd 0 (List.replicate 511 0) false).wellFormed = false ∧ (Instr.calInplaceEnd 9 [] false).wellFormed = false := by decide +kernel
theorem test_wf_slots : (Instr.refSelect 0 [⟨3, true, 0⟩, ⟨3, false, 0⟩]).wellFormed = false ∧ (Instr.refSelect 0 [⟨3, true, 0⟩, ⟨4, false, 0⟩]).wellFormed = true := by decide

/-! ## Engine words (Tables 5-7 to 5-11), written field by field from the highest bit -/

theorem test_word_plain : decodeEngine 0 (0x00#6 ++ 0#58) = .ok (.nop 0 ⟨0⟩) ∧ decodeEngine 0 (0x01#6 ++ 0#58) = .ok (.endRun 0 ⟨0⟩) ∧ decodeEngine 8 (0x0B#6 ++ 0#58) = .ok (.ret 8 ⟨0⟩) := by decide
-- OP 4, FN, GD, GA, GB, I, reserved, IMM
theorem test_word_alu : decodeEngine 1 (0x04#6 ++ 0#4 ++ 1#4 ++ 2#4 ++ 3#4 ++ 0#1 ++ 0#9 ++ 0#32) = .ok (.add 1 ⟨1, 2, 3, false, 0, 0⟩) ∧
    decodeEngine 1 (0x04#6 ++ 7#4 ++ 15#4 ++ 14#4 ++ 0#4 ++ 1#1 ++ 0#9 ++ 31#32) = .ok (.sar 1 ⟨15, 14, 0, true, 31, 0⟩) ∧
    decodeEngine 1 (0x04#6 ++ 10#4 ++ 4#4 ++ 5#4 ++ 6#4 ++ 0#1 ++ 0#9 ++ 0#32) = .ok (.maxu 1 ⟨4, 5, 6, false, 0, 0⟩) := by decide
theorem test_word_alu_illegal : decodeEngine 1 (0x04#6 ++ 11#4 ++ 0#54) = .error 2 ∧ decodeEngine 1 (0x08#6 ++ 9#4 ++ 0#54) = .error 2 ∧ decodeEngine 1 (0x02#6 ++ 0#58) = .error 1 := by decide
theorem test_word_movi : decodeEngine 2 (0x05#6 ++ 0#4 ++ 9#4 ++ 0#18 ++ 0xDEADBEEF#32) = .ok (.movi 2 ⟨9, 0xDEADBEEF, 0, 0⟩) := by decide
-- OP 8, CC, GA, GB, I, reserved, TGT, IMM
theorem test_word_branch : decodeEngine 2 (0x08#6 ++ 0#4 ++ 0#4 ++ 0#4 ++ 0#1 ++ 0#1 ++ 0xFFF#12 ++ 0#32) = .ok (.jmp 2 ⟨0, 0, false, 0xFFF, 0, 0⟩) ∧
    decodeEngine 2 (0x08#6 ++ 8#4 ++ 1#4 ++ 2#4 ++ 0#1 ++ 0#1 ++ 5#12 ++ 0#32) = .ok (.bnone 2 ⟨1, 2, false, 5, 0, 0⟩) := by decide
theorem test_word_dbnz_call : decodeEngine 2 (0x09#6 ++ 0#4 ++ 3#4 ++ 0#6 ++ 0x123#12 ++ 0#32) = .ok (.dbnz 2 ⟨3, 0x123, 0, 0, 0⟩) ∧
    decodeEngine 2 (0x0A#6 ++ 0#14 ++ 0x456#12 ++ 0#32) = .ok (.call 2 ⟨0x456, 0, 0⟩) := by decide
theorem test_word_load : decodeEngine 2 (0x0C#6 ++ 0#4 ++ 1#4 ++ 2#4 ++ 0#1 ++ 0#33 ++ 0x0AB#12) = .ok (.ldL 2 ⟨1, 2, 0x0AB, 0, 0⟩) ∧
    decodeEngine 2 (0x0C#6 ++ 0#4 ++ 1#4 ++ 2#4 ++ 1#1 ++ 0#33 ++ 0x0AB#12) = .ok (.ldH 2 ⟨1, 2, 0x0AB, 0, 0⟩) := by decide
theorem test_word_get_put_evt : decodeEngine 2 (0x10#6 ++ 0#4 ++ 7#4 ++ 0#42 ++ 0x0D#8) = .ok (.get 2 ⟨7, 0x0D, 0, 0⟩) ∧
    decodeEngine 2 (0x11#6 ++ 0#4 ++ 7#4 ++ 0#48 ++ 3#2) = .ok (.put 2 ⟨7, 3, 0, 0⟩) ∧
    decodeEngine 2 (0x12#6 ++ 0#41 ++ 1#1 ++ 0x8001#16) = .ok (.evt 2 ⟨true, 0x8001, 0⟩) := by decide
-- OP, GO, OR, PARAM, OFF
theorem test_word_actions : decodeEngine 7 (0x20#6 ++ 5#4 ++ 1#1 ++ 63#6 ++ 0x80#8 ++ 2#2 ++ 0#7 ++ 9#30) = .ok (.gate 7 ⟨5, true, 9, 63, 0x80, 2, 0⟩) ∧
    decodeEngine 7 (0x21#6 ++ 0#4 ++ 0#1 ++ 255#8 ++ 1#1 ++ 0#14 ++ 9#30) = .ok (.sgate 7 ⟨0, false, 9, 255, true, 0⟩) ∧
    decodeEngine 7 (0x22#6 ++ 0#4 ++ 0#1 ++ 56#6 ++ 7#3 ++ 0#14 ++ 9#30) = .ok (.launch 7 ⟨0, false, 9, 56, 7, 0⟩) ∧
    decodeEngine 7 (0x23#6 ++ 0#4 ++ 0#1 ++ 57#6 ++ 0xA5#8 ++ 0#9 ++ 9#30) = .ok (.inj 7 ⟨0, false, 9, 57, 0xA5, 0⟩) := by decide
theorem test_word_actions_orbit : decodeEngine 8 (0x24#6 ++ 0#4 ++ 0#1 ++ 5#3 ++ 1#1 ++ 33#6 ++ 1#1 ++ 0#12 ++ 9#30) = .ok (.tout 8 ⟨0, false, 9, 5, true, 33, true, 0⟩) ∧
    decodeEngine 8 (0x25#6 ++ 0#4 ++ 0#1 ++ 6#3 ++ 4#3 ++ 0#17 ++ 9#30) = .ok (.capt 8 ⟨0, false, 9, 6, 4, 0⟩) ∧
    decodeEngine 8 (0x26#6 ++ 0#4 ++ 0#1 ++ 63#8 ++ 0#15 ++ 9#30) = .ok (.mark 8 ⟨0, false, 9, 63, 0⟩) ∧
    decodeEngine 8 (0x27#6 ++ 15#4 ++ 1#1 ++ 0#23 ++ 0x3FFFFFFF#30) = .ok (.rswap 8 ⟨15, true, 0x3FFFFFFF, 0⟩) := by decide

/-! ## Witnesses: engines, runs and actions -/

def run0 : Engine := { started := true, running := true, budget := 100 }
def engS (e : Fin 9) (E : Engine) : State := State.reset.setEng e E

/-- `IdleStepRunsFetchedWord`: engine 3 at its first ENG cycle, on a NOP and on an undefined word. -/
def idleS : State :=
  { (engS 3 run0).setDom 0 { time := 100 * nsUnit } with tb := 100, sys := { timebase := true }, orbit := { begun := true, next := 125000 * 4294967296 }, mode := .free }
theorem wit_idle_step : ∀ s ∈ [idleS, idleS.setReg (bankAddr 3 false 0 + 4) 0x08000000], s.pending = [] ∧ s.posted = [] ∧ s.resetDue = false ∧ s.actDue = none ∧ s.orbitDue = false ∧ s.sealDue = false ∧
    s.selfDue = none ∧ s.engDue = some 3 ∧ (s.eng 3).canIssue = true := by decide +kernel
theorem wit_idle_step_words : decodeEngine 3 (idleS.bankWord 3 0) = .ok (.nop 3 ⟨0⟩) ∧
    decodeEngine 3 ((idleS.setReg (bankAddr 3 false 0 + 4) 0x08000000).bankWord 3 0) = .error 1 := by decide +kernel
theorem wit_words : encodeEngine (.mul 8 ⟨15, 15, 15, true, 0xFFFFFFFF, 511⟩) = some (8, 0x123FFFFFFFFFFFFF) ∧
    decodeEngine 8 0x123FFFFFFFFFFFFF = .ok (.mul 8 ⟨15, 15, 15, true, 0xFFFFFFFF, 511⟩) := by decide
theorem wit_issues : ∀ e : Fin 9, Issues (engS e run0) e ∧ Issues (engS e { run0 with pc := 4094, cyc := 99 }) e := by unfold Issues; decide
theorem wit_alu_legal : AluArgs.legal ⟨15, 0, 15, false, 0, 0⟩ = true ∧ AluArgs.legal ⟨0, 15, 0, true, 0xFFFFFFFF, 0⟩ = true := by decide
theorem wit_branch : (engS 8 run0).eng 8 |>.canIssue := by decide
theorem wit_branch_legal : BrArgs.legal ⟨1, 2, false, 0xFFF, 0, 0⟩ = true ∧ BrArgs.legal ⟨1, 0, true, 0, 0xFFFFFFFF, 0⟩ = true ∧ BrArgs.legalJmp ⟨0, 0, false, 0xFFF, 0, 0⟩ = true ∧
    DbnzArgs.legal ⟨15, 0xFFF, 0, 0, 0⟩ = true := by decide
/-- Both outcomes of each condition, and DBNZ at 1 and at 0. -/
theorem wit_branch_outcomes : let s := engS 0 { run0 with g := [(1, 0x80000000), (2, 1)] }
    ((s.eng 0).getG 1).toNat > ((s.eng 0).getG 2).toNat ∧ ((s.eng 0).getG 1).toInt < ((s.eng 0).getG 2).toInt ∧ (s.eng 0).getG 1 &&& (s.eng 0).getG 2 = 0 ∧
    (s.eng 0).getG 1 ≠ (s.eng 0).getG 2 ∧ (s.eng 0).getG 2 = 1 ∧ (s.eng 0).getG 0 ≠ 1 ∧ (s.eng 0).pc ≠ 4095 ∧ (s.eng 0).canIssue = true := by decide
theorem wit_call : let s := engS 8 { run0 with stack := [1, 2, 3, 4, 5, 6, 7] }
    (s.eng 8).canIssue = true ∧ CallArgs.legal ⟨0xFFF, 0, 0⟩ = true ∧ (s.eng 8).stack.length < 8 := by decide
theorem wit_ret : let s := engS 8 { run0 with stack := [4095] }
    (s.eng 8).canIssue = true ∧ PlainArgs.legal ⟨0⟩ = true ∧ (s.eng 8).stack = 4095 :: [] := by decide
theorem wit_data : MoviArgs.legal ⟨15, 1, 0, 0⟩ = true ∧ LdArgs.legal ⟨1, 2, 0xFFF, 0, 0⟩ = true ∧ GetArgs.legal ⟨1, 0x0C, 0, 0⟩ = true ∧ GetArgs.legal ⟨1, 0x0D, 0, 0⟩ = true ∧ GetArgs.legal ⟨1, 0x0B, 0, 0⟩ = true ∧
    PutArgs.legal ⟨1, 3, 0, 0⟩ = true ∧ EvtArgs.legal ⟨true, 0xFFFF, 0⟩ = true := by decide
theorem wit_evt : ((engS 8 { run0 with evts := 3 }).eng 8).evts < 4 ∧ 4 ≤ ((engS 8 { run0 with evts := 4 }).eng 8).evts ∧ Issues (engS 8 { run0 with evts := 4 }) 8 ∧ Issues (engS 8 { run0 with evts := 3 }) 8 ∧
    { engS 8 run0 with orbit := { begun := true } }.orbit.begun = true := by unfold Issues; decide
theorem wit_actions_legal : GateArgs.legal ⟨0, false, 124999, 63, 0xFF, 2, 0⟩ = true ∧ SgateArgs.legal ⟨0, false, 0, 255, true, 0⟩ = true ∧ LaunchArgs.legal ⟨0, true, 0, 56, 7, 0⟩ = true ∧
    InjArgs.legal ⟨0, false, 0, 56, 255, 0⟩ = true ∧ ToutArgs.legal ⟨0, false, 0, 7, true, 63, true, 0⟩ = true ∧ CaptArgs.legal ⟨0, false, 0, 7, 7, 0⟩ = true ∧ MarkArgs.legal ⟨0, false, 0, 63, 0⟩ = true ∧
    RswapArgs.legal ⟨0, false, 0, 0⟩ = true ∧ (63#6).toNat / 8 = (7 : Fin 9).val := by decide
/-- A list with room, an offset that is the last of the period, a port present; and a tagged engine. -/
theorem wit_action_issued : let s := engS 7 run0
    Issues s 7 ∧ (s.eng 7).filling.length < 1024 ∧ offOf (s.eng 7) false 0 124999 / 64 + 1 ≤ s.periodNs ∧ s.absent 63 = false ∧ s.sampling 7 = false := by unfold Issues; decide +kernel
theorem wit_engine_faults : (∀ e : Fin 9, ((engS e run0).eng e).canIssue = true) ∧ AluArgs.legal ⟨0, 0, 0, false, 1, 0⟩ = false ∧ BrArgs.legal ⟨0, 1, true, 0, 0, 0⟩ = false ∧ BrArgs.legalJmp ⟨1, 0, false, 0, 0, 0⟩ = false ∧
    selLegal (0x0E#8).toNat = false ∧ GateArgs.legal ⟨0, false, 0, 63, 0, 0, 0⟩ = true ∧ (63#6).toNat / 8 ≠ (6 : Fin 9).val ∧ CallArgs.legal ⟨0, 0, 0⟩ = true ∧
    8 ≤ ((engS 0 { run0 with stack := List.replicate 8 0 }).eng 0).stack.length ∧ ((engS 0 run0).eng 0).stack = [] ∧ ((engS 0 { run0 with pc := 4095 }).eng 0).pc = 4095 ∧ MoviArgs.legal ⟨0, 0, 0, 0⟩ = true := by decide
theorem wit_overrun : ((engS 8 run0).eng 8).running = true ∧ (State.reset.eng 8).running = false := by decide
theorem wit_swap_request : (State.reset.eng 8).swap = none ∧ ((engS 8 { swap := some 3 }).eng 8).swap ≠ none ∧ (0x100#32).getLsbD 8 = true ∧ (0x100#32).getLsbD 7 = false := by decide
theorem wit_fault_clear : let s := ((engS 8 { held := true }).setBit (R.ENG_STAT_FAULT 8) true).wr (R.ENG_STAT_FCODE 8) 6
    s.bit (R.ENG_STAT_FAULT 8) = true ∧ (s.eng 8).held = true ∧ s.rd (R.ENG_STAT_FCODE 8) ≠ 7 ∧ State.reset.bit (R.ENG_STAT_FAULT 8) = false := by decide

/-- An engine whose head action is `k` at offset 0, in an Orbit that has run 100 ns. -/
def headS (e : Fin 9) (k : ActKind) : State :=
  { (engS e { exec := [⟨0, k, false, none⟩] }).setDom 0 { time := 100 * nsUnit } with tb := 100, mode := .free, sys := { timebase := true }, orbit := { begun := true, next := 125000 * 4294967296 } }
theorem wit_head : ∀ k ∈ [ActKind.gate 63 255 0, .sgate 255 true, .capt 7 7, .rswap, .launch 63 7, .inj 63 255, .tout 7 true, .mark 63], HeadDue (headS 8 k) 8 ⟨0, k, false, none⟩ [] := by unfold HeadDue; decide +kernel
theorem wit_gate_effect : (∀ d ∈ ((headS 8 (.gate 63 255 0)).egr 63).due, ∀ k, d.slot = some k → k < 4) := by
  simp [show ((headS 8 (.gate 63 255 0)).egr 63).due = [] from rfl]
def upLink : Link := { up := true }
theorem wit_launch : let s := (headS 7 (.launch 63 7)).setLink 63 upLink
    s.sends 63 = true ∧ s.mode ≠ .recover ∧ (s.egrQ (8 * 63 + 7)).q.length ≤ ((s.egr 63).due.filter (·.cls == some 7)).length := by decide +kernel
def frame0 : Frame := { pkt := pkt0, len := 64, src := 1, cls := 7 }
theorem wit_launch_frame : let s := ((headS 7 (.launch 63 7)).setLink 63 upLink).setEgrQ 511 { q := [⟨frame0, 1, true, 1⟩], units := 1 }
    ((s.egr 63).due.filter (·.cls == some 7)).length < (s.egrQ (8 * 63 + 7)).q.length ∧ s.sends 63 = true := by decide +kernel
theorem wit_inject : let s := { ((headS 8 (.inj 63 255)).setLink 63 upLink).setBit (R.TMPL0_VALID 255) true with mode := .proving }
    s.mode = .proving ∧ s.bit (R.TMPL0_VALID 255) = true ∧ s.bit (R.TMPL0_PCLAIM 255) = false ∧ s.sends 63 = true := by decide +kernel
theorem wit_tout_effect : let s := (headS 8 (.tout 7 true)).setTout 7 { cfg := { mode := 2 } }
    (s.tout 7).cfg.mode = 2 ∧ s.mode.pinsMove = true ∧ s.muted 7 = false ∧ (s.tout 7).level ≠ true ∧ (s.tout 7).lastEdge = none ∧ HeadDue s 8 ⟨0, .tout 7 true, false, none⟩ [] ∧
    ({ s.setDom 0 { time := 1 } with tb := 1 }.orbDom.time : Int) - actAt s.orbit.start ⟨0, .tout 7 true, false, none⟩ < (nsUnit : Int) + s.orbDom.rate ∧ Act.slip ⟨0, .tout 7 true, true, none⟩ = true := by unfold HeadDue; decide +kernel
/-- A last edge exactly 4 ns and one TIME cycle back. -/
theorem wit_tout_spacing : let s := (headS 8 (.tout 0 false)).setTout 0 { cfg := { mode := 2 }, level := true, lastEdge := some (64 * 95) }
    (s.tout 0).lastEdge = some 6080 ∧ 6080 + 256 + 64 ≤ 64 * s.tb ∧ (s.tout 0).level ≠ false := by decide +kernel
theorem wit_mark : let s := { headS 8 (.mark 63) with hub := { cfg := [(A.HUB_SIZE, 1)] } }
    s.hubLatches = true ∧ s.hub.dumps = [] ∧ HeadDue s 8 ⟨0, .mark 63, false, none⟩ [] := by unfold HeadDue; decide +kernel

/-! ## Witnesses: Orbits, resets, recovery, power -/

def freeS : State := { State.reset with mode := .free, sys := { timebase := true }, orbit := { begun := true, next := 125000 * 4294967296 } }

theorem wit_orbits_run : freeS.orbitsRun = true ∧ { freeS with orbit := {}, mode := .dock }.orbitsRun = true ∧ (∀ d, (freeS.dom d).step = none) ∧ freeS.orbit.gridWrite = none := ⟨by decide, by decide, fun _ => rfl, rfl⟩
theorem wit_orbit_step : let s := { freeS.setDom 7 { step := some (1, 1000), epoch := 4294967295 } with orbit := { begun := true, next := 0 }, tb := 3000 }
    s.orbitsRun = true ∧ (∀ e < 9, (s.eng e).exec = []) ∧ s.orbit.next ≤ s.orbTime ∧ (s.dom 7).step = some (1, 1000) ∧ 1000 + 2000 ≤ s.tb ∧
    0 ≤ ((s.dom 7).time : Int) + 1 ∧ ((s.dom 7).time : Int) + 1 < (281474976710656 : Int) * secUnit := by decide +kernel
/-- The same with the orbit domain itself stepped. -/
theorem wit_orbit_step_own : let s := { freeS.setDom 0 { step := some (1, 0) } with orbit := { next := 0 }, tb := 2000 }
    s.orbitsRun = true ∧ s.orbit.begun = false ∧ (s.dom 0).step = some (1, 0) ∧ 0 + 2000 ≤ s.tb ∧ s.orbit.next ≤ s.orbTime := by decide +kernel
theorem wit_front : (∀ c, (freeS.pending.head? = some c → isFullReset c = false)) ∧ freeS.orbit.begun = true ∧ isFullReset .orbitStart = false := by
  simp [freeS, State.reset, isFullReset]
theorem wit_seal : freeS.orbit.begun = true ∧ State.reset.orbit.begun = false := by decide
def txn0 : Txn := { partner := 1, seq := 65535, changes := [], tb := 0 }
theorem wit_transaction : let s := { freeS with txns := [txn0], tb := 2000 }
    RegsOk s ∧ s.txns = [txn0] ∧ s.orbitsRun = true ∧ txn0.loading = false ∧ s.mode ≠ .recover ∧ txn0.tb + 2000 ≤ s.tb ∧ txn0.seq ≠ 0 := by unfold RegsOk; decide +kernel
theorem wit_transaction_waits : ({ txn0 with loading := true }).loading = true ∧ { freeS with mode := .recover }.mode = .recover := by decide
theorem wit_gate_list_load : let s := { freeS with txns := [txn0, { txn0 with loading := true }, txn0] }
    s.txns = [txn0] ++ { txn0 with loading := true } :: [txn0] ∧ (∀ y ∈ [txn0], y.loading = false) := by decide
theorem wit_warm : freeS.mode ≠ .strap ∧ freeS.warmRefused = false ∧ (0x5A01#32).getLsbD 0 = true ∧ (0x5A01#32).toNat / 256 % 256 = 0x5A ∧ (0xA501#32).toNat / 256 % 256 ≠ 0x5A ∧
    { freeS with sys := { resetAt := some 0 } }.sys.resetAt.isSome = true ∧ (freeS.setBit R.GLB_FW_VALID true).bit R.GLB_FW_VALID = true ∧ (0x5A00#32).getLsbD 0 = false := by decide
theorem wit_endpoint : RegsOk State.reset ∧ RegsOk (freeS.setBit (maskFld 63) true) := by unfold RegsOk; decide
theorem wit_strap : State.reset.mode = .strap ∧ State.reset.sys.tripped = false ∧ strapsBad 0 = false ∧ strapsBad 5 = true ∧ strapsBad 0x300 = true := by decide
theorem wit_boot : let s := { State.reset with mode := .boot }
    s.mode = .boot ∧ s.sys.tripped = false ∧ boot0.romOk = true ∧ boot0.ramOk = true ∧ boot0.fails = [] ∧ bootTdcFails boot0.tdc = [] ∧ s.sys.straps.getLsbD 5 = false ∧ s.orbit.begun = false ∧ 0 < s.orbit.grid.period ∧
    { boot0 with romOk := false }.romOk = false ∧ { boot0 with ramOk := false }.ramOk = false := by decide
theorem wit_brown_out : freeS.sys.tripped = false ∧ freeS.bit R.SEC_STAT_OPEN = false ∧ freeS.mode.fwd = true ∧ { freeS with mode := .dock }.mode = .dock ∧ State.reset.mode = .strap ∧ State.reset.bit R.SEC_STAT_OPEN = false ∧
    { freeS with sys := { tripped := true } }.sys.tripped = true := by decide
theorem wit_recover : { engS 8 run0 with mode := .dock }.mode = .dock ∧ ((engS 8 run0).eng 8).running = true ∧ (engS 8 run0).bit R.SEC_STAT_OPEN = false ∧ { freeS with mode := .recover }.sys.tripped = false ∧
    { freeS with mode := .recover }.bit R.SEC_STAT_OPEN = false ∧ freeS.txns = [] := by decide
theorem wit_heat : (400 : Int) ≤ 400 ∧ (400 : Int) < 448 ∧ (447 : Int) < 448 ∧ (448 : Int) ≤ 448 ∧ freeS.sys.alarm = false ∧ (List.replicate 9 (379 : Int)).length = 9 ∧ (∀ x ∈ List.replicate 9 (379 : Int), x < 380) ∧ freeS.mode ≠ .halt := by decide
theorem wit_clock_loss : let s := freeS.setDom 7 { tstate := .locked }
    s.mode ≠ .strap ∧ s.sys.refclkLost = false ∧ (s.dom 7).tstate = .locked ∧ (s.dom 6).tstate = .free ∧ { s with sys := { refclkLost := true } }.sys.refclkLost = true ∧
    { s with sys := { straps := 8 } }.ocxo = true ∧ s.ocxo = false ∧ 0 < (10 : Fin 12).val ∧ (10 : Fin 12).val < 11 := by decide
/-- Octet 7 after exactly 1 µs without a frame. -/
def quietS : State := { freeS.wr (R.PWR_LTR_OCT_LTR 7) 2 with tb := 1000 }
theorem wit_quiet : quietS.mode.fwd = true ∧ QuietOctet quietS 7 :=
  ⟨by decide, by decide +kernel, by decide +kernel, by decide +kernel, by decide +kernel, fun _ => rfl, fun _ => rfl⟩
theorem wit_octet : let s := freeS.setOct 7 1
    let x := { s with power := { exiting := [7] }, tb := 2000 }
    s.octPower 7 = 1 ∧ 7 ∉ s.power.exiting ∧ s.rd (R.PWR_LTR_OCT_LTR 7) < 2 ∧ s.tb < storeGet (fun _ => 0) s.power.rxTb 7 + 1000 ∧ (quietS.setOct 7 1).p1Wakes 7 = false ∧
      7 ∈ x.power.exiting ∧ x.exitEnd 7 ≤ x.tb ∧ ({ x with tb := 1999 }).tb < ({ x with tb := 1999 }).exitEnd 7 ∧ x.power.rxHeld = [] ∧ s.sys.timebase = true := by decide +kernel
theorem wit_octet_receives : let s := (freeS.setOct 7 1).setLink 63 { up := true }
    s.mode.fwd = true ∧ s.portUp 63 = true ∧ s.actDue = none := by decide +kernel
theorem wit_doze : let x := { freeS with power := { devExit := true }, tb := 400000 }
    { freeS with mode := .doze }.mode = .doze ∧ freeS.mode ≠ .doze ∧ freeS.timedWakes = false ∧ x.power.devExit = true ∧ x.exitEnd 8 ≤ x.tb ∧ x.power.modeNext = none ∧ x.mbs = [] ∧ freeS.power.devExit = false := by decide +kernel
/-- A launch on port 62 just within 400 µs of TIME 0 wakes the device. -/
theorem wit_timed : ({ freeS with mode := .doze }.setEng 8 { exec := [{ off := 400000 * 64, kind := .launch 62 0 }] }).timedWakes = true := by decide +kernel
theorem wit_arbiter : let s := { freeS with power := { trainWait := [63, 1], calWait := [9] } }
    s.power.trainWait = 63 :: [1] ∧ s.fits 60 = true ∧ { freeS with power := { calWait := [9] } }.fits 15 = true ∧ { freeS with sys := { alarm := true } }.sys.alarm = true ∧
    63 ∈ { freeS with power := { trainGrant := [63, 0] } }.power.trainGrant := by decide +kernel
theorem wit_lvf : let s := { freeS with mode := .dock, sys := { straps := 0x200, timebase := true } }.wr R.PWR_BUDGET_CAP 48
    s.mode = .dock ∧ s.clk.change = none ∧ s.bit R.LVF_CTRL_EN = false ∧ (7#32).getLsbD 0 = true ∧ lvfTotal ((7#32).toNat / 2 % 4) ≤ 10 * s.capW := by decide +kernel
theorem wit_lvf_voltage : let s := freeS
    s.rd R.LVF_STAT_VREQ < lvfMv 3 ∧ lvfMv 0 ≤ (s.wr R.LVF_STAT_VREQ 900).rd R.LVF_STAT_VREQ ∧ s.mode ≠ .dock := by decide +kernel
theorem wit_lvf_ack : (freeS.setBit R.LVF_STAT_WAIT true).bit R.LVF_STAT_WAIT = true ∧ { freeS with clk := { change := some (true, 3, true), stopped := true } }.clk.change = some (true, 3, true) := by decide

/-! ## Witnesses: the bus, interrupts, counters -/

def busS : State := { freeS with mode := .dock, pcie := { perst := false, training := true } }

/-- A plain register, the last of its kind: `FAB_CLASS` of class 7. -/
theorem wit_bus_read : Served busS 0 (A.FAB_CLASS 7) ∧ IsReg busS (A.FAB_CLASS 7) ∧ Ctr.at (A.FAB_CLASS 7) = none ∧ Ctr.atHi (A.FAB_CLASS 7) = none ∧ latchLen (A.FAB_CLASS 7) = none ∧ latchTail (A.FAB_CLASS 7) = false ∧
    busS.bus.latch = [] := by unfold Served IsReg; decide +kernel
theorem wit_bus_read_plain : ∀ s1 : State, s1.readEffect (A.FAB_CLASS 7) = s1 := fun _ => rfl
theorem wit_bus_fault : busSize 0 ≤ 0x8000000 ∧ busSize 1 ≤ 0x40000 ∧ busSize 2 ≤ 0x4000 ∧ busSize 5 ≤ 0x10000 := by decide
theorem wit_bus_bad : { busS with mode := .boot }.busBad 0 A.FAB_CTRL = some 5 ∧ { busS with mode := .boot }.busDead 0 = false ∧ A.FAB_CTRL < busSize 0 ∧ busS.bit R.SEC_STAT_OPEN = false ∧ busS.mode = .dock ∧ busS.busDead 7 = false ∧ (3 : Fin 8).val ≠ 7 := by decide
/-- Engine 7's bank while its octet is parked. -/
theorem wit_bus_gated : (busS.setOct 7 2).busBad 3 (bankAddr 7 true 4095 + 4) = some 1 := by decide +kernel
theorem wit_plain_write : Served busS 0 (A.FAB_CLASS 7) ∧ IsReg busS (A.FAB_CLASS 7) ∧ (findDesc (A.FAB_CLASS 7)).isSome = true ∧ rawTable (A.FAB_CLASS 7) = false ∧ (14 : BitVec 4) ≠ 15 := by
  unfold Served IsReg; decide +kernel
theorem wit_plain_write_only : busS.writeAt (A.FAB_CLASS 7) 0xFFFFFFFF 5 = busS.putReg (A.FAB_CLASS 7) 0xFFFFFFFF 5 := by decide +kernel
theorem wit_raw_write : Served busS 0 0x2200000 ∧ IsReg busS 0x2200000 ∧ rawTable 0x2200000 = true ∧ Served busS 0 0x240FFF4 ∧ IsReg busS 0x240FFF4 ∧ rawTable 0x240FFF4 = true ∧
    (findDesc 0x2200000).isSome = true ∧ (findDesc 0x240FFF4).isSome = true := by
  unfold Served IsReg; decide +kernel
theorem wit_clearing_reads : Served busS 0 A.GLB_RCV ∧ Served busS 0 (A.ENG_MAXCYC 8) ∧ Served busS 0 A.PRV_LOGPTR ∧ busS.bus.latch = [] := by unfold Served; decide
/-- Configuration space at its two identities (R1). -/
theorem wit_config_space : busS.readCfg 0 = 0x64801FD4 ∧ busS.readCfg 8 = 0x028000B1 := by decide +kernel
theorem wit_popping_reads : Served busS 0 (A.TIN_HEAD3 7) ∧ Served busS 0 (A.TSQ4 63) ∧ busS.absent 63 = false ∧ Served busS 0 (A.IVL_RES_LO 3) ∧ Served busS 0 (A.IVL_CFG 3) := by unfold Served; decide
theorem wit_ivl_clear : let s := busS.setIvl 3 { start := some ⟨0, 1, false⟩ }
    (s.ivl 3).start.isSome = true ∧ (s.ivl 3).edges = [] ∧ (0#32).getLsbD (R.IVL_CFG_EN 3).lo = false ∧ Served s 0 (A.IVL_CFG 3) := by unfold Served; decide
theorem wit_latching : latchLen A.TB_CYC_LO = some 2 ∧ Ctr.at A.TB_CYC_LO = none ∧ Ctr.atHi A.TB_CYC_LO = none ∧ Served busS 0 A.TB_CYC_LO ∧ IsReg busS A.TB_CYC_LO := by unfold Served IsReg; decide +kernel
theorem wit_latching_plain : ∀ s1 : State, s1.readEffect A.TB_CYC_LO = s1 := fun _ => rfl
/-- The first counter of port 63, and the word above it. -/
theorem wit_counter_words : let a := 0x1008000 + 7 * 0x100000 + 7 * 0x800
    Ctr.at a = some (.port 63 0) ∧ Ctr.atHi (a + 4) = some (.port 63 0) ∧ rawTable a = false ∧ rawTable (a + 4) = false ∧ Served busS 0 a ∧ IsReg busS a ∧ Served busS 0 (a + 4) ∧ IsReg busS (a + 4) ∧
    (Ctr.port 63 0).hiBits ≠ 0 := by unfold Served IsReg; decide +kernel
theorem wit_error_log : Served busS 0 A.MBE_CLR ∧ (1#32).getLsbD 0 = true := by unfold Served; decide
/-- Vector 3 with its line at 1, messages on and none held. -/
def msixS : State := { (busS.setBit R.GLB_ISRC_THERM true).setBit R.GLB_IEN_THERM true with pcie := { perst := false, training := true, msixEn := true, bme := true } }
theorem wit_rearm : Served msixS 0 A.GLB_IREARM_LO ∧ (msixS.setBit (maskFld 3) false).line 3 = true ∧ msixS.msixOn = true ∧ (msixS.setBit (maskFld 3) false).msixHeld 3 = false := by unfold Served; decide +kernel
theorem wit_unmask : let s := msixS.setBit (pbaFld 63) true
    s.pcie.perst = false ∧ s.pcie.training = true ∧ s.pcie.d3 = false ∧ s.pcie.msixEn = true ∧ s.pcie.bme = true ∧ s.pcie.fmask = false ∧ (∀ j < 64, s.bit (pbaFld j) = true ↔ j = (63 : Fin 64).val) := by decide +kernel
theorem wit_tap : busS.mode ≠ .opened ∧ ({ busS with mode := .opened }.setBit R.SEC_STAT_ERASED true).mode = .opened ∧ ({ busS with mode := .opened }.setBit R.SEC_STAT_ERASED true).bit R.SEC_STAT_ERASED = true := by decide
def dumpS : State := { busS with pcie := { perst := false, training := true, bme := true }, hub := { dumps := [(some 63, [1, 2]), (none, [])], cfg := [(A.HUB_SIZE, 1)] } }
theorem wit_dump : let s := dumpS
    s.hub.dumps = (some 63, [1, 2]) :: [(none, [])] ∧ (s.rd R.HUB_WR_INDEX + 4294967296 - s.rd R.HUB_RD_INDEX) % 4294967296 < s.hubRd R.HUB_SIZE_SLOTS ∧ s.pcie.bme = true ∧ s.pcie.perst = false ∧ s.pcie.d3 = false := by decide
/-- A full ring, and the count of lost dumps one below its bound. -/
theorem wit_dump_full : let s := { dumpS with hub := { dumpS.hub with cfg := [(A.HUB_SIZE, 65535)] } }.wr R.HUB_WR_INDEX 65535
    s.hubRd R.HUB_SIZE_SLOTS ≤ (s.rd R.HUB_WR_INDEX + 4294967296 - s.rd R.HUB_RD_INDEX) % 4294967296 ∧ s.ctr (.hub 0) < 2147483647 ∧ busS.bit R.SMP_CFG_EN = false := by decide
/-- A 48-bit wrapping counter one below its limit, and a saturating one below, at and above. -/
theorem wit_counter : CounterOk (.eng 8 0) ∧ CounterOk (.eng 8 8) ∧ CounterOk (.port 63 0) ∧ (Ctr.eng 8 0).sat = false ∧ (Ctr.eng 8 8).sat = true ∧
    ctrLimit (.eng 8 0) ≤ ((busS.setReg (Ctr.eng 8 0).lo.addr 0xFFFFFFFF).setReg ((Ctr.eng 8 0).lo.addr + 4) 0xFFFF).ctr (.eng 8 0) + 1 ∧ busS.ctr (.eng 8 8) + 1 < ctrLimit (.eng 8 8) - 1 ∧
    (busS.setReg (Ctr.eng 8 8).lo.addr 0xFFFFFFFE).ctr (.eng 8 8) ≠ ctrLimit (.eng 8 8) - 1 ∧ ctrLimit (.eng 8 8) - 1 ≤ (busS.setReg (Ctr.eng 8 8).lo.addr 0xFFFFFFFE).ctr (.eng 8 8) + 1 ∧
    (busS.setReg (Ctr.eng 8 8).lo.addr 0xFFFFFFFF).ctr (.eng 8 8) = ctrLimit (.eng 8 8) - 1 := by unfold CounterOk; decide +kernel

/-! ## Witnesses: the mailbox -/

/-- The mailbox is served and partner p owns the token. -/
def mbS (m : Mode) (p : Nat) : State := ((({ freeS with mode := m }.setBit R.GLB_FW_VALID true).setBit R.MB_STATUS_HELD true).wr R.MB_STATUS_OWNER p).wr R.MB_STATUS_NEXTSEQ 65535
def notAccepted : List Nat := [0x01, 0x02, 0x03, 0x04, 0x05, 0x08, 0x09, 0x10, 0x11, 0x12, 0x13, 0x14, 0x16, 0x17, 0x18, 0x19, 0x1A, 0x1B, 0x1C, 0x1D, 0x1E]
theorem wit_not_accepted : FreeBox (mbS .boot 0) 3 ∧ (cmd 3 []).last = true ∧ ∀ op ∈ notAccepted, (mbS .boot 0).accept 3 op ≠ St.OK := by unfold FreeBox; decide
theorem wit_not_accepted_reasons : (mbS .free 0).accept 0 0x10 = St.MODE ∧ (mbS .free 0).accept 2 0x11 = St.OWNER ∧ (mbS .dock 2).accept 2 0x1D = St.SOURCE ∧ ((mbS .free 0).setBit R.SEC_STAT_DEVKEY false).accept 0 0x05 = St.LOCKED ∧
    FreeBox (mbS .free 0) 2 := by unfold FreeBox; decide
theorem wit_busy : ((mbS .free 0).setMb 0 { wait := some 0x15 }).mbServes = true ∧ (((mbS .free 0).setMb 0 { wait := some 0x15 }).mb (0 : Fin 4)).wait.isSome = true ∧ State.reset.mbServes = false := by decide
theorem wit_status_commands : Alone (cmd 3 []) 0x01 [] (mbS .free 0) ∧ Alone (cmd 3 [0, 0xFFFFFFFF]) 0x02 [0, 0xFFFFFFFF] (mbS .free 0) ∧
    Alone (cmd 0 [65535]) 0x03 [65535] { mbS .free 0 with journal := [(65535, 3, 1)] } ∧ { mbS .free 0 with journal := [(65535, 3, 1)] }.journal.find? (·.1 == 65535) = some (65535, 3, 1) ∧
    Alone (cmd 3 [7]) 0x04 [7] (mbS .free 0) ∧ Alone (cmd 3 (List.replicate 8 1)) 0x05 (List.replicate 8 1) ((mbS .free 0).setBit R.SEC_STAT_DEVKEY true) := by unfold Alone FreeBox; decide
theorem wit_token : Alone (cmd 3 [3]) 0x08 [3] (mbS .free 3) ∧ Alone (cmd 0 [7]) 0x08 [7] (mbS .free 0) ∧ Alone (cmd 1 [1]) 0x09 [1] (mbS .free 0) ∧
    Alone (cmd 2 [0]) 0x09 [0] ((mbS .free 0).setBit R.MB_STATUS_HELD false) ∧ ((mbS .free 0).setBit R.MB_STATUS_HELD false).owner = none := by unfold Alone FreeBox; decide
theorem wit_mode_commands : Alone (cmd 0 []) 0x10 [] (mbS .dock 0) ∧ Alone (cmd 0 []) 0x11 [] (mbS .free 0) ∧ (mbS .doze 0).mode = .doze ∧ Alone (cmd 0 []) 0x11 [] (mbS .doze 0) ∧ Alone (cmd 1 []) 0x12 [] (mbS .free 0) ∧
    Alone (cmd 1 []) 0x13 [] (mbS .free 0) ∧ Alone (cmd 0 [0xF0]) 0x14 [0xF0] (mbS .free 0) ∧ (mbS .free 0).prvMayEnter = true ∧ (0xF0 : Word) &&& 0xFFFFFF0F = 0 ∧ (0xF0 : Word).toNat / 16 % 8 ≠ 0 ∧
    Alone (cmd 0 [0]) 0x14 [0] ((mbS .proving 0).setBit R.PRV_STAT_RUN true) ∧ (mbS .free 0).prv.request = none := by unfold Alone FreeBox; decide
theorem wit_open : let s := { mbS .dock 0 with sys := { straps := 0x80 } }
    RegsOk s ∧ s.sys.straps.getLsbD 7 = true ∧ Alone (cmd 0 [0x4F50454E]) 0x15 [0x4F50454E] s ∧ RegsOk { s with sys := { erasing := true } } ∧ { s with sys := { erasing := true } }.sys.tripped = false := by
  unfold Alone FreeBox RegsOk; decide +kernel
theorem wit_cal_run : Alone (cmd 0 [0xFFFFFFFF, 0, 0xFFFFF]) 0x16 [0xFFFFFFFF, 0, 0xFFFFF] (mbS .free 0) ∧ (0xFFFFF#32).toNat < 2 ^ 20 ∧ (0xFFFFF * 18446744073709551616).testBit 83 = true ∧ (mbS .free 0).rd (R.TDC_CHSTAT_STATE 83) ≠ 1 := by
  unfold Alone FreeBox; decide +kernel
/-- Domain 7 with slot 15 selected and qualified. -/
def selS (m : Mode) (kind st : Nat) : State := (((((mbS m 0).setBit (R.REF_DSTAT_SELV 7) true).wr (R.REF_DSTAT_SEL 7) 15).wr (R.REF_CSTAT_STATE 7 15) st).wr (R.REF_CCFG_KIND 7 15) kind).setBit (R.REF_CCFG_EN 7 15) true
theorem wit_ref_force : let s := selS .locked 3 4
    s.selOf 7 = some 15 ∧ (0xF7#32).toNat % 8 = 7 ∧ (0xF7#32).toNat / 16 % 16 = 15 ∧ (0xF7 : Word) &&& 0xFFFFFF08 = 0 ∧ 3 ≤ s.cstate 7 15 ∧ s.cstate 7 15 ≤ 4 ∧ (s.dom 7).hostLoop = false ∧ s.following 7 = false ∧
    s.sys.refclkLost = false ∧ s.monOnly 7 15 = false ∧ Alone (cmd 0 [0xF7]) 0x17 [0xF7] s := by unfold Alone FreeBox; decide +kernel
theorem wit_ref_release : let s := (mbS .free 0).setBit (R.REF_DSTAT_FORCED 7) true
    (0x107 : Word) &&& 0xFFFFFE08 = 0 ∧ s.bit (R.REF_DSTAT_FORCED 7) = true ∧ Alone (cmd 0 [0x107]) 0x17 [0x107] s := by unfold Alone FreeBox; decide +kernel
theorem wit_ref_clear : let s := selS .free 0 7
    (0x80000007 : Word) &&& 0x0000FFF8 = 0 ∧ (0x80000007 : Word).getLsbD (16 + 15) = true ∧ s.cstate 7 15 = 7 ∧ (0x80000007 : Word).getLsbD 16 = false ∧ Alone (cmd 0 [0x80000007]) 0x18 [0x80000007] s := by
  unfold Alone FreeBox; decide +kernel
/-- The observation pin's divider by its item. -/
theorem wit_power_set : Alone (cmd 0 [0, 0x07000000 + 8, 1, 1]) 0x19 [0, 0x07000000 + 8, 1, 1] (mbS .free 0) ∧ Alone (cmd 0 [0]) 0x19 [0] (mbS .doze 0) ∧ Alone (cmd 0 [0]) 0x19 (0 :: []) (mbS .free 0) := by
  unfold Alone FreeBox; decide +kernel
theorem wit_power_items : ∃ cs, State.stageItems 0x19 4 (mbS .free 0) [.ofNat A.CLKOBS_CFG, 1, 1] [] = .ok cs ∧ cs.length = 1 := ⟨[.item A.CLKOBS_CFG 1 1], by decide +kernel, rfl⟩
theorem wit_counter_set : Alone (cmd 0 [0, 0, 0xFFFF, 0xFFFFFF, 0xFFFFFFFF, 0xFFFFFFFF, 1]) 0x1A [0, 0, 0xFFFF, 0xFFFFFF, 0xFFFFFFFF, 0xFFFFFFFF, 1] (mbS .free 0) ∧ (0 : Word) &&& ~~~((descRw A.HUB_RING_LO).getD 0) = 0 ∧
    (0xFFFF#32).toNat < 65536 ∧ (0xFFFFFF#32).toNat < 16777216 ∧ (1#32).toNat < 2 := by unfold Alone FreeBox; decide +kernel
theorem wit_keys : Alone (cmd 0 (31 :: 0 :: List.replicate 8 5)) 0x1D (31 :: 0 :: List.replicate 8 5) (mbS .free 0) ∧ Alone (cmd 1 [31, 0xFFFFFFFF]) 0x1D [31, 0xFFFFFFFF] (mbS .free 1) ∧
    (0xFF1F#32).toNat / 32 % 8 = 0 ∧ (0xFF1F#32).toNat % 32 = 31 ∧ storeGet (fun _ => []) { mbS .free 1 with keys := [(31, [1])] }.keys 31 ≠ [] ∧ Alone (cmd 1 [0xFF1F, 0xFFFFFFFF]) 0x1D [0xFF1F, 0xFFFFFFFF] { mbS .free 1 with keys := [(31, [1])] } ∧
    { mbS .free 1 with binds := List.replicate 63 (1, 2, 3) }.binds.length < 64 := by unfold Alone FreeBox; decide +kernel
theorem wit_agent_set : Alone (cmd 0 [0xFFF, 0xFFFFFFFF, 0xFFFF]) 0x1E [0xFFF, 0xFFFFFFFF, 0xFFFF] (mbS .free 0) ∧ (0xFFF#32).toNat < 4096 ∧ (0xFFFF#32).toNat < 65536 ∧ (mbS .free 0).absent 63 = false := by unfold Alone FreeBox; decide +kernel
theorem wit_repair_restore : (0x3AA60001 : Word).toNat % 256 = [(0x81700F10 : Word)].length ∧ (0x3AA60001 : Word).toNat / 65536 = repairCrc [0x81700F10] ∧ repairOk 0x81700F10 = true ∧
    FreeBox (mbS .dock 0) 0 ∧ (mbS .dock 0).accept 0 0x1B = St.OK ∧ FreeBox (mbS .dock 0) 1 ∧ (mbS .dock 0).accept 0 0x1C = St.OK := by unfold FreeBox; decide +kernel
theorem crcShift_lt (w poly k r : Nat) (hp : poly < 2 ^ w) (hr : r < 2 ^ w) : crcShift w poly k r < 2 ^ w := by
  induction k generalizing r with
  | zero => exact hr
  | succ k ih =>
    have h : 2 * r % 2 ^ w < 2 ^ w := Nat.mod_lt _ (Nat.two_pow_pos w)
    refine ih _ ?_
    split
    · exact Nat.xor_lt_two_pow h hp
    · exact h
theorem crcPlain_lt (poly r : Nat) (bs : List Nat) (hp : poly < 2 ^ 16) (hr : r < 2 ^ 16) : crcPlain 16 poly r bs < 2 ^ 16 := by
  induction bs generalizing r with
  | nil => exact hr
  | cons b t ih =>
    refine ih _ (crcShift_lt 16 poly 8 _ hp (Nat.xor_lt_two_pow hr ?_))
    have : b % 256 < 256 := Nat.mod_lt _ (by decide)
    show b % 256 * 256 < 65536
    omega
/-- Any table has the CHECK word that CAL_RESTORE asks for. -/
theorem wit_cal_restore_check (ts : List Nat) : (BitVec.ofNat 32 (binCrc ts)).toNat = binCrc ts ∧ binCrc ts < 65536 := by
  have h : binCrc ts < 65536 := crcPlain_lt _ _ _ (by decide) (by decide)
  exact ⟨by simp only [BitVec.toNat_ofNat]; omega, h⟩
theorem wit_cal_restore : (List.replicate 256 (0 : Word)).length = 256 ∧ (0x01900053 : Word).toNat % 128 = (83 : Fin 84).val ∧ (0x01900053 : Word) &&& 0xFC00FF80 = 0 ∧
    (mbS .dock 0).rd (R.TDC_CHSTAT_STATE 83) ≠ 1 ∧ (mbS .dock 0).rd (R.TDC_CHSTAT_GRADE 83) ≠ 2 := by decide +kernel

/-! ## Witnesses: transactions and transports -/

/-- For each class C row: its words, as a message of its own in the mode named. -/
def stagedWords : Nat → List Word
  | 0x20 => [.ofNat (A.FAB_CLASS 7), 1, 1]
  | 0x21 => [.ofNat (A.PORT_SID 63), 1, 1]
  | 0x24 => [7, 31250, 0, 0, 0, 0, 0]
  | 0x25 => [8, 0, 0]
  | 0x26 => [0]
  | 0x27 => [0x1013F, 0, 0, 0, 0, 0xFF, 125000]
  | 0x28 => [.ofNat (A.PTP_INST 7), 1, 0]
  | 0x29 => [.ofNat A.REF_GLB, 0x20, 0x20]
  | 0x2A => [7, 0, 0, 999999999, 0]
  | 0x2B => [7]
  | 0x2C => [.ofNat (A.TIN_CFG 7), 1, 1]
  | 0x2D => [.ofNat A.TW_TOL, 1, 1]
  | _ => [.ofNat A.PRV_CFG, 1, 1]
def stagesAlone (op : Nat) (f : MbCmd → MbCmd) (ws : List Word) (s : State) : Bool :=
  match (s.nextSeq 0).1.stage op [] [] (f (cmd 0 ws)).words with
  | .ok (cs, _, _) => (wholeRule ((s.nextSeq 0).1.shadow cs) cs op).isNone && s.accept 0 op == St.OK && s.rd R.MB_STATUS_NEXTSEQ != 0
  | .error _ => false
/-- Domain 7's loop is open. -/
def stageS : State := (mbS .dock 0).setDom 7 { hostLoop := true }
theorem wit_staged : FreeBox stageS 0 ∧ ∀ op ∈ [0x20, 0x21, 0x24, 0x25, 0x26, 0x2B, 0x2C, 0x2D, 0x2E], stagesAlone op id (stagedWords op) stageS = true := by unfold FreeBox; decide +kernel
theorem wit_staged_ptp : stagesAlone 0x28 id (stagedWords 0x28) stageS = true := by decide +kernel
theorem wit_staged_ref : stagesAlone 0x29 id (stagedWords 0x29) stageS = true := by decide +kernel
theorem wit_staged_gates : stagesAlone 0x27 id (stagedWords 0x27) stageS = true := by decide +kernel
theorem wit_staged_adjust : stagesAlone 0x2A (fun m => forceBits m 0x30 0x0) (stagedWords 0x2A) stageS = true ∧ stagesAlone 0x2A (fun m => forceBits m 0x30 0x10) (stagedWords 0x2A) stageS = true ∧
    stagesAlone 0x2A (fun m => forceBits m 0x30 0x20) [7, 0xFFFFFFFF, 0xFFFF, 0, 0] stageS = true ∧ stagesAlone 0x2B (fun m => forceBits m 0x100 0x100) [7] stageS = true ∧
    stagesAlone 0x2B (fun m => forceBits m 0x100 0x0) [7] stageS = true := by decide +kernel
theorem wit_staged_changes : (7#32) &&& 0xFFFFFFF8 = 0 ∧ (999999999#32) &&& ~~~((descRw (A.ORB_CFG + 4)).getD 0) = 0 ∧ (999999999#32) &&& ~~~((descRw (A.ORB_CFG + 20)).getD 0) = 0 ∧ (0x100#32).toNat < 512 ∧
    ((stageS.shadow []).eng 8).swap = none ∧ ((stageS.setEng 8 { image1 := true }).shadow []).imageOk 8 = true ∧ (0x27#32) &&& 0xFFFFFFF8 = 0x20 ∧ ((stageS.shadow []).dom 7).hostLoop = true ∧ (0x107#32) &&& 0xFFFFFEF8 = 0 := by decide +kernel
/-- The last recovery function written, and deleted. -/
def editStages (bits : Word) (ws : List Word) : Bool :=
  match (stageS.nextSeq 0).1.stage 0x22 [] [] (forceBits { cmd 0 ws with last := false } 0x8 bits).words with | .ok _ => true | .error _ => false
theorem wit_stream_edit : editStages 0 [0x0FFF0003, 0, 0] = true ∧ editStages 8 [0x0FFF0003] = true ∧ stageS.accept 0 0x22 = St.OK ∧ FreeBox stageS 0 := by unfold FreeBox; decide +kernel
def editMsg : Msg := { seq := 65535, recs := [(0x22, 0, [])] }
theorem wit_stream_commit : let s := stageS.setMb 0 { msg := some editMsg }
    s.mbServes = true ∧ (s.mb (0 : Fin 4)).msg = some editMsg ∧ (s.mb (0 : Fin 4)).wait = none ∧ (s.mb (0 : Fin 4)).relayed = none ∧ s.accept (0 : Fin 4) 0x23 = St.OK ∧ editMsg.cls = 4 ∧ editMsg.fail = none ∧ editMsg.seq ≠ 0 ∧
    glistsOf editMsg.changes = [] := by decide +kernel
theorem wit_stream_commit_whole : ∀ op ∈ [0x20, 0x28, 0x29, 0x23], wholeRule ((stageS.setMb 0 { msg := some editMsg }).shadow [.commit]) [.commit] op = none := by decide +kernel
theorem wit_doorbell : let s := mbS .dock 0
    (1#32).getLsbD 0 = true ∧ s.bit R.GLB_FW_VALID = true ∧ s.bit (mbFld 1 R.MB_STATUS_REQ_BUSY) = false ∧ (s.setBit (mbFld 1 R.MB_STATUS_REQ_BUSY) true).bit (mbFld 1 R.MB_STATUS_REQ_BUSY) = true ∧
    State.reset.bit R.GLB_FW_VALID = false := by decide
theorem wit_ack : let s := (mbS .dock 0).setBit (mbFld 1 R.MB_STATUS_RSP_READY) true
    s.bit (mbFld (1 : Fin 2) R.MB_STATUS_RSP_READY) = true ∧ (s.mb (1 : Fin 2)).rspQ = [] ∧ ((s.setMb 1 { rspQ := [[1], [2]] }).mb (1 : Fin 2)).rspQ = [1] :: [[2]] := by decide
def agentS : State := { mbS .dock 3 with agent := { en := true, port := 63, slot := 31, nonce := 4294967294 }, keys := [(31, [1])] }
theorem wit_agent : agentS.agent.en = true ∧ storeGet (fun _ => []) agentS.keys agentS.agent.slot ≠ [] ∧ (0xFFFFFFFE : Word).toNat ≤ agentS.agent.nonce ∧ agentS.agent.nonce < (0xFFFFFFFF : Word).toNat ∧ FreeBox agentS 3 := by unfold FreeBox; decide
theorem wit_agent_icv (ws : List Word) : ∃ icv, agentS.agentIcv 0xFFFFFFFF ws = icv := ⟨_, rfl⟩
/-- A relayed STATUS with its CHECK, and a message whose VER is wrong. -/
def relayed0 : List Word := [0x00140101, 0xFFFF, 0, mbCheck [0x00140101, 0xFFFF, 0, 0, 1], 1]
theorem wit_relay : FreeBox (mbS .dock 0) 2 ∧ headOk 2 [2] = none ∧ headOk 2 relayed0 = some relayed0 ∧ (relayed0.getD 1 0).getLsbD 16 = false ∧
    readRecs ((relayed0.getD 0 0).toNat / 256 % 256) (relayed0.drop 4) = some [(1, [])] ∧ recsBad {} [(1, [])] = false := by unfold FreeBox; decide +kernel
theorem wit_relay_check : relayed0.getD 3 0 = mbCheck relayed0 := by decide +kernel
theorem wit_relay_wait : let s := (mbS .dock 0).setMb 3 { relayed := some 65535, relayTb := 5 }
    (s.mb (3 : Fin 4)).relayed = some 65535 ∧ s.tb < (s.mb (3 : Fin 4)).relayTb + 100000000 ∧ ({ s with tb := 100000005 }.mb (3 : Fin 4)).relayTb + 100000000 ≤ 100000005 := by decide

/-! ## Witnesses: frames, links, time -/

def portS : State := (freeS.setLink 1 upLink).setLink 63 upLink
/-- Port 63 forwards what it cannot identify to port 1 in class 7, with its minimum large enough. -/
def missS : State := ((((portS.wr (R.PORT_SID_ORDER 63) 0).wr (R.PORT_SID_MISS 63) 2).wr (R.PORT_MISS_DST 63) 1).wr (R.PORT_SID_DEF_TC 63) 7).wr (R.ADM_RSV_MIN 63 7) 100
theorem wit_miss_forwards : MissForwards missS 63 1 7 rx0 :=
  ⟨by decide, by decide, by decide, by decide, by decide, by decide, by decide, by decide, by decide, by decide, by decide, by decide, by decide, by decide, by decide, by decide, by decide, by decide +kernel,
   1, 0, 0, by decide +kernel⟩
theorem wit_frame_dropped : let r := { rx0 with fcsOk := false }
    portS.actDue = none ∧ portS.mode.fwd = true ∧ portS.portUp 63 = true ∧ r.fcsOk = false ∧ r.pkt.ptp = none ∧ portS.rd (R.PORT_FWD_CT 63) = 0 := by decide
theorem wit_verify_received : let s := (portS.setBit (R.PORT_PREEMPT_EN 63) true)
    s.actDue = none ∧ s.mode.fwd = true ∧ s.portUp 63 = true ∧ s.bit (R.PORT_PREEMPT_EN 63) = true ∧ (s.link 63).mode.merges = true := by decide
theorem wit_flow : let s := (portS.setEgr 63 { paused := 128, xoff := 128 }).wr (R.PORT_FWD_PFC_TX 63) 255
    s.mode.fwd = true ∧ s.portUp 63 = true ∧ (s.egr 63).paused.testBit 7 = true ∧ (s.egr 63).xoff.testBit 7 = true ∧ s.rd (R.PORT_FWD_PFC_TX 63) ≠ 0 := by decide
theorem wit_slot_idle : freeS.mode.afterBoot = true ∧ freeS.clk.stopped = false ∧ (∀ k, (freeS.voq k).q = []) ∧ (∀ j, (freeS.inter j).cells = []) := ⟨by decide, by decide, fun _ => rfl, fun _ => rfl⟩
def entry0 : VEntry := { frame := { frame0 with src := 63, len := 64 }, fnum := 0 }
def slotS : State := { portS.setVoq (voqKey 63 1 7) { q := [entry0], next := 1 } with slot := 63 }
theorem wit_slot_cell : slotS.mode.afterBoot = true ∧ slotS.fabricRuns = true ∧ (slotS.voq (voqKey 63 1 7)).q = [entry0] ∧ entry0.frame.ct = false ∧ entry0.arrived slotS.tb = entry0.frame.len ∧ 0 < entry0.frame.stream - entry0.sent ∧ entry0.frame.stream - entry0.sent ≤ 120 ∧ slotS.portUp 1 = true ∧
    slotS.egrFull = [] := by decide
theorem wit_slot_cell_alone : (∀ j, slotS.inter j = {}) ∧ (∀ k, k ≠ voqKey 63 1 7 → (slotS.voq k).q = []) ∧ (∀ l, slotS.absent l = false) := by
  refine ⟨fun _ => rfl, fun k hk => ?_, fun l => ?_⟩
  · have h : slotS.voqs = [(voqKey 63 1 7, { q := [entry0], next := 1 })] := by decide
    simp only [State.voq, h, storeGet]
    split
    · exact absurd (by assumption) (Ne.symm hk)
    · split <;> rfl
  · have h : slotS.links = [(1, upLink), (63, upLink)] := by decide
    have m : ∀ p, (slotS.link p).mode = .r25 := fun p => by
      simp only [State.link, h, storeGet]
      split
      · rfl
      · split
        · rfl
        · split
          · rfl
          · split <;> rfl
    simp [State.absent, m]
theorem wit_slot_unreserved : ∀ l < 64, slotS.rsvEntry (slotS.slot % 64) l = none := by decide +kernel
def cell0 : Cell := { src := 63, dst := 1, tc := 7, mc := false, bitmap := 0, fnum := 0, cidx := 0, first := 0, rsvOut := none, pieces := [] }
theorem wit_cell : let s := portS.setWire 63 [cell0]
    s.wire 63 = cell0 :: [] ∧ (s.reasm (reasmKey (s.lanePort 63) cell0.mc cell0.src cell0.tc)).expect = some (cell0.fnum, cell0.cidx) ∧ (s.reasm (reasmKey (s.lanePort 63) cell0.mc cell0.src cell0.tc)).wait = [] ∧
    (s.reasm (reasmKey (s.lanePort 63) cell0.mc cell0.src cell0.tc)).stop = none := by decide
/-- A cell whose header took one bit error on its wire. -/
theorem wit_cell_bad : cell0.received 1 = none ∧ cell0.received 0 = some cell0 := by decide +kernel
theorem wit_gap : let s := (portS.setWire 63 [cell0]).setReasm (reasmKey 63 true 63 7) { gap := true }
    (s.reasm (reasmKey 63 true 63 7)).gap = true ∧ (s.reasm (reasmKey 63 true 63 7)).cur = none ∧ earliestHead (s.reasm (reasmKey 63 true 63 7)).wait = none ∧ s.egrFull.contains (8 * 63 + 7) = false ∧
    (s.egr 63).paused.testBit 7 = false := by decide
theorem wit_bank_swap : let s := { freeS.setBit R.FAB_CTRL_RSV_PENDING true with rsvReq := some 0, slot := 64 }
    s.bit R.FAB_CTRL_RSV_PENDING = true ∧ s.rsvReq = some 0 ∧ 0 < s.orbitsBegun ∧ s.slot % 64 = 0 ∧ { s with slot := 63 }.slot % 64 ≠ 0 ∧ { s with rsvReq := some s.orbitsBegun }.rsvReq = some s.orbitsBegun := by decide
def eframe0 : EFrame := ⟨frame0, 1, true, 1⟩
def txS : State := { portS.setEgrQ 511 { q := [eframe0], units := 1 } with orbit := {} }
theorem wit_no_actions : NoActions txS ∧ NoActions portS := by unfold NoActions; decide
theorem wit_frame_start : (∀ k < 4, txS.bit (R.HLS1_ARM 63 k) = false) ∧ txS.sends 63 = true ∧ (txS.egr 63).due = [] ∧ (txS.egr 63).susp = none ∧ txS.mmActive 63 = false ∧ (txS.egr 63).tx = none ∧ (txS.egrQ (8 * 63 + 7)).q = [eframe0] ∧
    (∀ k < 8, k ≠ 7 → (txS.egrQ (8 * 63 + k)).q = []) ∧ eframe0.complete = true ∧ eframe0.frame.pkt.ptp = none ∧ txS.aged 7 eframe0.frame.stamp = false ∧ txS.gateOpen 63 7 = true ∧ (txS.egr 63).paused.testBit 7 = false ∧
    txS.orbit.begun = false ∧ txS.rd (R.PORT_SCHED_DWRR 63) = 0 ∧ txS.rd (R.SHP_CIR_RATE 63 7) = 0 ∧ txS.rd (R.SHP_PIR_RATE 63 7) = 0 := by decide +kernel
def tx0 : Tx := { frame := frame0, cls := 7, complete := true, id := 1, units := 1, start := 0 }
theorem wit_frame_end : let s := portS.setEgr 63 { tx := some tx0 }
    NoActions s ∧ (∀ k < 4, s.bit (R.HLS1_ARM 63 k) = false) ∧ s.sends 63 = true ∧ (s.egr 63).due = [] ∧ (s.egr 63).susp = none ∧ s.mmActive 63 = false ∧ (s.egr 63).tx = some tx0 ∧ tx0.cut = none ∧ tx0.complete = true ∧ (∀ c < 8, (s.egrQ (8 * 63 + c)).q = []) := by unfold NoActions; decide +kernel
theorem wit_underrun : let x := { tx0 with complete := false }
    let s := portS.setEgr 63 { tx := some x }
    NoActions s ∧ s.sends 63 = true ∧ (s.egr 63).due = [] ∧ (s.egr 63).susp = none ∧ s.mmActive 63 = false ∧ (∀ k < 4, s.bit (R.HLS1_ARM 63 k) = false) ∧ (s.egr 63).tx = some x ∧ x.complete = false := by unfold NoActions; decide +kernel
theorem wit_mm_verify : let s := (portS.wr (R.PORT_PREEMPT_STATUS 63) 2).setEgr 63 { verify := 2 }
    s.rd (R.PORT_PREEMPT_STATUS 63) = 2 ∧ (s.egr 63).verify < 3 ∧ 3 ≤ ((s.setEgr 63 { verify := 3 }).egr 63).verify ∧ s.sys.timebase = true ∧ (s.egr 63).verifyTb + s.verifyNs 63 ≤ { s with tb := 128000000 }.tb := by decide
theorem wit_links : (portS.link 63).up = true ∧ portS.mode.fwd = true ∧ portS.mode ≠ .doze ∧ portS.octOff ((63 : Fin 64).val / 8) = false ∧ LinkKind.r25rs ≠ .r100rs ∧
    { portS with sys := { straps := 0x20 } }.sys.straps.getLsbD 5 = true ∧ (portS.link 62).up = false := by decide
theorem wit_links_present : ∀ l, slotS.absent l = false := wit_slot_cell_alone.2.2
theorem wit_host_launch : let s := portS.setBit (R.HLS1_ARM 63 3) true
    portS.bit (R.HLS1_ARM 63 3) = false ∧ s.bit (R.HLS1_ARM 63 3) = true ∧ storeGet (fun _ => false) (s.setHlsLate 63 3 true).hlsLate (4 * 63 + 3) = true ∧ storeGet (fun _ => false) s.hlsLate (4 * 63 + 3) = false ∧
    NoActions s ∧ (s.egr 63).frac = 0 ∧ s.hlsTime 63 3 ≤ (s.dom (s.rd (R.HLS1_DOM 63 3))).time ∧ (s.egr 63).tx = none ∧ ((s.setEgr 63 { tx := some tx0 }).egr 63).tx.isSome = true ∧
    s.mode.fwd = true ∧ s.portUp 63 = true ∧ (s.egr 63).due = [] ∧ 0 < ((s.setEgrQ 504 { q := [eframe0], units := 1 }).egrQ (8 * 63 + s.rd (R.HLS1_CLASS 63 3))).q.length ∧ State.reset.mode.fwd = false := by
  unfold NoActions; decide
/-- A slot one second ahead of a domain that runs at the nominal rate: TIME passes to it. -/
theorem wit_host_launch_ahead : let s := (portS.setBit (R.HLS1_ARM 63 3) true).wr (R.HLS2_NS 63 3) 5
    NoActions s ∧ s.bit (R.HLS1_ARM 63 3) = true ∧ (s.egr 63).tx = none ∧ (s.passTo (s.rd (R.HLS1_DOM 63 3)) ((s.hlsTime 63 3 : Nat) : Int)).slotDue 63 3 = true := by
  unfold NoActions; decide +kernel
theorem wit_seq_reset : let s := (freeS.setBit (R.SREC0_VALID 4095) true).wr (R.SREC0_RESET 4095) 65535
    s.bit (R.SREC0_VALID 4095) = true ∧ s.rd (R.SREC0_RESET 4095) ≠ 0 ∧ s.bit (R.SREC1_TAKEANY 4095) = false ∧ (s.setBit (R.SREC1_TAKEANY 4095) true).bit (R.SREC1_TAKEANY 4095) = true ∧ s.sys.timebase = true ∧ s.ctr (.srec 4095 5) + 1 < 4294967295 := by decide

def loopS : State := freeS.setDom 7 { hostLoop := true, lockedSeen := true }
theorem wit_loop : loopS.loopOpen 7 = true ∧ freeS.loopOpen 7 = false ∧ (submitted loopS 7 0).natAbs ≤ loopS.thresh 7 := by decide +kernel
/-- A step of one second, allowed and refused. -/
theorem wit_step : let s := (loopS.setReg (A.DOM_STEPREQ_SEC_LO 7) 1).setBit (R.DOM_CTRL_STEP_EN 7) false
    s.thresh 7 < (submitted s 7 0).natAbs ∧ s.bit (R.DOM_CTRL_STEP_EN 7) = false ∧ (s.dom 7).lockedSeen = true ∧ (s.setBit (R.DOM_CTRL_STEP_EN 7) true).bit (R.DOM_CTRL_STEP_EN 7) = true ∧ s.loopOpen 7 = true := by decide +kernel
theorem wit_slew : let s := freeS.setDom 7 { slewRem := 1 }
    s.sys.timebase = true ∧ slewEdges (s.slewPpm 7) (slewBound (s.slewPpm 7) (s.dom 7)) (s.dom 7) = some 1 := by decide +kernel
theorem wit_snap : freeS.snapPend = false ∧ { freeS with snapPend := true }.snapPend = true := by decide
theorem wit_trigger : let s := (freeS.setBit (R.TRG1_ARM 15) true).setBit (R.TRG1_PINA 15) true
    freeS.bit (R.TRG1_ARM 15) = false ∧ s.bit (R.TRG1_ARM 15) = true ∧ s.mode.afterBoot = true ∧ freeS.bit (R.TRG1_PINA 15) = false ∧ s.bit (R.TRG1_PINA 15) = true ∧ s.mode.pinsMove = true ∧
    { s with trgLate := [(15, 1)] }.lateArm 15 ≠ 0 ∧ s.sys.timebase = true ∧ ((s.setTout 0 { cfg := { mode := 6 } }).tout (s.rd (R.TRG1_PIN 15))).cfg.mode = 6 ∧
    ((s.setTout 0 { cfg := { mode := 6 } }).tout (s.rd (R.TRG1_PIN 15))).lastEdge = none ∧ ((s.setTout 0 { cfg := { mode := 6 } }).tout (s.rd (R.TRG1_PIN 15))).cfg.qual = false ∧
    ((s.setTout 0 { cfg := { mode := 6 } }).tout (s.rd (R.TRG1_PIN 15))).cfg.claim = false := by decide
/-- An edge that fell 1 ns before this TIME edge. -/
theorem wit_generator : let s := { freeS.setTout 7 { cfg := { mode := 3 }, due := some (0, 0) } with tb := 1 }
    s.mode.pinsMove = true ∧ (s.tout 7).due = some (0, 0) ∧ 64 * s.tb ≤ 0 + 64 ∧ (s.tout 7).cfg.mode = 3 ∧ (s.tout 7).pulseEnd = none ∧ (s.tout 7).level = false ∧ (s.tout 7).lastEdge = none ∧ s.muted 7 = false := by decide +kernel
theorem wit_pulse_end : ((freeS.setTout 7 { pulseEnd := some (7, 0) }).tout 7).pulseEnd = some (7, 0) ∧ ((freeS.setTout 7 { pulseEnd := some (7, 0) }).tout 7).cfgNext = none := by decide
theorem wit_tin : let s := (freeS.setBit (R.TIN_CFG_EN 7) true).wr (R.TIN_CFG_EDGE 7) 2
    s.mode.afterBoot = true ∧ s.holding 7 (s.tinAt 7 4095) = false ∧ (s.tin 7).wait = [] ∧ (s.tin 7).entered = none ∧ s.bit (R.TIN_CFG_EN 7) = true ∧ edgeSel (s.rd (R.TIN_CFG_EDGE 7)) false = true ∧ (s.tin 7).queue.length < 64 ∧
    (s.wr (R.TDC_CHSTAT_STATE 73) 1).tdcFailed (66 + 7) = true ∧ s.ctr (.tdcPin 7 1) + 1 < 4294967295 := by decide +kernel
/-- A hold-off that runs to 1 µs. -/
theorem wit_tin_held : let s := freeS.setTin 7 { holdTo := some ((1000 * nsUnit : Nat) : Int) }
    (s.tin 7).holdTo = some ((1000 * nsUnit : Nat) : Int) ∧ s.holding 7 (s.tinAt 7 4095) = true ∧ s.holding 7 ((s.tb * nsUnit : Nat) : Int) = true ∧ freeS.holding 7 ((freeS.tb * nsUnit : Nat) : Int) = false ∧
    (freeS.tin 7).holdTo = none ∧ ((1000 * nsUnit : Nat) : Int) ≤ (({ s with tb := 1000 }.tb * nsUnit : Nat) : Int) := by decide +kernel
/-- A measurement without a bin table: the pair is one period at code 0 and two at code 512. -/
theorem wit_tracker : let s := ((freeS.setLink 63 upLink).setBit (R.PTP_PORT_FINE 63) true).setTdc 63 { pair := some (0, 512) }
    s.bit (R.PTP_PORT_FINE 63) = true ∧ (s.link 63).up = true ∧ (s.measure 63 511).2.isSome = true := by decide +kernel
theorem wit_cal_called : (399 : Int) < 400 ∧ (448 : Int) ≤ 448 ∧ ((freeS.wr (R.TDC_CHSTAT_GRADE 83) 1).setTemp (min 8 (calGroup 83)) 399).calCalled 83 = true := by decide +kernel
/-- Group 9 with its grant, its spare free and ready, and channel 65 pending. -/
def calS : State := { ((((freeS.setBit (R.TDC_CHSTAT_PEND 65) true).wr (R.TDC_CHSTAT_STATE (calSpare 9)) 2).wr (R.TDC_CHSTAT_GRADE (calSpare 9)) 2)) with power := { calGrant := [9] } }
theorem wit_cal_start : calS.calMayStart 9 = true ∧ calS.cal 9 = none ∧ 9 ∈ calS.power.calGrant ∧ calS.spareFree 9 = true ∧ calS.calFirst (calChans 9) = some 65 ∧ calS.spareReady 9 = true ∧
    calS.bit (R.TDC_CHSTAT_PEND (calSpare 9)) = false := by decide +kernel
theorem wit_cal_phases : ∀ ph ∈ [CalPhase.shadow, .collect, .verify, .inplace], ((calS.setCal 9 (some { chan := 73, phase := ph, mon := true })).cal 9) = some { chan := 73, phase := ph, mon := true } := by decide
theorem wit_cal_compute : let r : CalRun := { chan := 73, phase := .compute, mon := true, counts := List.replicate 512 2048, moved := true }
    r.chan < 74 ∧ r.moved = true ∧ countsOk r.counts = true ∧ countsOk (409 :: List.replicate 511 2048) = false ∧ countsOk (List.replicate 512 6144) = true := by decide +kernel
theorem wit_cal_verify : (-2048 : Int).natAbs ≤ 2048 ∧ 2048 < 2049 := by decide

/-! ## Witnesses: PTP, references, the twin, proving -/

def ptpS : State := (((((freeS.setLink 63 upLink).setBit (R.PTP_INST_EN 7) true).wr (R.PTP_PORT_INST 63) 0x80).wr (R.PTP_PORT_TRANSPORT 63) 1).setBit (R.REF_DCFG_EXTCFG 7) true).wr (R.PTP_INST_AUX_TCLASS 7) 7
def ann0 : PtpAnn := ⟨128, 128, 6, 0x20, 0x4E5D, 1, 0⟩
def announce0 : PtpMsg :=
  { mtype := 11, malformed := false, domNum := 0, sdoId := 0, seqId := 65535, twoStep := false, ident := 5, corr := 0, origin := 0, reqIdent := 0, ann := some ann0, l1 := none, claim := none, echo := none, auth := none }
def rxAnnounce : RxFrame := { rx0 with pkt := { pkt0 with dst := 0x000000191B01, etype := 0x88F7, ptp := some announce0 }, len := 82 }
theorem wit_to_instance : ToInstance ptpS 63 7 rxAnnounce announce0 := by unfold ToInstance; decide +kernel
theorem wit_announce : ptpS.asCapable 63 7 = true ∧ announce0.path = none ∧ announce0.mtype = 11 ∧ announce0.ann = some ann0 ∧ ptpS.foreignOf 63 7 = none := by decide
/-- Under profile 3, a port whose M_p is not measured. -/
theorem wit_announce_incapable : (ptpS.wr (R.PTP_INST_PROFILE 7) 3).asCapable 63 7 = false := by decide
/-- The same master announces again over what it announced before. -/
theorem wit_announce_again : let s := ptpS.setPtp 63 { foreign := [(7, some { ident := 5, ann := ann0, tb := 0 })] }
    s.foreignOf 63 7 = some { ident := announce0.ident, ann := ann0, tb := 0 } := by decide
theorem wit_announce_send : ptpS.mode.fwd = true ∧ ptpS.mode ≠ .doze ∧ ptpS.bit (R.PTP_INST_EN 7) = true ∧ (ptpS.rd (R.PTP_PORT_INST 63)).testBit 7 = true ∧ ptpS.portUp 63 = true ∧ ptpS.tcType 7 = 0 ∧
    ptpS.portState 7 63 = 6 ∧ ptpS.rd (R.PTP_PORT_TRANSPORT 63) = 1 ∧ ptpS.bit (R.PTP_INST_AUTH 7) = false ∧ freeS.bit (R.PTP_INST_EN 6) = false := by decide +kernel
/-- Domain 7 held in HOLDOVER by the gate of port 63, on slot 0 that it keeps selected; one second after the last step SETTLE is over. -/
theorem wit_settle : let s := ((({ freeS.setDom 7 { tstate := .holdover } with tb := 1000000007 }.setPtp 63 { settle := some (0, 5, 7) }).setRef 7 { gatedBy := some 63 }).setBit (R.REF_DSTAT_SELV 7) true).wr (R.REF_CSTAT_STATE 7 0) 4
    (s.ptp 63).settle = some (0, 5, 7) ∧ (s.ref 7).gatedBy = some (63 : Fin 64).val ∧ (s.dom 7).tstate = .holdover ∧ s.selOf 7 = some 0 ∧ s.cstate 7 0 = 4 ∧ s.sys.refclkLost = false ∧ s.mode ≠ .recover ∧
    { s with mode := .recover }.mode = .recover ∧ s.sys.timebase = true ∧ (s.ref 6).gatedBy ≠ some (63 : Fin 64).val ∧ 7 + (s.wr (R.PTP_PDCFG_SETTLE 63) 0).settleNs 63 ≤ s.tb ∧ (freeS.ptp 63).settle = none := by decide
theorem wit_tc_expire : let s := { freeS.setPtp 63 { tc := [{ dom := 7, ident := 0, seqId := 0, corr := 0, tb := 5 }] } with tb := 1000000005 }
    (s.ptp 63).tc = [{ dom := 7, ident := 0, seqId := 0, corr := 0, tb := 5 }] ∧ s.sys.timebase = true ∧ 5 + tcLife ≤ s.tb ∧ (freeS.ptp 63).tc = [] := by decide
/-- Table 8-5, steps 1 to 8, at ρ = 0: the timestamp lies 1558.782 ps, 2.443636 ns, 259.840 ns and 0.350 ns before the stop edge. -/
theorem test_rx_stamp :
    let s := ((([(9, 1130), (10, 1262), (14, 1788), (15, 1920), (300, 38120), (301, 38248)].foldl (fun (s : State) x => s.wr (R.TDC_BIN_B 12 x.1) x.2) freeS).wr
      (R.PTP_LAT_RX_PS 12) 259840).wr (R.PTP_BOARD_LAT_ING 12) 350).setTdc 12 { pair := some (521, 1038) }
    let k : Pkt := { dst := 0, src := 0, vlans := [], rtag := none, hsr := none, prp := none, etype := 0, ip := none, prov := none, ptp := none, body := [] }
    (s.rxStamp 12 { pkt := k, len := 64, fcsOk := true, macErr := false, code := 812, bitPos := 2 }).2 * 1000000 / 281474976710656 = -264192419 := by
  decide +kernel
theorem wit_candidate : freeS.cstate 7 15 = 0 ∧ (freeS.wr (R.REF_CSTAT_STATE 7 15) 2).cstate 7 15 = 2 ∧ freeS.sys.timebase = true ∧ (freeS.cand 7 15).wtr + freeS.wtrNs 7 ≤ { freeS with tb := 65535000000000 }.tb ∧ (freeS.wr (R.REF_CSTAT_STATE 7 15) 7).cstate 7 15 ≠ 1 ∧ (freeS.wr (R.REF_CCFG_KIND 7 15) 0).ckind 7 15 = 0 ∧
    (freeS.wr (R.REF_CCFG_KIND 7 15) 3).ckind 7 15 ≠ 0 := by decide
theorem wit_select : freeS.maySelect 7 = true ∧ freeS.selOf 7 = none ∧ freeS.bit (R.REF_DSTAT_FORCED 7) = false ∧ (freeS.dom 7).tstate = .free ∧ (∀ j < 16, freeS.bit (R.REF_CCFG_EN 7 j) = false) := by decide
theorem wit_select_refclk : let s := ((freeS.wr (R.REF_CCFG_KIND 7 15) 3).setBit (R.REF_CCFG_EN 7 15) true).wr (R.REF_CSTAT_STATE 7 15) 3
    s.ckind 7 15 = 3 ∧ s.bit (R.REF_CCFG_EN 7 15) = true ∧ s.bit (R.REF_CCFG_MON 7 15) = false ∧ s.cstate 7 15 = 3 ∧ s.hqual = true ∧ s.maySelect 7 = true ∧ s.selOf 7 = none ∧
    (∀ j < 16, j ≠ 15 → s.bit (R.REF_CCFG_EN 7 j) = false ∧ s.cstate 7 j = 0) := by decide +kernel
/-- The orbit domain in each state of its lock, with slot 15 selected and what its time is counted from. -/
def lockS (x : TState) : State :=
  { ((freeS.setDom 0 { tstate := x }).setRef 0 { good := some 7, wide := some 7, hoTb := some 7 }).wr (R.REF_DSTAT_SEL 0) 15 with mode := .acquire, tb := 7 + 255 * 1000000000 }.setBit (R.REF_DSTAT_SELV 0) true
theorem wit_lock : ((lockS .acquire).dom 0).tstate = .acquire ∧ ((lockS .acquire).ref 0).good = some 7 ∧ (lockS .acquire).lockDetail 0 = some 15 ∧ (lockS .acquire).sys.timebase = true ∧
    7 + (lockS .acquire).lockNs 0 ≤ (lockS .acquire).tb ∧ (0 : Fin 8).val = (lockS .acquire).orbit.grid.dom ∧ ((lockS .locked).dom 0).tstate = .locked ∧ ((lockS .locked).ref 0).wide = some 7 ∧ (lockS .locked).lockDetail 0 = some 15 ∧
    (lockS .acquire).mode = .acquire ∧ { lockS .locked with mode := .locked }.mode = .locked ∧ (freeS.ref 0).good = none ∧ (freeS.ref 0).wide = none ∧ (freeS.ref 0).hoTb = none ∧ freeS.lockDetail 0 = none := by decide
theorem wit_ho_spec : let s := (lockS .holdover).wr (R.REF_DHOLD2_HO_SPEC 0) 0
    (s.dom 0).tstate = .holdover ∧ (s.ref 0).hoTb = some 7 ∧ 7 + s.rd (R.REF_DHOLD2_HO_SPEC 0) * 1000000000 ≤ s.tb ∧ s.sys.timebase = true ∧ (freeS.dom 0).tstate ≠ .holdover := by decide
theorem wit_history : (freeS.wr R.TW_STAT_FOLLOWING 128).following 7 = true ∧ freeS.following 7 = false := by decide
/-- A SyncE candidate at twice the limit; and one that came within limits at 7 ns, 65 535 s ago. -/
theorem wit_range : let s := ((freeS.setBit (R.REF_DSTAT_SELV 0) true).wr (R.REF_DSTAT_SEL 0) 15).wr (R.REF_CCFG_KIND 0 15) 1
    let u := { s with sys := { s.sys with inRange := some 7 }, tb := 7 + 65535000000000 }
    s.netSelected = true ∧ freeS.netSelected = false ∧ s.refFar = false ∧ (s.setCand 0 15 { fs := [(0, 2 * (s.refLimit : Int))] }).refFar = true ∧ s.sys.inRange = none ∧
    u.sys.inRange = some 7 ∧ u.netSelected = true ∧ 7 + u.dwin u.orbit.grid.dom * 1000000000 ≤ u.tb ∧ u.sys.timebase = true := by decide +kernel
def twinS : State := freeS.setBit R.TW_CFG_EN true
theorem wit_heartbeat : twinS.mode.afterBoot = true ∧ twinS.bit R.TW_CFG_EN = true ∧ { twinS with role := .active }.role = .active ∧ (0x0200 : BitVec 16) ≠ 0 ∧ claimPrv (0x0200 : BitVec 16).toNat = false ∧
    claimHigher (0x0200 : BitVec 16).toNat { twinS with role := .active }.ownClaim = true ∧ freeS.bit R.TW_CFG_EN = false ∧ freeS.mode.afterBoot = true := by decide +kernel
/-- A claim frame at the ends of its fields, and the same with its CRC inverted. -/
theorem wit_claim_frame : (65535 : Nat) < 65536 ∧ (255 : Nat) < 256 ∧ (claimFrame 65535 255 255 ^^^ 0x100000000#40).toNat % 4294967296 = 65535 + 65536 * 255 + 16777216 * 255 ∧ claimFrame 65535 255 255 ^^^ 0x100000000#40 ≠ claimFrame 65535 255 255 := by decide +kernel
theorem wit_judge : let s := { (twinS.setBit R.TW_STAT_ALIGNED true) with role := .moon }
    s.bit R.TW_CFG_EN = true ∧ s.mode.fwd = true ∧ s.role = .moon ∧ s.bit R.TW_STAT_ORPHAN = false ∧ s.bit R.TW_STAT_ALIGNED = true ∧ s.twin.heardLink = false ∧ s.twin.heardPins = false ∧ s.twin.lossLink = false ∧ s.twin.lossPins = false := by decide
/-- The join wait ends exactly. -/
theorem wit_join : let s := { twinS with twin := { join := some 5 }, tb := 5 + twinS.joinNs }
    s.twin.join = some 5 ∧ 5 + s.joinNs ≤ s.tb ∧ s.mode.fwd = true ∧ s.role = .solo ∧ s.twin.roleNext = none ∧ 4 + s.joinNs < s.tb ∧ s.tb < 6 + s.joinNs := by decide +kernel
/-- The same wait of a Moon. -/
theorem wit_join_moon : let s := { twinS with role := .moon, twin := { join := some 5 }, tb := 5 + { twinS with role := .moon }.joinNs }
    s.twin.join = some 5 ∧ 5 + s.joinNs ≤ s.tb ∧ s.mode.fwd = true ∧ s.role = .moon ∧ s.bit R.TW_STAT_ORPHAN = false ∧ s.twin.joinHeard = false ∧ { s.twin with joinHeard := true }.joinHeard = true := by decide +kernel
theorem wit_revert : let s := { twinS with role := .moon, twin := { revHold := some 1 }, tb := 1 + secNs (twinS.rd R.TW_TIME_REVERT_HOLD) }
    s.twin.revHold = some 1 ∧ s.role = .moon ∧ 1 + secNs (s.rd R.TW_TIME_REVERT_HOLD) ≤ s.tb ∧ 0 < secNs (s.rd R.TW_TIME_REVERT_HOLD) := by decide +kernel
theorem wit_orphan : let s := { ((((twinS.setBit R.TW_STAT_ORPHAN true).setBit (R.REF_DSTAT_SELV 0) true).wr (R.REF_CCFG_KIND 0 0) 1).setDom 0 { tstate := .locked }) with role := .moon }
    s.role = .moon ∧ s.bit R.TW_STAT_ORPHAN = true ∧ s.mode.fwd = true ∧ s.tstate = .locked ∧ s.selOf s.orbit.grid.dom = some 0 ∧ s.ckind s.orbit.grid.dom 0 ≠ 3 ∧ s.bit (R.REF_CSTAT_UNCORR s.orbit.grid.dom 0) = false ∧
    s.bit (R.REF_CSTAT_OUTVOTED s.orbit.grid.dom 0) = false ∧ s.twin.echoHigh = none ∧ twinS.bit R.TW_STAT_ORPHAN = false := by decide +kernel
theorem wit_twin_slot : let s := { (twinS.wr R.TW_CFG_CWIN 0) with twin := { slot := some (7, 1) }, tb := 100000001 }
    s.twin.slot = some (7, 1) ∧ 1 + 100000000 * max 1 (s.rd R.TW_CFG_CWIN) ≤ s.tb ∧ { s with tb := 100000000 }.tb < 1 + 100000000 * max 1 (s.rd R.TW_CFG_CWIN) := by decide +kernel
theorem wit_clf_slot : let s := { (twinS.wr (R.CLF_CFG_WIN 7) 0) with tb := 1000000 }
    (storeGet (fun _ => ({} : ClfAge)) s.clfAges 7).hi + 1000000 * max 1 (s.rd (R.CLF_CFG_WIN 7)) ≤ s.tb ∧ (storeGet (fun _ => ({} : ClfAge)) s.clfAges 7).phi + 1000000 * max 1 (s.rd (R.CLF_CFG_WIN 7)) ≤ s.tb := by decide +kernel
theorem wit_exchange : twinS.bit R.TW_CFG_EN = true ∧ twinS.mode.fwd = true ∧ { twinS with role := .moon }.role ≠ .solo ∧ twinS.role = .solo := by decide
/-- The second of the day that ends it, on the day after the last run. -/
theorem wit_schedule : let s := { ((freeS.setBit R.PRV_SCHED_EN true).wr R.PRV_SCHED_SOD 86399).setDom 0 { time := 86399 * secUnit } with prv := { day := some 1 } }
    s.bit R.PRV_SCHED_EN = true ∧ min 86399 (s.rd R.PRV_SCHED_SOD) ≤ s.daySec.2 ∧ s.prv.day ≠ some s.daySec.1 ∧ s.prv.due = none ∧ s.prv.request = none ∧ s.prvMayEnter = true ∧ (s.wr R.PRV_CFG_PLAN 1).rd R.PRV_CFG_PLAN % 8 ≠ 0 ∧
    freeS.bit R.PRV_SCHED_EN = false := by decide +kernel
theorem wit_skipped : { freeS with prv := { due := some 7 } }.prv.due = some 7 ∧ 7 + secNs 3600 ≤ { freeS with tb := 3600000000007 }.tb ∧ freeS.tb < 7 + secNs 3600 ∧ freeS.prv.due = none ∧
    freeS.bit R.PRV_STAT_RUN = false := by decide
theorem wit_step_end : let s := (({ freeS with mode := .proving, tb := 10000000000 }).setBit R.PRV_STAT_RUN true)
    s.bit R.PRV_STAT_RUN = true ∧ { s with prv := { plan := 2, step := 0 } }.prv.plan.testBit 1 = true ∧ { s with prv := { plan := 4, step := 2 } }.prv.step = 2 ∧ { s with prv := { plan := 4, step := 2 } }.mode = .proving ∧
    { s with prv := { plan := 4, step := 2, loops := [(3, ((secNs 10 * nsUnit + 1 : Nat) : Int))] } }.timingPass = true ∧ { s with prv := { plan := 4, step := 1 } }.prv.met = none ∧ { s with prv := { plan := 4, step := 1 } }.prv.plan.testBit 2 = true ∧
    0 + secNs (max 1 (s.rd R.PRV_CFG_PATH_T)) ≤ s.tb ∧ 0 + secNs (max 1 (s.rd R.PRV_CFG_TIMING_T)) ≤ s.tb ∧ 0 + secNs 10 ≤ s.tb ∧ freeS.tb < freeS.prv.stepStart + freeS.stepNs := by decide +kernel
theorem wit_step_fails : let s := { ((freeS.setBit R.PRV_STAT_RUN true).wr R.PRV_CFG_LOOP 8) with mode := .proving, prv := { plan := 4, step := 2, loops := [(3, ((secNs 10 * nsUnit : Nat) : Int))] } }
    s.timingPass = false ∧ (s.rd R.PRV_STAT_STEPS).testBit 2 = false := by decide +kernel

/-! ## Witnesses: the step and its invariants -/

theorem wit_registers : RegsOk freeS ∧ RegsOk (freeS.setReg (A.FAB_CLASS 7) 5) := by unfold RegsOk; decide +kernel
theorem wit_frames : engineRow (.nop 8 ⟨0⟩) = true ∧ actionRow (.rswapEffect 8) = true ∧ firmwareRow .twinJudge = true ∧ egressRow (.fabricSlot []) = true ∧ macRow (.txEnd 63) = true ∧ heatRow (.calPending 83 0) = true ∧ receiveRow (.frameReceive 63 .whole rx0 false) = true ∧ linkRow (.linkDown 63 false) = true ∧
    timeRow (.slewEnd 7) = true ∧ tdcRow (.trackerSample 63 0) = true ∧ clockRow .refclkLost = true ∧ lineRow (.perstN) = true ∧ readRow .glbRcvRead = true := by decide

theorem wit_executable : Executable (.mbusRead 7 0xFFF false) freeS ∧ Executable (.registerWrite 5 0xFFFF 15 0) freeS ∧ Executable (.counterLowRead 1 0x3FFFF) freeS ∧ Executable (.latchingRead 0x7FFFFFC) freeS ∧
    Executable (.tapInstruction (.other 0)) freeS ∧ Executable .refclkExcursion freeS ∧ Executable (.warmReset 2) freeS := by
  simp only [Executable]; decide

/-! ## Results of single commands, worked out by hand from the tables -/

def after {α : Type} (i : Instr) (s : State) (f : State → α) : Option α := match exec i s with | .next t => some (f t) | .fault _ => none | .refused _ => none
def digits : List Nat := [0x31, 0x32, 0x33, 0x34, 0x35, 0x36, 0x37, 0x38, 0x39]
-- the check values of Table 0-7
theorem test_crc_check_values : crc8 digits = 0xF4 ∧ crc16 digits = 0x29B1 ∧ crc32c digits = 0xE3069283 ∧ crc32 digits = 0xCBF43926 := by decide +kernel
-- a cell of port 63 for port 1, class 7, frame 0x1234, its sixth cell, no descriptor in it, 120 bytes: fields as Table 3-2 places them
theorem test_cell_header : Cell.fields { src := 63, dst := 1, tc := 7, mc := false, bitmap := 0, fnum := 0x1234, cidx := 5, first := 127, rsvOut := none, pieces := [⟨0x1234, 120, none, false, false⟩] } = 0x783F851234707F := by decide +kernel
def gS : State := engS 0 { run0 with g := [(1, 0x80000001), (2, 0xFFFFFFFF), (3, 33)] }
theorem test_add_wraps : after (.add 0 ⟨1, 1, 2, false, 0, 0⟩) gS (fun t => ((t.eng 0).getG 1, (t.eng 0).pc, (t.eng 0).cyc)) = some (0x80000000, 1, 1) := by decide +kernel
theorem test_sub_borrows : after (.sub 0 ⟨4, 0, 1, false, 0, 0⟩) gS (fun t => (t.eng 0).getG 4) = some 0x7FFFFFFF := by decide +kernel
-- b[4:0] of 33 is 1
theorem test_shl_five_bits : after (.shl 0 ⟨4, 1, 3, false, 0, 0⟩) gS (fun t => (t.eng 0).getG 4) = some 2 := by decide +kernel
theorem test_shr_fills_zero : after (.shr 0 ⟨4, 1, 3, false, 0, 0⟩) gS (fun t => (t.eng 0).getG 4) = some 0x40000000 := by decide +kernel
theorem test_sar_fills_sign : after (.sar 0 ⟨4, 1, 3, false, 0, 0⟩) gS (fun t => (t.eng 0).getG 4) = some 0xC0000000 := by decide +kernel
theorem test_mul_low_word : after (.mul 0 ⟨4, 2, 2, false, 0, 0⟩) gS (fun t => ((t.eng 0).getG 4, (t.eng 0).cyc)) = some (1, 4) := by decide +kernel
theorem test_minu_unsigned : after (.minu 0 ⟨4, 1, 3, false, 0, 0⟩) gS (fun t => (t.eng 0).getG 4) = some 33 := by decide +kernel
theorem test_blts_signed : after (.blts 0 ⟨1, 3, false, 0x100, 0, 0⟩) gS (fun t => (t.eng 0).pc) = some 0x100 := by decide +kernel
theorem test_bltu_unsigned : after (.bltu 0 ⟨1, 3, false, 0x100, 0, 0⟩) gS (fun t => (t.eng 0).pc) = some 1 := by decide +kernel
-- from 0 the count wraps and the branch is taken
theorem test_dbnz_from_zero : after (.dbnz 0 ⟨5, 0x100, 0, 0, 0⟩) gS (fun t => ((t.eng 0).getG 5, (t.eng 0).pc)) = some (0xFFFFFFFF, 0x100) := by decide +kernel
theorem test_call_last_word : after (.call 0 ⟨2, 0, 0⟩) (engS 0 { run0 with pc := 4095 }) (fun t => ((t.eng 0).stack, (t.eng 0).pc)) = some ([0], 2) := by decide +kernel
theorem test_ld_high_word : after (.ldH 0 ⟨1, 0, 4095, 0, 0⟩) ((engS 0 run0).setReg (bankAddr 0 false 4095 + 4) 7) (fun t => (t.eng 0).getG 1) = some 7 := by decide +kernel
-- a wrapping 48-bit counter keeps the excess; a saturating one keeps its largest value (R389)
theorem test_counter_wraps : ((((freeS.setReg (Ctr.eng 8 0).lo.addr 0xFFFFFFFF).setReg ((Ctr.eng 8 0).lo.addr + 4) 0xFFFF)).countBy (.eng 8 0) 3).ctr (.eng 8 0) = 2 := by decide +kernel
theorem test_counter_saturates : ((freeS.setReg (Ctr.eng 8 8).lo.addr 0xFFFFFFFE).countBy (.eng 8 8) 3).ctr (.eng 8 8) = 0xFFFFFFFF := by decide +kernel
-- R394: reading the word of a 31-bit counter ends what the reader had latched of a wide one
theorem test_latch_ends : let s := { busS with bus := { busS.bus with latch := [(0, some { addr := 0x1008380, hi := 1, sticky := true })] } }
    after (.mbusRead 0 0x5C false) s (fun t => (t.ctrLatch 0).isSome) = some true ∧ after (.mbusRead 0 0x58 false) s (fun t => (t.ctrLatch 0).isSome) = some false := by decide +kernel
theorem test_short_reset_pulse : after (.resetN 99 0 false) freeS (·.mode) = some .free := by decide +kernel
theorem test_full_reset_pulse : after (.resetN 100 0 false) freeS (·.mode) = some .strap := by
  simp [after, exec, execResetN, State.fullReset]
theorem test_bad_key_counts : after (.glbResetWrite 0x5B01) freeS (fun t => (t.mode, t.rd R.GLB_RCV_BADKEY)) = some (.free, 1) := by decide +kernel
theorem test_idcode : after (.tapInstruction .idcode) State.reset (·.out) = some [.jtag 0x06480A3F] := by decide +kernel
theorem test_step_order : (match step { freeS with pending := [.tapInstruction .bypass, .tapInstruction .idcode] } with | .next t => some (t.out, t.pending) | .fault _ => none | .refused _ => none) =
    some ([.jtag 0], [.tapInstruction .idcode]) := by decide +kernel
theorem test_beyond_bar : exec (.mbusRead 0 0x8000000 false) busS = .fault (.outsideBar 0 0x8000000) := rfl
theorem test_sequence_number_wraps : after (.domainLoopOpen (cmd 0 [7])) stageS (fun t => (t.txns.map (·.seq), t.rd R.MB_STATUS_NEXTSEQ)) = some ([65535], 1) := by decide +kernel
theorem test_word_spells_no_command : decodeTableWord 64 0 = none ∧ (State.reset.withFetchWord 64 0) = State.reset := by decide +kernel

end Sys2Proof.Tests
end

section
/-! ## The frame `Still`: what leaves TIME, the waiting commands, the Orbits and the domains -/

namespace Sys2Proof.Machine

-- The many short proofs are elaborated one after another: at once, each takes a thread with a stack of its own.
set_option Elab.async false

variable {s₀ s : State}

/-- What a state keeps of another that differs in none of TIME, the waiting commands, the Orbits and the domains: registers stay in
canonical form, and all else may differ. -/
structure Still (s₀ s : State) : Prop where
  regsOk : RegsOk s₀ → RegsOk s
  tb : s.tb = s₀.tb
  pending : s.pending = s₀.pending
  orbNum : s.orbNum = s₀.orbNum
  orbit : s.orbit = s₀.orbit
  domains : s.domains = s₀.domains

theorem Still.refl (s : State) : Still s s := ⟨id, rfl, rfl, rfl, rfl, rfl⟩

theorem Still.trans {t : State} (h : Still s₀ s) (k : Still s t) : Still s₀ t :=
  ⟨k.regsOk ∘ h.regsOk, k.tb.trans h.tb, k.pending.trans h.pending, k.orbNum.trans h.orbNum, k.orbit.trans h.orbit, k.domains.trans h.domains⟩

theorem Still.dom {d : Nat} (h : Still s₀ s) : s.dom d = s₀.dom d := by
  unfold State.dom
  rw [h.domains]

/-- Any other part of the state is set. -/
theorem Still.parts
    {mode : Mode} {role : Role} {sys : Sys} {clk : Clk} {twin : Twin} {clfAges : Store ClfAge} {prv : Prv} {pcie : Pcie} {bus : Bus}
    {engines : Store Engine} {touts : Store Tout} {tins : Store Tin} {links : Store Link} {tdcs : Store TdcChan} {cals : Store (Option CalRun)}
    {ivls : Store Ivl} {trackers : Store Tracker} {power : Power} {hub : Hub} {slot slotTb nextId freeCount : Nat} {voqs : Store Voq}
    {accts : Store Acct} {inters : Store Inter} {egrFull rsvIgnored posted : List Nat} {rr trgLate : Store Nat} {wires : Store (List Cell)}
    {reasms : Store Reasm} {egrQs : Store EgrQ} {egresses : Store Egress} {shapers : Store Shaper} {buckets : Store Bucket}
    {seqHists : Store SeqHist} {sgLog : List (Nat × Nat × Bool)} {rsvReq : Option Nat} {ptps : Store PtpPort} {dsets : Store (Option (List Word))}
    {refs : Store Ref} {cands : Store Cand} {keys : Store (List Byte)} {binds journal : List (Nat × Nat × Nat)} {agent : Agent} {mbs : Store Mb}
    {txns : List Txn} {glists gpends : Store (Option GateList)} {hlsLate : Store Bool} {snapPend : Bool} {out : List Out} :
    Still s
      { s with
        mode := mode, role := role, sys := sys, clk := clk, twin := twin, clfAges := clfAges, prv := prv, pcie := pcie, bus := bus,
        engines := engines, touts := touts, tins := tins, links := links, tdcs := tdcs, cals := cals, ivls := ivls, trackers := trackers,
        power := power, hub := hub, slot := slot, slotTb := slotTb, voqs := voqs, accts := accts, inters := inters, egrFull := egrFull, rr := rr,
        wires := wires, reasms := reasms, egrQs := egrQs, nextId := nextId, egresses := egresses, shapers := shapers, buckets := buckets,
        seqHists := seqHists, sgLog := sgLog, rsvIgnored := rsvIgnored, rsvReq := rsvReq, ptps := ptps, dsets := dsets, refs := refs, cands := cands,
        keys := keys, binds := binds, agent := agent, mbs := mbs, posted := posted, txns := txns, journal := journal, glists := glists,
        gpends := gpends, trgLate := trgLate, hlsLate := hlsLate, snapPend := snapPend, out := out, freeCount := freeCount } :=
  ⟨id, rfl, rfl, rfl, rfl, rfl⟩

theorem Still.upd {t : State} (h : Still s₀ s) (k : Still s t := by exact .parts) : Still s₀ t := h.trans k

theorem Still.setReg {a : Nat} {w : Word} (h : Still s₀ s) : Still s₀ (s.setReg a w) :=
  h.trans ⟨s.setReg_regsOk a w, rfl, rfl, rfl, rfl, rfl⟩

theorem Still.wr {f : Fld} {v : Nat} (h : Still s₀ s) : Still s₀ (s.wr f v) := h.setReg
theorem Still.setBit {f : Fld} {b : Bool} (h : Still s₀ s) : Still s₀ (s.setBit f b) := h.wr

theorem Still.ite {c : Prop} {i : Decidable c} {t u : State} (ht : Still s₀ t) (hu : Still s₀ u) : Still s₀ (if c then t else u) := by
  split
  · exact ht
  · exact hu

theorem Still.foldl {α : Type} {f : State → α → State} {l : List α} (h : Still s₀ s) (hf : ∀ u x, Still s₀ u → Still s₀ (f u x)) :
    Still s₀ (l.foldl f s) := by
  induction l generalizing s with
  | nil => exact h
  | cons x l ih => exact ih (hf s x h)

theorem Still.ite_fst {α : Type} {c : Prop} {i : Decidable c} {p q : State × α} (hp : Still s₀ p.1) (hq : Still s₀ q.1) :
    Still s₀ (if c then p else q).1 := by
  split
  · exact hp
  · exact hq

theorem Still.of_fst {α : Type} {p : State × α} {a : α} (h : Still s₀ p.1) (e : p = (s, a)) : Still s₀ s := by
  rw [e] at h
  exact h

/-! ### Operations that Orbit starts and resets are made of -/

theorem Still.setEng {e : Nat} {x : Engine} (h : Still s₀ s) : Still s₀ (s.setEng e x) := h.upd
theorem Still.setTout {p : Nat} {x : Tout} (h : Still s₀ s) : Still s₀ (s.setTout p x) := h.upd
theorem Still.emit {o : Out} (h : Still s₀ s) : Still s₀ (s.emit o) := h.upd
theorem Still.deliver {v : Nat} (h : Still s₀ s) : Still s₀ (s.deliver v) := .ite h (.ite h.setBit h.setBit.emit)

theorem Still.syncVec {v : Nat} (h : Still s₀ s) : Still s₀ (s.syncVec v) :=
  .ite (.ite h h.upd.deliver) <|
  .ite h.upd.setBit h

theorem Still.setCtr {c : Ctr} {v : Nat} (h : Still s₀ s) : Still s₀ (s.setCtr c v) := .ite h.wr h.wr.wr
theorem Still.overflowed {c : Ctr} (h : Still s₀ s) : Still s₀ (s.overflowed c) := .ite h.setBit.setBit.syncVec h.setBit

theorem Still.countBy {c : Ctr} {n : Nat} (h : Still s₀ s) : Still s₀ (s.countBy c n) := by
  unfold State.countBy
  extract_lets v
  split
  · exact h
  · split
    · exact .ite h (.ite h.setCtr.overflowed h.setCtr)
    · exact .ite h.setCtr.overflowed h.setCtr

theorem Still.count {c : Ctr} (h : Still s₀ s) : Still s₀ (s.count c) := h.countBy

theorem Still.setWords {a : Nat} {ws : List Word} (h : Still s₀ s) : Still s₀ (s.setWords a ws) := by
  induction ws generalizing s a with
  | nil => exact h
  | cons w ws ih => exact ih h.setReg

theorem Still.logAs {src sev : Nat} {int : Bool} {code p0 p1 : Nat} (h : Still s₀ s) : Still s₀ (s.logAs src sev int code p0 p1) := by
  unfold State.logAs
  extract_lets i unread s1 s2
  have h1 : Still s₀ s1 := h.setWords
  have h2 : Still s₀ s2 := .ite h1.count.wr h1
  exact h2.wr

theorem Still.log {code p0 p1 : Nat} (h : Still s₀ s) : Still s₀ (s.log code p0 p1) := h.logAs
theorem Still.toMode {m : Mode} {cause detail : Nat} (h : Still s₀ s) : Still s₀ (s.toMode m cause detail) := .ite h h.log.upd.setBit.syncVec
theorem Still.setRole {r : Role} {claim : Nat} (h : Still s₀ s) : Still s₀ (s.setRole r claim) := h.log.wr.upd

theorem Still.judgeLate {d : Nat} (h : Still s₀ s) : Still s₀ (s.judgeLate d) :=
  (h.foldl fun _ _ hu => .ite hu.upd hu).foldl fun _ _ hu => .ite hu.upd hu

theorem Still.noteLoop {p at64 : Nat} (h : Still s₀ s) : Still s₀ (s.noteLoop p at64) := .ite h.upd h

theorem Still.drive {p : Nat} {l : Bool} {at64 : Nat} (h : Still s₀ s) : Still s₀ (s.drive p l at64).1 :=
  .ite_fst h (.ite_fst h h.setTout.emit.noteLoop)

theorem Still.noteRise {p : Fin 8} {at64 : Nat} (h : Still s₀ s) : Still s₀ (s.noteRise p at64) := .ite h h.upd
theorem Still.pinsOff (h : Still s₀ s) : Still s₀ s.pinsOff := h.foldl fun _ _ hu => (Still.ite hu.emit hu).setTout
theorem Still.resyncPins {d : Nat} (h : Still s₀ s) : Still s₀ (s.resyncPins d) := h.foldl fun _ _ hu => .ite hu.setTout hu

theorem Still.trgPin {k : Nat} {late : Bool} (h : Still s₀ s) : Still s₀ (s.trgPin k late) := by
  unfold State.trgPin
  extract_lets p D at64 s0
  have h0 : Still s₀ s0 := .ite h.noteRise h
  exact .ite h <|
    .ite h.setBit <|
    .ite h <|
    .ite h0 (.ite h0.drive.setBit h0.drive)

theorem Still.trgFire {k : Nat} (h : Still s₀ s) : Still s₀ (s.trgFire k) := by
  unfold State.trgFire
  extract_lets late s1 s2 s3
  have h1 : Still s₀ s1 := h.trgPin.setBit
  have h2 : Still s₀ s2 := h1.setBit
  have h3 : Still s₀ s3 := .ite h2.setBit h2
  exact .ite h h3.upd.syncVec

theorem Still.trgDue {d : Nat} (h : Still s₀ s) : Still s₀ (s.trgDue d) := h.foldl fun _ _ hu => .ite hu.trgFire hu
theorem Still.setEgr {p : Nat} {x : Egress} (h : Still s₀ s) : Still s₀ (s.setEgr p x) := h.upd

theorem Still.launch {p c : Nat} {slot : Option Nat} {prio : Nat} (h : Still s₀ s) : Still s₀ (s.launch p c slot prio).1 :=
  .ite_fst h h.setEgr

theorem Still.putSample {words : List Word} (h : Still s₀ s) : Still s₀ (s.putSample words) := .ite h (.ite h.count h.wr.emit)

theorem Still.sampleAct {e : Nat} {x2 : Act} {disc : Option Nat} {actual : Int} (h : Still s₀ s) : Still s₀ (s.sampleAct e x2 disc actual) := by
  unfold State.sampleAct
  extract_lets u
  split
  · exact h
  · exact h.setEng.putSample

theorem Still.sampleDiscard {e cause : Nat} {as : List Act} (h : Still s₀ s) : Still s₀ (s.sampleDiscard e cause as) :=
  h.foldl fun _ _ hu => hu.sampleAct

theorem Still.noteCyc {e cyc : Nat} (h : Still s₀ s) : Still s₀ (s.noteCyc e cyc) := .ite h.wr h
theorem Still.abandonRun {e cyc : Nat} (h : Still s₀ s) : Still s₀ (s.abandonRun e cyc) := h.sampleDiscard.countBy.noteCyc.setEng
theorem Still.setHlsLate {p k : Nat} {b : Bool} (h : Still s₀ s) : Still s₀ (s.setHlsLate p k b) := h.upd

theorem Still.hlsFire {p k : Nat} (h : Still s₀ s) : Still s₀ (s.hlsFire p k) := by
  unfold State.hlsFire
  extract_lets late s1 s2
  have h1 : Still s₀ s1 := h.setBit.setBit.setHlsLate
  have h2 : Still s₀ s2 := .ite h1.setBit h1
  split
  · exact h
  · split
    next hp =>
      exact Still.of_fst (.ite_fst h2.launch h2) hp
    next hp =>
      have h3 := Still.of_fst (.ite_fst h2.launch h2) hp
      exact h3.setBit

theorem Still.hlsDue {d : Nat} (h : Still s₀ s) : Still s₀ (s.hlsDue d) := h.foldl fun _ _ hu => .ite hu.hlsFire hu
theorem Still.soloRole (h : Still s₀ s) : Still s₀ s.soloRole := (Still.ite h h.setRole).upd
theorem Still.strapRegs (h : Still s₀ s) : Still s₀ s.strapRegs := h.wr.setBit.setBit.wr.wr.setBit
theorem Still.prvSeqs (h : Still s₀ s) : Still s₀ s.prvSeqs := (h.foldl fun _ _ hu => hu.wr).upd
theorem Still.fireDue (h : Still s₀ s) : Still s₀ s.fireDue := h.foldl fun _ _ hu => .ite hu.trgDue.hlsDue hu
theorem Still.overrun {e : Nat} (h : Still s₀ s) : Still s₀ (s.overrun e) := .ite h.abandonRun.count.setBit h

end Sys2Proof.Machine
end

section
/-! ## The frame `Keeps`: what every operation keeps but for resets and Orbit starts (R7, R188) -/

namespace Sys2Proof.Machine

-- The many short proofs are elaborated one after another: at once, each takes a thread with a stack of its own.
set_option Elab.async false

variable {s₀ s : State}

/-- What every operation of the block keeps, but for resets, Orbit starts and the steps of the domains at them: TIME does not run back, the
waiting commands, the Orbit number and the epochs of the domains stay, and whether Orbit 0 has started. -/
structure Keeps (s₀ s : State) : Prop where
  regsOk : RegsOk s₀ → RegsOk s
  tb : s₀.tb ≤ s.tb
  pending : s.pending = s₀.pending
  orbNum : s.orbNum = s₀.orbNum
  begun : s.orbit.begun = s₀.orbit.begun
  epoch : ∀ d < 8, (s.dom d).epoch = (s₀.dom d).epoch

theorem Keeps.refl (s : State) : Keeps s s := ⟨id, le_rfl, rfl, rfl, rfl, fun _ _ => rfl⟩

theorem Keeps.trans {t : State} (h : Keeps s₀ s) (k : Keeps s t) : Keeps s₀ t where
  regsOk := k.regsOk ∘ h.regsOk
  tb := h.tb.trans k.tb
  pending := k.pending.trans h.pending
  orbNum := k.orbNum.trans h.orbNum
  begun := k.begun.trans h.begun
  epoch d hd := (k.epoch d hd).trans (h.epoch d hd)

theorem Keeps.still {t : State} (h : Keeps s₀ s) (k : Still s t) : Keeps s₀ t where
  regsOk := k.regsOk ∘ h.regsOk
  tb := k.tb ▸ h.tb
  pending := k.pending.trans h.pending
  orbNum := k.orbNum.trans h.orbNum
  begun := k.orbit ▸ h.begun
  epoch d hd := by
    rw [← h.epoch d hd, State.dom, k.domains]
    rfl

theorem Keeps.upd {t : State} (h : Keeps s₀ s) (k : Still s t := by exact .parts) : Keeps s₀ t := h.still k

/-- TIME passes. -/
theorem Keeps.pass {n : Nat} (h : Keeps s₀ s) (hn : s.tb ≤ n) : Keeps s₀ { s with tb := n } where
  regsOk := h.regsOk
  tb := h.tb.trans hn
  pending := h.pending
  orbNum := h.orbNum
  begun := h.begun
  epoch := h.epoch

/-- The grid of Orbit starts changes; whether Orbit 0 has started does not. -/
theorem Keeps.setOrbit {o : Orbit} (h : Keeps s₀ s) (ho : o.begun = s.orbit.begun := by rfl) : Keeps s₀ { s with orbit := o } where
  regsOk := h.regsOk
  tb := h.tb
  pending := h.pending
  orbNum := h.orbNum
  begun := ho.trans h.begun
  epoch := h.epoch

/-- Register words are changed throughout. -/
theorem Keeps.mapRegs {f : Nat → Word → Word} (h : Keeps s₀ s) : Keeps s₀ { s with regs := storeMap resetWord f s.regs } where
  regsOk k := storeWf_storeMap resetWord f (h.regsOk k)
  tb := h.tb
  pending := h.pending
  orbNum := h.orbNum
  begun := h.begun
  epoch := h.epoch

theorem Keeps.setReg {a : Nat} {w : Word} (h : Keeps s₀ s) : Keeps s₀ (s.setReg a w) := h.still (Still.refl s).setReg

theorem Keeps.setDom {d : Nat} {x : Domain} (h : Keeps s₀ s) (hx : x.epoch = (s.dom d).epoch := by rfl) : Keeps s₀ (s.setDom d x) where
  regsOk := h.regsOk
  tb := h.tb
  pending := h.pending
  orbNum := h.orbNum
  begun := h.begun
  epoch k hk := by
    rw [← h.epoch k hk]
    by_cases hkd : k = d
    · rw [hkd, State.dom_setDom_same, hx]
    · rw [State.dom_setDom_ne s hkd]

theorem Keeps.ite {c : Prop} {i : Decidable c} {t u : State} (ht : Keeps s₀ t) (hu : Keeps s₀ u) : Keeps s₀ (if c then t else u) := by
  split
  · exact ht
  · exact hu

theorem Keeps.foldl {α : Type} {f : State → α → State} {l : List α} (h : Keeps s₀ s) (hf : ∀ u x, Keeps s₀ u → Keeps s₀ (f u x)) :
    Keeps s₀ (l.foldl f s) := by
  induction l generalizing s with
  | nil => exact h
  | cons x l ih => exact ih (hf s x h)

theorem Keeps.ite_fst {α : Type} {c : Prop} {i : Decidable c} {p q : State × α} (hp : Keeps s₀ p.1) (hq : Keeps s₀ q.1) :
    Keeps s₀ (if c then p else q).1 := by
  split
  · exact hp
  · exact hq

theorem Keeps.foldl_fst {α β : Type} {f : State × β → α → State × β} {l : List α} {p : State × β} (h : Keeps s₀ p.1)
    (hf : ∀ u x, Keeps s₀ u.1 → Keeps s₀ (f u x).1) : Keeps s₀ (l.foldl f p).1 := by
  induction l generalizing p with
  | nil => exact h
  | cons x l ih => exact ih (hf p x h)

theorem Keeps.of_fst {α : Type} {p : State × α} {a : α} (h : Keeps s₀ p.1) (e : p = (s, a)) : Keeps s₀ s := by
  rw [e] at h
  exact h

theorem Keeps.fst {α : Type} {a : α} (h : Keeps s₀ s) : Keeps s₀ (s, a).1 := h

/-- Every next state that the outcome gives is kept to. -/
def Onward (s₀ : State) (o : Host.Outcome State Fault Refusal) : Prop := ∀ t, o = .next t → Keeps s₀ t

theorem Keeps.next (h : Keeps s₀ s) : Onward s₀ (.next s) := by
  intro t ht
  cases ht
  exact h

theorem Onward.fault (f : Fault) : Onward s₀ (.fault f) := fun _ h => nomatch h
theorem Onward.refused (r : Refusal) : Onward s₀ (.refused r) := fun _ h => nomatch h
theorem Keeps.wr {f : Fld} {v : Nat} (h : Keeps s₀ s) : Keeps s₀ (s.wr f v) := h.setReg
theorem Keeps.setBit {f : Fld} {b : Bool} (h : Keeps s₀ s) : Keeps s₀ (s.setBit f b) := h.wr

end Sys2Proof.Machine
end

section
/-! ## Keeps: pins, time, TDC channels, clocks and power -/

namespace Sys2Proof.Machine

-- The many short proofs are elaborated one after another: at once, each takes a thread with a stack of its own.
set_option Elab.async false

variable {s₀ s : State}

/-! ### Pins, lines, counters, the log and modes -/

theorem Keeps.setEng {e : Nat} {x : Engine} (h : Keeps s₀ s) : Keeps s₀ (s.setEng e x) := h.still (Still.refl s).setEng
theorem Keeps.setTout {p : Nat} {x : Tout} (h : Keeps s₀ s) : Keeps s₀ (s.setTout p x) := h.still (Still.refl s).setTout
theorem Keeps.setTin {p : Nat} {x : Tin} (h : Keeps s₀ s) : Keeps s₀ (s.setTin p x) := h.upd
theorem Keeps.setLink {p : Nat} {x : Link} (h : Keeps s₀ s) : Keeps s₀ (s.setLink p x) := h.upd
theorem Keeps.emit {o : Out} (h : Keeps s₀ s) : Keeps s₀ (s.emit o) := h.still (Still.refl s).emit
theorem Keeps.deliver {v : Nat} (h : Keeps s₀ s) : Keeps s₀ (s.deliver v) := h.still (Still.refl s).deliver
theorem Keeps.syncVec {v : Nat} (h : Keeps s₀ s) : Keeps s₀ (s.syncVec v) := h.still (Still.refl s).syncVec
theorem Keeps.setCtr {c : Ctr} {v : Nat} (h : Keeps s₀ s) : Keeps s₀ (s.setCtr c v) := h.still (Still.refl s).setCtr
theorem Keeps.countBy {c : Ctr} {n : Nat} (h : Keeps s₀ s) : Keeps s₀ (s.countBy c n) := h.still (Still.refl s).countBy
theorem Keeps.count {c : Ctr} (h : Keeps s₀ s) : Keeps s₀ (s.count c) := h.still (Still.refl s).count
theorem Keeps.setWords {a : Nat} {ws : List Word} (h : Keeps s₀ s) : Keeps s₀ (s.setWords a ws) := h.still (Still.refl s).setWords

theorem Keeps.logAs {src sev : Nat} {int : Bool} {code p0 p1 : Nat} (h : Keeps s₀ s) :
    Keeps s₀ (s.logAs src sev int code p0 p1) := h.still (Still.refl s).logAs

theorem Keeps.log {code p0 p1 : Nat} (h : Keeps s₀ s) : Keeps s₀ (s.log code p0 p1) := h.still (Still.refl s).log
theorem Keeps.toMode {m : Mode} {cause detail : Nat} (h : Keeps s₀ s) : Keeps s₀ (s.toMode m cause detail) := h.still (Still.refl s).toMode

/-! ### Counters as they are read and written -/

theorem Keeps.unlatch {rdr : Nat} (h : Keeps s₀ s) : Keeps s₀ (s.unlatch rdr) := h.upd
theorem Keeps.ctrReadLow {rdr : Nat} {c : Ctr} (h : Keeps s₀ s) : Keeps s₀ (s.ctrReadLow rdr c).1 := .ite_fst h.unlatch.fst h.upd.fst
theorem Keeps.ctrHold {c : Ctr} {v : Word} (h : Keeps s₀ s) : Keeps s₀ (s.ctrHold c v) := h.upd
theorem Keeps.ctrWriteLow {c : Ctr} {v : Word} (h : Keeps s₀ s) : Keeps s₀ (s.ctrWriteLow c v) := h.setCtr.upd

/-! ### Claims, the twin and proving -/

theorem Keeps.twHist {k : Nat} (h : Keeps s₀ s) : Keeps s₀ (s.twHist k) := h.setBit.syncVec
theorem Keeps.clfJudge {g c : Nat} (h : Keeps s₀ s) : Keeps s₀ (s.clfJudge g c).1 := .ite_fst h.fst h.wr.setBit.upd.fst
theorem Keeps.twinHear {c : Nat} (h : Keeps s₀ s) : Keeps s₀ (s.twinHear c) := .ite h.upd.wr.setBit h.upd

theorem Keeps.twinEcho {c : Nat} (h : Keeps s₀ s) : Keeps s₀ (s.twinEcho c) := by
  unfold State.twinEcho
  extract_lets s1 next u
  have h1 : Keeps s₀ s1 := h.twinHear
  exact .ite h (.ite h1 h1.upd)

theorem Keeps.setRole {r : Role} {claim : Nat} (h : Keeps s₀ s) : Keeps s₀ (s.setRole r claim) := h.still (Still.refl s).setRole
theorem Keeps.prvAbort (h : Keeps s₀ s) : Keeps s₀ s.prvAbort := .ite h.upd h.wr.setBit.setBit.upd.log
theorem Keeps.unfollow (h : Keeps s₀ s) : Keeps s₀ s.unfollow := h.wr.setBit.upd

/-! ### Time domains, pins and triggers -/

theorem tickDomain_epoch (ppm : Nat) (D : Domain) : (tickDomain ppm D).1.epoch = D.epoch := rfl

theorem tickMany_epoch {ppm n : Nat} {x : Domain × Bool} : (tickMany ppm n x).1.epoch = x.1.epoch := by
  induction n generalizing x with
  | zero => rfl
  | succ n ih =>
    unfold tickMany
    split
    · rfl
    · rw [ih]
      rfl

theorem Keeps.tickDom {d : Nat} (h : Keeps s₀ s) : Keeps s₀ (s.tickDom d) := by
  unfold State.tickDom
  have h1 : Keeps s₀ (s.setDom d (tickDomain (s.slewPpm d) (s.dom d)).1) := h.setDom (tickDomain_epoch _ _)
  split
  next D c hp =>
    rw [hp] at h1
    exact .ite h1.setBit h1

theorem Keeps.setRate {d : Nat} {r : Int} (h : Keeps s₀ s) : Keeps s₀ (s.setRate d r) := .ite h.setDom h.setDom.setBit

theorem Keeps.adjust {d : Nat} {δ : Int} (h : Keeps s₀ s) : Keeps s₀ (s.adjust d δ).1 :=
  .ite_fst h.fst <|
  .ite_fst h.setDom.fst (.ite_fst h.setDom.fst h.setBit.syncVec.fst)

theorem Keeps.setIvl {u : Nat} {x : Ivl} (h : Keeps s₀ s) : Keeps s₀ (s.setIvl u x) := h.upd
theorem Keeps.ivlPut {u : Nat} {r : Int × Nat} (h : Keeps s₀ s) : Keeps s₀ (s.ivlPut u r) := (Keeps.ite h.setBit h).setReg.setBit.setIvl

theorem Keeps.ivlPair {u : Nat} {x : IvlEdge × Bool × Bool} (h : Keeps s₀ s) : Keeps s₀ (s.ivlPair u x) := by
  unfold State.ivlPair
  extract_lets e d V
  split
  · split
    · exact .ite h.ivlPut.setIvl h.ivlPut.setIvl
    · exact h.setIvl
  · split
    · exact h.ivlPut.setIvl
    · exact h.setIvl

theorem Keeps.ivlEdge {u pin : Nat} {rise : Bool} {e : IvlEdge} (h : Keeps s₀ s) : Keeps s₀ (s.ivlEdge u pin rise e) := .ite h h.setIvl
theorem Keeps.ivlTake {u : Nat} (h : Keeps s₀ s) : Keeps s₀ (s.ivlTake u) := .ite h ((h.foldl fun _ _ hu => hu.ivlPair).setIvl)
theorem Keeps.ivlTakeAll (h : Keeps s₀ s) : Keeps s₀ s.ivlTakeAll := h.foldl fun _ _ hu => hu.ivlTake
theorem Keeps.ivlDrop {u : Nat} (h : Keeps s₀ s) : Keeps s₀ (s.ivlDrop u) := h.setIvl

theorem Keeps.tinEnter {p t : Nat} {r : TinRec} (h : Keeps s₀ s) :
    Keeps s₀ (s.tinEnter p t r) := .ite h.setTin.setBit.count h.setTin.syncVec

theorem Keeps.tinDeliver {p : Nat} {l : List TinRec} (h : Keeps s₀ s) : Keeps s₀ (s.tinDeliver p l) := by
  induction l generalizing s with
  | nil => exact h.setTin
  | cons r l ih => exact .ite h.setTin (ih h.tinEnter)

theorem Keeps.tinDeliverAll (h : Keeps s₀ s) : Keeps s₀ s.tinDeliverAll := h.foldl fun _ _ hu => .ite hu hu.tinDeliver
theorem Keeps.tinPush {p : Nat} {r : TinRec} (h : Keeps s₀ s) : Keeps s₀ (s.tinPush p r) := .ite h.setTin h.tinEnter
theorem Keeps.noteLoop {p at64 : Nat} (h : Keeps s₀ s) : Keeps s₀ (s.noteLoop p at64) := h.still (Still.refl s).noteLoop
theorem Keeps.drive {p : Nat} {l : Bool} {at64 : Nat} (h : Keeps s₀ s) : Keeps s₀ (s.drive p l at64).1 := h.still (Still.refl s).drive
theorem Keeps.noteRise {p : Fin 8} {at64 : Nat} (h : Keeps s₀ s) : Keeps s₀ (s.noteRise p at64) := h.still (Still.refl s).noteRise

theorem Keeps.takeCfg {p : Nat} {c : ToutCfg} {kept : Bool} {at64 : Nat} (h : Keeps s₀ s) : Keeps s₀ (s.takeCfg p c kept at64) := by
  unfold State.takeCfg
  extract_lets T s1 l s2 u t
  have h1 : Keeps s₀ s1 := h.setTout
  have h2 : Keeps s₀ s2 := .ite h1.noteRise h1
  exact .ite h2.setTout h2.setTout.emit.noteLoop

theorem Keeps.levelRise {p : Nat} (h : Keeps s₀ s) : Keeps s₀ (s.levelRise p) := .ite h.drive h

theorem Keeps.pulseEndNow {p : Nat} (h : Keeps s₀ s) : Keeps s₀ (s.pulseEndNow p) := by
  unfold State.pulseEndNow
  extract_lets T s1
  have h1 : Keeps s₀ s1 := h.setTout
  split
  · exact h
  · extract_lets at64
    split
    · exact h
    · split
      · exact h1.takeCfg
      · exact h1.setTout.emit.noteLoop

theorem Keeps.genEdge {p : Fin 8} (h : Keeps s₀ s) : Keeps s₀ (s.genEdge p) := by
  unfold State.genEdge
  split
  · exact h
  · extract_lets ended s0 T c s1 s2
    have h0 : Keeps s₀ s0 := .ite h.pulseEndNow h
    have h1 : Keeps s₀ s1 := h0.setTout
    have h2 : Keeps s₀ s2 := h1.noteRise
    exact .ite h1 <|
      .ite h2 <|
      .ite (.ite h2.drive h2.drive.setBit) h2.drive.setTout

theorem Keeps.applyCfg {p : Nat} (h : Keeps s₀ s) : Keeps s₀ (s.applyCfg p) := by
  unfold State.applyCfg
  extract_lets T s1 u
  have h1 : Keeps s₀ s1 := h.setTout
  split
  · exact .ite (.ite h1.setTout h1.takeCfg) h
  · exact h

theorem Keeps.pinsOff (h : Keeps s₀ s) : Keeps s₀ s.pinsOff := h.still (Still.refl s).pinsOff
theorem Keeps.setDue {p e : Nat} (h : Keeps s₀ s) : Keeps s₀ (s.setDue p e) := h.setTout

theorem Keeps.markEdges {s0 : State} (h : Keeps s₀ s) : Keeps s₀ (s0.markEdges s) := by
  unfold State.markEdges
  refine .foldl h fun _ _ hu => ?_
  extract_lets d
  split
  · exact hu.setDue
  · exact hu

theorem Keeps.markStart (h : Keeps s₀ s) : Keeps s₀ s.markStart := by
  unfold State.markStart
  refine .foldl h fun _ _ hu => ?_
  extract_lets T t back
  split
  · exact hu.setDue
  · exact hu

theorem Keeps.tick (h : Keeps s₀ s) : Keeps s₀ s.tick := by
  unfold State.tick
  extract_lets s0 s1
  have h0 : Keeps s₀ s0 := h.ivlTakeAll
  have h1 : Keeps s₀ s1 := (h0.pass (Nat.le_succ _)).foldl fun _ _ hu => hu.tickDom
  exact .ite h h1.markEdges.tinDeliverAll

theorem Keeps.passDoms {n : Nat} (h : Keeps s₀ s) : Keeps s₀ (s.passDoms n) := by
  unfold State.passDoms
  split
  · exact h
  · refine .foldl (h.pass (Nat.le_add_right _ _)) fun _ _ hu => ?_
    extract_lets r s1
    have h1 : Keeps s₀ s1 := hu.setDom tickMany_epoch
    exact .ite h1.setBit h1

theorem Keeps.passN {n : Nat} (h : Keeps s₀ s) : Keeps s₀ (s.passN n) := .ite h h.ivlTakeAll.passDoms.tick
theorem Keeps.passTo {d : Nat} {t : Int} (h : Keeps s₀ s) : Keeps s₀ (s.passTo d t) := h.passN

/-! ### The commands of time -/

theorem Keeps.ignoreWrite {d : Nat} (h : Keeps s₀ s) : Keeps s₀ (s.ignoreWrite d) := h.setBit
theorem Keeps.rateLoWrite {d : Nat} {v : Word} (h : Keeps s₀ s) : Keeps s₀ (s.rateLoWrite d v) := .ite h.setDom h.ignoreWrite
theorem Keeps.rateHiWrite {d : Nat} {v : Word} (h : Keeps s₀ s) : Keeps s₀ (s.rateHiWrite d v) := .ite h.setDom.setRate h.ignoreWrite

theorem Keeps.stepReqWrite {d : Nat} {v : Word} (h : Keeps s₀ s) : Keeps s₀ (s.stepReqWrite d v) :=
  .ite h.ignoreWrite (.ite h.setReg.adjust h.setReg)

theorem Keeps.execSlewEnd {d : Fin 8} (h : Keeps s₀ s) : Onward s₀ (execSlewEnd d s) := by
  unfold Machine.execSlewEnd
  extract_lets ppm
  refine .next ?_
  split
  · exact h.passN
  · exact h

theorem Keeps.snapRequest (h : Keeps s₀ s) : Keeps s₀ s.snapRequest := .ite h h.setBit.upd
theorem Keeps.snapLatch (h : Keeps s₀ s) : Keeps s₀ s.snapLatch := .ite h ((h.foldl fun _ _ hu => hu.setWords).setWords.setBit.upd)

theorem Keeps.trgWrite {k : Nat} {v : Word} (h : Keeps s₀ s) : Keeps s₀ (s.trgWrite k v) :=
  .ite (.ite h h.setReg.upd.syncVec) h.setReg.upd.syncVec

theorem Keeps.trgPass {k : Nat} (h : Keeps s₀ s) : Keeps s₀ (s.trgPass k) := .ite h (.ite h.passN h.passTo)
theorem Keeps.trgFire {k : Nat} (h : Keeps s₀ s) : Keeps s₀ (s.trgFire k) := h.still (Still.refl s).trgFire
theorem Keeps.trgDue {d : Nat} (h : Keeps s₀ s) : Keeps s₀ (s.trgDue d) := h.still (Still.refl s).trgDue

theorem Keeps.genPass {p : Nat} (h : Keeps s₀ s) : Keeps s₀ (s.genPass p) := by
  unfold State.genPass
  split
  · exact h
  · split
    · exact h.passTo
    · exact h

theorem Keeps.pulseEnd {p : Nat} (h : Keeps s₀ s) : Keeps s₀ (s.pulseEnd p) := by
  unfold State.pulseEnd
  split
  · exact h.passTo.pulseEndNow
  · exact h

/-! ### TDC channels, calibration and trackers -/

theorem Keeps.setTdc {c : Nat} {x : TdcChan} (h : Keeps s₀ s) : Keeps s₀ (s.setTdc c x) := h.upd
theorem Keeps.setCal {g : Nat} {x : Option CalRun} (h : Keeps s₀ s) : Keeps s₀ (s.setCal g x) := h.upd
theorem Keeps.setBins {c : Nat} {t : List Nat} (h : Keeps s₀ s) : Keeps s₀ (s.setBins c t) := h.setWords.setTdc

theorem Keeps.measure {c code : Nat} (h : Keeps s₀ s) : Keeps s₀ (s.measure c code).1 := by
  unfold State.measure
  split
  extract_lets t again u
  split
  · exact h.fst
  · clear_value again
    split
    · exact h.fst
    · split
      · exact h.count.setTdc.fst
      · exact h.wr.setTdc.fst

theorem Keeps.tinEdge {p : Nat} {rise : Bool} {code : Nat} (h : Keeps s₀ s) : Keeps s₀ (s.tinEdge p rise code) := by
  unfold State.tinEdge
  extract_lets u s0 at48 dead
  have h0 : Keeps s₀ s0 := h.setTin
  split
  · exact h0
  · split
    next hp =>
      have h1 := h0.measure.of_fst hp
      extract_lets back d t48 t16 recd e u s2 s3 u' s4
      have h2 : Keeps s₀ s2 := h1.setTin
      have h3 : Keeps s₀ s3 := .ite (.tinPush (.ite h2.count h2)) h2
      have h4 : Keeps s₀ s4 := h3.upd
      exact h4.foldl fun _ _ hu => hu.ivlEdge

theorem Keeps.tinSuppressed {p : Nat} {rise : Bool} (h : Keeps s₀ s) : Keeps s₀ (s.tinSuppressed p rise) := h.setTin.count
theorem Keeps.tinPop {p : Nat} (h : Keeps s₀ s) : Keeps s₀ (s.tinPop p) := h.setTin.syncVec
theorem Keeps.ivlRead {u : Nat} (h : Keeps s₀ s) : Keeps s₀ (s.ivlRead u) := h.setReg.setReg
theorem Keeps.setTemp {k : Nat} {t : Int} (h : Keeps s₀ s) : Keeps s₀ (s.setTemp k t) := h.upd
theorem Keeps.calAsk {g : Nat} (h : Keeps s₀ s) : Keeps s₀ (s.calAsk g) := .ite h.upd h
theorem Keeps.calPend {c : Nat} (h : Keeps s₀ s) : Keeps s₀ (s.calPend c) := .ite h h.setBit.calAsk
theorem Keeps.calScan {k : Nat} (h : Keeps s₀ s) : Keeps s₀ (s.calScan k) := h.foldl fun _ _ hu => .ite hu.calPend hu
theorem Keeps.calBegin {g : Nat} {r : CalRun} (h : Keeps s₀ s) : Keeps s₀ (s.calBegin g r) := h.setCal.setBit.wr

theorem Keeps.calStart {g : Nat} {own : BitVec 8} (h : Keeps s₀ s) : Keeps s₀ (s.calStart g own) := by
  unfold State.calStart
  split
  · exact h
  · split
    · split
      · exact .ite h.calBegin h.calBegin
      · exact .ite h.calBegin h
    · split
      · exact h.calBegin
      · exact h

theorem Keeps.handBack {g c : Nat} (h : Keeps s₀ s) : Keeps s₀ (s.handBack g c) := .ite h.wr.wr.wr h

theorem Keeps.calEnd {g : Nat} (h : Keeps s₀ s) : Keeps s₀ (s.calEnd g) := by
  unfold State.calEnd
  split
  · exact h
  · exact h.handBack.setCal.setBit.wr.upd.calAsk

theorem Keeps.calAccept {c : Nat} {counts : List Nat} {mon : Bool} (h : Keeps s₀ s) : Keeps s₀ (s.calAccept c counts mon) :=
  h.setBins.setTdc.setReg.count

theorem Keeps.calReject {c : Nat} (h : Keeps s₀ s) : Keeps s₀ (s.calReject c) := by
  unfold State.calReject
  extract_lets n u s1
  have h1 : Keeps s₀ s1 := h.count.setTdc
  exact .ite h1.setBit.syncVec h1

theorem Keeps.calAbort {g : Nat} (h : Keeps s₀ s) : Keeps s₀ (s.calAbort g) := h.calEnd

theorem Keeps.calLinkLost {c : Nat} (h : Keeps s₀ s) : Keeps s₀ (s.calLinkLost c) := by
  unfold State.calLinkLost
  split
  · exact .ite h.calAbort h
  · exact h

theorem Keeps.calPinTaken (h : Keeps s₀ s) : Keeps s₀ s.calPinTaken := by
  unfold State.calPinTaken
  split
  · exact .ite h.calAbort h
  · exact h

theorem Keeps.calCollected {g : Nat} {counts : List Nat} {moved : Bool} (h : Keeps s₀ s) : Keeps s₀ (s.calCollected g counts moved) := by
  unfold State.calCollected
  split
  · split
    · exact h.setCal
    · exact h.setCal
    · exact h
    · exact h
    · exact h
    · exact h
    · exact h
  · exact h

theorem Keeps.calComputed {g : Nat} {own : BitVec 8} (h : Keeps s₀ s) : Keeps s₀ (s.calComputed g own) := by
  unfold State.calComputed
  split
  · extract_lets s1
    have h1 : Keeps s₀ s1 := h.calAccept.setBit
    split
    · exact .ite (.ite h.calEnd h.setCal) <|
        .ite h.calReject.calEnd h.setCal
    · split
      · exact h.calEnd
      · split
        · exact h.calReject.calEnd
        · split
          · exact h1.calBegin
          · exact h1.calEnd
    · exact h
    · exact h
    · exact h
    · exact h
    · exact h
  · exact h

theorem Keeps.calShadowed {g : Nat} {Δ : BitVec 16} (h : Keeps s₀ s) : Keeps s₀ (s.calShadowed g Δ) := by
  unfold State.calShadowed
  extract_lets sp
  split
  · exact .ite h.setCal.wr.wr.wr.wr h
  · exact h

theorem Keeps.calVerified {g : Nat} {mean : Int} {rms : Nat} (h : Keeps s₀ s) : Keeps s₀ (s.calVerified g mean rms) := by
  unfold State.calVerified
  split
  · exact .ite (.calEnd (.ite h.calAccept h.calReject)) h
  · exact h

theorem Keeps.calInplace {g : Nat} {counts : List Nat} {moved : Bool} (h : Keeps s₀ s) : Keeps s₀ (s.calInplace g counts moved) := by
  unfold State.calInplace
  split
  · split
    · exact .calEnd (.ite h (.ite h.calAccept h.calReject))
    · exact h
  · exact h

theorem Keeps.setTracker {p : Nat} {x : Tracker} (h : Keeps s₀ s) : Keeps s₀ (s.setTracker p x) := h.upd
theorem Keeps.trackerSlip {p : Nat} (h : Keeps s₀ s) : Keeps s₀ (s.trackerSlip p) := h.setTracker.setBit
theorem Keeps.trackerReset {p : Nat} (h : Keeps s₀ s) : Keeps s₀ (s.trackerReset p) := h.setTracker.setBit

theorem Keeps.trackerSample {p code : Nat} (h : Keeps s₀ s) : Keeps s₀ (s.trackerSample p code) := by
  unfold State.trackerSample
  split
  · exact h
  · split
    next hp =>
      exact h.measure.of_fst hp
    next hp => exact (h.measure.of_fst hp).setTracker.setBit

/-! ### Clocks and power -/

theorem Keeps.applyClk (h : Keeps s₀ s) : Keeps s₀ s.applyClk := by
  unfold State.applyClk
  extract_lets u
  split
  · exact .ite h.upd h
  · exact h

theorem Keeps.coreStop (h : Keeps s₀ s) : Keeps s₀ s.coreStop := h.upd

theorem Keeps.lvfWrite {v : Word} (h : Keeps s₀ s) : Keeps s₀ (s.lvfWrite v) := by
  unfold State.lvfWrite
  extract_lets en pt s1 mv up u s2
  have h1 : Keeps s₀ s1 := h.setBit.wr
  have h2 : Keeps s₀ s2 := h1.upd
  exact .ite h.setBit <|
    .ite h (.ite h2.wr.setBit h2.coreStop)

theorem Keeps.lvfAck (h : Keeps s₀ s) : Keeps s₀ s.lvfAck := by
  unfold State.lvfAck
  extract_lets s1
  have h1 : Keeps s₀ s1 := h.setBit
  split
  · exact h
  · split
    · exact h1.coreStop
    · exact h1

theorem Keeps.pllUnlock {k : Nat} (h : Keeps s₀ s) : Keeps s₀ (s.pllUnlock k) := .ite h (.ite h.setBit.setBit h.setBit.setBit)
theorem Keeps.pllRelock {k : Nat} (h : Keeps s₀ s) : Keeps s₀ (s.pllRelock k) := .ite h (.ite h.setBit h.setBit)
theorem Keeps.clkobsOut (h : Keeps s₀ s) : Keeps s₀ s.clkobsOut := h.emit
theorem Keeps.clkobsWrite {v : Word} (h : Keeps s₀ s) : Keeps s₀ (s.clkobsWrite v) := .ite h.setReg h.setReg.clkobsOut
theorem Keeps.clkobsAfter {s0 : State} (h : Keeps s₀ s) : Keeps s₀ (s.clkobsAfter s0) := .ite h h.clkobsOut

theorem Keeps.coreRestart (h : Keeps s₀ s) : Keeps s₀ s.coreRestart := by
  unfold State.coreRestart
  extract_lets u
  split
  · exact h.upd
  · extract_lets s1 u s2 mv
    have h1 : Keeps s₀ s1 := .ite h.wr.setBit h.setBit
    have h2 : Keeps s₀ s2 := h1.upd.clkobsAfter
    exact .ite h (.ite h2.wr.setBit h2)

theorem Keeps.setOct {o v : Nat} (h : Keeps s₀ s) : Keeps s₀ (s.setOct o v) := h.wr

theorem Keeps.arbGrant (h : Keeps s₀ s) : Keeps s₀ s.arbGrant := by
  unfold State.arbGrant
  extract_lets u
  split
  · split
    · exact h.upd
    · split
      · exact .ite h.upd h
      · exact h
  · split
    · exact .ite h.upd h
    · exact h

theorem Keeps.trainAsk {l : Nat} (h : Keeps s₀ s) : Keeps s₀ (s.trainAsk l) := .ite h h.upd
theorem Keeps.trainDone {l : Nat} (h : Keeps s₀ s) : Keeps s₀ (s.trainDone l) := h.upd
theorem Keeps.octExit {o : Nat} (h : Keeps s₀ s) : Keeps s₀ (s.octExit o) := .ite (.ite h.upd.setBit h.upd) h

theorem Keeps.octExitDone {o : Nat} (h : Keeps s₀ s) : Keeps s₀ (s.octExitDone o) := by
  unfold State.octExitDone
  extract_lets u s0 u' s1
  have h0 : Keeps s₀ s0 := .ite h.setEng h
  have h1 : Keeps s₀ s1 := h0.upd.setOct
  exact .ite (.ite h1 h1.setBit) h

theorem Keeps.unpark {bits : Nat} (h : Keeps s₀ s) : Keeps s₀ (s.unpark bits) :=
  .ite h ((h.setReg.setBit.setBit.upd.foldl fun _ _ hu => .ite hu.octExit hu).syncVec)

theorem Keeps.wake {bits : Nat} (h : Keeps s₀ s) : Keeps s₀ (s.wake bits) := .ite h h.unpark.toMode
theorem Keeps.ltrOct {o : Nat} (h : Keeps s₀ s) : Keeps s₀ (s.ltrOct o) := .ite h.octExit (.ite h.wake h)
theorem Keeps.ltrDev (h : Keeps s₀ s) : Keeps s₀ s.ltrDev := .ite h.wake h

end Sys2Proof.Machine
end

section
/-! ## Keeps: the fabric, frames and PTP -/

namespace Sys2Proof.Machine

-- The many short proofs are elaborated one after another: at once, each takes a thread with a stack of its own.
set_option Elab.async false

variable {s₀ s : State}

/-! ### The fabric -/

theorem Keeps.noteBusy {busy : Bool} (h : Keeps s₀ s) : Keeps s₀ (s.noteBusy busy) := .ite h.upd h
theorem Keeps.setVoq {k : Nat} {x : Voq} (h : Keeps s₀ s) : Keeps s₀ (s.setVoq k x) := h.upd.noteBusy
theorem Keeps.setAcct {k : Nat} {x : Acct} (h : Keeps s₀ s) : Keeps s₀ (s.setAcct k x) := h.upd
theorem Keeps.setInter {j : Nat} {x : Inter} (h : Keeps s₀ s) : Keeps s₀ (s.setInter j x) := h.upd.noteBusy
theorem Keeps.setReasm {k : Nat} {x : Reasm} (h : Keeps s₀ s) : Keeps s₀ (s.setReasm k x) := h.upd
theorem Keeps.setEgrQ {k : Nat} {x : EgrQ} (h : Keeps s₀ s) : Keeps s₀ (s.setEgrQ k x) := h.upd
theorem Keeps.setEgr {p : Nat} {x : Egress} (h : Keeps s₀ s) : Keeps s₀ (s.setEgr p x) := h.still (Still.refl s).setEgr
theorem Keeps.setWire {o : Nat} {x : List Cell} (h : Keeps s₀ s) : Keeps s₀ (s.setWire o x) := h.upd
theorem Keeps.pfcSend {p c : Nat} {on : Bool} (h : Keeps s₀ s) : Keeps s₀ (s.pfcSend p c on) := h.emit.count
theorem Keeps.xoffSet {p c : Nat} (h : Keeps s₀ s) : Keeps s₀ (s.xoffSet p c) := .ite h h.setEgr.pfcSend
theorem Keeps.xoffCheck {p c : Nat} (h : Keeps s₀ s) : Keeps s₀ (s.xoffCheck p c) := .ite (.ite h.setEgr h.setEgr.pfcSend) h
theorem Keeps.xoffScan {o : Nat} (h : Keeps s₀ s) : Keeps s₀ (s.xoffScan o) := h.foldl fun _ _ hu => .ite hu.xoffCheck hu
theorem Keeps.freeFrame {f : Frame} (h : Keeps s₀ s) : Keeps s₀ (s.freeFrame f) := h.setAcct.xoffScan

theorem Keeps.sendCell {key src dst cls : Nat} {mc : Bool} {rsv : Option Nat} {j : Nat} {err : BitVec 64} (h : Keeps s₀ s) :
    Keeps s₀ (s.sendCell key src dst cls mc rsv j err) := by
  unfold State.sendCell
  extract_lets v
  split
  · exact h
  · split
    extract_lets cell s1 x
    have h1 : Keeps s₀ s1 := h.setVoq
    refine .foldl ?_ fun _ _ hu => ?_
    · split
      · exact h1.setInter
      · exact h1
    · exact hu.freeFrame

theorem Keeps.stage1 {t i : Nat} {err : BitVec 64} (h : Keeps s₀ s) : Keeps s₀ (s.stage1 t i err) := by
  unfold State.stage1
  extract_lets p j free
  have hfree : Keeps s₀ free := by
    unfold free
    split
    · exact .ite h.upd.sendCell h.upd.sendCell
    · exact h
  split
  · exact .ite hfree h.sendCell
  · exact hfree

theorem Keeps.stage2 {t j : Nat} (h : Keeps s₀ s) : Keeps s₀ (s.stage2 t j) := by
  unfold State.stage2
  extract_lets o d x pick
  clear_value pick
  split
  · exact h
  · extract_lets s1 bm
    have h1 : Keeps s₀ s1 := h.setWire
    exact .ite h1.setInter h1.setInter

theorem Keeps.voqDrop {key : Nat} {gone : VEntry → Bool} (h : Keeps s₀ s) : Keeps s₀ (s.voqDrop key gone).1 :=
  .ite_fst h.fst ((h.setVoq.foldl fun _ _ hu => hu.freeFrame).fst)

theorem Keeps.rxBreak {p : Nat} (h : Keeps s₀ s) : Keeps s₀ (s.rxBreak p) := h.foldl fun _ _ hu => hu.setVoq
theorem Keeps.mtuScan (h : Keeps s₀ s) : Keeps s₀ s.mtuScan := h.foldl fun _ _ hu => hu.voqDrop.countBy

theorem Keeps.fabricSlot {errs : List (Fin 64 × BitVec 64)} (h : Keeps s₀ s) : Keeps s₀ (s.fabricSlot errs) := by
  unfold State.fabricSlot
  extract_lets s' t s1
  have h' : Keeps s₀ s' := h.mtuScan
  have h1 : Keeps s₀ s1 := .ite ((h'.foldl fun _ _ hu => hu.stage2).foldl fun _ _ hu => hu.stage1) h'
  exact .ite h' h1.upd

theorem Keeps.broadcast (h : Keeps s₀ s) : Keeps s₀ s.broadcast := (h.foldl fun _ _ hu => hu.setInter).upd
theorem Keeps.freeUnits {k n : Nat} (h : Keeps s₀ s) : Keeps s₀ (s.freeUnits k n) := h.setEgrQ

theorem Keeps.partBegin {p c : Nat} {mc : Bool} {f : Frame} (h : Keeps s₀ s) : Keeps s₀ (s.partBegin p c mc f).1 :=
  .ite_fst h.count.fst h.setEgrQ.upd.fst

theorem Keeps.enqueue {p c : Nat} {t : Part} {complete : Bool} (h : Keeps s₀ s) : Keeps s₀ (s.enqueue p c t complete) := h.setEgrQ

theorem Keeps.killPart {p src c id : Nat} (h : Keeps s₀ s) : Keeps s₀ (s.killPart p src c id) := by
  unfold State.killPart
  refine .foldl h fun _ _ hu => ?_
  extract_lets u
  split
  · exact .ite hu.setReasm hu
  · exact hu

theorem Keeps.suspAbort {p ev : Nat} (h : Keeps s₀ s) : Keeps s₀ (s.suspAbort p ev) := by
  unfold State.suspAbort
  extract_lets u
  split
  · exact h
  · exact h.setEgr.emit.freeUnits.killPart.count

theorem Keeps.txAbort {p ev : Nat} (h : Keeps s₀ s) : Keeps s₀ (s.txAbort p ev) := by
  unfold State.txAbort
  extract_lets u
  split
  · exact h
  · exact h.setEgr.emit.freeUnits.killPart.count

theorem Keeps.sinkFrame {p : Nat} {f : Frame} {v : ProvTrailer} (h : Keeps s₀ s) : Keeps s₀ (s.sinkFrame p f v) :=
  (Keeps.ite h.count h).setWords.wr.count.upd

theorem Keeps.partDone {p c : Nat} {t : Part} (h : Keeps s₀ s) : Keeps s₀ (s.partDone p c t) := by
  unfold State.partDone
  extract_lets k u s1 fin u'
  have h1 : Keeps s₀ s1 := h.setEgrQ
  split
  · exact h
  · split
    · exact .ite h.txAbort (.ite h.suspAbort h.setEgrQ.freeUnits.count)
    · split
      · exact h1.setEgr.octExit
      · split
        · exact h.freeUnits.sinkFrame
        · exact .ite h.freeUnits.count h.enqueue.octExit

theorem Keeps.takePiece {p c : Nat} {mc : Bool} {cur : Option Part} {x : Piece} (h : Keeps s₀ s) :
    Keeps s₀ (s.takePiece p c mc cur x).1 := by
  unfold State.takePiece
  split
  next hp =>
    have h1 := by
      refine Keeps.of_fst (s₀ := s₀) ?_ hp
      split
      · exact h.partBegin.fst
      · exact h.fst
    split
    · exact h1.fst
    · exact .ite_fst h1.partDone.fst (.ite_fst h1.enqueue.fst h1.fst)

theorem Keeps.dropPart {p c : Nat} {cur : Option Part} {ev : Nat} (h : Keeps s₀ s) : Keeps s₀ (s.dropPart p c cur ev) := by
  unfold State.dropPart
  extract_lets u
  split
  · exact .ite h <|
      .ite h.txAbort (.ite h.suspAbort h.setEgrQ.freeUnits)
  · exact h

theorem Keeps.stopHere {p k c : Nat} (h : Keeps s₀ s) : Keeps s₀ (s.stopHere p k c) := by
  unfold State.stopHere
  extract_lets r
  split
  · exact .ite h.dropPart.setReasm h
  · exact h

theorem Keeps.takeCell {p : Nat} {x : Cell} (h : Keeps s₀ s) : Keeps s₀ (s.takeCell p x) :=
  (h.fst.foldl_fst fun _ _ hu => hu.takePiece).setReasm.stopHere

theorem Keeps.drainWait {p k n : Nat} (h : Keeps s₀ s) : Keeps s₀ (s.drainWait p k n) := by
  induction n generalizing s with
  | zero => exact h
  | succ n ih =>
    unfold State.drainWait
    extract_lets r
    split
    · exact h
    · split
      · exact h.setReasm
      · exact ih h.setReasm.takeCell

theorem Keeps.cellIn {p : Nat} {x : Cell} (h : Keeps s₀ s) : Keeps s₀ (s.cellIn p x) := by
  unfold State.cellIn
  extract_lets k r
  split
  · exact .ite h.count (.ite h.setReasm.countBy h.takeCell.drainWait)
  · exact .ite h.takeCell.drainWait <|
      .ite (.ite h.setReasm h.setReasm) h.count

theorem Keeps.gapExpire {p : Nat} {mc : Bool} {src c : Nat} (h : Keeps s₀ s) : Keeps s₀ (s.gapExpire p mc src c) := by
  unfold State.gapExpire
  extract_lets k r stopped drop from' last
  split
  · exact h
  · split
    · exact h.dropPart.setReasm.countBy
    · exact h.dropPart.setReasm.countBy.takeCell.drainWait

theorem Keeps.cellArrive {o : Nat} {err : BitVec 64} (h : Keeps s₀ s) : Keeps s₀ (s.cellArrive o err) := by
  unfold State.cellArrive
  split
  · exact h
  · extract_lets s1
    have h1 : Keeps s₀ s1 := h.setWire
    split
    · exact h1.cellIn
    · exact h1

theorem Keeps.rsvRequest (h : Keeps s₀ s) : Keeps s₀ s.rsvRequest := h.setBit.upd

theorem Keeps.rsvSwap (h : Keeps s₀ s) : Keeps s₀ s.rsvSwap := by
  unfold State.rsvSwap
  extract_lets b bad s1 s2
  have h1 : Keeps s₀ s1 := h.setBit.setBit
  have h2 : Keeps s₀ s2 := h1.upd
  exact .ite h (.ite h2 h2.setBit)

theorem Keeps.voqPut {key : Nat} {f : Frame} {bitmap : Nat} (h : Keeps s₀ s) : Keeps s₀ (s.voqPut key f bitmap) := h.setVoq
theorem Keeps.charge {f : Frame} (h : Keeps s₀ s) : Keeps s₀ (s.charge f) := h.setAcct

theorem Keeps.mcQueue {f : Frame} {set : Nat} (h : Keeps s₀ s) : Keeps s₀ (s.mcQueue f set) := by
  unfold State.mcQueue
  extract_lets cand full bm s1 s2
  have h1 : Keeps s₀ s1 := h.foldl fun _ _ hu => hu.count
  have h2 : Keeps s₀ s2 := .ite h1 h1.count
  exact .ite h2.freeFrame h2.voqPut

/-! ### Frames that arrive -/

theorem Keeps.setSeqHist {f : Nat} {x : SeqHist} (h : Keeps s₀ s) : Keeps s₀ (s.setSeqHist f x) := h.upd
theorem Keeps.takeAny {f : Nat} (h : Keeps s₀ s) : Keeps s₀ (s.takeAny f) := h.setBit.count.setSeqHist
theorem Keeps.seqAccept {f q : Nat} {h' : SeqHist} (h : Keeps s₀ s) : Keeps s₀ (s.seqAccept f q h') := h.wr.setSeqHist.count

theorem Keeps.seqJudge {f q : Nat} (h : Keeps s₀ s) : Keeps s₀ (s.seqJudge f q).1 :=
  .ite_fst h.setBit.seqAccept.fst <|
  .ite_fst (.ite_fst h.count.fst h.seqAccept.fst) <|
  .ite_fst h.count.fst <|
  .ite_fst (.ite_fst h.countBy.seqAccept.fst h.count.fst) <|
  .ite_fst h.countBy.seqAccept.fst (.ite_fst h.count.fst h.seqAccept.count.fst)

theorem Keeps.recover5 {x : Nat} {k : Pkt} (h : Keeps s₀ s) : Keeps s₀ (s.recover5 x k).1 := by
  unfold State.recover5
  extract_lets f
  split
  · exact h.fst
  · split
    next hp =>
      have h1 := by
        refine Keeps.of_fst (s₀ := s₀) ?_ hp
        split
        · split
          · exact h.clfJudge
          · exact h.fst
        · exact h.fst
      split
      · exact h1.count.fst
      · split
        · exact h1.count.fst
        · exact h1.seqJudge

theorem Keeps.setBucket {x : Nat} {b : Bucket} (h : Keeps s₀ s) : Keeps s₀ (s.setBucket x b) := h.upd
theorem Keeps.bucketFull {x : Nat} (h : Keeps s₀ s) : Keeps s₀ (s.bucketFull x) := h.setBucket

theorem Keeps.police {x tested len : Nat} {dei : Bool} (h : Keeps s₀ s) : Keeps s₀ (s.police x tested len dei).1 :=
  .ite_fst (.ite_fst h.setBucket.fst h.setBucket.fst) <|
  .ite_fst h.setBucket.fst (.ite_fst h.setBucket.fst h.setBucket.fst)

theorem Keeps.stage8 {x : Nat} {f : Frame} (h : Keeps s₀ s) : Keeps s₀ (s.stage8 x f).1 :=
  .ite_fst h.fst <|
  .ite_fst h.fst (.ite_fst h.wr.count.fst h.wr.fst)

theorem Keeps.stage9 {f : Frame} {d : Dest} (h : Keeps s₀ s) : Keeps s₀ (s.stage9 f d) := by
  unfold State.stage9
  extract_lets p c long down f1 refuse
  split
  · exact h.count
  · split
    · split
      · exact h.count
      · exact h
      · exact h
    · split
      · exact .count (.ite h h.xoffSet)
      · exact .count (.ite h.xoffSet h)
      · extract_lets f2 s1
        have h1 : Keeps s₀ s1 := .charge (.ite h.xoffSet h)
        split
        · exact h1.voqPut
        · exact h1.mcQueue
        · exact h1.freeFrame

theorem Keeps.stages3to6 {x : Nat} {f : Frame} (h : Keeps s₀ s) : Keeps s₀ (s.stages3to6 x f).1 := by
  unfold State.stages3to6
  extract_lets sdu long s1 f1
  have h1 : Keeps s₀ s1 := .ite h.count h
  split
  · exact h1.fst
  · split
    · exact h1.count.fst
    · split
      next hp =>
        have h2 := h1.recover5.of_fst hp
        extract_lets tested
        split
        · exact h2.fst
        · split
          · exact h2.fst
          · split
            next hp =>
              have h3 := h2.police.of_fst hp
              split
              · exact h3.fst
              · exact .ite_fst h3.count.fst h3.count.fst
              · exact h3.count.fst

theorem Keeps.ingress {p : Nat} {r : RxFrame} {saf bad : Bool} {rx48 : Int} (h : Keeps s₀ s) : Keeps s₀ (s.ingress p r saf bad rx48) := by
  unfold State.ingress
  extract_lets ctx d c prp want ct s1 f s2
  have h1 : Keeps s₀ s1 := by
    unfold s1
    clear_value ctx
    split
    · exact h.count.countBy
    · exact h.count
  have h2 : Keeps s₀ s2 := .ite h1.count h1
  split
  · exact h
  · clear_value d ctx
    split
    · split
      · exact h1.count
      · exact h1
    all_goals
      split
      · exact h2.stage9
      · split
        next hp => exact h2.stages3to6.of_fst hp
        next hp =>
          have h3 := h2.stages3to6.of_fst hp
          split
          next hp => exact h3.stage8.of_fst hp
          next hp => exact (h3.stage8.of_fst hp).stage9

theorem Keeps.macCount {p : Nat} {r : RxFrame} (h : Keeps s₀ s) : Keeps s₀ (s.macCount p r).1 := by
  unfold State.macCount
  extract_lets s1
  have h1 : Keeps s₀ s1 := h.count.countBy
  exact .ite_fst h1.count.fst (.ite_fst h1.count.fst h1.fst)

/-! ### PTP -/

theorem Keeps.setPtp {p : Nat} {x : PtpPort} (h : Keeps s₀ s) : Keeps s₀ (s.setPtp p x) := h.upd

theorem Keeps.rxEdge {p : Nat} {r : RxFrame} (h : Keeps s₀ s) : Keeps s₀ (s.rxEdge p r).1 := by
  unfold State.rxEdge
  extract_lets now
  split
  next hp =>
    have h1 := h.measure.of_fst hp
    exact .ite_fst h1.fst (.ite_fst h1.fst h1.trackerSlip.count.fst)
  next hp => exact (h.measure.of_fst hp).fst

theorem Keeps.rxStamp {p : Nat} {r : RxFrame} (h : Keeps s₀ s) : Keeps s₀ (s.rxStamp p r).1 := h.rxEdge.setPtp.fst
theorem Keeps.txStamp {p : Nat} (h : Keeps s₀ s) : Keeps s₀ (s.txStamp p).1 := h.upd.fst

theorem Keeps.fwResign {m : PtpMsg} {tail : List Byte} (h : Keeps s₀ s) : Keeps s₀ (s.fwResign m tail).1 := by
  unfold State.fwResign
  split
  · exact h.fst
  · exact h.upd.fst

theorem Keeps.tcHold {p : Nat} {e : TcEntry} (h : Keeps s₀ s) : Keeps s₀ (s.tcHold p e) := h.setPtp

theorem Keeps.tcCorrect {p : Nat} {f : Frame} {m : PtpMsg} {t48 : Int} (h : Keeps s₀ s) : Keeps s₀ (s.tcCorrect p f m t48).1 := by
  unfold State.tcCorrect
  extract_lets s2 u
  have h2 : Keeps s₀ s2 := h.count
  split
  · exact h.fst
  · extract_lets res a
    split
    · exact h.fst
    · split
      · exact .ite_fst h2.tcHold.fst h2.fst
      · split
        · split
          · exact h.setPtp.fst
          · exact h.count.fst
        · exact h.fst

theorem Keeps.tsqPut {p : Nat} {e : TsqEntry} (h : Keeps s₀ s) : Keeps s₀ (s.tsqPut p e).1 :=
  .ite_fst h.setEgr.setBit.count.fst h.setEgr.syncVec.fst

theorem Keeps.tsqPop {p : Nat} (h : Keeps s₀ s) : Keeps s₀ (s.tsqPop p) := h.setEgr.syncVec

theorem Keeps.fwJoin {p c : Nat} {pkt : Pkt} {len : Nat} (h : Keeps s₀ s) : Keeps s₀ (s.fwJoin p c pkt len) := by
  unfold State.fwJoin
  extract_lets f
  split
  · exact h
  · split
    next hp => exact (h.partBegin.of_fst hp).enqueue

theorem Keeps.followUp {p : Nat} {f : Frame} {m : PtpMsg} {ty : BitVec 4} {t corr : Int} (h : Keeps s₀ s) :
    Keeps s₀ (s.followUp p f m ty t corr) :=
  h.fwResign.fwJoin

theorem Keeps.noteAnn {p d : Nat} {x3 : PtpAnn} (h : Keeps s₀ s) : Keeps s₀ (s.noteAnn p d x3) := h.upd
theorem Keeps.noteSync {p d : Nat} {t : Int} (h : Keeps s₀ s) : Keeps s₀ (s.noteSync p d t) := h.upd

theorem Keeps.fwEgress {p : Nat} {f : Frame} {m : PtpMsg} {t48 : Int} (h : Keeps s₀ s) : Keeps s₀ (s.fwEgress p f m t48).1 :=
  .ite_fst h.setPtp.fst <|
  .ite_fst h.setPtp.fst <|
  .ite_fst (.ite_fst h.noteSync.followUp.fst h.noteSync.fst) <|
  .ite_fst h.followUp.fst h.fst

theorem Keeps.fwStart {p : Nat} {f : Frame} {m : PtpMsg} {t48 : Int} (h : Keeps s₀ s) : Keeps s₀ (s.fwStart p f m t48).1 := by
  unfold State.fwStart
  extract_lets s0 u
  have h0 : Keeps s₀ s0 := h.count
  split
  · exact h0.fwEgress.fwResign.fst
  · refine .fst ?_
    split
    · exact h0.noteAnn
    · exact h0

theorem Keeps.tsqFwd {p : Nat} {m : PtpMsg} {t48 : Int} (h : Keeps s₀ s) : Keeps s₀ (s.tsqFwd p m t48) := h.tsqPut

theorem Keeps.ptpEgress {p : Nat} {f : Frame} {t48 : Int} (h : Keeps s₀ s) : Keeps s₀ (s.ptpEgress p f t48).1 := by
  unfold State.ptpEgress
  extract_lets s0
  have h0 : Keeps s₀ s0 := .ite h.count h
  split
  · exact h.fst
  · split
    · exact .ite_fst h.fwStart h.fst
    · split
      · exact h.fst
      · split
        · exact h0.tcCorrect.fst
        · exact .fst (.ite h0.tsqFwd h0)

/-! ### Frames that leave -/

theorem Keeps.mmVerify {p : Nat} (h : Keeps s₀ s) : Keeps s₀ (s.mmVerify p) := by
  unfold State.mmVerify
  extract_lets u s1
  have h1 : Keeps s₀ s1 := .ite h.wr.setEgr.emit h.wr.setEgr
  exact .ite h1 h1.setBit

theorem Keeps.mmTimeout {p : Nat} (h : Keeps s₀ s) : Keeps s₀ (s.mmTimeout p) := .ite h (.ite h.passN.setEgr.emit h.passN.wr)

theorem Keeps.cutEarliest {p : Nat} (h : Keeps s₀ s) : Keeps s₀ (s.cutEarliest p) := by
  unfold State.cutEarliest
  extract_lets u
  split
  · exact .ite h.setEgr h
  · exact h

theorem Keeps.setShaper {k : Nat} {x : Shaper} (h : Keeps s₀ s) : Keeps s₀ (s.setShaper k x) := h.upd
theorem Keeps.shpCharge {p c L : Nat} (h : Keeps s₀ s) : Keeps s₀ (s.shpCharge p c L) := h.setShaper

theorem Keeps.drr {p n : Nat} {cs : List Nat} (h : Keeps s₀ s) : Keeps s₀ (s.drr p cs n).1 := by
  induction n generalizing s with
  | zero => exact h
  | succ n ih =>
    unfold State.drr
    extract_lets c x w
    split
    · exact h.setShaper
    · split
      · exact h
      · exact ih h.setShaper.setEgr

theorem Keeps.byRank {p : Nat} {ok : Nat → Bool} (h : Keeps s₀ s) : Keeps s₀ (s.byRank p ok).1 := by
  unfold State.byRank
  extract_lets g top s0
  have h0 : Keeps s₀ s0 := h.foldl fun _ _ hu => .ite hu.setShaper hu
  split
  · exact h.fst
  · exact .ite_fst h0.drr h.fst

theorem Keeps.select {p : Nat} {mine : Nat → Bool} {inj : Bool} (h : Keeps s₀ s) : Keeps s₀ (s.select p mine inj).1 := by
  unfold State.select
  extract_lets dueOk ok
  split
  · exact h.fst
  · split
    next hp => exact (h.byRank.of_fst hp).fst
    next hp =>
      split
      next hp => exact (h.byRank.of_fst hp).fst
      next hp => exact h.fst

theorem Keeps.takeHead {p c : Nat} (h : Keeps s₀ s) : Keeps s₀ (s.takeHead p c).1 := by
  unfold State.takeHead
  extract_lets u s1 u'
  have h1 : Keeps s₀ s1 := h.setEgrQ
  split
  · exact h1.setEgr.fst
  · exact h1.fst

theorem Keeps.dropHead {p c ev : Nat} (h : Keeps s₀ s) : Keeps s₀ (s.dropHead p c ev) := by
  unfold State.dropHead
  split
  · exact h
  · exact h.takeHead.freeUnits.killPart.count

theorem Keeps.dropOversize {p n : Nat} (h : Keeps s₀ s) : Keeps s₀ (s.dropOversize p n) := by
  induction n generalizing s with
  | zero => exact h
  | succ n ih =>
    unfold State.dropOversize
    split
    · exact ih h.dropHead
    · exact h

theorem Keeps.slotStamp {p k : Nat} {t48 : Int} (h : Keeps s₀ s) : Keeps s₀ (s.slotStamp p k t48) := .ite h.tsqPut.wr h

theorem Keeps.startTx {p c : Nat} {f : Frame} {id units : Nat} {complete pre : Bool} {cut slot : Option Nat} (h : Keeps s₀ s) :
    Keeps s₀ (s.startTx p c f id units complete pre cut slot) := by
  unfold State.startTx
  split
  next hp =>
    have h1 := h.txStamp.of_fst hp
    extract_lets s1
    have hs1 : Keeps s₀ s1 := by
      unfold s1
      split
      · exact h1.slotStamp
      · exact h1
    exact hs1.ptpEgress.setEgr

theorem Keeps.startHead {p c : Nat} (h : Keeps s₀ s) : Keeps s₀ (s.startHead p c).1 := by
  unfold State.startHead
  extract_lets pre
  split
  · exact h.fst
  · exact .ite_fst h.dropHead.fst h.takeHead.shpCharge.startTx.fst

theorem Keeps.startInj {p : Nat} {d : Due} (h : Keeps s₀ s) : Keeps s₀ (s.startInj p d).1 := by
  unfold State.startInj
  extract_lets u
  split
  · extract_lets s1
    have h1 : Keeps s₀ s1 := h.setEgr
    split
    · exact h1.sinkFrame.fst
    · exact h1.startTx.fst
  · exact h.fst

theorem Keeps.decide1 {p : Nat} (h : Keeps s₀ s) : Keeps s₀ (s.decide1 p).1 := by
  unfold State.decide1
  extract_lets go
  have hgo : ∀ r, Keeps s₀ r.1 → Keeps s₀ (go r).1 := by
    intro r hr
    unfold go
    split
    · exact hr.startHead
    · split
      · exact hr.startHead
      · exact hr.startInj
    · exact hr
  clear_value go
  have h1 : Keeps s₀ (s.select p (fun c => !s.preemptable p c) true).1 := h.select
  split
  next hp => exact hgo _ (h1.of_fst hp)
  next hp =>
    have h2 := h1.of_fst hp
    split
    · split
      exact .ite_fst h2.setEgr.count.fst h2.fst
    · exact hgo _ h2.select

theorem Keeps.decideLoop {p n : Nat} (h : Keeps s₀ s) : Keeps s₀ (s.decideLoop p n) := by
  induction n generalizing s with
  | zero => exact h
  | succ n ih => exact .ite (ih h.dropOversize.decide1) h.dropOversize.decide1

theorem Keeps.decision {p : Nat} (h : Keeps s₀ s) : Keeps s₀ (s.decision p) := by
  unfold State.decision
  split
  · exact h
  · split
    · exact h.decideLoop
    · exact .ite h.cutEarliest h

theorem Keeps.txEnd {p : Nat} (h : Keeps s₀ s) : Keeps s₀ (s.txEnd p) := by
  unfold State.txEnd
  extract_lets u
  split
  · exact h
  · extract_lets s1
    have h1 : Keeps s₀ s1 := h.setEgr.emit
    split
    · exact h.setEgr
    · exact .ite h h1.freeUnits.count.countBy

theorem Keeps.launch {p c : Nat} {slot : Option Nat} {prio : Nat} (h : Keeps s₀ s) :
    Keeps s₀ (s.launch p c slot prio).1 := h.still (Still.refl s).launch

theorem Keeps.lapse {p c : Nat} (h : Keeps s₀ s) : Keeps s₀ (s.lapse p c) := by
  unfold State.lapse
  extract_lets gone u s1 s2
  have h1 : Keeps s₀ s1 := h.setEgr
  have h2 : Keeps s₀ s2 := h1.countBy
  refine .foldl h2 fun _ _ hu => ?_
  split
  · exact hu.setBit
  · exact hu

theorem Keeps.setGates {p st hold : Nat} (h : Keeps s₀ s) : Keeps s₀ (s.setGates p st hold) := by
  unfold State.setGates
  extract_lets old s1 s2 s3
  have h1 : Keeps s₀ s1 := h.foldl fun _ _ hu => .ite hu.lapse (.ite hu.setEgr hu)
  have h2 : Keeps s₀ s2 := h1.wr
  have h3 : Keeps s₀ s3 := .ite h2.setBit (.ite h2.setBit h2)
  split
  · exact .ite h3.cutEarliest h3
  · exact h3

theorem Keeps.openGates (h : Keeps s₀ s) : Keeps s₀ s.openGates := h.foldl fun _ _ hu => hu.setReg.setEgr

theorem Keeps.voqCut {p src c : Nat} (h : Keeps s₀ s) : Keeps s₀ (s.voqCut p src c).1 := by
  unfold State.voqCut
  extract_lets v rk
  split
  · exact .ite_fst h.fst h.setVoq.freeFrame.setReasm.stopHere.fst
  · exact h.fst

theorem Keeps.voqFlush {p src c : Nat} (h : Keeps s₀ s) : Keeps s₀ (s.voqFlush p src c).1 := h.voqCut.voqDrop.fst

theorem Keeps.voqAge {p src c : Nat} (h : Keeps s₀ s) : Keeps s₀ (s.voqAge p src c).1 := by
  unfold State.voqAge
  extract_lets old
  split
  next hp =>
    have h1 := by
      refine Keeps.of_fst (s₀ := s₀) ?_ hp
      split
      · exact .ite_fst h.voqCut h.fst
      · exact h.fst
    exact h1.voqDrop.fst

theorem Keeps.egrFlush {p c : Nat} (h : Keeps s₀ s) : Keeps s₀ (s.egrFlush p c).1 :=
  (h.setEgrQ.foldl fun _ _ hu => hu.freeUnits.killPart).fst

theorem Keeps.txLose {p : Nat} {o : Option Tx} (h : Keeps s₀ s) : Keeps s₀ (s.txLose p o) := by
  unfold State.txLose
  split
  · exact h
  · exact h.freeUnits.killPart.count

theorem Keeps.linkDown {p : Nat} {rx : Bool} (h : Keeps s₀ s) : Keeps s₀ (s.linkDown p rx) := by
  unfold State.linkDown
  extract_lets E u s1 s2 s3
  have h1 : Keeps s₀ s1 := h.setEgr.setLink
  have h2 : Keeps s₀ s2 := h1.txLose.txLose
  have h3 : Keeps s₀ s3 := .calLinkLost (.trackerReset (.rxBreak (.ite h2.count h2)))
  refine .foldl h3 fun _ _ hu => ?_
  split
  · exact hu
  · split
    next hp =>
      have h4 := hu.egrFlush.of_fst hp
      split
      next hp =>
        have h5 := by
          refine Keeps.of_fst (s₀ := s₀) ?_ hp
          refine .foldl_fst h4.fst fun _ _ hu2 => ?_
          split
          next hp => exact (hu2.voqFlush.of_fst hp).fst
        exact h5.setEgr.countBy

theorem Keeps.ageScanPort {p : Nat} (h : Keeps s₀ s) : Keeps s₀ (s.ageScanPort p) := by
  unfold State.ageScanPort
  split
  · exact h
  · refine .foldl h fun _ _ hu => ?_
    extract_lets old keep u s1
    have h1 : Keeps s₀ s1 := hu.setEgrQ.foldl fun _ _ hu2 => hu2.freeUnits.killPart
    split
    · exact hu
    · split
      next hp =>
        have h2 := by
          refine Keeps.of_fst (s₀ := s₀) ?_ hp
          refine .foldl_fst h1.fst fun _ _ hu2 => ?_
          split
          next hp => exact (hu2.voqAge.of_fst hp).fst
        exact h2.countBy

theorem Keeps.ageScan (h : Keeps s₀ s) : Keeps s₀ s.ageScan := h.foldl fun _ _ hu => hu.ageScanPort

theorem Keeps.linkUp {p : Nat} {k : LinkKind} {deskew : Nat} (h : Keeps s₀ s) : Keeps s₀ (s.linkUp p k deskew) := by
  unfold State.linkUp
  extract_lets m lanes sB sC s1
  have hB : Keeps s₀ sB := h.foldl fun _ _ hu => .ite hu.linkDown hu
  have hC : Keeps s₀ sC := hB.foldl fun _ _ hu => hu.setShaper
  have h1 : Keeps s₀ s1 := hC.setLink.foldl fun _ _ hu => hu.trainDone
  split
  · exact h
  · split
    extract_lets s2 u s3 s4
    have h2 : Keeps s₀ s2 := h1.wr.wr
    have h3 : Keeps s₀ s3 := h2.setEgr
    have h4 : Keeps s₀ s4 := by
      unfold s4
      refine .foldl h3 fun _ _ hu => ?_
      extract_lets t
      have ht : Keeps s₀ t := hu.xoffCheck
      exact .ite ht.pfcSend ht
    exact h4.mmVerify.clkobsAfter

/-! ### Samples -/

theorem Keeps.putSample {words : List Word} (h : Keeps s₀ s) : Keeps s₀ (s.putSample words) := h.still (Still.refl s).putSample
theorem Keeps.sampleIssue {e op : Nat} (h : Keeps s₀ s) : Keeps s₀ (s.sampleIssue e op).1 := .ite_fst h.fst h.setEng.fst

theorem Keeps.sampleDone {e : Nat} {t : Option Tag} (h : Keeps s₀ s) : Keeps s₀ (s.sampleDone e t) := by
  unfold State.sampleDone
  split
  · exact h
  · exact h.putSample

theorem Keeps.sampleAct {e : Nat} {x2 : Act} {disc : Option Nat} {actual : Int} (h : Keeps s₀ s) :
    Keeps s₀ (s.sampleAct e x2 disc actual) := h.still (Still.refl s).sampleAct

theorem Keeps.sampleDiscard {e cause : Nat} {as : List Act} (h : Keeps s₀ s) :
    Keeps s₀ (s.sampleDiscard e cause as) := h.still (Still.refl s).sampleDiscard

/-! ### Engines -/

theorem Keeps.noteCyc {e cyc : Nat} (h : Keeps s₀ s) : Keeps s₀ (s.noteCyc e cyc) := h.still (Still.refl s).noteCyc
theorem Keeps.abandonRun {e cyc : Nat} (h : Keeps s₀ s) : Keeps s₀ (s.abandonRun e cyc) := h.still (Still.refl s).abandonRun

theorem Keeps.engFault {e code fpc : Nat} (h : Keeps s₀ s) : Keeps s₀ (s.engFault e code fpc) := by
  unfold State.engFault
  extract_lets s1 s2 u s3
  have h1 : Keeps s₀ s1 := h.abandonRun.count
  have h2 : Keeps s₀ s2 := h1.setBit.wr.wr
  have h3 : Keeps s₀ s3 := .ite h2 h2.setEng
  exact h3.syncVec

theorem Keeps.advance {e : Nat} (h : Keeps s₀ s) : Keeps s₀ (s.advance e) := .ite h.engFault h.setEng

theorem Keeps.issue {e op : Nat} {legal : Bool} {f : Engine → EngRes} (h : Keeps s₀ s) : Keeps s₀ (s.issue e op legal f) := by
  unfold State.issue
  extract_lets E
  split
  · exact h
  · split
    · exact h.engFault
    · split
      next hp =>
        have h1 := h.sampleIssue.of_fst hp
        split
        · exact h1.engFault
        · exact h1.setEng.sampleDone.advance
        · exact h1.setEng.sampleDone

theorem Keeps.issueAct {e op : Nat} {legal ok : Bool} {port : Option Nat} {off : Engine → Nat} {k : ActKind} (h : Keeps s₀ s) :
    Keeps s₀ (s.issueAct e op legal ok port off k) := by
  unfold State.issueAct
  extract_lets E o
  split
  · exact h
  · split
    · exact h.engFault
    · split
      · exact h.engFault
      · split
        next hp =>
          have h1 := h.sampleIssue.of_fst hp
          extract_lets a u s2 u' s3
          have h2 : Keeps s₀ s2 := h1.setEng
          have h3 : Keeps s₀ s3 := by
            unfold s3
            exact .ite h2.count.sampleAct <|
              .ite h2.count.sampleAct (.ite h2.count.sampleAct h2.setEng)
          exact h3.advance

theorem Keeps.showPuts {e : Nat} {puts : Store Word} (h : Keeps s₀ s) : Keeps s₀ (s.showPuts e puts) :=
  h.foldl fun _ _ hu => .ite hu.setReg hu

end Sys2Proof.Machine
end

section
/-! ## Keeps: ports, the hub and actions -/

namespace Sys2Proof.Machine

-- The many short proofs are elaborated one after another: at once, each takes a thread with a stack of its own.
set_option Elab.async false

variable {s₀ s : State}

/-! ### The commands of ports -/

theorem Keeps.execCtUnderrun {p : Fin 64} (h : Keeps s₀ s) : Onward s₀ (execCtUnderrun p s) := by
  unfold Machine.execCtUnderrun
  refine .next ?_
  split
  · exact .ite h h.txAbort
  · exact h

theorem Keeps.setHlsLate {p k : Nat} {b : Bool} (h : Keeps s₀ s) : Keeps s₀ (s.setHlsLate p k b) := h.still (Still.refl s).setHlsLate

theorem Keeps.hlsWrite {p k : Nat} {v : Word} (h : Keeps s₀ s) : Keeps s₀ (s.hlsWrite p k v) :=
  .ite (.ite h h.setReg.setHlsLate) h.setReg.setHlsLate

theorem Keeps.hlsFire {p k : Nat} (h : Keeps s₀ s) : Keeps s₀ (s.hlsFire p k) := h.still (Still.refl s).hlsFire
theorem Keeps.hlsDue {d : Nat} (h : Keeps s₀ s) : Keeps s₀ (s.hlsDue d) := h.still (Still.refl s).hlsDue
theorem Keeps.injFail (h : Keeps s₀ s) : Keeps s₀ s.injFail := h.upd

theorem Keeps.slipAll {e : Nat} (h : Keeps s₀ s) : Keeps s₀ (s.slipAll e) := by
  unfold State.slipAll
  extract_lets E late s1
  have h1 : Keeps s₀ s1 := h.setEng.countBy
  exact .ite h (.ite h1.injFail h1)

theorem Keeps.acted {e : Nat} {x2 : Act} (h : Keeps s₀ s) : Keeps s₀ (s.acted e x2) := h.sampleAct

theorem Keeps.inject {e p t : Nat} {x4 : Act} (h : Keeps s₀ s) : Keeps s₀ (s.inject e p t x4) :=
  .ite h.count.sampleAct <|
  .ite h.count.sampleAct.injFail <|
  .ite h.count.acted.injFail (.ite h.count.sampleAct.injFail h.setEgr.acted.upd)

theorem Keeps.setSgate {h' : Nat} {b : Bool} (h : Keeps s₀ s) : Keeps s₀ (s.setSgate h' b) := .ite h h.setBit.upd

theorem Keeps.toutAct {e p : Nat} {lvl : Bool} {x4 : Act} (h : Keeps s₀ s) : Keeps s₀ (s.toutAct e p lvl x4) := by
  unfold State.toutAct
  extract_lets late at64 s0
  have h0 : Keeps s₀ s0 := .ite h.noteRise h
  split
  · exact h.count.sampleAct
  · split
    · exact h0.acted
    · split
      next hp => exact (h0.drive.of_fst hp).count.sampleAct
      next hp => exact (h0.drive.of_fst hp).acted

theorem Keeps.capture {e d k : Nat} (h : Keeps s₀ s) : Keeps s₀ (s.capture e d k) := h.setWords

/-! ### The hub -/

theorem Keeps.hubLatch {mark : Option Nat} {gs : List Nat} (h : Keeps s₀ s) : Keeps s₀ (s.hubLatch mark gs) := by
  unfold State.hubLatch
  extract_lets u s1 u'
  have h1 : Keeps s₀ s1 := h.upd
  exact h1.upd

theorem Keeps.hubPeriodic (h : Keeps s₀ s) : Keeps s₀ s.hubPeriodic := .ite h (.ite h.upd.count h.hubLatch)

theorem Keeps.hubMark {g : Nat} (h : Keeps s₀ s) : Keeps s₀ (s.hubMark g) :=
  .ite h.setBit.syncVec <|
  .ite h (.ite h.count h.hubLatch)

theorem Keeps.hubTake (h : Keeps s₀ s) : Keeps s₀ s.hubTake := .ite h h.upd.wr

theorem Keeps.hubWrite {ok : Bool} (h : Keeps s₀ s) : Keeps s₀ (s.hubWrite ok) := by
  unfold State.hubWrite
  extract_lets u
  split
  · exact h
  · exact .ite h.upd.count (.ite h.upd.count.setBit.syncVec h.upd.wr.emit)

theorem Keeps.smpWrite {v : Word} (h : Keeps s₀ s) : Keeps s₀ (s.smpWrite v) := .ite h.setReg (h.setReg.foldl fun _ _ hu => hu.setEng)

/-! ### Actions -/

theorem Keeps.launchAct {e p c : Nat} {x4 : Act} (h : Keeps s₀ s) : Keeps s₀ (s.launchAct e p c x4) := by
  unfold State.launchAct
  split
  · exact h.count.sampleAct
  · split
    next hp => exact (h.launch.of_fst hp).acted
    next hp => exact (h.launch.of_fst hp).count.acted

theorem Keeps.doAct {e : Nat} {x2 : Act} (h : Keeps s₀ s) : Keeps s₀ (s.doAct e x2) := by
  unfold State.doAct
  split
  · exact h.setGates.acted
  · exact h.setSgate.acted
  · exact h.launchAct
  · exact h.inject
  · exact h.toutAct
  · exact h.capture.acted
  · exact h.hubMark.acted
  · exact h.rsvRequest.acted

theorem Keeps.takeAct {e : Nat} (h : Keeps s₀ s) : Keeps s₀ (s.takeAct e) := by
  unfold State.takeAct
  extract_lets u
  split
  · exact h
  · exact h.setEng.doAct

theorem Keeps.actsNow {n : Nat} (h : Keeps s₀ s) : Keeps s₀ (s.actsNow n) := by
  induction n generalizing s with
  | zero => exact h
  | succ n ih =>
    unfold State.actsNow
    split
    · exact ih h.takeAct
    · exact h

theorem Keeps.slipDue (h : Keeps s₀ s) : Keeps s₀ s.slipDue := h.foldl fun _ _ hu => hu.slipAll

theorem Keeps.runActs {stop : State → Bool} {n : Nat} (h : Keeps s₀ s) : Keeps s₀ (s.runActs stop n) := by
  induction n generalizing s with
  | zero => exact h
  | succ n ih =>
    unfold State.runActs
    split
    · exact h
    · split
      · exact ih h.takeAct
      · split
        · exact ih h.slipDue.passN
        · exact h

theorem Keeps.goN {f n : Nat} (h : Keeps s₀ s) : Keeps s₀ (s.goN f n) := by
  induction f generalizing s n with
  | zero => exact h.passN
  | succ f ih =>
    unfold State.goN
    extract_lets s1
    have h1 : Keeps s₀ s1 := h.actsNow
    split
    · exact .ite (ih h1.slipDue.passN) h1.passN
    · exact h1.passN

theorem Keeps.goTo {t : Nat} (h : Keeps s₀ s) : Keeps s₀ (s.goTo t) := h.goN

theorem Keeps.effect {e op : Nat} (h : Keeps s₀ s) : Keeps s₀ (s.effect e op) := by
  unfold State.effect
  split
  · exact h
  · exact .ite h h.runActs

theorem Keeps.flush (h : Keeps s₀ s) : Keeps s₀ s.flush := h.runActs

/-! ### The commands of the fabric -/

theorem Keeps.pfcReceive {p : Nat} {pause : Bool} {stop resume : BitVec 8} (h : Keeps s₀ s) :
    Keeps s₀ (s.pfcReceive p pause stop resume) := by
  unfold State.pfcReceive
  extract_lets st rs s1 s2
  have h1 : Keeps s₀ s1 := h.count.countBy
  have h2 : Keeps s₀ s2 := .ite h1.count (h1.foldl fun _ _ hu => .ite hu.count hu)
  split
  · exact h
  · refine .foldl h2 fun _ _ hu => ?_
    exact .ite hu <|
      .ite (.ite hu hu.setEgr) <|
      .ite hu.setEgr hu

theorem Keeps.execLinkUp {p : Fin 64} {k : LinkKind} {deskew : Nat} (h : Keeps s₀ s) : Onward s₀ (execLinkUp p k deskew s) := by
  unfold Machine.execLinkUp
  extract_lets s1
  have h1 : Keeps s₀ s1 := h.linkUp.trackerReset
  exact .next (.ite h (.ite h1 h1.wake))

end Sys2Proof.Machine
end

section
/-! ## Keeps: references, PTP in firmware and engine instructions -/

namespace Sys2Proof.Machine

-- The many short proofs are elaborated one after another: at once, each takes a thread with a stack of its own.
set_option Elab.async false

variable {s₀ s : State}

/-! ### References -/

theorem Keeps.setRef {d : Nat} {x : Ref} (h : Keeps s₀ s) : Keeps s₀ (s.setRef d x) := h.upd
theorem Keeps.setCand {d k : Nat} {x : Cand} (h : Keeps s₀ s) : Keeps s₀ (s.setCand d k x) := h.upd
theorem Keeps.candReset {d k : Nat} (h : Keeps s₀ s) : Keeps s₀ (s.candReset d k) := h.setCand

theorem Keeps.candTo {d k st : Nat} (h : Keeps s₀ s) : Keeps s₀ (s.candTo d k st) := by
  unfold State.candTo
  extract_lets s1 u
  have h1 : Keeps s₀ s1 := h.wr
  split
  · exact h
  · split
    · exact h1.candReset
    · exact h1.setBit.candReset
    · exact h1.setCand
    · exact h1.setBit.setBit.syncVec
    · exact h1.setBit.setBit.syncVec
    · exact h1.setBit.setCand
    · exact h1

theorem Keeps.candStep {s0 : State} {d k : Nat} {signal : Bool} (h : Keeps s₀ s) : Keeps s₀ (s0.candStep s d k signal) := by
  unfold State.candStep
  extract_lets st failed C
  split
  · exact h.candTo
  · split
    · exact h.candTo
    · clear_value st
      split
      · exact .ite h.candTo (.ite h h.candTo)
      · exact .ite h h.candTo
      · split
        · exact h.setCand
        · split
          · exact h.setCand
          · exact .ite h.candTo h
      · clear_value failed
        split
        · exact h.candTo
        · exact .ite h.candTo h

theorem Keeps.domState {d : Nat} {t : TState} {cause detail : Nat} (h : Keeps s₀ s) : Keeps s₀ (s.domState d t cause detail) := by
  unfold State.domState
  extract_lets D R s1
  have h1 : Keeps s₀ s1 := h.setDom.setRef
  exact .ite h1.toMode (.ite h1.prvAbort.toMode h1)

theorem Keeps.deselect {d : Nat} (h : Keeps s₀ s) : Keeps s₀ (s.deselect d) := by
  unfold State.deselect
  extract_lets s1
  have h1 : Keeps s₀ s1 := h.setBit.setBit.wr
  split
  · exact h.setBit
  · exact (Keeps.ite h1.candTo h1).setRef

theorem Keeps.enterHoldover {d cause detail : Nat} {compute keep : Bool} (h : Keeps s₀ s) :
    Keeps s₀ (s.enterHoldover d cause detail compute keep) := by
  unfold State.enterHoldover
  extract_lets held w valid rate s1 u s2 unq u' s3 s4 s5 h' s6
  have h1 : Keeps s₀ s1 := .domState (.ite h h.deselect)
  have h2 : Keeps s₀ s2 := h1.setRef
  clear_value s2
  have h3 : Keeps s₀ s3 := h2.setDom
  have h4 : Keeps s₀ s4 := h3.setBit
  have h5 : Keeps s₀ s5 := .ite h4.setBit h4
  have h6 : Keeps s₀ s6 := .ite h5 h5.setRate.wr.wr.wr
  exact h6.syncVec

theorem Keeps.loseRef {d cause detail : Nat} (h : Keeps s₀ s) : Keeps s₀ (s.loseRef d cause detail) := by
  unfold State.loseRef
  split
  · exact h.enterHoldover
  · exact .ite h.enterHoldover h.deselect.domState
  · exact h.deselect
  · exact h.deselect

theorem Keeps.requalify {d : Nat} (h : Keeps s₀ s) : Keeps s₀ (s.requalify d) := .ite h.setDom h
theorem Keeps.pllStart {d : Nat} (h : Keeps s₀ s) : Keeps s₀ (s.pllStart d) := h.setRef
theorem Keeps.lockTrack {d : Nat} {e fe : Int} {only : Bool} (h : Keeps s₀ s) : Keeps s₀ (s.lockTrack d e fe only) := h.setRef

theorem Keeps.servo {d : Nat} (h : Keeps s₀ s) : Keeps s₀ (s.servo d) := by
  unfold State.servo
  extract_lets t R bw u
  split
  · exact h
  · exact .ite h h.setRate.upd.setRef.lockTrack

theorem Keeps.candUpdate {d k : Nat} {θ per : Int} (h : Keeps s₀ s) : Keeps s₀ (s.candUpdate d k θ per) := by
  unfold State.candUpdate
  extract_lets C y0 y s1
  have h1 : Keeps s₀ s1 := h.setCand
  exact .ite h1.servo h1

theorem Keeps.candOffset {d k : Nat} {θ : Int} (h : Keeps s₀ s) : Keeps s₀ (s.candOffset d k θ) := h.candUpdate
theorem Keeps.candPhase {d k : Nat} {x : Int} (h : Keeps s₀ s) : Keeps s₀ (s.candPhase d k x) := (Keeps.ite h.setCand h).candOffset

theorem Keeps.refLine {p : Nat} (h : Keeps s₀ s) : Keeps s₀ (s.refLine p) := by
  unfold State.refLine
  split
  · exact h
  · exact h.foldl fun _ _ hu => .ite hu.candPhase hu

theorem Keeps.refRefclk {d k : Nat} (h : Keeps s₀ s) : Keeps s₀ (s.refRefclk d k) := .ite h.candPhase h

theorem Keeps.refTin {p : Nat} (h : Keeps s₀ s) : Keeps s₀ (s.refTin p) := by
  unfold State.refTin
  split
  · exact h
  · exact h.foldl fun _ _ hu => .ite hu.candUpdate hu

theorem Keeps.vote {d : Nat} (h : Keeps s₀ s) : Keeps s₀ (s.vote d) := by
  unfold State.vote
  extract_lets V alarm s1 s2
  have h1 : Keeps s₀ s1 := h.foldl fun _ _ hu => (Keeps.ite hu.setBit hu).setBit.setBit
  have h2 : Keeps s₀ s2 := .ite h1.setBit.syncVec h1
  exact h2.setBit

theorem Keeps.request {d k : Nat} {δ : Int} (h : Keeps s₀ s) : Keeps s₀ (s.request d k δ).1 := by
  unfold State.request
  split
  next hp => exact (h.adjust.of_fst hp).candTo.fst
  next hp => exact (h.adjust.of_fst hp).fst

theorem Keeps.follow {d k : Nat} (h : Keeps s₀ s) : Keeps s₀ (s.follow d k) := by
  unfold State.follow
  extract_lets old s1 s2 s3
  have h1 : Keeps s₀ s1 := by
    unfold s1
    split
    · exact .ite h.candTo h
    · exact h
  have h2 : Keeps s₀ s2 := h1.setBit.wr.candTo.setBit
  have h3 : Keeps s₀ s3 := h2.setBit.count.log
  exact .ite h h3.syncVec

theorem Keeps.selectCand {d k : Nat} {force : Bool} (h : Keeps s₀ s) : Keeps s₀ (s.selectCand d k force).1 := by
  unfold State.selectCand
  extract_lets zero s1 u s2 a b s1' s2' D u' a' b'
  have h1 : Keeps s₀ s1 := .domState (.ite h.follow.setCand h.follow)
  have h2 : Keeps s₀ s2 := h1.setRef.pllStart
  have h1' : Keeps s₀ s1' := .ite h.follow.setCand h.follow
  have h2' : Keeps s₀ s2' := .ite h1'.domState h1'
  clear_value s2'
  split
  · exact .ite_fst h2.fst h2.request
  · exact .ite_fst h2.fst h2.request
  · exact .ite_fst h2'.setRef.setDom.fst h2'.setRef.request
  · exact .ite_fst h2'.setRef.setDom.fst h2'.setRef.request

theorem Keeps.evaluate {d n : Nat} (h : Keeps s₀ s) : Keeps s₀ (s.evaluate d n) := by
  induction n generalizing s with
  | zero => exact h
  | succ n ih =>
    unfold State.evaluate
    extract_lets s0 best alarm go
    have h0 : Keeps s₀ s0 := by
      unfold s0
      split
      · exact .ite h.setBit h
      · exact h
    have hgo : ∀ k, Keeps s₀ (go k) := by
      intro k
      unfold go
      have h1 : Keeps s₀ (s0.selectCand d k false).1 := h0.selectCand
      split
      · exact ih (h1.of_fst ‹_›)
      · exact h1.of_fst ‹_›
    split
    · exact h0
    · split
      · exact h0.setBit.syncVec
      · exact .ite h0 (hgo _)
      · exact .syncVec (.ite h0 h0.loseRef.setBit)
      · exact .ite (hgo _) (.ite (hgo _) h0)

theorem Keeps.candMeasure {d : Nat} {m : RefMeas} (h : Keeps s₀ s) : Keeps s₀ (s.candMeasure d m) := h.setCand

theorem Keeps.candEstimate {d k : Nat} (h : Keeps s₀ s) : Keeps s₀ (s.candEstimate d k) := by
  unfold State.candEstimate
  extract_lets u
  split
  · exact h.setCand
  · exact h

theorem Keeps.refclkOff (h : Keeps s₀ s) : Keeps s₀ s.refclkOff := by
  unfold State.refclkOff
  extract_lets d u
  split
  · exact .ite h h.wr.upd
  · exact h

theorem Keeps.histMark {d : Nat} (h : Keeps s₀ s) : Keeps s₀ (s.histMark d) := .ite h.setDom h

theorem Keeps.refEval {d : Nat} {ms : List RefMeas} (h : Keeps s₀ s) : Keeps s₀ (s.refEval d ms) := by
  unfold State.refEval
  extract_lets s0 s1 sig s2 s3
  have h0 : Keeps s₀ s0 := h.foldl fun _ _ hu => hu.candMeasure
  have h1 : Keeps s₀ s1 := h0.foldl fun _ _ hu => hu.refRefclk.candEstimate
  have h2 : Keeps s₀ s2 := h1.foldl fun _ _ hu => hu.candStep
  have h3 : Keeps s₀ s3 := h2.vote.histMark
  exact h3.evaluate.vote.requalify.refclkOff.histMark

theorem Keeps.histSample {d : Nat} (h : Keeps s₀ s) : Keeps s₀ (s.histSample d) := by
  unfold State.histSample
  extract_lets s1 D R s2
  have h1 : Keeps s₀ s1 := h.histMark
  have h2 : Keeps s₀ s2 := h1.setRef
  exact .ite h h2.setDom.histMark

/-! ### PTP in firmware -/

theorem Keeps.offsetMeasured {p d : Nat} {off : Int} (h : Keeps s₀ s) : Keeps s₀ (s.offsetMeasured p d off) := by
  unfold State.offsetMeasured
  extract_lets u s1
  have h1 : Keeps s₀ s1 := h.setPtp
  split
  · exact h1.candOffset
  · exact h1

theorem Keeps.syncDone {p d : Nat} {t1 t2 corr : Int} (h : Keeps s₀ s) : Keeps s₀ (s.syncDone p d t1 t2 corr) := h.setPtp.offsetMeasured
theorem Keeps.setMpd {p : Nat} {m : Int} (h : Keeps s₀ s) : Keeps s₀ (s.setMpd p m) := h.wr.wr

theorem Keeps.pdStep {p : Nat} {old new : Int} (h : Keeps s₀ s) : Keeps s₀ (s.pdStep p old new) := by
  unfold State.pdStep
  extract_lets P
  split
  extract_lets s1
  have h1 : Keeps s₀ s1 := h.count.setPtp.setBit
  refine .foldl h1 fun _ _ hu => ?_
  extract_lets s2 u
  have h2 : Keeps s₀ s2 := hu.enterHoldover
  split
  · exact .ite h2.setRef hu.histMark
  · exact hu

theorem Keeps.mpdMeasured {p : Nat} {m : Int} (h : Keeps s₀ s) : Keeps s₀ (s.mpdMeasured p m) := by
  unfold State.mpdMeasured
  extract_lets old lim known u s1
  have h1 : Keeps s₀ s1 := h.setMpd.setPtp
  exact .ite h1.pdStep h1

theorem Keeps.settleRef {p d k first last : Nat} (h : Keeps s₀ s) : Keeps s₀ (s.settleRef p d k first last) :=
  .ite h.wr.setBit.log h.setBit.setBit.setBit.syncVec

theorem Keeps.gateOff {p d : Nat} (h : Keeps s₀ s) : Keeps s₀ (s.gateOff p d) := by
  unfold State.gateOff
  extract_lets R s1
  have h1 : Keeps s₀ s1 := h.setRef
  split
  · split
    · exact .ite h1.domState.pllStart h1
    · exact h1
  · exact h

theorem Keeps.settleEnd {p : Nat} (h : Keeps s₀ s) : Keeps s₀ (s.settleEnd p) := by
  unfold State.settleEnd
  split
  · exact h
  · exact (h.passN.foldl fun _ _ hu => hu.settleRef).setPtp.setBit.foldl fun _ _ hu => hu.gateOff

theorem Keeps.fwSign {d : Nat} {m : PtpMsg} {tail : List Byte} (h : Keeps s₀ s) : Keeps s₀ (s.fwSign d m tail).1 := by
  unfold State.fwSign
  extract_lets spp
  split
  · exact h.fst
  · split
    · exact h.fst
    · exact h.fwResign

theorem Keeps.fwSend {p d : Nat} {m : PtpMsg} {body : List Byte} {dest : Option PtpPeer} (h : Keeps s₀ s) :
    Keeps s₀ (s.fwSend p d m body dest) :=
  h.fwSign.foldl fun _ _ hu => hu.fwJoin

theorem Keeps.fwSeq {p d ty : Nat} (h : Keeps s₀ s) : Keeps s₀ (s.fwSeq p d ty).1 := h.setPtp.fst

theorem Keeps.fwOriginate {p d ty : Nat} (h : Keeps s₀ s) : Keeps s₀ (s.fwOriginate p d ty) := by
  unfold State.fwOriginate
  extract_lets tc ok del master two
  split
  · exact h
  · split
    next hp =>
      have h1 := h.fwSeq.of_fst hp
      extract_lets m u s2 u'
      have h2 : Keeps s₀ s2 := .ite h1.setMpd.setPtp h1
      split
      · exact .ite h1.fwSend h
      · split
        · exact .ite h1.fwSend h
        · split
          · split
            · exact .ite h1.fwSend h
            · exact h
          · exact .ite (.ite h2.setPtp.fwSend h) <|
              .ite h1.fwSend <|
              .ite (.ite h1.fwSend h) h

theorem Keeps.announce {p d : Nat} {m : PtpMsg} {peer : Option PtpPeer} (h : Keeps s₀ s) : Keeps s₀ (s.announce p d m peer) := by
  unfold State.announce
  extract_lets loop u
  split
  · exact h
  · exact .ite h.setPtp h

theorem Keeps.fwManage {p d : Nat} {m : PtpMsg} {peer : Option PtpPeer} (h : Keeps s₀ s) : Keeps s₀ (s.fwManage p d m peer) := by
  unfold State.fwManage
  extract_lets u u'
  have hu' : Keeps s₀ u' := h.fwSend
  split
  · exact hu'.upd
  · exact h.fwSend
  · exact h.fwSend
  · exact h
  · exact h
  · exact h
  · exact h

theorem Keeps.fwTake {p d : Nat} {k : Pkt} {m : PtpMsg} {t48 : Int} (h : Keeps s₀ s) : Keeps s₀ (s.fwTake p d k m t48) := by
  unfold State.fwTake
  extract_lets t o P P1 u
  split
  · exact .ite h (.ite h.setPtp h.setPtp.syncDone)
  · exact .ite h.syncDone h
  · exact .ite h.fwSend h
  · exact .ite h.mpdMeasured h
  · exact .ite h.announce h
  · split
    · exact h.setPtp
    · exact h
  · exact h.fwManage
  · exact h

theorem Keeps.fwPdelay {p : Nat} {m : PtpMsg} {t48 : Int} (h : Keeps s₀ s) : Keeps s₀ (s.fwPdelay p m t48) := by
  unfold State.fwPdelay
  extract_lets d t o P mine two u r
  split
  · exact h.setPtp.fwSend
  · split
    · exact .ite (.ite h.setPtp h.setPtp.mpdMeasured) h
    · exact .ite h.setPtp.mpdMeasured h

theorem Keeps.claimFilter {p : Nat} {m : PtpMsg} (h : Keeps s₀ s) : Keeps s₀ (s.claimFilter p m).1 := by
  unfold State.claimFilter
  split
  · exact h.fst
  · split
    · exact h.count.fst
    · split
      next hp => exact (h.clfJudge.of_fst hp).fst
      next hp => exact (h.clfJudge.of_fst hp).count.fst

theorem Keeps.ptpReceive {p : Nat} {r : RxFrame} {m : PtpMsg} {ovf : Bool} (h : Keeps s₀ s) : Keeps s₀ (s.ptpReceive p r m ovf) := by
  unfold State.ptpReceive
  extract_lets s0
  have h0 : Keeps s₀ s0 := h.count
  split
  next hp =>
    exact h0.claimFilter.of_fst hp
  next hp =>
    have h1 := h0.claimFilter.of_fst hp
    extract_lets inst s2
    have h2 : Keeps s₀ s2 := by
      unfold s2
      split
      · exact h1.twinEcho
      · exact h1
    split
    · exact h1.count
    · exact h1.count
    · split
      · exact h1.count
      · split
        next hp =>
          have h3 := Keeps.of_fst (.ite_fst h2.rxStamp h2.fst) hp
          extract_lets runs
          split
          · exact .ite h3.count (.ite h3.fwPdelay h3)
          · clear_value inst
            split
            · extract_lets watch s4
              have h4 : Keeps s₀ s4 := .ite h3 (.ite h3.count h3.fwTake)
              split
              · exact .ite h3.count (.ite h3.fwTake h3)
              · exact h4.ingress
            · exact h3.ingress

theorem Keeps.macReceive {p : Nat} {r : RxFrame} {ovf : Bool} (h : Keeps s₀ s) : Keeps s₀ (s.macReceive p r ovf) := by
  unfold State.macReceive
  split
  next hp =>
    have h1 := h.macCount.of_fst hp
    extract_lets ptp s2
    have h2 : Keeps s₀ s2 := by
      unfold s2
      split
      · exact h1
      · clear_value ptp
        split
        · exact .ite h1 h1.ptpReceive
        · exact h1.ingress
    exact .ite h2.wake h2

theorem Keeps.receiveNow {p : Nat} {how : MmRx} {r : RxFrame} {ovf : Bool} (h : Keeps s₀ s) : Keeps s₀ (s.receiveNow p how r ovf) := by
  unfold State.receiveNow
  extract_lets mm
  split
  · exact h
  · split
    · exact h.macReceive
    · exact .ite h.countBy.count.macReceive h
    · exact .ite h.countBy.count h
    · exact .ite h.count h
    · exact .ite h.emit h
    · exact .ite h.wr h

theorem Keeps.receive {p : Fin 64} {how : MmRx} {r : RxFrame} {ovf : Bool} (h : Keeps s₀ s) : Keeps s₀ (s.receive p how r ovf) :=
  .ite h (.ite h.upd.octExit h.upd.receiveNow)

theorem Keeps.execTcEntryExpire {p : Fin 64} (h : Keeps s₀ s) : Onward s₀ (execTcEntryExpire p s) := by
  unfold Machine.execTcEntryExpire
  refine .next ?_
  split
  · exact h
  · exact h.passN.setPtp

/-! ### Instructions of the engines -/

theorem Keeps.endRun {e : Nat} (h : Keeps s₀ s) : Keeps s₀ (s.endRun e) := h.sampleIssue.showPuts.count.noteCyc.setEng.sampleDone

theorem Keeps.evtEffect {e : Nat} {w : EvtArgs} (h : Keeps s₀ s) : Keeps s₀ (s.evtEffect e w) :=
  .ite h.count (.ite h.logAs.setEng.wr.syncVec h.logAs.setEng)

theorem Keeps.swapReq {e : Nat} (h : Keeps s₀ s) : Keeps s₀ (s.swapReq e) := .ite h h.setEng
theorem Keeps.faultClear {e : Nat} (h : Keeps s₀ s) : Keeps s₀ (s.faultClear e) := (Keeps.ite h.setEng h).setBit.syncVec

/-! ### Mailboxes -/

theorem Keeps.setMb {p : Nat} {x : Mb} (h : Keeps s₀ s) : Keeps s₀ (s.setMb p x) := h.upd
theorem Keeps.mbFill {p : Nat} {ws : List Word} (h : Keeps s₀ s) : Keeps s₀ (s.mbFill p ws) := h.mapRegs.setWords.setBit.syncVec

theorem Keeps.mbPost {p : Nat} {ws : List Word} (h : Keeps s₀ s) : Keeps s₀ (s.mbPost p ws) :=
  .ite h.emit <|
  .ite h.emit (.ite h.setMb h.mbFill)

theorem Keeps.mbAck {p : Nat} (h : Keeps s₀ s) : Keeps s₀ (s.mbAck p) := by
  unfold State.mbAck
  extract_lets s1 u
  have h1 : Keeps s₀ s1 := h.setBit.syncVec
  split
  · exact h
  · split
    · exact h1
    · exact h1.setMb.mbFill

theorem Keeps.mbClose {p : Nat} (h : Keeps s₀ s) : Keeps s₀ (s.mbClose p) := by
  unfold State.mbClose
  extract_lets u
  split
  · exact h
  · exact h.setMb.mbPost

theorem Keeps.mbComplete {p st : Nat} {res : List Word} (h : Keeps s₀ s) : Keeps s₀ (s.mbComplete p st res) := by
  unfold State.mbComplete
  extract_lets op u
  split
  · exact h
  · exact h.setMb.mbClose

theorem Keeps.mbPollAt {p : Nat} (h : Keeps s₀ s) : Keeps s₀ (s.mbPollAt p) := by
  unfold State.mbPollAt
  split
  · exact .ite h.mbComplete (.ite h h.mbComplete)
  · exact .ite h.mbComplete (.ite h h.mbComplete)
  · exact .ite h.mbComplete (.ite h h.mbComplete)
  · exact h

theorem Keeps.mbPoll (h : Keeps s₀ s) : Keeps s₀ s.mbPoll := h.foldl fun _ _ hu => hu.mbPollAt

theorem Keeps.setOwner {o : Option Nat} (h : Keeps s₀ s) : Keeps s₀ (s.setOwner o) := by
  unfold State.setOwner
  extract_lets s1
  have h1 : Keeps s₀ s1 := h.wr.setBit
  exact .ite h1 h1.log

theorem Keeps.jot {seq p st : Nat} (h : Keeps s₀ s) : Keeps s₀ (s.jot seq p st) := .ite h h.upd
theorem Keeps.nextSeq {p : Nat} (h : Keeps s₀ s) : Keeps s₀ (s.nextSeq p).1 := h.wr.jot.fst

end Sys2Proof.Machine
end

section
/-! ## Keeps: modes, the twin and Orbit starts -/

namespace Sys2Proof.Machine

-- The many short proofs are elaborated one after another: at once, each takes a thread with a stack of its own.
set_option Elab.async false

variable {s₀ s : State}

/-! ### Changes of mode -/

theorem Keeps.leaveFwd (h : Keeps s₀ s) : Keeps s₀ s.leaveFwd := h.prvAbort.unfollow.upd
theorem Keeps.stopEngine {e : Nat} (h : Keeps s₀ s) : Keeps s₀ (s.stopEngine e) := h.sampleDiscard.setEng
theorem Keeps.stopEngines (h : Keeps s₀ s) : Keeps s₀ s.stopEngines := h.foldl fun _ _ hu => hu.stopEngine
theorem Keeps.portOff {p : Nat} (h : Keeps s₀ s) : Keeps s₀ (s.portOff p) := (Keeps.ite h.count h).setLink.trackerReset.setEgr.calLinkLost
theorem Keeps.dropFrames (h : Keeps s₀ s) : Keeps s₀ s.dropFrames := (h.foldl fun _ _ hu => hu.portOff).upd

theorem Keeps.toDock {cause detail : Nat} (h : Keeps s₀ s) : Keeps s₀ (s.toDock cause detail) :=
  (h.leaveFwd.stopEngines.dropFrames.foldl fun _ _ hu => hu.setDom).toMode

theorem Keeps.calAbortAll (h : Keeps s₀ s) : Keeps s₀ s.calAbortAll := h.foldl fun _ _ hu => hu.calAbort
theorem Keeps.soloRole (h : Keeps s₀ s) : Keeps s₀ s.soloRole := h.still (Still.refl s).soloRole

theorem Keeps.toHalt {haltCause cause detail : Nat} (h : Keeps s₀ s) : Keeps s₀ (s.toHalt haltCause cause detail) :=
  .ite h h.leaveFwd.unpark.stopEngines.dropFrames.calAbortAll.upd.wr.toMode

theorem Keeps.raiseAlarm (h : Keeps s₀ s) : Keeps s₀ s.raiseAlarm := h.upd.setBit.syncVec

theorem Keeps.sense {k : Nat} {t : Int} (h : Keeps s₀ s) : Keeps s₀ (s.sense k t) := by
  unfold State.sense
  extract_lets s1 s2 s3 u
  have h1 : Keeps s₀ s1 := h.setTemp
  have h2 : Keeps s₀ s2 := .ite h1 h1.raiseAlarm
  have h3 : Keeps s₀ s3 := .calScan (.ite h2 h2.log)
  exact .ite h3 (.ite h3.upd h3.toHalt)

theorem Keeps.recoverDom {d : Nat} (h : Keeps s₀ s) : Keeps s₀ (s.recoverDom d) := by
  unfold State.recoverDom
  extract_lets u s1
  have h1 : Keeps s₀ s1 := h.setDom
  split
  · exact h1.enterHoldover
  · exact h1.enterHoldover
  · exact h1
  · exact h1

theorem Keeps.toRecover {cause last : Nat} (h : Keeps s₀ s) : Keeps s₀ (s.toRecover cause last) :=
  .ite h <|
  .ite h.toHalt (.ite h (h.leaveFwd.unpark.toMode.wr.upd.foldl fun _ _ hu => hu.recoverDom))

theorem Keeps.strapRegs (h : Keeps s₀ s) : Keeps s₀ s.strapRegs := h.still (Still.refl s).strapRegs

/-- Contents written key by key from empty read as they were written. -/
theorem storeGet_foldl_storeSet {α : Type} [DecidableEq α] (d f : Nat → α) (n k : Nat) :
    storeGet d ((List.range n).foldl (fun m i => storeSet d m i (f i)) []) k = if k < n then f k else d k := by
  induction n with
  | zero => simp
  | succ n ih =>
    rw [List.range_succ, List.foldl_append, List.foldl_cons, List.foldl_nil]
    by_cases hk : k = n
    · rw [hk, storeGet_storeSet_same, if_pos (Nat.lt_succ_self n)]
    · rw [storeGet_storeSet_ne _ _ hk, ih]
      simp only [show k < n + 1 ↔ k < n by omega]

theorem Keeps.afterWarm (h : Keeps s₀ s) : Keeps s₀ s.afterWarm where
  regsOk k := storeWf_storeMap resetWord keptWord (h.regsOk k)
  tb := h.tb
  pending := h.pending
  orbNum := h.orbNum
  begun := h.begun
  epoch d hd := by
    rw [← h.epoch d hd]
    have hk : s.afterWarm.dom d = keptDom (s.dom d) := by
      unfold State.dom State.afterWarm
      rw [storeGet_foldl_storeSet, if_pos hd]
      rfl
    rw [hk]
    rfl

theorem Keeps.warmReset {src : Nat} (h : Keeps s₀ s) : Keeps s₀ (s.warmReset src) := by
  unfold State.warmReset
  extract_lets s1 s2
  have h1 : Keeps s₀ s1 := h.toMode.pinsOff.emit.soloRole
  have h2 : Keeps s₀ s2 := h1.afterWarm.strapRegs.wr
  exact .ite h <|
    .ite h.log (.ite h2.setBit h2)

/-! ### BOOT -/

theorem Keeps.setRepairs {l : List Word} (h : Keeps s₀ s) : Keeps s₀ (s.setRepairs l) := h.setWords.wr.wr.wr

theorem Keeps.bootTdc {x : BootAcc} {tdc : List (Fin 84 × List Nat × Nat)} (h : Keeps s₀ s) : Keeps s₀ (s.bootTdc x tdc) := by
  unfold State.bootTdc
  extract_lets n s1
  have h1 : Keeps s₀ s1 := by
    unfold s1
    refine .foldl h fun _ _ hu => ?_
    extract_lets rep car lost
    split
    extract_lets t t1 u
    have ht : Keeps s₀ t := hu.wr.wr
    have ht1 : Keeps s₀ t1 := ht.wr
    split
    · split
      · exact ht1.setBins
      · exact ht1.setTdc
    · exact ht
  exact h1.upd.foldl fun _ _ hu => hu.calScan

theorem Keeps.bootOutcome {x : BootAcc} {tdc : List (Fin 84 × List Nat × Nat)} (h : Keeps s₀ s) : Keeps s₀ (s.bootOutcome x tdc) :=
  h.setRepairs.bootTdc.setBit.wr.setBit.setBit.wr.wr.foldl fun _ _ hu => .ite hu.wr.setOct hu.wr

theorem Keeps.twinEnter (h : Keeps s₀ s) : Keeps s₀ s.twinEnter := .ite h h.setBit.upd

theorem Keeps.startFwd {cause : Nat} (h : Keeps s₀ s) : Keeps s₀ (s.startFwd cause) := by
  unfold State.startFwd
  extract_lets d u s1 s2
  have h1 : Keeps s₀ s1 := by
    unfold s1
    refine .setDom ?_
    exact h.deselect
  have h2 : Keeps s₀ s2 := h1.toMode
  exact .ite h ((h2.foldl fun _ _ hu => .ite hu hu.trainAsk).twinEnter)

theorem Keeps.romDefaults (h : Keeps s₀ s) : Keeps s₀ s.romDefaults := by
  unfold State.romDefaults
  extract_lets s1 s2 cnd s3 s4 s5 s6 u u'
  have h1 : Keeps s₀ s1 := h.foldl fun _ _ hu => hu.wr.wr.wr.wr.setBit.setBit.wr
  have h2 : Keeps s₀ s2 := h1.setBit.wr.wr
  have h3 : Keeps s₀ s3 := h2.foldl fun _ _ hu => hu.wr.wr.setBit
  have h4 : Keeps s₀ s4 := h3.wr.wr.setBit.setReg.wr.wr.setBit
  have h5 : Keeps s₀ s5 := h4.setBit.setBit.wr
  have h6 : Keeps s₀ s6 := h5.wr.wr.setBit.wr
  exact h6.setTout.setTout

theorem Keeps.autonomous (h : Keeps s₀ s) : Keeps s₀ s.autonomous := h.romDefaults.upd.wr.wr.log.startFwd

theorem Keeps.startTime {ns : Nat} (h : Keeps s₀ s) : Keeps s₀ (s.startTime ns) := by
  unfold State.startTime
  extract_lets s1 u
  have h1 : Keeps s₀ s1 := h.foldl fun _ _ hu => hu.setDom
  exact .ite h (h1.pass (Nat.le_add_right _ ns)).upd

theorem Keeps.firstGrid (h : Keeps s₀ s) : Keeps s₀ s.firstGrid := .ite h h.setOrbit
theorem Keeps.fwUp (h : Keeps s₀ s) : Keeps s₀ s.fwUp := h.wr.wr.setBit.openGates.setOwner.firstGrid.upd

theorem Keeps.bootEnd {r : BootResult} (h : Keeps s₀ s) : Keeps s₀ (s.bootEnd r) := by
  unfold State.bootEnd
  extract_lets s0 s1 x s2 s3 s4
  have h0 : Keeps s₀ s0 := h.startTime.wr
  have h1 : Keeps s₀ s1 := h0.setBit
  have h2 : Keeps s₀ s2 := h1.bootOutcome.fwUp
  have h3 : Keeps s₀ s3 := h2.log
  have h4 : Keeps s₀ s4 := h3.toMode.clkobsAfter
  exact .ite h <|
    .ite h1.firstGrid.toHalt <|
    .ite h1.firstGrid.toHalt <|
    .ite h3.toHalt (.ite h4.autonomous h4)

/-! ### The commands of modes -/

theorem Keeps.resetWrite {v : Word} (h : Keeps s₀ s) : Keeps s₀ (s.resetWrite v) := .ite h (.ite h.warmReset h.wr)

theorem Keeps.refQualified (h : Keeps s₀ s) : Keeps s₀ s.refQualified := by
  unfold State.refQualified
  extract_lets u s1 u'
  have h1 : Keeps s₀ s1 := h.upd
  exact .ite h (.ite h1 h1.upd.toMode)

theorem Keeps.trip {step1 : Option Nat} (h : Keeps s₀ s) : Keeps s₀ (s.trip step1) := by
  unfold State.trip
  extract_lets u s1 u' s2 u''
  have h1 : Keeps s₀ s1 := h.upd
  have h2 : Keeps s₀ s2 := by
    unfold s2
    split
    · exact h1.startTime
    · exact h1
  split
  · exact h1.log
  · split
    · exact h1.upd
    · exact h2.upd
    · exact h1.toRecover
    · exact h1.toRecover
    · exact h1.toRecover
    · exact h1.toRecover
    · exact h1.toRecover
    · exact h1.toRecover
    · exact h1.toRecover
    · exact h1.toRecover
    · exact h1
    · exact h1

theorem Keeps.refLostDom {d : Nat} (h : Keeps s₀ s) : Keeps s₀ (s.refLostDom d) := by
  unfold State.refLostDom
  extract_lets u
  split
  · exact h.enterHoldover
  · exact .ite h.enterHoldover h.deselect.domState
  · exact .ite h h.setDom.setBit.syncVec
  · exact h

theorem Keeps.refLost (h : Keeps s₀ s) : Keeps s₀ s.refLost := .ite h (h.upd.setBit.setBit.log.foldl fun _ _ hu => hu.refLostDom)

theorem Keeps.requalCands (h : Keeps s₀ s) : Keeps s₀ s.requalCands := by
  unfold State.requalCands
  refine .foldl ((h.foldl fun _ _ hu => .ite hu.deselect.setRef hu)) fun _ _ hu => ?_
  exact .ite hu (.ite hu.candTo hu.setCand)

theorem Keeps.refReturn (h : Keeps s₀ s) : Keeps s₀ s.refReturn := .ite h (h.upd.setBit.log.requalCands.foldl fun _ _ hu => hu.requalify)

theorem Keeps.execThermalAlarmClear {ts : List Int} (h : Keeps s₀ s) : Onward s₀ (execThermalAlarmClear ts s) := by
  unfold Machine.execThermalAlarmClear
  extract_lets s1 u
  have h1 : Keeps s₀ s1 := h.foldl fun _ _ hu => hu.sense
  exact .next (.ite h1.upd h1)

theorem Keeps.engEcc {e : Nat} (h : Keeps s₀ s) : Keeps s₀ (s.engEcc e) := .ite h h.abandonRun.wr.wr.setEng

theorem Keeps.execEccError {k : EccKind} (h : Keeps s₀ s) : Onward s₀ (execEccError k s) := by
  unfold Machine.execEccError
  refine .next ?_
  split
  · exact h
  · exact h.toRecover
  · exact h.engEcc.toRecover

/-! ### What the twin does -/

theorem Keeps.startFollow {d : Nat} (h : Keeps s₀ s) : Keeps s₀ (s.startFollow d) := by
  unfold State.startFollow
  extract_lets s1 u s2
  have h1 : Keeps s₀ s1 := h.deselect.setBit
  have h2 : Keeps s₀ s2 := h1.setRef
  split
  · exact h2.domState
  · exact h2.domState
  · exact h2
  · exact h2

theorem Keeps.stopFollow {d : Nat} (h : Keeps s₀ s) : Keeps s₀ (s.stopFollow d) := by
  unfold State.stopFollow
  extract_lets k s1 u u' s2 s3 u''
  have h1 : Keeps s₀ s1 := h.setBit
  have hu : Keeps s₀ u := h1.setBit
  have h2 : Keeps s₀ s2 := .ite hu.upd h1
  have h3 : Keeps s₀ s3 := by
    unfold s3
    split
    · exact h2.selectCand
    · exact h2.loseRef
  exact h3.upd

theorem Keeps.refollow (h : Keeps s₀ s) : Keeps s₀ s.refollow := by
  unfold State.refollow
  refine .foldl h fun _ _ hu => ?_
  exact .ite (.ite hu hu.stopFollow) <|
    .ite hu.startFollow hu

theorem Keeps.alignJudge (h : Keeps s₀ s) : Keeps s₀ s.alignJudge := by
  unfold State.alignJudge
  extract_lets d T ok near s1 al s2 u
  have h1 : Keeps s₀ s1 := h.upd
  have h2 : Keeps s₀ s2 := h1.setBit
  exact .ite h2.upd h2

theorem Keeps.prvEnd (h : Keeps s₀ s) : Keeps s₀ s.prvEnd := by
  unfold State.prvEnd
  extract_lets plan pass r s1 s2 u T T1 s3 s4
  have h1 : Keeps s₀ s1 := h.wr.setBit
  have h2 : Keeps s₀ s2 := .ite (.ite h1.setBit h1) h1.twHist
  have h3 : Keeps s₀ s3 := h2.upd
  have h4 : Keeps s₀ s4 := .ite h3.setBit h3
  exact h4.log.toMode

theorem Keeps.prvFrom {k : Nat} (h : Keeps s₀ s) : Keeps s₀ (s.prvFrom k) :=
  .ite h.upd <|
  .ite h.upd <|
  .ite h.upd (.ite h.setBit.prvEnd h.prvEnd)

theorem Keeps.prvEnter {plan cause detail : Nat} {revert : Bool} (h : Keeps s₀ s) : Keeps s₀ (s.prvEnter plan cause detail revert) :=
  (h.wr.wr.setBit.foldl fun _ _ hu => hu.wr).upd.toMode.prvFrom

theorem Keeps.prvAsk {plan cause detail : Nat} {revert : Bool} (h : Keeps s₀ s) : Keeps s₀ (s.prvAsk plan cause detail revert) := h.upd.wake

theorem Keeps.prvOrbit (h : Keeps s₀ s) : Keeps s₀ s.prvOrbit := by
  unfold State.prvOrbit
  extract_lets u
  split
  · exact h
  · split
    · exact h.upd.prvEnter
    · split
      · exact .ite h.upd.prvEnter h
      · exact h

theorem Keeps.prvDue (h : Keeps s₀ s) : Keeps s₀ s.prvDue := .ite h (.prvOrbit (.ite h.upd.wake h.upd))

theorem Keeps.prvSkip (h : Keeps s₀ s) : Keeps s₀ s.prvSkip := by
  unfold State.prvSkip
  extract_lets u s1
  have h1 : Keeps s₀ s1 := h.upd.setBit
  split
  · exact h
  · exact .ite h h1.log

theorem Keeps.claimMeet (h : Keeps s₀ s) : Keeps s₀ s.claimMeet := .ite h h.upd

theorem Keeps.provHear {pins : Bool} {c : Option Nat} (h : Keeps s₀ s) : Keeps s₀ (s.provHear pins c) := by
  unfold State.provHear
  extract_lets T s1 P P1
  have h1 : Keeps s₀ s1 := h.upd
  exact .ite h1 h1.upd

theorem Keeps.provWithdraw (h : Keeps s₀ s) : Keeps s₀ s.provWithdraw := .ite h.upd h

theorem Keeps.prvStepEnd (h : Keeps s₀ s) : Keeps s₀ s.prvStepEnd := by
  unfold State.prvStepEnd
  extract_lets s1 u
  have h1 : Keeps s₀ s1 := .ite h.setBit h
  split
  · exact h
  · split
    · exact .prvFrom (.ite h h.setBit)
    · exact .ite h h1.upd.prvFrom
    · exact .prvFrom (.ite h.setBit h)

theorem Keeps.claimTimeout (h : Keeps s₀ s) : Keeps s₀ s.claimTimeout := .ite h.prvFrom h
theorem Keeps.prvSeqs (h : Keeps s₀ s) : Keeps s₀ s.prvSeqs := h.still (Still.refl s).prvSeqs

theorem Keeps.abortRun (h : Keeps s₀ s) : Keeps s₀ s.abortRun := by
  unfold State.abortRun
  extract_lets s1
  have h1 : Keeps s₀ s1 := h.prvAbort
  exact .ite h1.toMode h1

theorem Keeps.takeRole {r : Role} {claim : Nat} {orphan : Bool} (h : Keeps s₀ s) : Keeps s₀ (s.takeRole r claim orphan) :=
  (Keeps.ite h.wr h.abortRun.setRole).setBit.upd.setBit

theorem Keeps.cometTake (h : Keeps s₀ s) : Keeps s₀ s.cometTake := by
  unfold State.cometTake
  refine .foldl h fun _ _ hu => ?_
  extract_lets d s1
  have h1 : Keeps s₀ s1 := .ite hu.twHist hu
  exact .ite h1.wr h1

theorem Keeps.eclipse {revert : Bool} (h : Keeps s₀ s) : Keeps s₀ (s.eclipse revert) := by
  unfold State.eclipse
  extract_lets gen c s1 s2
  have h1 : Keeps s₀ s1 := h.takeRole.cometTake.refollow
  have h2 : Keeps s₀ s2 := .ite h1.log.twHist h1.count.log.twHist
  exact h2.wr.wake

theorem Keeps.roleOrbit (h : Keeps s₀ s) : Keeps s₀ s.roleOrbit := by
  unfold State.roleOrbit
  extract_lets u s0
  have h0 : Keeps s₀ s0 := h.upd
  split
  · exact h0
  · exact h0.eclipse
  · exact h0.eclipse
  · exact h0.takeRole
  · extract_lets s1 s2 u u' s3
    have h1 : Keeps s₀ s1 := h0.takeRole
    have h2 : Keeps s₀ s2 := .ite h1.twHist h1
    have hu : Keeps s₀ u := h2.twHist
    have h3 : Keeps s₀ s3 := .ite hu.upd h2
    exact h3.refollow

theorem Keeps.claimHear {c : Nat} (h : Keeps s₀ s) : Keeps s₀ (s.claimHear c) := by
  unfold State.claimHear
  extract_lets s1 T s2 u
  have h1 : Keeps s₀ s1 := h.twinHear
  have h2 : Keeps s₀ s2 := h1.setBit
  have hu : Keeps s₀ u := h2.wr
  split
  · exact h
  · split
    · exact .ite h1.upd h1
    · exact .ite h1.upd h1
    · exact .ite hu.upd h2.upd

theorem Keeps.revHear {req : Bool} (h : Keeps s₀ s) : Keeps s₀ (s.revHear req) :=
  .ite h.upd <|
  .ite h.upd.twHist (.ite h.upd.prvAsk h.upd)

theorem Keeps.heartHear {h' : TwHeart} (h : Keeps s₀ s) : Keeps s₀ (s.heartHear h') := by
  unfold State.heartHear
  extract_lets u s1 s2 s3 s4 s5
  have h1 : Keeps s₀ s1 := h.upd
  have h2 : Keeps s₀ s2 := .ite h1.setBit.setBit h1
  have h3 : Keeps s₀ s3 := h2.claimHear
  have h4 : Keeps s₀ s4 := h3.provHear
  have h5 : Keeps s₀ s5 := .ite h4.claimMeet h4
  exact h5.revHear

theorem Keeps.mirrorHear {m : TwMirror} (h : Keeps s₀ s) : Keeps s₀ (s.mirrorHear m) := by
  unfold State.mirrorHear
  extract_lets u s1 u'
  have h1 : Keeps s₀ s1 := h.upd
  split
  · exact h
  · split
    · exact h1.setRef
    · exact h1

theorem Keeps.cometHear {l : List (Nat × Nat)} (h : Keeps s₀ s) : Keeps s₀ (s.cometHear l) := .ite h h.upd

theorem Keeps.outputHear {o : TwOutput} (h : Keeps s₀ s) : Keeps s₀ (s.outputHear o) := by
  unfold State.outputHear
  extract_lets td pd tt cb kinds u s1 n s2 u' s3 u''
  have h1 : Keeps s₀ s1 := h.upd.wr
  have h2 : Keeps s₀ s2 := h1.wr
  have h3 : Keeps s₀ s3 := .ite h2.upd h2
  exact .ite h <|
    .ite h1.wr (.ite h3.upd h3.twHist)

theorem Keeps.timingHear {l code : Nat} {tx rx : List Int} (h : Keeps s₀ s) : Keeps s₀ (s.timingHear l code tx rx) := by
  unfold State.timingHear
  extract_lets fix
  split
  next hp =>
    have h1 := h.measure.of_fst hp
    extract_lets iv t48 t4 asym u s2
    have h2 : Keeps s₀ s2 := h1.upd
    exact .ite h2 ((h2.foldl fun _ _ hu => .ite hu.upd hu.upd.setRate.lockTrack).alignJudge)

theorem Keeps.timingSend (h : Keeps s₀ s) : Keeps s₀ s.timingSend := .ite h h.upd.emit.emit

theorem Keeps.recordHear {l code : Nat} {r : TwinRec} (h : Keeps s₀ s) : Keeps s₀ (s.recordHear l code r) := by
  unfold State.recordHear
  extract_lets s1 u s2
  have h1 : Keeps s₀ s1 := h.wr
  have h2 : Keeps s₀ s2 := h1.upd
  split
  · exact h
  · split
    · exact h2
    · split
      · exact h2.heartHear
      · exact h2.mirrorHear
      · exact h2.cometHear
      · exact h2.outputHear
      · exact h2.timingHear

theorem Keeps.pinHear {b : BitVec 40} (h : Keeps s₀ s) : Keeps s₀ (s.pinHear b) := by
  unfold State.pinHear
  extract_lets c orb flags s1 u s2 s3
  have h1 : Keeps s₀ s1 := h.setBit
  have h2 : Keeps s₀ s2 := h1.upd
  have h3 : Keeps s₀ s3 := .ite h2.claimMeet h2
  exact .ite h <|
    .ite h2 <|
    .ite h3.provHear (.claimHear (.ite h3.provHear h3))

theorem Keeps.revertAsk (h : Keeps s₀ s) : Keeps s₀ s.revertAsk := .ite h.upd.prvAsk h

theorem Keeps.judgePaths (h : Keeps s₀ s) : Keeps s₀ s.judgePaths := by
  unfold State.judgePaths
  extract_lets T m0 m1 mp ll lp link s0 s1 s2 s3 s4 u
  have h0 : Keeps s₀ s0 := h.wr.setBit
  have h1 : Keeps s₀ s1 := h0.foldl fun _ _ hu => .ite hu hu.calLinkLost
  have h2 : Keeps s₀ s2 := h1.upd
  have h3 : Keeps s₀ s3 := .ite h2.twHist h2
  have h4 : Keeps s₀ s4 := .ite h3.twHist h3
  exact .ite h4.upd h4

theorem Keeps.orphan (h : Keeps s₀ s) : Keeps s₀ s.orphan := h.setBit.twHist.upd.setBit

theorem Keeps.judge (h : Keeps s₀ s) : Keeps s₀ s.judge := by
  unfold State.judge
  extract_lets T heard s1 one u u' s2 s3 u''
  have h1 : Keeps s₀ s1 := h.judgePaths
  have hu : Keeps s₀ u := h1.twHist
  have h2 : Keeps s₀ s2 := by
    unfold s2
    exact .ite h1 <|
      .ite hu.upd <|
      .ite h1.orphan (.ite h1.upd h1)
  have h3 : Keeps s₀ s3 := h2.revertAsk.refollow
  exact .ite h h3.upd

theorem Keeps.joinTimeout {tie : Option Bool} (h : Keeps s₀ s) : Keeps s₀ (s.joinTimeout tie) := by
  unfold State.joinTimeout
  extract_lets T s1 gen act moon
  have h1 : Keeps s₀ s1 := h.upd
  split
  · exact h
  · split
    · exact h
    · split
      · split
        · exact h1
        · split
          · exact h1.upd
          · exact .ite (.ite h1.twHist.upd h1.twHist.upd) <|
              .ite h1.upd h1.upd
      · exact .ite h1 h1.orphan.refollow
      · exact h1

theorem Keeps.revertDue (h : Keeps s₀ s) : Keeps s₀ s.revertDue := by
  unfold State.revertDue
  extract_lets u
  split
  · exact .ite h.upd.setBit h
  · exact h

theorem Keeps.orphanRaise (h : Keeps s₀ s) : Keeps s₀ s.orphanRaise := .ite h.upd h

theorem Keeps.slotExpire (h : Keeps s₀ s) : Keeps s₀ s.slotExpire := by
  unfold State.slotExpire
  extract_lets u
  split
  · exact .ite h.upd.wr.setBit h
  · exact h

theorem Keeps.clfExpire {g : Nat} {prv : Bool} (h : Keeps s₀ s) : Keeps s₀ (s.clfExpire g prv) := .ite (.ite h.wr.setBit h.wr.setBit) h
theorem Keeps.twinSend {r : TwinRec} (h : Keeps s₀ s) : Keeps s₀ (s.twinSend r) := h.emit.emit

theorem Keeps.twinOrbitSend (h : Keeps s₀ s) : Keeps s₀ s.twinOrbitSend := by
  unfold State.twinOrbitSend
  extract_lets g s1 c s2 s3
  have h1 : Keeps s₀ s1 := h.twinSend
  have h2 : Keeps s₀ s2 := h1.emit
  have h3 : Keeps s₀ s3 := h2.foldl fun _ _ hu => hu.twinSend
  exact .ite h (.ite h2 h3.twinSend.twinSend)

theorem Keeps.twinOrbit (h : Keeps s₀ s) : Keeps s₀ s.twinOrbit := h.provWithdraw.roleOrbit.upd.refollow.alignJudge

/-! ### What an Orbit start is made of -/

theorem Keeps.fireStepped {s0 : State} (h : Keeps s₀ s) : Keeps s₀ (s.fireStepped s0) := h.foldl fun _ _ hu => .ite hu.trgDue.hlsDue hu

theorem Keeps.anchor {δ : Int} {stepped fresh : Bool} (h : Keeps s₀ s) : Keeps s₀ (s.anchor δ stepped fresh) := by
  unfold State.anchor
  extract_lets O g st p O1 nx long s1
  have h1 : Keeps s₀ s1 := h.setOrbit
  exact .ite (.ite h1.setBit h1) h.setOrbit

theorem Keeps.setGlist {p : Nat} {l : Option GateList} (h : Keeps s₀ s) : Keeps s₀ (s.setGlist p l) := h.upd
theorem Keeps.setGpend {p : Nat} {l : Option GateList} (h : Keeps s₀ s) : Keeps s₀ (s.setGpend p l) := h.upd

theorem Keeps.timeGlist {p : Nat} {l : GateList} {x0 : Int} (h : Keeps s₀ s) : Keeps s₀ (s.timeGlist p l x0) :=
  h.setGpend.setReg.setReg.setReg

theorem Keeps.retime (h : Keeps s₀ s) : Keeps s₀ s.retime := by
  unfold State.retime
  refine .foldl h fun _ _ hu => ?_
  split
  · exact hu
  · extract_lets l s1
    have h1 : Keeps s₀ s1 := .setGpend (.ite hu.setBit hu)
    split
    · exact h1.timeGlist
    · exact h1

theorem Keeps.dropGlists {e : Nat} (h : Keeps s₀ s) : Keeps s₀ (s.dropGlists e) := h.foldl fun _ _ hu => hu.setGlist.setGpend.setBit.setBit

theorem Keeps.takeGlists (h : Keeps s₀ s) : Keeps s₀ s.takeGlists :=
  h.foldl fun _ _ hu => .ite hu ((hu.foldl fun _ _ hu2 => hu2.setGlist.setGpend).setEng)

theorem Keeps.showGlists (h : Keeps s₀ s) : Keeps s₀ s.showGlists := by
  unfold State.showGlists
  refine .foldl h fun _ _ hu => ?_
  split
  · extract_lets s1
    have h1 : Keeps s₀ s1 := hu.setBit.setBit
    exact .ite (.ite h1.setGlist h1) hu
  · exact hu

theorem Keeps.beginRun {e : Nat} (h : Keeps s₀ s) : Keeps s₀ (s.beginRun e) := h.wr.setEng
theorem Keeps.compiledRun {e : Nat} (h : Keeps s₀ s) : Keeps s₀ (s.compiledRun e) := h.upd.wr.count.noteCyc.setEng
theorem Keeps.startStop {e : Nat} (h : Keeps s₀ s) : Keeps s₀ (s.startStop e) := .ite h.setEng (.ite h.setEng h)

theorem Keeps.swapAt {e : Nat} (h : Keeps s₀ s) : Keeps s₀ (s.swapAt e) := by
  unfold State.swapAt
  extract_lets E s1
  have h1 : Keeps s₀ s1 := h.setEng
  split
  · exact .ite (.ite h1.dropGlists h1) h
  · exact h

theorem Keeps.runAt {e : Nat} (h : Keeps s₀ s) : Keeps s₀ (s.runAt e) := .ite h (.ite h.setEng.compiledRun h.setEng.beginRun)
theorem Keeps.engOrbit {e : Nat} (h : Keeps s₀ s) : Keeps s₀ (s.engOrbit e) := h.setEng.startStop.swapAt.runAt
theorem Keeps.overrun {e : Nat} (h : Keeps s₀ s) : Keeps s₀ (s.overrun e) := h.still (Still.refl s).overrun
theorem Keeps.park {o : Nat} (h : Keeps s₀ s) : Keeps s₀ (s.park o) := h.sampleDiscard.setEng.upd.setOct.calAbort
theorem Keeps.p3Enter (h : Keeps s₀ s) : Keeps s₀ s.p3Enter := .ite h ((h.foldl fun _ _ hu => .ite hu hu.park).setBit.toMode)
theorem Keeps.orbSlot (h : Keeps s₀ s) : Keeps s₀ s.orbSlot := h.wr.wr
theorem Keeps.orbitEnd (h : Keeps s₀ s) : Keeps s₀ s.orbitEnd := h.flush.passTo.prvSeqs.foldl fun _ _ hu => hu.overrun
theorem Keeps.listSeal (h : Keeps s₀ s) : Keeps s₀ s.listSeal := .ite h (h.passTo.foldl fun _ _ hu => .ite hu hu.setEng)

/-! ### The commands of power -/

theorem Keeps.p1Enter {o : Nat} (h : Keeps s₀ s) : Keeps s₀ (s.p1Enter o) := .ite h.setOct h
theorem Keeps.p1Exit {o : Nat} (h : Keeps s₀ s) : Keeps s₀ (s.p1Exit o) := .ite h.octExit h

theorem Keeps.takeHeld {o : Nat} (h : Keeps s₀ s) : Keeps s₀ (s.takeHeld o) := by
  unfold State.takeHeld
  extract_lets mine u s1
  have h1 : Keeps s₀ s1 := h.upd
  refine .foldl h1 fun _ _ hu => ?_
  extract_lets u s2 u'
  have h2 : Keeps s₀ s2 := hu.upd.receiveNow
  exact h2.upd

theorem Keeps.octWake {o : Nat} (h : Keeps s₀ s) : Keeps s₀ (s.octWake o) := .ite h.octExitDone.takeHeld h

theorem Keeps.devExitDone (h : Keeps s₀ s) : Keeps s₀ s.devExitDone := by
  unfold State.devExitDone
  extract_lets u s1 s2
  have h1 : Keeps s₀ s1 := h.upd
  have h2 : Keeps s₀ s2 := .ite h1 h1.setBit
  split
  · exact h
  · split
    · exact h2.toDock
    · exact h2

theorem Keeps.exitTo {o : Nat} (h : Keeps s₀ s) : Keeps s₀ (s.exitTo o) := .ite h h.goTo

theorem Keeps.execPowerExitComplete {o : Option (Fin 8)} (h : Keeps s₀ s) : Onward s₀ (execPowerExitComplete o s) := by
  unfold Machine.execPowerExitComplete
  refine .next ?_
  split
  · exact .ite h.exitTo.octWake h
  · exact .ite h.exitTo.devExitDone.mbPoll h

end Sys2Proof.Machine
end

section
/-! ## Keeps: registers, transactions and mailbox requests -/

namespace Sys2Proof.Machine

-- The many short proofs are elaborated one after another: at once, each takes a thread with a stack of its own.
set_option Elab.async false

variable {s₀ s : State}

/-! ### Register writes -/

theorem Keeps.putReg {x1 : Nat} {m v : Word} (h : Keeps s₀ s) : Keeps s₀ (s.putReg x1 m v) := by
  unfold State.putReg
  extract_lets w
  split
  · exact h
  · exact h.setReg

theorem Keeps.syncVecs {l : List Nat} (h : Keeps s₀ s) : Keeps s₀ (s.syncVecs l) := h.foldl fun _ _ hu => hu.syncVec
theorem Keeps.evlRdMove (h : Keeps s₀ s) : Keeps s₀ s.evlRdMove := .ite h.wr h
theorem Keeps.mbeClear (h : Keeps s₀ s) : Keeps s₀ s.mbeClear := h.setReg.foldl fun _ _ hu => hu.setReg
theorem Keeps.rearm {base : Nat} {v : Word} (h : Keeps s₀ s) : Keeps s₀ (s.rearm base v) := h.foldl fun _ _ hu => .ite hu.deliver hu

theorem Keeps.writeGlb {x1 : Nat} {m v : Word} (h : Keeps s₀ s) : Keeps s₀ (s.writeGlb x1 m v) :=
  .ite h.resetWrite <|
  .ite h.putReg.evlRdMove <|
  .ite (.ite h.mbeClear h) <|
  .ite h.rearm <|
  .ite h.rearm (.ite h.putReg.syncVecs h.putReg)

theorem Keeps.writeCtr {x1 : Nat} {m v : Word} (h : Keeps s₀ s) : Keeps s₀ (s.writeCtr x1 m v) := by
  unfold State.writeCtr
  split
  · exact h.ctrWriteLow
  · split
    · exact .ite h.putReg h.ctrHold
    · exact h.putReg

theorem Keeps.writeOct {x1 : Nat} {m v : Word} (h : Keeps s₀ s) : Keeps s₀ (s.writeOct x1 m v) := by
  unfold State.writeOct
  extract_lets o off p s1 k w s1'
  have h1 : Keeps s₀ s1 := h.putReg.syncVec
  have h1' : Keeps s₀ s1' := h.putReg
  split
  · exact h
  · split
    · exact .ite h h.writeCtr
    · split
      · exact .ite h1.trackerReset h1
      · split
        · exact .ite h.hlsWrite (.ite h h.putReg)
        · exact .ite h.setShaper.putReg <|
            .ite (.ite h1'.mmVerify h1') <|
            .ite h.putReg.xoffScan h.putReg

theorem Keeps.writeFab {x1 : Nat} {m v : Word} (h : Keeps s₀ s) : Keeps s₀ (s.writeFab x1 m v) :=
  .ite (.ite h.rsvRequest h) <|
  .ite h h.putReg

theorem Keeps.writeStr {x1 : Nat} {m v : Word} (h : Keeps s₀ s) : Keeps s₀ (s.writeStr x1 m v) := by
  unfold State.writeStr
  extract_lets x s1
  have h1 : Keeps s₀ s1 := h.setBucket.putReg
  exact .ite (.ite h1.bucketFull h1) <|
    .ite h.writeCtr h.putReg

theorem Keeps.writeDom {d x2 : Nat} {m v : Word} (h : Keeps s₀ s) : Keeps s₀ (s.writeDom d x2 m v) := by
  unfold State.writeDom
  extract_lets r s1
  have h1 : Keeps s₀ s1 := by
    unfold s1
    exact .ite h.rateLoWrite <|
      .ite h.rateHiWrite <|
      .ite h.stepReqWrite <|
      .ite (.ite h.putReg h.ignoreWrite) h.putReg
  exact h1.syncVec

theorem Keeps.writeTim {x1 : Nat} {m v : Word} (h : Keeps s₀ s) : Keeps s₀ (s.writeTim x1 m v) := by
  unfold State.writeTim
  extract_lets p s1 u k w
  have h1 : Keeps s₀ s1 := h.putReg
  split
  · exact h.writeDom
  · split
    · exact .ite h.snapRequest h
    · split
      · exact .ite h1.setTout h1
      · split
        · exact h.putReg.calPinTaken.syncVec
        · split
          · exact .ite h.trgWrite <|
              .ite h.putReg.syncVec (.ite h.putReg.syncVec h)
          · exact h.putReg

theorem Keeps.ivlCfgWrite {u : Nat} {m v : Word} (h : Keeps s₀ s) : Keeps s₀ (s.ivlCfgWrite u m v) := by
  unfold State.ivlCfgWrite
  extract_lets s1 u
  have h1 : Keeps s₀ s1 := h.ivlTake.ivlDrop.putReg
  exact .ite h1.calPinTaken h1.setIvl

theorem Keeps.writeTdc {x1 : Nat} {m v : Word} (h : Keeps s₀ s) : Keeps s₀ (s.writeTdc x1 m v) :=
  .ite h.ivlCfgWrite <|
  .ite h.ivlTake.ivlDrop.putReg <|
  .ite (h.putReg.foldl fun _ _ hu => hu.calScan) (.ite h.putReg.syncVec h.putReg)

theorem Keeps.ccfgWrite {d k : Nat} {m v : Word} (h : Keeps s₀ s) : Keeps s₀ (s.ccfgWrite d k m v) := .ite h.putReg h.putReg.wr.setCand

theorem Keeps.writeRef {x1 : Nat} {m v : Word} (h : Keeps s₀ s) : Keeps s₀ (s.writeRef x1 m v) := by
  unfold State.writeRef
  extract_lets r d u s1
  have h1 : Keeps s₀ s1 := .ite h.setRef.putReg (.ite h.ccfgWrite h.putReg)
  exact .ite h1.syncVec h1.syncVec

theorem Keeps.writeTwn {x1 : Nat} {m v : Word} (h : Keeps s₀ s) : Keeps s₀ (s.writeTwn x1 m v) := .ite h.putReg h.putReg.syncVec
theorem Keeps.gridWrite {x1 : Nat} {m v : Word} (h : Keeps s₀ s) : Keeps s₀ (s.gridWrite x1 m v) := .ite h.putReg.setOrbit h.setBit
theorem Keeps.engCtrlWrite {e : Nat} {m v : Word} (h : Keeps s₀ s) : Keeps s₀ (s.engCtrlWrite e m v) := .ite h.putReg h.putReg.setEng
theorem Keeps.engStatWrite {e : Nat} {m v : Word} (h : Keeps s₀ s) : Keeps s₀ (s.engStatWrite e m v) := .ite h.putReg.faultClear h.putReg

theorem Keeps.writeOrb {x1 : Nat} {m v : Word} (h : Keeps s₀ s) : Keeps s₀ (s.writeOrb x1 m v) := by
  unfold State.writeOrb
  extract_lets e
  split
  · exact h.gridWrite
  · split
    · exact h.foldl fun _ _ hu => .ite hu.swapReq hu
    · split
      · exact .ite h.engCtrlWrite <|
          .ite h.engStatWrite (.ite h.writeCtr h.putReg)
      · exact .ite (.ite h h.putReg) h.putReg

theorem Keeps.writeHub {x1 : Nat} {m v : Word} (h : Keeps s₀ s) : Keeps s₀ (s.writeHub x1 m v) := .ite h.smpWrite h.putReg.syncVec

theorem Keeps.writePwr {x1 : Nat} {m v : Word} (h : Keeps s₀ s) : Keeps s₀ (s.writePwr x1 m v) :=
  .ite h.putReg.upd <|
  .ite h.clkobsWrite <|
  .ite h.putReg.ltrOct <|
  .ite h.putReg.ltrDev <|
  .ite h.lvfWrite <|
  .ite (.ite h.lvfAck h) h.putReg.syncVec

theorem Keeps.msixCtlWrite {k x2 : Nat} {m v : Word} (h : Keeps s₀ s) : Keeps s₀ (s.msixCtlWrite k x2 m v) := .ite h.putReg.deliver h.putReg

theorem Keeps.writeBar4 {x1 : Nat} {m v : Word} (h : Keeps s₀ s) : Keeps s₀ (s.writeBar4 x1 m v) :=
  .ite (.ite h h.setReg) <|
  .ite h.msixCtlWrite h.putReg.syncVec

theorem Keeps.writeAt {x1 : Nat} {m v : Word} (h : Keeps s₀ s) : Keeps s₀ (s.writeAt x1 m v) :=
  .ite h.writeGlb <|
  .ite h.writeOct <|
  .ite h.writeFab <|
  .ite h.writeStr <|
  .ite h.writeTim <|
  .ite h.writeTdc <|
  .ite h.writeRef <|
  .ite h.writeTwn <|
  .ite h.writeOrb <|
  .ite h.writeHub (.ite h.writePwr h.writeBar4)

theorem Keeps.regWrite {x1 : Nat} {m v : Word} (h : Keeps s₀ s) : Keeps s₀ (s.regWrite x1 m v) := by
  unfold State.regWrite
  extract_lets s1 u
  have h1 : Keeps s₀ s1 := h.writeAt
  exact .ite h1 h1.upd

/-! ### Registers that act -/

theorem Keeps.setLatched {x1 : Nat} {w : Option Word} (h : Keeps s₀ s) : Keeps s₀ (s.setLatched x1 w) := h.upd
theorem Keeps.latchRead {x1 n : Nat} (h : Keeps s₀ s) : Keeps s₀ (s.latchRead x1 n).1 := (h.foldl fun _ _ hu => hu.setLatched).fst

/-! ### Items of a transaction -/

theorem Keeps.zeroWords {x1 n : Nat} (h : Keeps s₀ s) : Keeps s₀ (s.zeroWords x1 n) := h.setWords

theorem Keeps.putCtx {x : Nat} {w : Option (List Word)} (h : Keeps s₀ s) : Keeps s₀ (s.putCtx x w) := by
  unfold State.putCtx
  extract_lets s1
  have h1 : Keeps s₀ s1 := h.setBucket
  split
  · extract_lets s2
    have h2 : Keeps s₀ s2 := h1.setWords
    exact .ite h2.bucketFull h2
  · exact h1.zeroWords.zeroWords

theorem Keeps.putRec {f : Nat} {w : Option (List Word)} (h : Keeps s₀ s) : Keeps s₀ (s.putRec f w) := by
  unfold State.putRec
  split
  · extract_lets s1
    have h1 : Keeps s₀ s1 := h.setWords
    exact .ite h1 h1.takeAny
  · exact h.zeroWords.zeroWords

theorem Keeps.putObj {kind i : Nat} {w : Option (List Word)} (h : Keeps s₀ s) : Keeps s₀ (s.putObj kind i w) := by
  unfold State.putObj
  split
  · exact h.putCtx
  · exact h.setWords
  · split
    · exact h.setWords
    · exact h.zeroWords
  · exact h.putRec

theorem Keeps.selectProfile {d prof : Nat} (h : Keeps s₀ s) : Keeps s₀ (s.selectProfile d prof) := by
  unfold State.selectProfile
  extract_lets s1 s2 own s3
  have h1 : Keeps s₀ s1 := h.wr
  have h2 : Keeps s₀ s2 := .ite h1.wr h1
  have h3 : Keeps s₀ s3 := h2.upd
  refine .foldl h3 fun _ _ hu => ?_
  exact .ite hu <|
    .ite hu.wr.wr.setBit (.ite hu.wr.wr hu.wr)

theorem Keeps.itemWrite {x1 : Nat} {m v : Word} (h : Keeps s₀ s) : Keeps s₀ (s.itemWrite x1 m v) :=
  .ite ((Keeps.ite h.selectProfile h).regWrite) <|
  .ite h.regWrite.setReg (.ite h.setReg h.regWrite)

theorem Keeps.loadChunk {e : Nat} {first last : Bool} {addr : Nat} {ws : List Word} (h : Keeps s₀ s) :
    Keeps s₀ (s.loadChunk e first last addr ws) :=
  (Keeps.ite h.mapRegs h).setWords.setEng

theorem Keeps.loopSet {d : Nat} {opn : Bool} (h : Keeps s₀ s) : Keeps s₀ (s.loopSet d opn) := by
  unfold State.loopSet
  extract_lets s1 u u'
  have h1 : Keeps s₀ s1 := h.deselect
  clear_value s1
  exact .ite h (.ite h1.setDom.domState h.setDom)

theorem Keeps.putGrid {g : Grid} (h : Keeps s₀ s) : Keeps s₀ (s.putGrid g) := h.setWords.setOrbit

theorem Keeps.applyChange {c : Change} (h : Keeps s₀ s) : Keeps s₀ (s.applyChange c) := by
  unfold State.applyChange
  split
  · exact h.itemWrite
  · exact h.upd
  · exact h.setWords
  · exact h.putObj
  · exact h
  · exact h.putGrid
  · exact h.loadChunk
  · exact h.foldl fun _ _ hu => .ite hu.swapReq hu
  · exact h
  · exact .ite h.setRate (.ite h.adjust h.adjust)
  · exact h.loopSet

/-! ### Requests that run -/

theorem Keeps.ranOk {res : List Word} (h : Keeps s₀ s) : Keeps s₀ (ranOk s res).1 := h.fst
theorem Keeps.ranNo {st : Nat} (h : Keeps s₀ s) : Keeps s₀ (ranNo s st).1 := h.fst

theorem Keeps.params {ms ws : List Word} {f : Ran} (h : Keeps s₀ s) (hf : Keeps s₀ f.1) : Keeps s₀ (params s ms ws f).1 := by
  unfold Sys2Proof.Machine.params
  split
  · exact h
  · split
    · exact h
    · exact hf

theorem Keeps.runStatus {ws : List Word} (h : Keeps s₀ s) : Keeps s₀ (s.runStatus ws).1 := h.params h.ranOk
theorem Keeps.runEvents {room : Nat} {ws : List Word} (h : Keeps s₀ s) : Keeps s₀ (s.runEvents room ws).1 := h.params h.ranOk

theorem Keeps.runJournal {ws : List Word} (h : Keeps s₀ s) : Keeps s₀ (s.runJournal ws).1 := by
  unfold State.runJournal
  extract_lets n
  refine .params h ?_
  split <;> exact h.ranOk

theorem Keeps.runPtp {ws : List Word} (h : Keeps s₀ s) : Keeps s₀ (s.runPtp ws).1 := by
  unfold State.runPtp
  extract_lets d st states two slave own q
  refine .params h ?_
  split <;> exact h.ranOk

theorem Keeps.runAttest {ws : List Word} (h : Keeps s₀ s) : Keeps s₀ (s.runAttest ws).1 := h.params h.ranOk
theorem Keeps.runGive {ws : List Word} (h : Keeps s₀ s) : Keeps s₀ (s.runGive ws).1 := h.params h.setOwner.ranOk

theorem Keeps.runTake {p : Nat} {ws : List Word} (h : Keeps s₀ s) : Keeps s₀ (s.runTake p ws).1 :=
  h.params (.ite_fst h.setOwner.ranOk h.ranNo)

theorem Keeps.runStart {ws : List Word} (h : Keeps s₀ s) : Keeps s₀ (s.runStart ws).1 := h.params h.startFwd.ranOk
theorem Keeps.runDock {ws : List Word} (h : Keeps s₀ s) : Keeps s₀ (s.runDock ws).1 := h.params (.ite_fst h.unpark.upd.fst h.toDock.ranOk)
theorem Keeps.runReset {ws : List Word} (h : Keeps s₀ s) : Keeps s₀ (s.runReset ws).1 := h.params h.upd.ranOk
theorem Keeps.runHalt {p : Nat} {ws : List Word} (h : Keeps s₀ s) : Keeps s₀ (s.runHalt p ws).1 := h.params h.toHalt.ranOk

theorem Keeps.runProve {ws : List Word} (h : Keeps s₀ s) : Keeps s₀ (s.runProve ws).1 := by
  unfold State.runProve
  extract_lets w s1 plan s1'
  have h1 : Keeps s₀ s1 := h.abortRun
  have h1' : Keeps s₀ s1' := h.prvEnter
  refine .params h ?_
  exact .ite_fst h1.ranOk <|
    .ite_fst h.ranNo (.ite_fst h1'.ranOk h.prvAsk.fst)

theorem Keeps.eraseRegs {lo hi : Nat} {f : Nat → Bool} (h : Keeps s₀ s) : Keeps s₀ (s.eraseRegs lo hi f) := h.mapRegs

theorem Keeps.openErase (h : Keeps s₀ s) : Keeps s₀ s.openErase := by
  unfold State.openErase
  extract_lets s1 s2 s3 s4 s5 u s6 s7 s8 u'
  have h1 : Keeps s₀ s1 := h.setBit.setBit
  have h2 : Keeps s₀ s2 := h1.upd
  have h3 : Keeps s₀ s3 := h2.foldl fun _ _ hu => hu.stopEngine.dropGlists.setEng
  have h4 : Keeps s₀ s4 := h3.eraseRegs
  have h5 : Keeps s₀ s5 := h4.foldl fun _ _ hu => hu.setBit.wr
  have h6 : Keeps s₀ s6 := h5.upd
  have h7 : Keeps s₀ s7 := h6.eraseRegs.eraseRegs.eraseRegs
  have h8 : Keeps s₀ s8 := h7.foldl fun _ _ hu => hu.setMb.mbClose
  exact h8.upd

theorem Keeps.runOpen {ws : List Word} (h : Keeps s₀ s) : Keeps s₀ (s.runOpen ws).1 :=
  .ite_fst h.log.fst <|
  .ite_fst h.log.fst (h.params (.ite_fst h.openErase.fst h.ranNo))

theorem Keeps.openDone (h : Keeps s₀ s) : Keeps s₀ s.openDone := by
  unfold State.openDone
  extract_lets u s1 s2 stands s3
  have h1 : Keeps s₀ s1 := h.upd.setBit
  have h2 : Keeps s₀ s2 := h1.log
  have h3 : Keeps s₀ s3 := .soloRole (.pinsOff (.calAbortAll (.dropFrames (.stopEngines (.ite h2.leaveFwd.unpark h2)))))
  exact .ite h (.ite h2.mbPoll h3.toMode.mbPoll)

theorem Keeps.runCal {ws : List Word} (h : Keeps s₀ s) : Keeps s₀ (s.runCal ws).1 :=
  h.params (.ite_fst h.ranNo ((h.foldl fun _ _ hu => .ite hu.calPend hu).ranOk))

theorem Keeps.runForce {ws : List Word} (h : Keeps s₀ s) : Keeps s₀ (s.runForce ws).1 := by
  unfold State.runForce
  extract_lets w d k
  refine .params h ?_
  split
  · exact .ite_fst h.setBit.evaluate.ranOk h.ranOk
  · split
    · exact h.ranNo
    · split
      · exact h.ranNo
      · split
        next hp =>
          have h1 := Keeps.of_fst (.ite_fst h.fst h.selectCand) hp
          exact .ranOk (.ite h1.evaluate h1.setBit)

theorem Keeps.runClear {ws : List Word} (h : Keeps s₀ s) : Keeps s₀ (s.runClear ws).1 := by
  unfold State.runClear
  extract_lets w d
  refine .params h ?_
  refine .ranOk ?_
  refine .foldl h fun _ _ hu => ?_
  extract_lets s1
  have h1 : Keeps s₀ s1 := hu.setBit
  exact .ite (.ite h1.candTo h1) hu

theorem Keeps.runPower {ws : List Word} (h : Keeps s₀ s) : Keeps s₀ (s.runPower ws).1 := by
  unfold State.runPower
  split
  · exact h.ranNo
  · split
    · exact h.ranNo
    · split
      · exact h.fst
      · extract_lets s1
        have h1 : Keeps s₀ s1 := h.foldl fun _ _ hu => hu.applyChange
        exact .ranOk (.ite h1.wake h1)

theorem Keeps.runCounter {ws : List Word} (h : Keeps s₀ s) : Keeps s₀ (s.runCounter ws).1 :=
  h.params h.setReg.setReg.setReg.setReg.setReg.setReg.setBit.upd.ranOk

theorem Keeps.clearRow {e r : Nat} (h : Keeps s₀ s) : Keeps s₀ (s.clearRow e r) := h.zeroWords.setEng

theorem Keeps.ite_st {c : Prop} {i : Decidable c} {x y : Restore} (hx : Keeps s₀ x.st) (hy : Keeps s₀ y.st) :
    Keeps s₀ (if c then x else y).st := by
  split
  · exact hx
  · exact hy

/-- An entry restored changes registers and engines of the state that the restore gathers. -/
theorem Keeps.restoreTake {x : Restore} {i : Nat} {w : Word} (h : Keeps s₀ x.st) : Keeps s₀ (x.take i w).st := by
  unfold Restore.take
  extract_lets k e s1 s2
  have h1 : Keeps s₀ s1 := by
    unfold s1
    clear_value k
    split
    · exact h.clearRow
    · exact h.wr.wr.wr
    · exact .ite h.wr h
    · exact h
  have h2 : Keeps s₀ s2 := .ite h1.wr h1
  clear_value s2
  exact .ite_st h (.ite_st h h2)

theorem Keeps.restoreTakes {l : List Nat} {f : Nat → Word} {x : Restore} (h : Keeps s₀ x.st) :
    Keeps s₀ (l.foldl (fun x i => x.take i (f i)) x).st := by
  induction l generalizing x with
  | nil => exact h
  | cons i l ih => exact ih h.restoreTake

theorem Keeps.runRepair {ws : List Word} (h : Keeps s₀ s) : Keeps s₀ (s.runRepair ws).1 :=
  .ite_fst h (.ite_fst h (.ite_fst h (.ite_fst h (Keeps.restoreTakes (x := { map := s.repairs, st := s }) h).setRepairs)))

theorem Keeps.calTake {ws : List Word} (h : Keeps s₀ s) : Keeps s₀ (s.calTake ws).1 := by
  unfold State.calTake
  extract_lets c tbl s1 s2
  have h1 : Keeps s₀ s1 := h.setBins.wr.wr
  have h2 : Keeps s₀ s2 := h1.setBit
  exact .ite_fst h.fst <|
    .ite_fst h.fst <|
    .ite_fst h.fst (.fst (.ite h2.calPend h2))

theorem Keeps.calTakeAll {n : Nat} {ws : List Word} {f : Nat → Nat} (h : Keeps s₀ s) : Keeps s₀ (State.calTakeAll n s ws f).1 := by
  induction n generalizing s ws f with
  | zero => exact h
  | succ n ih =>
    unfold State.calTakeAll
    split
    · exact h
    · exact ih h.calTake

theorem Keeps.runCalRestore {ws : List Word} (h : Keeps s₀ s) : Keeps s₀ (s.runCalRestore ws).1 :=
  .ite_fst h.ranNo <|
  .ite_fst h.ranNo <|
  .ite_fst h.ranNo (.ite_fst h.ranNo h.calTakeAll.ranOk)

theorem Keeps.runKey {ws : List Word} (h : Keeps s₀ s) : Keeps s₀ (s.runKey ws).1 :=
  .ite_fst h.ranNo <|
  .ite_fst h.ranNo <|
  .ite_fst h.ranNo <|
  .ite_fst h.upd.ranOk <|
  .ite_fst h.upd.ranOk <|
  .ite_fst h.upd.ranOk <|
  .ite_fst h.ranNo (.ite_fst h.ranNo h.upd.ranOk)

theorem Keeps.runAgent {ws : List Word} (h : Keeps s₀ s) : Keeps s₀ (s.runAgent ws).1 := h.params (.ite_fst h.ranNo h.upd.ranOk)

theorem Keeps.run {p op room : Nat} {ws : List Word} (h : Keeps s₀ s) : Keeps s₀ (s.run p op room ws).1 := by
  unfold State.run
  split
  · exact h.runStatus
  · exact h.runEvents
  · exact h.runJournal
  · exact h.runPtp
  · exact h.runAttest
  · exact h.runGive
  · exact h.runTake
  · exact h.runStart
  · exact h.runDock
  · exact h.runReset
  · exact h.runHalt
  · exact h.runProve
  · exact h.runOpen
  · exact h.runCal
  · exact h.runForce
  · exact h.runClear
  · exact h.runPower
  · exact h.runCounter
  · exact h.runRepair
  · exact h.runCalRestore
  · exact h.runKey
  · exact h.runAgent
  · exact h.ranNo

/-! ### Requests that are served -/

theorem Keeps.commitGlist {p : Nat} {l : GateList} (h : Keeps s₀ s) : Keeps s₀ (s.commitGlist p l) := by
  unfold State.commitGlist
  extract_lets past s1
  have h1 : Keeps s₀ s1 := h.setGpend.setBit
  exact .ite h1.setBit h1

theorem Keeps.commit {p : Nat} {m : Msg} (h : Keeps s₀ s) : Keeps s₀ (s.commit p m) := (h.foldl fun _ _ hu => hu.commitGlist).setMb.upd

theorem Keeps.finish {p : Nat} {m : Msg} (h : Keeps s₀ s) : Keeps s₀ (s.finish p m) := by
  unfold State.finish
  extract_lets m1 u s1
  have h1 : Keeps s₀ s1 := h.jot.setMb
  split
  · exact .ite (.mbClose (.ite h1 h1.log)) h.commit
  · exact h.setMb.mbClose

theorem Keeps.stageRec {p op : Nat} {m : Msg} {ws : List Word} (h : Keeps s₀ s) : Keeps s₀ (s.stageRec p op m ws).1 := by
  unfold State.stageRec
  split
  next s1 m1 hp =>
    have h1 : Keeps s₀ s1 := by
      split at hp
      · cases hp
        exact h.nextSeq
      · cases hp
        exact h
    split
    · exact .ite h1.setEng h1
    · exact h1

theorem Keeps.recIn {p op : Nat} {last : Bool} {m : Msg} {ws : List Word} (h : Keeps s₀ s) : Keeps s₀ (s.recIn p op last m ws) := by
  unfold State.recIn
  extract_lets keep st u s1 u'
  have h1 : Keeps s₀ s1 := .ite h.log h
  split
  · exact .ite h.finish h.setMb
  · split
    · exact .ite h.finish h.setMb
    · split
      · exact .ite h.finish h.setMb
      · split
        · exact .ite h1.finish h1.setMb
        · split
          · exact .ite h.stageRec.finish h.stageRec.setMb
          · split
            next hp =>
              have h2 := h.run.of_fst hp
              exact .ite h2.finish h2.setMb
            next hp => exact (h.run.of_fst hp).setMb.mbPollAt

theorem Keeps.record {p op : Nat} {last : Bool} {ws : List Word} (h : Keeps s₀ s) : Keeps s₀ (s.record p op last ws) :=
  .ite h <|
  .ite (.ite h.mbPost h) h.recIn

/-- `f` is an operation that keeps what `Keeps` says. -/
def KeptBy {α : Type} (f : State → α → State) : Prop := ∀ s₀ s x, Keeps s₀ s → Keeps s₀ (f s x)

theorem KeptBy.of_eq {α : Type} {f g : State → α → State} (e : f = g) (h : KeptBy g) : KeptBy f := e ▸ h

/-- Stated of the function, not of its value: the kernel then never compares `s.closeTxn t` with the match it unfolds to. -/
theorem KeptBy.closeTxn : KeptBy State.closeTxn := by
  refine .of_eq (by delta State.closeTxn; rfl) ?_
  intro s₀ s t h
  beta_reduce
  have h1 : Keeps s₀ (((s.jot t.seq t.partner 1).wr R.GLB_RCV_SEQ t.seq).log 0x11 t.seq 0) := h.jot.wr.log
  extract_lets -underBinder s1
  change Keeps s₀ s1 at h1
  clear_value s1
  cases (s1.mb t.partner).msg with
  | none => exact h1
  | some m => exact .ite h1.setMb.mbClose h1

theorem Keeps.closeTxn {t : Txn} (h : Keeps s₀ s) : Keeps s₀ (s.closeTxn t) := KeptBy.closeTxn s₀ s t h

theorem Keeps.applyTxn {x0 : Int} {t : Txn} (h : Keeps s₀ s) : Keeps s₀ (State.applyTxn x0 s t) := by
  unfold State.applyTxn
  extract_lets s1 s2
  have h1 : Keeps s₀ s1 := h.foldl fun _ _ hu => hu.applyChange
  have h2 : Keeps s₀ s2 := by
    unfold s2
    refine .foldl h1 fun _ _ hu => ?_
    split
    · exact .ite hu.timeGlist hu
    · exact hu
  exact h2.closeTxn

theorem Keeps.applyDue {n : Nat} (h : Keeps s₀ s) : Keeps s₀ (State.applyDue n s) := by
  induction n generalizing s with
  | zero => exact h
  | succ n ih =>
    unfold State.applyDue
    split
    · exact h
    · exact .ite (ih h.upd.applyTxn) h

theorem Keeps.glistLoad (h : Keeps s₀ s) : Keeps s₀ s.glistLoad := h.upd

theorem Keeps.runRecs {p : Nat} {l : List (Nat × List Word)} (h : Keeps s₀ s) : Keeps s₀ (s.runRecs p l) := by
  induction l generalizing s with
  | nil => exact h
  | cons x l ih => exact ih h.record

theorem Keeps.serveMsg {p : Nat} {ws : List Word} (h : Keeps s₀ s) : Keeps s₀ (s.serveMsg p ws) := by
  unfold State.serveMsg
  extract_lets M tag no
  split
  · exact h
  · split
    · exact h.mbPost
    · split
      · exact h.mbPost
      · split
        · exact h.mbPost
        · split
          · exact .ite h.mbPost (.ite h.mbPost h.emit.setMb)
          · split
            · exact h.mbPost
            · exact .ite h.mbPost h.setMb.runRecs

theorem Keeps.relayRsp {p : Nat} {ws : List Word} (h : Keeps s₀ s) : Keeps s₀ (s.relayRsp p ws) := .ite h h.setMb.mbPost

theorem Keeps.relayTimeout {p : Nat} (h : Keeps s₀ s) : Keeps s₀ (s.relayTimeout p) := by
  unfold State.relayTimeout
  extract_lets u
  split
  · exact h
  · exact .ite h h.setMb.mbPost

theorem Keeps.doorbell {p : Nat} {v : Word} (h : Keeps s₀ s) : Keeps s₀ (s.doorbell p v) := .ite h (.ite h.setBit h.setBit.upd)

theorem Keeps.servePosted (h : Keeps s₀ s) : Keeps s₀ s.servePosted := by
  unfold State.servePosted
  split
  · exact h
  · exact h.upd.setBit.serveMsg

theorem Keeps.agentServe {src : BitVec 48} {nonce : Word} {ws : List Word} {icv : List Byte} (h : Keeps s₀ s) :
    Keeps s₀ (s.agentServe src nonce ws icv) :=
  .ite h <|
  .ite h.log <|
  .ite h.log (.ite h.upd.emit h.upd.setMb.serveMsg)

theorem Keeps.dropIntents (h : Keeps s₀ s) : Keeps s₀ s.dropIntents.1 := by
  unfold State.dropIntents
  refine .foldl_fst h.fst fun _ _ hu => ?_
  extract_lets u
  split
  · exact .ite_fst hu (.ite_fst hu.jot.setMb.mbClose.fst hu)
  · exact hu

theorem Keeps.recovered (h : Keeps s₀ s) : Keeps s₀ s.recovered := by
  unfold State.recovered
  split
  next hp =>
    have h1 := h.dropIntents.of_fst hp
    extract_lets again n s2 s3 s4 s5
    have h2 : Keeps s₀ s2 := h1.wr.log
    have h3 : Keeps s₀ s3 := .requalCands (.ite h2.toMode h2.toMode)
    have h4 : Keeps s₀ s4 := h3.upd.foldl fun _ _ hu => hu.applyTxn
    have h5 : Keeps s₀ s5 := h4.foldl fun _ _ hu => .ite hu.setEng hu
    exact .mbPoll (.ite h5.twinEnter h5)

theorem Keeps.recoverEnd {ok : Bool} (h : Keeps s₀ s) : Keeps s₀ (s.recoverEnd ok) := .ite h (.ite h.recovered h.toHalt)

/-! ### The commands of the mailbox -/

theorem Keeps.mbRow {op : Nat} {m : MbCmd} (h : Keeps s₀ s) : Onward s₀ (s.mbRow op m) := h.record.next

end Sys2Proof.Machine
end

section
/-! ## Keeps: the bus and the commands over it -/

namespace Sys2Proof.Machine

-- The many short proofs are elaborated one after another: at once, each takes a thread with a stack of its own.
set_option Elab.async false

variable {s₀ s : State}

/-! ### The bus -/

theorem Keeps.mbErr {cause req x3 : Nat} {write : Bool} (h : Keeps s₀ s) : Keeps s₀ (s.mbErr cause req x3 write) := by
  unfold State.mbErr
  extract_lets n s1 s2 s3 s2'
  have h1 : Keeps s₀ s1 := h.setBit.wr
  have h2 : Keeps s₀ s2 := h1.setReg
  have h3 : Keeps s₀ s3 := h2.setReg.wr
  have h2' : Keeps s₀ s2' := .ite h3.log h1
  exact h2'.syncVec

theorem Keeps.readValue {q x2 : Nat} (h : Keeps s₀ s) : Keeps s₀ (s.readValue q x2).1 := by
  unfold State.readValue
  extract_lets s'
  have h' : Keeps s₀ s' := by
    unfold s'
    split
    · exact .ite h.unlatch h
    · exact h
  split
  · exact h'.ctrReadLow
  · exact h'.fst
  · split
    · exact h'.latchRead
    · split
      · exact h'.fst
      · split
        · split
          · exact .ite_fst h'.fst h'.fst
          · exact h'.fst
        · exact h'.fst

theorem Keeps.readEffect {x1 : Nat} (h : Keeps s₀ s) : Keeps s₀ (s.readEffect x1) :=
  .ite h.wr <|
  .ite h.wr <|
  .ite h.wr <|
  .ite h.tinPop <|
  .ite h.ivlRead (.ite h.tsqPop h)

theorem Keeps.readBar0 {q x2 : Nat} (h : Keeps s₀ s) : Keeps s₀ (s.readBar0 q x2).1 := .ite_fst h.fst h.readValue.readEffect.fst

theorem Keeps.readBar2 {x1 : Nat} (h : Keeps s₀ s) : Keeps s₀ (s.readBar2 x1).1 := by
  unfold State.readBar2
  extract_lets g i k used w l
  split
  · exact h.fst
  · split
    · exact h.fst
    · exact .ite_fst h.ctrReadLow.fst <|
        .ite_fst h.fst (.ite_fst h.fst h.fst)

theorem Keeps.busRead {q x2 : Nat} {ecc : Bool} (h : Keeps s₀ s) : Onward s₀ (s.busRead q x2 ecc) := by
  unfold State.busRead
  extract_lets a
  split
  · exact .fault _
  · split
    · exact h.next
    · split
      · exact h.mbErr.emit.next
      · split
        · exact h.mbErr.emit.toRecover.next
        · split
          next hp =>
            have h1 := Keeps.of_fst (.ite_fst h.readBar2 (.ite_fst h.fst (.ite_fst h.fst (.ite_fst h.fst h.readBar0)))) hp
            exact h1.emit.next

theorem Keeps.writeBar0 {q x2 : Nat} {v : Word} (h : Keeps s₀ s) : Keeps s₀ (s.writeBar0 q x2 v) :=
  .ite (.ite h h.mbErr) <|
  .ite h ((Keeps.ite h.setBit h).regWrite)

theorem Keeps.writeI2c {x1 : Nat} {be : BitVec 4} {v : Word} (h : Keeps s₀ s) : Keeps s₀ (s.writeI2c x1 be v) :=
  .ite h <|
  .ite (.ite h h.setReg) <|
  .ite h <|
  .ite h.doorbell <|
  .ite (.ite h.setBit h) <|
  .ite (.ite h.mbAck h) <|
  .ite (.ite h.warmReset h) h

theorem Keeps.writeMail {x1 : Nat} {be : BitVec 4} {v : Word} (h : Keeps s₀ s) : Keeps s₀ (s.writeMail x1 be v) :=
  .ite h.mbErr <|
  .ite h.mbErr <|
  .ite h.doorbell <|
  .ite (.ite h.mbAck h) h.regWrite

theorem Keeps.sendPending (h : Keeps s₀ s) : Keeps s₀ s.sendPending := h.foldl fun _ _ hu => .ite hu.deliver hu

theorem Keeps.msixChange {o : MsixOp} (h : Keeps s₀ s) : Keeps s₀ (s.msixChange o) := by
  unfold State.msixChange
  extract_lets u
  split
  · exact h
  · split
    · exact .ite h h.setBit.sendPending
    · exact h.upd.sendPending
    · exact h.upd.sendPending
    · exact h.upd.sendPending

theorem Keeps.pciPower {d3 : Bool} (h : Keeps s₀ s) : Keeps s₀ (s.pciPower d3) := .ite h h.upd

theorem Keeps.writeCfg {x1 : Nat} {be : BitVec 4} {v : Word} (h : Keeps s₀ s) : Keeps s₀ (s.writeCfg x1 be v) := by
  unfold State.writeCfg
  extract_lets old u
  split
  · exact .ite h.msixChange h
  · split
    · exact h.upd
    · split
      · exact .ite h <|
          .ite h.pciPower (.ite h.pciPower h)
      · exact .ite (.ite h.msixChange.msixChange h) h

theorem Keeps.busWrite {q x2 : Nat} {be : BitVec 4} {v : Word} (h : Keeps s₀ s) : Onward s₀ (s.busWrite q x2 be v) := by
  unfold State.busWrite
  extract_lets a
  split
  · exact .fault _
  · split
    · exact h.next
    · split
      · exact h.next
      · split
        · exact h.writeMail.next
        · split
          · exact h.writeI2c.next
          · split
            · exact h.writeCfg.next
            · split
              · exact h.mbErr.next
              · exact .next (.ite h.mbErr h.writeBar0)

theorem Keeps.gateForce {q x2 : Nat} {write : Bool} (h : Keeps s₀ s) : Keeps s₀ (s.gateForce q x2 write) := .ite h.mbErr h.mbErr.emit

/-! ### The commands of the bus -/

theorem Keeps.execGlbRcvRead (h : Keeps s₀ s) : Onward s₀ (execGlbRcvRead s) := h.busRead
theorem Keeps.execPrvLogptrRead (h : Keeps s₀ s) : Onward s₀ (execPrvLogptrRead s) := h.busRead
theorem Keeps.execMbeClrWrite {v : Word} (h : Keeps s₀ s) : Onward s₀ (execMbeClrWrite v s) := h.busWrite

theorem Keeps.execTapInstruction {i : TapIr} (h : Keeps s₀ s) : Onward s₀ (execTapInstruction i s) := by
  unfold Machine.execTapInstruction
  split
  · exact h.emit.next
  · exact h.emit.next
  · exact h.upd.emit.next
  · split
    · exact .refused _
    · exact h.next

/-! ### Decisions -/

theorem Keeps.hostSlots {p : Nat} (h : Keeps s₀ s) : Keeps s₀ (s.hostSlots p) := h.foldl fun _ _ hu => .ite hu.hlsFire hu

theorem Keeps.decideAt {p frac : Nat} (h : Keeps s₀ s) : Keeps s₀ (s.decideAt p frac) := by
  unfold State.decideAt
  extract_lets s0 u s1 s2 u'
  have h0 : Keeps s₀ s0 := h.actsNow
  have h1 : Keeps s₀ s1 := h0.setEgr
  have h2 : Keeps s₀ s2 := .decision (.ite h1.hostSlots h1)
  exact h2.setEgr

theorem Keeps.txFinish {p : Nat} (h : Keeps s₀ s) : Keeps s₀ (s.txFinish p) := by
  unfold State.txFinish
  split
  · exact h.decideAt
  · split
    · exact h.decideAt
    · exact h.goTo.actsNow.txEnd.decideAt

theorem Keeps.hlsReach {p k : Nat} (h : Keeps s₀ s) : Keeps s₀ (s.hlsReach p k) := by
  unfold State.hlsReach
  extract_lets d t n s1
  have h1 : Keeps s₀ s1 := .ite h.goTo.actsNow h
  exact .ite h1.hlsFire h1

/-! ### The commands of references -/

theorem Keeps.candLost {d k : Nat} (h : Keeps s₀ s) : Keeps s₀ (s.candLost d k) := .ite h (.ite h.candTo.setPtp h.candTo)

theorem Keeps.execLockAchieved {d : Fin 8} (h : Keeps s₀ s) : Onward s₀ (execLockAchieved d s) := by
  unfold Machine.execLockAchieved
  refine .next ?_
  split
  · exact h.passN.domState
  · exact h

theorem Keeps.execLockLost {d : Fin 8} (h : Keeps s₀ s) : Onward s₀ (execLockLost d s) := by
  unfold Machine.execLockLost
  refine .next ?_
  split
  · exact h.passN.domState.setBit.syncVec
  · exact h

theorem Keeps.execHoSpecExpire {d : Fin 8} (h : Keeps s₀ s) : Onward s₀ (execHoSpecExpire d s) := by
  unfold Machine.execHoSpecExpire
  refine .next ?_
  split
  · exact h.passN.setRef
  · exact h

theorem Keeps.execRefclkRangeRestore (h : Keeps s₀ s) : Onward s₀ (execRefclkRangeRestore s) := by
  unfold Machine.execRefclkRangeRestore
  refine .next ?_
  split
  · exact .ite h (h.passN.setBit.foldl fun _ _ hu => hu.requalify)
  · exact h

/-! ### The commands of TDC channels -/

theorem Keeps.execTinHoldoffEnd {p : Fin 8} (h : Keeps s₀ s) : Onward s₀ (execTinHoldoffEnd p s) := by
  unfold Machine.execTinHoldoffEnd
  refine .next ?_
  split
  · exact h
  · exact h.passN.setTin

theorem Keeps.execTrackerSample {p : Fin 64} {code : BitVec 12} (h : Keeps s₀ s) : Onward s₀ (execTrackerSample p code s) := by
  unfold Machine.execTrackerSample
  extract_lets s1
  have h1 : Keeps s₀ s1 := h.trackerSample
  exact .next (.ite h1 h1.refLine)

end Sys2Proof.Machine
end

section
/-! ## Commands: every one but power-on, RESET_N, ORBIT_START and TRANSACTION_APPLY keeps what `Keeps` says -/

namespace Sys2Proof.Machine

-- The many short proofs are elaborated one after another: at once, each takes a thread with a stack of its own.
set_option Elab.async false

variable {s₀ s : State}

/-- The command neither resets the block in full nor has an Orbit start within it. -/
def actsBetweenStarts : Instr → Bool
  | .powerOn .. | .resetN .. | .orbitStart | .transactionApply => false
  | _ => true

/-- Every command but the four that reset the block or start an Orbit keeps what `Keeps` says. -/
theorem Keeps.exec {i : Instr} (h : Keeps s₀ s) (hi : actsBetweenStarts i = true) : Onward s₀ (exec i s) := by
  cases i with
  | powerOn => exact nomatch hi
  | resetN => exact nomatch hi
  | refclkExcursion => exact .next (.ite h.upd h)
  | refclkQualified => exact h.refQualified.next
  | bootComplete => exact h.bootEnd.next
  | glbResetWrite => exact h.resetWrite.next
  | warmReset => exact .next (.ite h h.upd.warmReset)
  | perstN => exact h.mapRegs.upd.next
  | brownOutTrip => exact .next (.ite h h.trip)
  | brownOutRelease => exact .next (.ite h (.ite h.upd.log h.upd))
  | refwarmChange => exact .next (.ite h (h.upd.foldl fun _ _ hu => hu.requalify))
  | refclkLost => exact h.refLost.next
  | refclkReturn => exact h.refReturn.next
  | thermalAlarm => exact h.sense.next
  | thermalAlarmClear => exact h.execThermalAlarmClear
  | thermalTrip => exact h.sense.next
  | watchdogExpiry => exact h.toRecover.next
  | eccError => exact h.execEccError
  | recoveryComplete => exact h.recoverEnd.next
  | recoverTimeout => exact .next (.ite h h.toHalt)
  | pllUnlock => exact h.pllUnlock.next
  | pllRelock => exact h.pllRelock.next
  | mbDoorbell => exact h.doorbell.next
  | mbRspAck => exact .next (.ite h.mbAck h)
  | i2cResetWord => exact .next (.ite h.warmReset h)
  | agentFrame => exact h.agentServe.next
  | relayMessage => exact h.serveMsg.next
  | relayTimeout => exact h.relayTimeout.next
  | transactionApply => exact nomatch hi
  | status => exact h.mbRow
  | eventRead => exact h.mbRow
  | journalRead => exact h.mbRow
  | ptpStatus => exact h.mbRow
  | attest => exact h.mbRow
  | tokenGive => exact h.mbRow
  | tokenRelease => exact h.mbRow
  | tokenTake => exact h.mbRow
  | startCmd => exact h.mbRow
  | dockCmd => exact h.mbRow
  | resetCmd => exact h.mbRow
  | haltCmd => exact h.mbRow
  | prove => exact h.mbRow
  | proveAbort => exact h.mbRow
  | openDebug => exact h.mbRow
  | openEraseComplete => exact h.openDone.next
  | calRun => exact h.mbRow
  | refForce => exact h.mbRow
  | refForceRelease => exact h.mbRow
  | refClear => exact h.mbRow
  | powerSet => exact h.mbRow
  | powerSetWake => exact h.mbRow
  | counterSet => exact h.mbRow
  | repairRestore => exact h.mbRow
  | calRestore => exact h.mbRow
  | keyLoad => exact h.mbRow
  | keyErase => exact h.mbRow
  | keyBind => exact h.mbRow
  | keyUnbind => exact h.mbRow
  | agentSet => exact h.mbRow
  | fabricSet => exact h.mbRow
  | shaperSet => exact h.mbRow
  | streamEditWrite => exact h.mbRow
  | streamEditDelete => exact h.mbRow
  | streamCommit => exact h.mbRow
  | orbitSet => exact h.mbRow
  | orbitLoad => exact h.mbRow
  | orbitSwap => exact h.mbRow
  | gateListSet => exact h.mbRow
  | gateListLoad => exact h.glistLoad.next
  | ptpSet => exact h.mbRow
  | refSet => exact h.mbRow
  | domainAdjustOffset => exact h.mbRow
  | domainAdjustSetTime => exact h.mbRow
  | domainAdjustRate => exact h.mbRow
  | domainLoopOpen => exact h.mbRow
  | domainLoopClose => exact h.mbRow
  | timepinSet => exact h.mbRow
  | twinSet => exact h.mbRow
  | proveSet => exact h.mbRow
  | orbitStart => exact nomatch hi
  | listSeal => exact h.listSeal.next
  | runOverrun => exact .next (.ite h.abandonRun.count.setBit h)
  | engSwapReq => exact (h.foldl fun _ _ hu => .ite hu.swapReq hu).next
  | engFaultClear => exact h.faultClear.next
  | nop => exact h.issue.next
  | endRun => exact .next (.ite h (.ite h.engFault h.endRun))
  | add => exact h.issue.next
  | sub => exact h.issue.next
  | andOp => exact h.issue.next
  | orOp => exact h.issue.next
  | xorOp => exact h.issue.next
  | shl => exact h.issue.next
  | shr => exact h.issue.next
  | sar => exact h.issue.next
  | mul => exact h.issue.next
  | minu => exact h.issue.next
  | maxu => exact h.issue.next
  | movi => exact h.issue.next
  | jmp => exact h.issue.next
  | beq => exact h.issue.next
  | bne => exact h.issue.next
  | bltu => exact h.issue.next
  | bgeu => exact h.issue.next
  | blts => exact h.issue.next
  | bges => exact h.issue.next
  | bany => exact h.issue.next
  | bnone => exact h.issue.next
  | dbnz => exact h.issue.next
  | call => exact h.issue.next
  | ret => exact h.issue.next
  | ldL => exact h.issue.next
  | ldH => exact h.issue.next
  | get => exact h.issue.next
  | put => exact h.issue.next
  | evt => exact .next (.ite h.evtEffect.issue h.issue)
  | gate => exact h.issueAct.next
  | sgate => exact h.issueAct.next
  | launch => exact h.issueAct.next
  | inj => exact h.issueAct.next
  | tout => exact h.issueAct.next
  | capt => exact h.issueAct.next
  | mark => exact h.issueAct.next
  | rswap => exact h.issueAct.next
  | gateEffect => exact h.effect.next
  | launchEffect => exact h.effect.next
  | injEffect => exact h.effect.next
  | sgateEffect => exact h.effect.next
  | toutEffect => exact h.effect.next
  | captEffect => exact h.effect.next
  | markEffect => exact h.effect.next
  | rswapEffect => exact h.effect.next
  | fabricSlot => exact h.fabricSlot.next
  | fullBitBroadcast => exact .next (.ite h.broadcast h)
  | rsvSwapRequest => exact h.rsvRequest.next
  | rsvBankSwap => exact h.rsvSwap.next
  | frameReceive => exact h.actsNow.receive.next
  | pfcRepeat => exact .next (.ite h.pfcSend h)
  | pfcReceive => exact h.pfcReceive.next
  | pfcTimerExpire => exact .next (.ite h.setEgr h)
  | cellArrive => exact h.cellArrive.next
  | reseqGapTimeout => exact h.gapExpire.next
  | frameStartDecision => exact h.decideAt.next
  | txEnd => exact h.txFinish.next
  | ctUnderrun => exact h.execCtUnderrun
  | mmVerifyTimeout => exact h.mmTimeout.next
  | linkDown => exact .next (.ite (h.linkDown.foldl fun _ _ hu => hu.trainAsk) h)
  | linkUp => exact h.execLinkUp
  | laneModeTry => exact .next (.ite h.setLink.trainDone.trainAsk h)
  | ageScan => exact h.ageScan.next
  | rawTableWrite => exact h.busWrite
  | hostLaunchArm => exact h.hlsWrite.next
  | hostLaunchDisarm => exact h.hlsWrite.next
  | hostLaunchFire => exact h.hlsReach.next
  | domRateLoWrite => exact h.rateLoWrite.next
  | domRateHiWrite => exact h.rateHiWrite.next
  | domStepreqGo => exact h.stepReqWrite.next
  | slewEnd => exact h.execSlewEnd
  | tbSnapRequest => exact h.snapRequest.next
  | tbSnapLatch => exact h.snapLatch.next
  | triggerArm => exact h.trgWrite.next
  | triggerDisarm => exact h.trgWrite.next
  | triggerFire => exact h.trgPass.trgFire.next
  | toutGeneratorEdge => exact h.genPass.genEdge.next
  | toutPulseEnd => exact h.pulseEnd.next
  | tinEdge => exact .next (.ite h.tinSuppressed (.ite h.tinEdge.refTin h.tinEdge))
  | tinTransitionSuppressed => exact .next (.ite h.tinSuppressed h)
  | tinHoldoffEnd => exact h.execTinHoldoffEnd
  | tinHeadPop => exact h.busRead
  | ivlResRead => exact h.busRead
  | ivlCfgWrite => exact h.busWrite
  | tdcScalePair => exact h.setTdc.next
  | trackerSample => exact h.execTrackerSample
  | calPending => exact h.sense.next
  | calRunStart => exact h.calStart.next
  | calShadowEnd => exact h.calShadowed.next
  | calCollectEnd => exact h.calCollected.next
  | calComputeEnd => exact h.calComputed.next
  | calVerifyEnd => exact h.calVerified.next
  | calInplaceEnd => exact h.calInplace.next
  | ptpFrameReceive => exact h.actsNow.receive.next
  | tcEntryExpire => exact h.execTcEntryExpire
  | ptpMessageSend => exact h.fwOriginate.next
  | pdSettleEnd => exact h.settleEnd.next
  | tsqHeadPop => exact h.busRead
  | candidateSignalLost => exact h.candLost.next
  | candidateWtrExpire => exact .next (.ite h.passN.candTo h)
  | refSelect => exact h.refEval.next
  | lockAchieved => exact h.execLockAchieved
  | lockLost => exact h.execLockLost
  | historySample => exact (h.foldl fun _ _ hu => hu.histSample).next
  | hoSpecExpire => exact h.execHoSpecExpire
  | refclkOutOfRange => exact .next (.ite h ((h.upd.setBit.setBit.foldl fun _ _ hu => .ite hu.candTo hu).syncVec))
  | refclkRangeRestore => exact h.execRefclkRangeRestore
  | twinRecordReceive => exact h.recordHear.next
  | claimFrameReceive => exact h.pinHear.next
  | claimPinLoss => exact h.upd.setBit.next
  | twinJudge => exact h.judge.next
  | twinJoinTimeout => exact h.joinTimeout.next
  | revertHoldExpire => exact h.revertDue.next
  | orphanHoldExpire => exact h.orphanRaise.next
  | twinSlotExpire => exact h.slotExpire.next
  | clfSlotExpire => exact h.clfExpire.next
  | seqResetTimeout => exact .next (.ite h.passN.takeAny h)
  | provingScheduleDue => exact h.prvDue.next
  | provingSkipped => exact h.prvSkip.next
  | provingStepEnd => exact h.prvStepEnd.next
  | claimStepTimeout => exact h.claimTimeout.next
  | octetP1Enter => exact h.p1Enter.next
  | octetP1Exit => exact h.p1Exit.next
  | p3Wake => exact .next (.ite h h.wake)
  | powerExitComplete => exact h.execPowerExitComplete
  | arbiterGrant => exact h.arbGrant.next
  | laneTrainingFail => exact .next (.ite h.trainDone h)
  | clockGateForce => exact h.gateForce.next
  | lvfCtrlWrite => exact h.lvfWrite.next
  | lvfAck => exact .next (.ite h.lvfAck h)
  | clkobsCfgWrite => exact h.clkobsWrite.next
  | counterLowRead => exact h.busRead
  | counterHighWrite => exact h.busWrite
  | counterLowWrite => exact h.busWrite
  | hubDumpWrite => exact h.hubWrite.next
  | smpEnable => exact h.smpWrite.next
  | glbIrearmWrite => exact h.busWrite
  | msixMaskChange => exact h.msixChange.next
  | pciPowerStateChange => exact h.pciPower.next
  | mbeClrWrite => exact h.execMbeClrWrite
  | glbRcvRead => exact h.execGlbRcvRead
  | engMaxcycRead => exact h.busRead
  | prvLogptrRead => exact h.execPrvLogptrRead
  | latchingRead => exact h.busRead
  | registerWrite => exact h.busWrite
  | perstNRelease => exact h.upd.next
  | tapInstruction => exact h.execTapInstruction
  | mbusRead => exact h.busRead
  | relayResponse => exact h.relayRsp.next
  | coreClockRestart => exact h.coreRestart.next
  | timingExchangeSend => exact h.timingSend.next

end Sys2Proof.Machine
end

section
/-! ## What the block does by itself, but for Orbit starts -/

namespace Sys2Proof.Machine

-- The many short proofs are elaborated one after another: at once, each takes a thread with a stack of its own.
set_option Elab.async false

variable {s₀ s : State}

/-! ### The engines' words -/

theorem actsBetweenStarts_of_decodeAlu {e : Fin 9} {w : BitVec 64} {i : Instr} (hd : decodeAlu e w = .ok i) : actsBetweenStarts i = true := by
  unfold decodeAlu at hd
  split at hd <;> cases hd <;> rfl

theorem actsBetweenStarts_of_decodeBr {e : Fin 9} {w : BitVec 64} {i : Instr} (hd : decodeBr e w = .ok i) : actsBetweenStarts i = true := by
  unfold decodeBr at hd
  split at hd <;> cases hd <;> rfl

/-- No word of a bank resets the block or starts an Orbit. -/
theorem actsBetweenStarts_of_decodeEngine {e : Fin 9} {w : BitVec 64} {i : Instr} (hd : decodeEngine e w = .ok i) :
    actsBetweenStarts i = true := by
  unfold decodeEngine at hd
  split at hd
  case h_3 => exact actsBetweenStarts_of_decodeAlu hd
  case h_5 => exact actsBetweenStarts_of_decodeBr hd
  case h_9 =>
    cases hd
    split <;> rfl
  all_goals cases hd <;> rfl

theorem Keeps.engCycle {e : Fin 9} (h : Keeps s₀ s) : Onward s₀ (s.engCycle e) := by
  unfold State.engCycle
  split
  · exact h.exec (i := .runOverrun e) rfl
  · split
    · exact h.exec (actsBetweenStarts_of_decodeEngine ‹_›)
    · exact h.engFault.next

/-! ### What acts by itself -/

/-- The state that `o` holds, if any, is kept to. -/
def Held (s₀ : State) (o : Option State) : Prop := ∀ t ∈ o, Keeps s₀ t

theorem Keeps.held (h : Keeps s₀ s) : Held s₀ (some s) := by
  rintro t ⟨⟩
  exact h

theorem Held.none : Held s₀ none := fun t ht => absurd ht (Option.not_mem_none t)

theorem Held.ite {c : Prop} {i : Decidable c} {o p : Option State} (ho : Held s₀ o) (hp : Held s₀ p) : Held s₀ (if c then o else p) := by
  split
  · exact ho
  · exact hp

theorem Held.findSome {α : Type} {f : α → Option State} {l : List α} (hf : ∀ x, Held s₀ (f x)) : Held s₀ (l.findSome? f) := by
  intro t ht
  obtain ⟨x, _, hx⟩ := List.exists_of_findSome?_eq_some ht
  exact hf x t hx

theorem Keeps.powerActs (h : Keeps s₀ s) : Held s₀ s.powerActs :=
  .ite h.devExitDone.mbPoll.held <|
  .ite h.wake.held <|
  .findSome fun _ =>
    .ite (.ite h.octWake.held .none) <|
    .ite (.ite h.octExit.held .none) <|
    .ite h.p1Enter.held .none

theorem Keeps.pinActs {p : Fin 8} (h : Keeps s₀ s) : Held s₀ (s.pinActs p) :=
  .ite h.genEdge.held (.ite h.pulseEndNow.held (.ite h.levelRise.held .none))

theorem Keeps.portActs {p : Nat} (h : Keeps s₀ s) : Held s₀ (s.portActs p) := .ite h.txFinish.held (.ite h.decideAt.held .none)

theorem Keeps.selfDue (h : Keeps s₀ s) : Held s₀ s.selfDue := by
  unfold State.selfDue
  split
  next t ht => exact ht ▸ .findSome fun _ => h.pinActs
  next =>
    split
    next => exact h.trgFire.held
    next =>
      split
      next t ht => exact ht ▸ .findSome fun _ => h.portActs
      next => exact h.powerActs

end Sys2Proof.Machine
end

section
/-! ## The Orbit number (R7): Orbit starts, steps, resets -/

namespace Sys2Proof.Machine

-- The many short proofs are elaborated one after another: at once, each takes a thread with a stack of its own.
set_option Elab.async false

variable {s₀ s : State}

/-! ### Steps of the domains at an Orbit start (R197, R200) -/

/-- Only domain d's state may differ, of the domains, of TIME and of the Orbits. -/
structure OnlyDom (d : Nat) (s t : State) : Prop where
  dom : ∀ k, k ≠ d → t.dom k = s.dom k
  tb : t.tb = s.tb
  orbNum : t.orbNum = s.orbNum
  orbit : t.orbit = s.orbit

theorem OnlyDom.of_still_setDom {d : Nat} {x : Domain} {t : State} (h : Still (s.setDom d x) t) : OnlyDom d s t where
  dom _ hk := h.dom.trans (s.dom_setDom_ne hk x)
  tb := h.tb
  orbNum := h.orbNum
  orbit := h.orbit

/-- Domain d has a due step by δ that leaves its time in range. -/
structure StepReady (s : State) (d : Nat) (δ : Int) : Prop where
  due : s.stepDue d = some δ
  nonneg : 0 ≤ ((s.dom d).time : Int) + δ
  below : ((s.dom d).time : Int) + δ < (281474976710656 : Int) * secUnit

theorem stepDue_congr {d : Nat} {t : State} (hd : t.dom d = s.dom d) (htb : t.tb = s.tb) : t.stepDue d = s.stepDue d := by
  unfold State.stepDue
  rw [hd, htb]

theorem StepReady.congr {d : Nat} {δ : Int} {t : State} (h : StepReady s d δ) (hd : t.dom d = s.dom d) (htb : t.tb = s.tb) : StepReady t d δ where
  due := (stepDue_congr hd htb).trans h.due
  nonneg := hd ▸ h.nonneg
  below := hd ▸ h.below

theorem applyStep_of_none {d : Nat} (hn : s.stepDue d = none) : s.applyStep d = (s, false) := by
  unfold State.applyStep
  rw [hn]

/-- What an applied step leaves in its domain. -/
def steppedDom (D : Domain) (δ : Int) : Domain := { D with step := none, time := (D.time + δ : Int).toNat, epoch := (D.epoch + 1) % 4294967296 }

theorem StepReady.still_stepAt {d : Nat} {δ : Int} (h : StepReady s d δ) : Still (s.setDom d (steppedDom (s.dom d) δ)) (s.stepAt d).1 := by
  have hr : ¬ ((decide (((s.dom d).time : Int) + δ < 0) || decide (((s.dom d).time : Int) + δ ≥ (281474976710656 : Int) * secUnit)) = true) := by
    simp [h.nonneg, h.below]
  unfold State.stepAt State.applyStep
  rw [h.due]
  simp only [if_neg hr]
  exact (Still.refl _).log.judgeLate.resyncPins

/-- The state that a step out of range leaves. -/
theorem still_stepAt_of_outOfRange {d : Nat} {δ : Int} (hd : s.stepDue d = some δ) (hn : ¬ StepReady s d δ) :
    Still (s.setDom d { s.dom d with step := none }) (s.stepAt d).1 := by
  have hr : (decide (((s.dom d).time : Int) + δ < 0) || decide (((s.dom d).time : Int) + δ ≥ (281474976710656 : Int) * secUnit)) = true := by
    by_contra hc
    simp only [Bool.or_eq_true, decide_eq_true_eq, not_or, not_lt, ge_iff_le, not_le] at hc
    exact hn ⟨hd, hc.1, hc.2⟩
  unfold State.stepAt State.applyStep
  rw [hd]
  simp only [if_pos hr]
  exact (Still.refl _).setBit.syncVec

theorem onlyDom_stepAt {d : Nat} : OnlyDom d s (s.stepAt d).1 := by
  cases hd : s.stepDue d with
  | none =>
    have he : (s.stepAt d).1 = s := by
      unfold State.stepAt
      rw [applyStep_of_none hd, hd]
    rw [he]
    exact ⟨fun _ _ => rfl, rfl, rfl, rfl⟩
  | some δ =>
    by_cases hr : StepReady s d δ
    · exact .of_still_setDom hr.still_stepAt
    · exact .of_still_setDom (still_stepAt_of_outOfRange hd hr)

theorem StepReady.epoch_stepAt {d : Nat} {δ : Int} (h : StepReady s d δ) : ((s.stepAt d).1.dom d).epoch = ((s.dom d).epoch + 1) % 4294967296 := by
  rw [h.still_stepAt.dom, State.dom_setDom_same]
  rfl

/-- The steps of the domains of a list, in order. -/
def State.stepsOf (s : State) (l : List Nat) : State := l.foldl (fun u d => (u.stepAt d).1) s

theorem stepsAt_fst : s.stepsAt.1 = s.stepsOf (List.range 8) :=
  (List.foldl_hom Prod.fst fun _ _ => rfl).symm

theorem orbit_stepsOf {l : List Nat} : (s.stepsOf l).orbNum = s.orbNum ∧ (s.stepsOf l).orbit = s.orbit := by
  induction l generalizing s with
  | nil => exact ⟨rfl, rfl⟩
  | cons k l ih =>
    obtain ⟨hn, ho⟩ := ih (s := (s.stepAt k).1)
    exact ⟨hn.trans onlyDom_stepAt.orbNum, ho.trans onlyDom_stepAt.orbit⟩

theorem dom_stepsOf_of_notMem {l : List Nat} {d : Nat} (hd : d ∉ l) : (s.stepsOf l).dom d = s.dom d := by
  induction l generalizing s with
  | nil => rfl
  | cons k l ih =>
    obtain ⟨hk, hl⟩ := not_or.mp (mt List.mem_cons.mpr hd)
    exact (ih hl).trans (onlyDom_stepAt.dom d hk)

theorem StepReady.epoch_stepsOf {l : List Nat} {d : Nat} {δ : Int} (h : StepReady s d δ) (hl : l.Nodup) (hd : d ∈ l) :
    ((s.stepsOf l).dom d).epoch = ((s.dom d).epoch + 1) % 4294967296 := by
  induction l generalizing s with
  | nil => exact absurd hd List.not_mem_nil
  | cons k l ih =>
    obtain ⟨hk, hl⟩ := List.nodup_cons.mp hl
    by_cases he : d = k
    · subst he
      exact (congrArg Domain.epoch (dom_stepsOf_of_notMem hk)).trans h.epoch_stepAt
    · have hs := onlyDom_stepAt (s := s) (d := k)
      have h1 := ih (h.congr (hs.dom d he) hs.tb) hl (List.mem_of_ne_of_mem he hd)
      rwa [hs.dom d he] at h1

/-! ### The Orbit is numbered (R7) -/

/-- The Orbit that starts has its number and its start. -/
def State.numbered (s : State) : State :=
  { s with orbNum := if s.orbit.begun then s.orbNum + 1 else 0, orbit := { s.orbit with begun := true, start := s.orbit.next, startTb := s.tb } }

theorem numbered_dom {d : Nat} : s.numbered.dom d = s.dom d := rfl

theorem numbered_tb : s.numbered.tb = s.tb := rfl

theorem still_numbered_fireDue : Still s.numbered s.numbered.fireDue := (Still.refl _).fireDue

theorem keeps_orbitBegin : Keeps (s.numbered.fireDue.stepsOf (List.range 8)) s.orbitBegin := by
  rw [← stepsAt_fst]
  unfold State.orbitBegin
  extract_lets n u s1 stepped
  split
  next s2 δ hp =>
    have h2 : Keeps s1.stepsAt.1 s2 := .of_fst (.refl _) hp
    exact .ite h2.anchor.fireStepped.retime h2.anchor.fireStepped

theorem keeps_orbitStart (hr : s.orbitsRun = true) : Keeps s.orbitEnd.orbitBegin s.orbitStart := by
  unfold State.orbitStart
  rw [if_neg (by simp [hr])]
  extract_lets s0 s1 s2 s3 s4
  have h1 : Keeps s0 s1 := (Keeps.refl s0).applyDue.twinOrbit.prvOrbit.p3Enter
  have h2 : Keeps s0 s2 := h1.takeGlists.showGlists
  have h3 : Keeps s0 s3 := h2.applyClk.clkobsAfter.foldl fun _ _ hu => hu.engOrbit
  have h4 : Keeps s0 s4 := (h3.foldl fun _ _ hu => hu.applyCfg).markStart
  exact h4.hubTake.hubPeriodic.orbSlot.twinOrbitSend.mbPoll

/-- What an Orbit start makes of the number (R7). -/
theorem orbit_orbitBegin : s.orbitBegin.orbit.begun = true ∧ s.orbitBegin.orbNum = if s.orbit.begun then s.orbNum + 1 else 0 := by
  have hk : Keeps _ s.orbitBegin := keeps_orbitBegin
  obtain ⟨hn, ho⟩ := orbit_stepsOf (s := s.numbered.fireDue) (l := List.range 8)
  have hf := still_numbered_fireDue (s := s)
  constructor
  · rw [hk.begun, ho, hf.orbit]
    rfl
  · rw [hk.orbNum, hn, hf.orbNum]
    rfl

theorem orbit_orbitStart (hr : s.orbitsRun = true) :
    s.orbitStart.orbit.begun = true ∧ s.orbitStart.orbNum = if s.orbit.begun then s.orbNum + 1 else 0 := by
  have hk := keeps_orbitStart hr
  have he := (Keeps.refl s).orbitEnd
  obtain ⟨hb, hn⟩ := orbit_orbitBegin (s := s.orbitEnd)
  exact ⟨hk.begun.trans hb, by rw [hk.orbNum, hn, he.begun, he.orbNum]⟩

/-! ### An Orbit that ends with nothing left of it -/

theorem firstEng_of_empty {ok : Nat → Bool} (he : ∀ e < 9, (s.eng e).exec = []) : s.firstEng ok = none := by
  refine List.foldlRecOn (motive := (· = none)) _ _ rfl fun best hb e hm => ?_
  rw [hb, he e (List.mem_range.mp hm)]
  cases ok e <;> rfl

theorem edgesToAct_of_empty (he : ∀ e < 9, (s.eng e).exec = []) : s.edgesToAct = none := by
  have hh : anyBelow 9 s.headDue = false := by
    refine List.any_eq_false.mpr fun e hm => ?_
    unfold State.headDue
    rw [he e (List.mem_range.mp hm)]
    exact Bool.false_ne_true
  unfold State.edgesToAct
  rw [if_neg (by simp [hh]), firstEng_of_empty he]

theorem flush_of_empty (he : ∀ e < 9, (s.eng e).exec = []) : s.flush = s := by
  have ha : s.actDue = none := firstEng_of_empty he
  unfold State.flush State.runActs
  rw [if_neg Bool.false_ne_true, ha, edgesToAct_of_empty he]

theorem passTo_of_le {d : Nat} {t : Int} (ht : t ≤ ((s.dom d).time : Int)) : s.passTo d t = s := by
  unfold State.passTo edgesTo State.passN
  simp [ht]

theorem still_orbitEnd (he : ∀ e < 9, (s.eng e).exec = []) (hn : s.orbit.next ≤ s.orbTime) : Still s s.orbitEnd := by
  have ht : s.orbit.next * 65536 ≤ (s.orbDom.time : Int) := by
    unfold State.orbTime at hn
    omega
  unfold State.orbitEnd
  rw [flush_of_empty he, passTo_of_le ht]
  exact (Still.refl s).prvSeqs.foldl fun _ _ hu => hu.overrun

theorem StepReady.epoch_orbitStart {d : Nat} {δ : Int} (h : StepReady s d δ) (hd : d < 8) (hr : s.orbitsRun = true)
    (he : ∀ e < 9, (s.eng e).exec = []) (hn : s.orbit.next ≤ s.orbTime) :
    (s.orbitStart.dom d).epoch = ((s.dom d).epoch + 1) % 4294967296 := by
  have hs : Still s s.orbitEnd := still_orbitEnd he hn
  have hf := still_numbered_fireDue (s := s.orbitEnd)
  have hdom : s.orbitEnd.numbered.fireDue.dom d = s.dom d := (hf.dom.trans numbered_dom).trans hs.dom
  have htb : s.orbitEnd.numbered.fireDue.tb = s.tb := (hf.tb.trans numbered_tb).trans hs.tb
  have h1 := (h.congr hdom htb).epoch_stepsOf List.nodup_range (List.mem_range.mpr hd)
  rw [(keeps_orbitStart hr).epoch d hd, keeps_orbitBegin.epoch d hd, h1, hdom]

/-! ### The number over a step -/

/-- Once Orbit 0 has started, it stays so and the number does not decrease. -/
def CountsOn (s t : State) : Prop := s.orbit.begun = true → t.orbit.begun = true ∧ s.orbNum ≤ t.orbNum

theorem CountsOn.trans {t u : State} (h : CountsOn s t) (k : CountsOn t u) : CountsOn s u := by
  intro hb
  obtain ⟨ht, hn⟩ := h hb
  obtain ⟨hu, hm⟩ := k ht
  exact ⟨hu, hn.trans hm⟩

theorem Keeps.countsOn {t : State} (h : Keeps s t) : CountsOn s t := fun hb => ⟨h.begun.trans hb, h.orbNum.ge⟩

theorem countsOn_orbitStart : CountsOn s s.orbitStart := by
  intro hb
  cases hr : s.orbitsRun with
  | false =>
    have he : s.orbitStart = s := if_pos (by simp [hr])
    rw [he]
    exact ⟨hb, le_rfl⟩
  | true =>
    obtain ⟨ht, hn⟩ := orbit_orbitStart hr
    rw [hn, if_pos hb]
    exact ⟨ht, Nat.le_succ _⟩

theorem countsOn_untilApplied {n k : Nat} : CountsOn s (State.untilApplied n k s) := by
  induction n generalizing s with
  | zero => exact (Keeps.refl s).countsOn
  | succ n ih =>
    unfold State.untilApplied
    split
    · exact (Keeps.refl s).countsOn
    · exact countsOn_orbitStart.trans ih

theorem countsOn_txnApply : CountsOn s s.txnApply := by
  unfold State.txnApply
  split
  · exact (Keeps.refl s).countsOn
  · split
    · exact (Keeps.refl s).countsOn
    · exact countsOn_untilApplied

/-- The number counts on over every next state that the outcome gives. -/
def Counting (s : State) (o : Host.Outcome State Fault Refusal) : Prop := ∀ t, o = .next t → CountsOn s t

theorem Onward.counting {o : Host.Outcome State Fault Refusal} (h : Onward s o) : Counting s o := fun t ht => (h t ht).countsOn

theorem CountsOn.next {t : State} (h : CountsOn s t) : Counting s (.next t) := by
  rintro _ ⟨⟩
  exact h

theorem counting_exec {i : Instr} (hi : isFullReset i = false) : Counting s (exec i s) := by
  by_cases ha : actsBetweenStarts i = true
  · exact ((Keeps.refl s).exec ha).counting
  · cases i
    case orbitStart => exact countsOn_orbitStart.next
    case transactionApply => exact countsOn_txnApply.next
    case powerOn => exact nomatch hi
    case resetN => exact nomatch hi
    all_goals exact absurd rfl ha

theorem counting_idle : Counting s s.idle := by
  have h := Keeps.refl s
  unfold State.idle
  split
  · exact h.servePosted.next.counting
  · split
    · exact (Keeps.warmReset (s := { s with sys := { s.sys with resetAt := none } }) h.upd).next.counting
    · split
      · exact h.takeAct.next.counting
      · split
        · exact countsOn_orbitStart.next
        · split
          · exact h.listSeal.next.counting
          · split
            next t ht => exact (h.selfDue t ht).next.counting
            next =>
              split
              · exact h.engCycle.counting
              · exact h.slipDue.tick.next.counting

theorem counting_step (hc : ∀ c, s.pending.head? = some c → isFullReset c = false) : Counting s (step s) := by
  unfold step
  split
  next => exact counting_idle
  next c l hp => exact counting_exec (s := { s with pending := l }) (hc c (by rw [hp]; rfl))

/-! ### Resets -/

theorem fullReset_orbNum {src : Nat} {straps : BitVec 11} {vtio33 : Bool} : (s.fullReset src straps vtio33).orbNum = 0 := by
  unfold State.fullReset
  extract_lets off z r u
  have hr : r.orbNum = 0 := rfl
  clear_value r
  have hu : Still r u := (Still.refl r).strapRegs.wr
  clear_value u
  exact hu.upd.toMode.orbNum.trans hr

theorem afterWarm_orbNum : s.afterWarm.orbNum = s.orbNum := rfl

theorem afterWarm_orbit : s.afterWarm.orbit = s.orbit := rfl

theorem warmReset_orbit {src : Nat} : (s.warmReset src).orbNum = s.orbNum ∧ (s.warmReset src).orbit = s.orbit := by
  unfold State.warmReset
  split
  · exact ⟨rfl, rfl⟩
  · split
    · have h := (Still.refl s).log (code := 2) (p0 := src) (p1 := 0)
      exact ⟨h.orbNum, h.orbit⟩
    · extract_lets s1 s2
      have h1 : Still s s1 := (Still.refl s).toMode.pinsOff.emit.soloRole
      have h2 : Still s1.afterWarm s2 := (Still.refl _).strapRegs.wr
      have h3 := Still.ite (c := s2.sys.alarm = true) (i := inferInstance) (h2.setBit (f := R.GLB_ISRC_THERM) (b := true)) h2
      exact ⟨(h3.orbNum.trans afterWarm_orbNum).trans h1.orbNum, (h3.orbit.trans afterWarm_orbit).trans h1.orbit⟩

/-! ### The obligation -/

/-- Settles O12, from the frames `Still` and `Keeps`: an Orbit start numbers the Orbit, whatever follows in it keeps the number, and a due
step changes its own domain alone. -/
theorem orbitNumberCountsByOne : Obligations.OrbitNumberCountsByOne := by
  refine ⟨?_, ?_, ?_, ?_, ?_⟩
  · intro s hr
    exact ⟨_, rfl, orbit_orbitStart hr⟩
  · intro s d δ x hr he hn hs hx h0 h1
    have hd : s.stepDue d = some δ := by
      unfold State.stepDue
      rw [hs]
      exact if_pos hx
    exact ⟨_, rfl, StepReady.epoch_orbitStart ⟨hd, h0, h1⟩ d.isLt hr he hn, (orbit_orbitStart hr).2⟩
  · intro s t hc hs
    exact counting_step hc t hs
  · intro straps vtio33 s
    refine ⟨⟨_, rfl, fullReset_orbNum⟩, fun ns hns => ⟨_, rfl, ?_⟩⟩
    rw [if_neg (Nat.not_lt.mpr hns)]
    exact fullReset_orbNum
  · intro s k
    refine ⟨_, rfl, ?_⟩
    split
    · exact ⟨rfl, rfl⟩
    · exact warmReset_orbit (s := { s with sys := { s.sys with resetAt := none } })

end Sys2Proof.Machine
end

section
/-! ## Commands that complete: accesses to the bus inside the requester's space, and the test access port -/

namespace Sys2Proof.Machine

/-- A read inside the requester's space answers a next state, whether it is served, answered by an error or not answered (R412, R416). -/
theorem busRead_completes (s : State) {q a : Nat} (ecc : Bool) (ha : a < busSize q) : ∃ t, s.busRead q a ecc = .next t := by
  unfold State.busRead
  rw [if_neg (Nat.not_le.mpr ha)]
  split
  · exact ⟨_, rfl⟩
  · extract_lets a'
    split
    · exact ⟨_, rfl⟩
    · split
      · exact ⟨_, rfl⟩
      · exact ⟨_, rfl⟩

/-- A write inside the requester's space answers a next state, whether it is taken or not. -/
theorem busWrite_completes (s : State) {q a : Nat} (be : BitVec 4) (v : Word) (ha : a < busSize q) :
    ∃ t, s.busWrite q a be v = .next t := by
  unfold State.busWrite
  rw [if_neg (Nat.not_le.mpr ha)]
  extract_lets a'
  split
  · exact ⟨_, rfl⟩
  · split
    · exact ⟨_, rfl⟩
    · split
      · exact ⟨_, rfl⟩
      · split
        · exact ⟨_, rfl⟩
        · split
          · exact ⟨_, rfl⟩
          · split <;> exact ⟨_, rfl⟩

/-- A TAP instruction answers a next state but for a debug instruction in OPEN after the erase (R39, R385). -/
theorem tapInstruction_completes (s : State) {ir : TapIr} (h : Executable (.tapInstruction ir) s) : ∃ t, execTapInstruction ir s = .next t := by
  cases ir with
  | idcode => exact ⟨_, rfl⟩
  | bypass => exact ⟨_, rfl⟩
  | boundary => exact ⟨_, rfl⟩
  | other ir =>
    refine ⟨s, if_neg ?_⟩
    rw [Bool.and_eq_true, decide_eq_true_eq]
    rintro ⟨hm, he⟩
    rcases h with h | h
    · exact h hm
    · exact Bool.false_ne_true (h.symm.trans he)

/-- BAR0 holds 128 MiB (Table 15-2). -/
theorem busSize_bar0 : busSize 0 = 0x8000000 := rfl

/-- Settles O60: the commands of the bus complete inside the requester's space, a TAP instruction where it is not refused, and the arm of
every other command is a next state as it stands. -/
theorem everyFormCompletes : Obligations.EveryFormCompletes := by
  intro i s h
  cases i with
  | mbusRead q a ecc => exact busRead_completes s ecc h
  | counterLowRead q a => exact busRead_completes s false h
  | latchingRead a => exact busRead_completes s false h
  | tinHeadPop p => exact busRead_completes s false (by simp only [busSize_bar0, A.TIN_HEAD3]; omega)
  | tsqHeadPop p => exact busRead_completes s false (by simp only [busSize_bar0, A.TSQ4, portOff]; omega)
  | ivlResRead u => exact busRead_completes s false (by simp only [busSize_bar0, A.IVL_RES_LO]; omega)
  | glbRcvRead => exact busRead_completes s (q := 0) (a := A.GLB_RCV) false (by decide)
  | engMaxcycRead e => exact busRead_completes s false (by simp only [busSize_bar0, A.ENG_MAXCYC]; omega)
  | prvLogptrRead => exact busRead_completes s (q := 0) (a := A.PRV_LOGPTR) false (by decide)
  | registerWrite q a be v => exact busWrite_completes s be v h
  | rawTableWrite a v => exact busWrite_completes s 15 v h
  | counterHighWrite a v => exact busWrite_completes s 15 v h
  | counterLowWrite a v => exact busWrite_completes s 15 v h
  | ivlCfgWrite u v => exact busWrite_completes s 15 v (by simp only [busSize_bar0, A.IVL_CFG]; omega)
  | glbIrearmWrite hi v => exact busWrite_completes s 15 v (by cases hi <;> decide)
  | mbeClrWrite v => exact busWrite_completes s (q := 0) (a := A.MBE_CLR) 15 v (by decide)
  | tapInstruction ir => exact tapInstruction_completes s h
  | _ => exact ⟨_, rfl⟩

end Sys2Proof.Machine
end

section
/-! ## PERST_N, messages and the test access port (R39, R44, R408, R418, R419) -/

namespace Sys2Proof.Machine

variable {s : State}

/-! ### Contents passed through a function -/

/-- A key below every listed one reads as its default. -/
theorem storeGet_eq_default {α : Type} [DecidableEq α] {d : Nat → α} {m : Store α} {lo k : Nat} (hm : storeWfFrom d lo m = true) (hk : k < lo) :
    storeGet d m k = d k := by
  cases m with
  | nil => rfl
  | cons x t =>
    obtain ⟨a, w⟩ := x
    simp only [storeWfFrom, Bool.and_eq_true, decide_eq_true_eq] at hm
    rw [storeGet, if_neg (by omega), if_pos (by omega)]

theorem storeGet_cons {α : Type} (d : Nat → α) (a k : Nat) (w : α) (t : Store α) :
    storeGet d ((a, w) :: t) k = if a = k then w else if k < a then d k else storeGet d t k := rfl

/-- A value that `f` passes on as it is reads as before. -/
theorem storeGet_storeMap_of_fixed {α : Type} [DecidableEq α] {d : Nat → α} {f : Nat → α → α} {m : Store α} {lo k : Nat}
    (hm : storeWfFrom d lo m = true) (hf : ∀ w, f k w = w) : storeGet d (storeMap d f m) k = storeGet d m k := by
  induction m generalizing lo with
  | nil => rfl
  | cons x t ih =>
    obtain ⟨a, w⟩ := x
    simp only [storeWfFrom, Bool.and_eq_true, decide_eq_true_eq] at hm
    obtain ⟨⟨-, hw⟩, ht⟩ := hm
    by_cases hak : a = k
    · subst hak
      rw [storeMap, if_neg (by rwa [hf]), storeGet_cons, storeGet_cons, if_pos rfl, if_pos rfl, hf]
    · rw [storeGet_cons, if_neg hak, storeMap]
      split
      · rw [ih ht]
        split
        · exact storeGet_eq_default ht (by omega)
        · rfl
      · rw [storeGet_cons, if_neg hak, ih ht]

/-- PERST_N leaves every register outside the endpoint's own in BAR4 (R44). -/
theorem reg_execPerstN {t : State} {a : Nat} (hs : RegsOk s) (ht : execPerstN s = .next t) (ha : a < 0x8003000) : t.reg a = s.reg a := by
  cases ht
  have hf : msixWord a = false := by simp [msixWord, Nat.not_le.mpr ha]
  exact storeGet_storeMap_of_fixed hs fun w => by rw [hf]; rfl

/-! ### Folds in which one index acts -/

theorem foldl_eq_of_fixed {α β : Type} {f : β → α → β} {l : List α} {b : β} (h : ∀ x ∈ l, f b x = b) : l.foldl f b = b := by
  induction l with
  | nil => rfl
  | cons x l ih =>
    rw [List.foldl_cons, h x List.mem_cons_self]
    exact ih fun y hy => h y (List.mem_cons_of_mem x hy)

/-- Where no index before `k` acts and none after it acts once `k` has, the fold is the step at `k`. -/
theorem foldl_range_eq_step {β : Type} {f : β → Nat → β} {b : β} {n k : Nat} (hk : k < n) (before : ∀ j < k, f b j = b)
    (after : ∀ j < n, k < j → f (f b k) j = f b k) : (List.range n).foldl f b = f b k := by
  induction n with
  | zero => exact absurd hk (Nat.not_lt_zero k)
  | succ n ih =>
    rw [List.range_succ, List.foldl_append, List.foldl_cons, List.foldl_nil]
    by_cases hkn : k = n
    · rw [← hkn, foldl_eq_of_fixed fun j hj => before j (List.mem_range.mp hj)]
    · rw [ih (by omega) fun j hj => after j (by omega)]
      exact after n (by omega) (by omega)

/-! ### Messages -/

theorem deliver_of_free {v : Nat} (hon : s.msixOn = true) (hheld : s.msixHeld v = false) :
    s.deliver v = (s.setBit (pbaFld v) false).emit (.msix v) := by
  unfold State.deliver
  rw [hon, hheld]
  rfl

theorem deliver_pcie (v : Nat) : (s.deliver v).pcie = s.pcie := by
  unfold State.deliver
  split
  · rfl
  · split <;> rfl

theorem OnlyBus.sendPending (s : State) : OnlyBus s s.sendPending := by
  unfold State.sendPending
  induction List.range 64 generalizing s with
  | nil => exact .refl s
  | cons v l ih =>
    rw [List.foldl_cons]
    split
    · exact (OnlyBus.deliver s v).trans (ih _)
    · exact ih s

theorem sendPending_pcie (s : State) : s.sendPending.pcie = s.pcie := by
  unfold State.sendPending
  induction List.range 64 generalizing s with
  | nil => rfl
  | cons v l ih =>
    rw [List.foldl_cons, ih]
    split
    · exact deliver_pcie v
    · rfl

/-- The pending bit of another vector is left by the change of one. -/
theorem bit_pbaFld_setBit_ne {j k : Nat} (h : j ≠ k) (b : Bool) : (s.setBit (pbaFld k) b).bit (pbaFld j) = s.bit (pbaFld j) := by
  unfold State.bit State.setBit
  by_cases ha : (pbaFld j).addr = (pbaFld k).addr
  · rw [State.rd_wr_disjoint s ha] 
    · simp only [pbaFld]; omega
    · simp only [pbaFld] at ha ⊢; omega
  · rw [State.rd_wr_ne s ha]

/-! ### Writes that are served -/

/-- A full word that is written where BAR0 serves it reaches the register. -/
theorem busWrite_of_served {a : Nat} (v : Word) (h : Served s 0 a) : s.busWrite 0 a 15 v = .next (s.writeBar0 0 a v) := by
  obtain ⟨hal, hin, hdead, hbad⟩ := h
  unfold State.busWrite
  rw [if_neg (Nat.not_le.mpr hin), hdead, hal, Nat.sub_zero]
  simp [hbad]

/-- A write of `GLB_IREARM_LO` resends what it names and changes, beside that, the bus alone. -/
theorem writeBar0_irearmLo (v : Word) : ∃ b, s.writeBar0 0 A.GLB_IREARM_LO v = { s.rearm 0 v with bus := b } := by
  have hfind : (findDesc A.GLB_IREARM_LO).isNone = false := by decide
  have hdead : s.deadWord A.GLB_IREARM_LO = false := rfl
  have hraw : rawTable A.GLB_IREARM_LO = false := by decide
  have hwrite : s.writeAt A.GLB_IREARM_LO 0xFFFFFFFF v = s.rearm 0 v := by
    have hall : v &&& 0xFFFFFFFF = v := BitVec.and_allOnes
    exact congrArg (s.rearm 0) hall
  unfold State.writeBar0 State.regWrite
  simp only [hfind, hdead, hraw, hwrite, Bool.false_eq_true, if_false]
  split
  · exact ⟨_, rfl⟩
  · exact ⟨_, rfl⟩

/-- The vector named sends its message again while its line is 1 (R418). -/
theorem rearm_twoPow {k : Nat} (hk : k < 32) (hline : s.line k = true) : s.rearm 0 (BitVec.twoPow 32 k) = s.deliver k := by
  unfold State.rearm
  have hother : ∀ j ≠ k, (BitVec.twoPow 32 k).getLsbD j = false := by
    intro j hj
    rw [BitVec.getLsbD_twoPow, decide_eq_false hj.symm, Bool.and_false]
  rw [foldl_range_eq_step hk]
  · have hthis : (BitVec.twoPow 32 k).getLsbD k = true := by simp [hk]
    rw [hthis, Nat.zero_add, hline]
    rfl
  · intro j hj
    rw [hother j (by omega)]
    rfl
  · intro j _ hj
    rw [hother j (by omega)]
    rfl

/-! ### What unmasking sends (R419) -/

theorem bit_emit (s : State) (o : Out) (f : Fld) : (s.emit o).bit f = s.bit f := rfl

/-- A vector whose message is not pending sends none. -/
theorem sendStep_of_quiet {j : Nat} (h : s.bit (pbaFld j) = false) :
    (if s.bit (pbaFld j) && s.msixOn && !s.msixHeld j then s.deliver j else s) = s :=
  if_neg (by simp [h])

/-- With one vector pending, and it free to leave, its message alone is sent. -/
theorem sendPending_of_only {k : Nat} (hk : k < 64) (hon : s.msixOn = true) (hheld : s.msixHeld k = false)
    (hpend : ∀ j < 64, s.bit (pbaFld j) = true ↔ j = k) : s.sendPending = (s.setBit (pbaFld k) false).emit (.msix k) := by
  have hquiet : ∀ j < 64, j ≠ k → s.bit (pbaFld j) = false := fun j hj hne =>
    Bool.eq_false_iff.mpr fun h => hne ((hpend j hj).mp h)
  have hthis : (if s.bit (pbaFld k) && s.msixOn && !s.msixHeld k then s.deliver k else s) = (s.setBit (pbaFld k) false).emit (.msix k) := by
    rw [if_pos (by simp [(hpend k hk).mpr rfl, hon, hheld]), deliver_of_free hon hheld]
  unfold State.sendPending
  rw [foldl_range_eq_step hk]
  · exact hthis
  · intro j hj
    exact sendStep_of_quiet (hquiet j (by omega) (by omega))
  · intro j hj hjk
    rw [hthis]
    exact sendStep_of_quiet (by rw [bit_emit, bit_pbaFld_setBit_ne (by omega), hquiet j hj (by omega)])

/-- The mask of a vector and the pending bits stand in different words. -/
theorem bit_pbaFld_setBit_maskFld {j k : Nat} (hk : k < 64) (b : Bool) : (s.setBit (maskFld k) b).bit (pbaFld j) = s.bit (pbaFld j) := by
  unfold State.bit State.setBit
  rw [State.rd_wr_ne s (by simp only [pbaFld, maskFld]; omega)]

theorem bit_maskFld_setBit_pbaFld {k : Nat} (hk : k < 64) (b : Bool) : (s.setBit (pbaFld k) b).bit (maskFld k) = s.bit (maskFld k) := by
  unfold State.bit State.setBit
  rw [State.rd_wr_ne s (by simp only [pbaFld, maskFld]; omega)]

theorem bit_pbaFld_same (k : Nat) (b : Bool) : (s.setBit (pbaFld k) b).bit (pbaFld k) = b :=
  s.bit_setBit_same _ rfl (Nat.mod_lt k (by decide)) b

/-! ### The obligation -/

theorem endpointReset : Rules.EndpointReset := by
  intro s hs
  refine ⟨⟨_, rfl, rfl, rfl, rfl, rfl, rfl, rfl, fun a ha => reg_execPerstN hs rfl ha, rfl⟩, ⟨_, rfl, rfl, ?_, rfl, rfl⟩⟩
  exact decide_eq_true_iff

theorem interruptMessages : Rules.InterruptMessages := by
  intro s
  refine ⟨?_, ?_⟩
  · intro k hserved hline hon hheld
    obtain ⟨b, hb⟩ := writeBar0_irearmLo (s := s) (BitVec.twoPow 32 k)
    rw [rearm_twoPow k.isLt hline, deliver_of_free hon hheld] at hb
    exact ⟨_, (busWrite_of_served _ hserved).trans (congrArg _ hb), rfl, bit_pbaFld_same k false⟩
  · intro hperst htrain
    have hready : ¬ (s.pcie.perst || !s.pcie.training) = true := by simp [hperst, htrain]
    refine ⟨?_, ?_, ?_, ?_, ?_⟩
    · intro k hd3 hen hbme hfmask hpend
      have hon : (s.setBit (maskFld k) false).msixOn = true := by simp [State.msixOn, hen, hperst, hd3]
      have hmask : (s.setBit (maskFld k) false).bit (maskFld k) = false := s.bit_setBit_same _ rfl (Nat.zero_lt_succ 31) false
      have hheld : (s.setBit (maskFld k) false).msixHeld k = false := by simp [State.msixHeld, hfmask, hmask, hbme]
      have hsend := sendPending_of_only k.isLt hon hheld fun j hj => by rw [bit_pbaFld_setBit_maskFld k.isLt, hpend j hj]
      have hnext : s.msixChange (.vector k false) = _ := (if_neg hready).trans ((if_neg (by simp [hd3])).trans hsend)
      exact ⟨_, congrArg Host.Outcome.next hnext, rfl, bit_pbaFld_same k false, (bit_maskFld_setBit_pbaFld k.isLt false).trans hmask⟩
    · exact fun b => ⟨_, congrArg Host.Outcome.next (if_neg hready), sendPending_pcie _, .trans ⟨_, _, _, rfl⟩ (.sendPending _)⟩
    · exact fun b => ⟨_, congrArg Host.Outcome.next (if_neg hready), sendPending_pcie _, .trans ⟨_, _, _, rfl⟩ (.sendPending _)⟩
    · exact fun b => ⟨_, congrArg Host.Outcome.next (if_neg hready), sendPending_pcie _, .trans ⟨_, _, _, rfl⟩ (.sendPending _)⟩
    · exact fun b => ⟨_, congrArg Host.Outcome.next (if_neg hready), rfl⟩

theorem tapInstructions : Rules.TapInstructions := by
  intro s
  refine ⟨⟨_, rfl, rfl⟩, ⟨_, rfl, rfl⟩, ⟨_, rfl, _, rfl⟩, ?_, ?_⟩
  · intro ir hm
    exact ⟨s, if_neg (by simp [hm]), rfl⟩
  · intro ir hm he
    exact if_pos (by simp [hm, he])

/-- Settles O27: PERST_N passes over every word outside the endpoint's, one vector at a time sends its message, and the TAP answers by its
instruction. -/
theorem endpointAndTap : Obligations.EndpointAndTap := ⟨endpointReset, interruptMessages, tapInstructions⟩

end Sys2Proof.Machine
end

section
/-! ## The frame `Steady`: what changes of mode, of a reference and of power leave of the twin, the straps and sensors, and some fields -/

namespace Sys2Proof.Machine

-- The many short proofs are elaborated one after another: at once, each takes a thread with a stack of its own.
set_option Elab.async false

variable {s₀ s : State}

/-- The fields that nothing within this frame writes: `CLK_STAT`, what `TW_STAT` shows of the paths, `GLB_ISRC.THERM` and `HALT_CAUSE`. -/
def watched : List Fld := [⟨A.CLK_STAT, 0, 32⟩, R.TW_STAT_LINK, R.TW_STAT_PINS, R.GLB_ISRC_THERM, R.GLB_MODE_HALT_CAUSE]

/-- The field shares no bit with a watched one. -/
abbrev Unwatched (g : Fld) : Prop :=
  g.lo + g.width ≤ 32 ∧ ∀ f ∈ watched, f.addr ≠ g.addr ∨ g.lo + g.width ≤ f.lo ∨ f.lo + f.width ≤ g.lo

/-- What the end of a run or of following leaves of the twin: all but the unit's own claims, waits and offsets of those. -/
def Twin.lasting (T : Twin) : Twin :=
  { T with near := none, theta := [], prov := 0, provLink := none, provPins := none, revHeard := false, revReq := false, revHold := none, revWait := none }

/-- The device as it stands but for the instant of entry to the forwarding modes. -/
def Sys.lasting (x : Sys) : Sys := { x with fwdSince := none }

/-- The role, the twin as it was heard and judged, the device's own conditions, and the watched fields are as they were. -/
structure Steady (s₀ s : State) : Prop where
  role : s.role = s₀.role
  sys : s.sys.lasting = s₀.sys.lasting
  twin : s.twin.lasting = s₀.twin.lasting
  fields : ∀ f ∈ watched, s.rd f = s₀.rd f

theorem Steady.refl (s : State) : Steady s s := ⟨rfl, rfl, rfl, fun _ _ => rfl⟩

theorem Steady.trans {t : State} (h : Steady s₀ s) (k : Steady s t) : Steady s₀ t :=
  ⟨k.role.trans h.role, k.sys.trans h.sys, k.twin.trans h.twin, fun f hf => (k.fields f hf).trans (h.fields f hf)⟩

/-- Any part outside the frame is set. -/
theorem Steady.parts
    {mode : Mode} {clk : Clk} {clfAges : Store ClfAge} {prv : Prv} {pcie : Pcie} {bus : Bus} {orbit : Orbit} {domains : Store Domain}
    {engines : Store Engine} {touts : Store Tout} {tins : Store Tin} {links : Store Link} {tdcs : Store TdcChan} {cals : Store (Option CalRun)}
    {ivls : Store Ivl} {trackers : Store Tracker} {power : Power} {hub : Hub} {voqs : Store Voq} {accts : Store Acct} {inters : Store Inter}
    {egrFull : List Nat} {wires : Store (List Cell)} {reasms : Store Reasm} {egrQs : Store EgrQ} {egresses : Store Egress} {refs : Store Ref}
    {cands : Store Cand} {out : List Out} {freeCount : Nat} :
    Steady s
      { s with
        mode := mode, clk := clk, clfAges := clfAges, prv := prv, pcie := pcie, bus := bus, orbit := orbit, domains := domains, engines := engines,
        touts := touts, tins := tins, links := links, tdcs := tdcs, cals := cals, ivls := ivls, trackers := trackers, power := power, hub := hub,
        voqs := voqs, accts := accts, inters := inters, egrFull := egrFull, wires := wires, reasms := reasms, egrQs := egrQs,
        egresses := egresses, refs := refs, cands := cands, out := out, freeCount := freeCount } :=
  ⟨rfl, rfl, rfl, fun _ _ => rfl⟩

theorem Steady.upd {t : State} (h : Steady s₀ s) (k : Steady s t := by exact .parts) : Steady s₀ t := h.trans k

/-- A mode is entered, from which on the forwarding modes may count. -/
theorem Steady.setMode {m : Mode} {since : Option Nat} (h : Steady s₀ s) :
    Steady s₀ { s with mode := m, sys := { s.sys with fwdSince := since } } := h.trans ⟨rfl, rfl, rfl, fun _ _ => rfl⟩

/-- A proving run and what the twin holds for it are set. -/
theorem Steady.setTwin {P : Prv} {T : Twin} (h : Steady s₀ s) (hT : T.lasting = s.twin.lasting := by rfl) :
    Steady s₀ { s with prv := P, twin := T } := h.trans ⟨rfl, rfl, hT, fun _ _ => rfl⟩

theorem Steady.setReg {a : Nat} {w : Word} (h : Steady s₀ s) (ha : ∀ f ∈ watched, f.addr ≠ a := by decide) : Steady s₀ (s.setReg a w) where
  role := h.role
  sys := h.sys
  twin := h.twin
  fields f hf := by
    rw [← h.fields f hf]
    unfold State.rd
    rw [State.reg_setReg_ne s (ha f hf)]

theorem Steady.wr {g : Fld} {v : Nat} (h : Steady s₀ s) (hg : Unwatched g := by decide) : Steady s₀ (s.wr g v) where
  role := h.role
  sys := h.sys
  twin := h.twin
  fields f hf := by
    rw [← h.fields f hf]
    obtain ⟨hw, hapart⟩ := hg
    by_cases ha : f.addr = g.addr
    · exact State.rd_wr_disjoint s ha hw ((hapart f hf).resolve_left (not_not_intro ha)) v
    · exact State.rd_wr_ne s ha v

theorem Steady.setBit {g : Fld} {b : Bool} (h : Steady s₀ s) (hg : Unwatched g := by decide) : Steady s₀ (s.setBit g b) := h.wr hg

theorem Steady.ite {c : Prop} {i : Decidable c} {t u : State} (ht : Steady s₀ t) (hu : Steady s₀ u) : Steady s₀ (if c then t else u) := by
  split
  · exact ht
  · exact hu

theorem Steady.foldl {α : Type} {f : State → α → State} {l : List α} (h : Steady s₀ s) (hf : ∀ u, ∀ x ∈ l, Steady s₀ u → Steady s₀ (f u x)) :
    Steady s₀ (l.foldl f s) := by
  induction l generalizing s with
  | nil => exact h
  | cons x l ih => exact ih (hf s x List.mem_cons_self h) fun u y hy => hf u y (List.mem_cons_of_mem x hy)

theorem Steady.ite_fst {α : Type} {c : Prop} {i : Decidable c} {p q : State × α} (hp : Steady s₀ p.1) (hq : Steady s₀ q.1) :
    Steady s₀ (if c then p else q).1 := by
  split
  · exact hp
  · exact hq

theorem Steady.fst {α : Type} {a : α} (h : Steady s₀ s) : Steady s₀ (s, a).1 := h

theorem Steady.of_fst {α : Type} {p : State × α} {a : α} (h : Steady s₀ p.1) (e : p = (s, a)) : Steady s₀ s := by
  rw [e] at h
  exact h

/-! ### Fields that are not watched -/

/-- A field of an array of registers, no watched one of which has its place in the stride. -/
theorem Unwatched.array {b n d lo w : Nat} (hw : lo + w ≤ 32 := by decide) (h : ∀ f ∈ watched, f.addr < b ∨ f.addr % n ≠ b % n := by decide) :
    Unwatched ⟨b + n * d, lo, w⟩ := by
  refine ⟨hw, fun f hf => .inl fun he => ?_⟩
  rcases h f hf with hlt | hne
  · exact absurd he (Nat.ne_of_lt (Nat.lt_of_lt_of_le hlt (Nat.le_add_right b _)))
  · exact hne (by rw [he, Nat.add_mul_mod_self_left])

/-- The same of an array of two indices. -/
theorem Unwatched.array2 {b m n c d lo w : Nat} (hw : lo + w ≤ 32 := by decide) (hn : n ∣ m := by decide)
    (h : ∀ f ∈ watched, f.addr < b ∨ f.addr % n ≠ b % n := by decide) : Unwatched ⟨b + m * c + n * d, lo, w⟩ := by
  obtain ⟨k, rfl⟩ := hn
  have he : b + n * k * c + n * d = b + n * (k * c + d) := by ring
  rw [he]
  exact .array hw h

/-- Where the watched fields stand: in the global block, or at offset 4 of a page. -/
theorem addr_of_watched {f : Fld} (hf : f ∈ watched) : f.addr ≤ 0x60 ∨ f.addr % 0x100 = 4 ∧ f.addr < 0x8000000 := by
  revert f
  decide

theorem unwatched_pbaFld (v : Nat) : Unwatched (pbaFld v) := by
  simp only [Unwatched, pbaFld]
  refine ⟨by omega, fun f hf => .inl ?_⟩
  have := addr_of_watched hf
  omega

theorem unwatched_fineLock (p : Nat) : Unwatched (R.PTP_PSTAT_FINE_LOCK p) := by
  simp only [Unwatched, R.PTP_PSTAT_FINE_LOCK, portOff]
  refine ⟨by omega, fun f hf => .inl ?_⟩
  have := addr_of_watched hf
  omega

theorem unwatched_followBit {d : Nat} (hd : d < 8) : Unwatched (followBit d) := by
  have hbelow : ∀ f ∈ watched, f.addr ≠ A.TW_STAT ∨ f.lo + f.width ≤ 16 := by decide
  simp only [Unwatched, followBit]
  refine ⟨by omega, fun f hf => (hbelow f hf).imp_right fun h => .inr (by omega)⟩

/-- A counter of one word, of which no bit is watched. -/
structure Ctr.Unwatched (c : Ctr) : Prop where
  lo : Machine.Unwatched c.lo
  hiBits : c.hiBits = 0
  sticky : Machine.Unwatched c.sticky

theorem evlLost_unwatched : Ctr.evlLost.Unwatched := ⟨by decide, rfl, by decide⟩
theorem smpLost_unwatched : Ctr.smpLost.Unwatched := ⟨by decide, rfl, by decide⟩
theorem refSwitches_unwatched (d : Nat) : (Ctr.refSwitches d).Unwatched := ⟨.array, rfl, .array⟩

/-- The counter of the frames that port p loses in reception. -/
theorem rxLost_unwatched (p : Nat) : (Ctr.port p 0x3D).Unwatched := by
  refine ⟨?_, rfl, ?_⟩ <;>
  · simp only [Machine.Unwatched, Ctr.port, portCtrAddr]
    refine ⟨by omega, fun f hf => .inl ?_⟩
    have := addr_of_watched hf
    omega

/-! ### Lines, counters, the log and modes -/

theorem Steady.emit {o : Out} (h : Steady s₀ s) : Steady s₀ (s.emit o) := h.upd

theorem Steady.deliver {v : Nat} (h : Steady s₀ s) : Steady s₀ (s.deliver v) :=
  .ite h (.ite (h.setBit (unwatched_pbaFld v)) (h.setBit (unwatched_pbaFld v)).emit)

theorem Steady.syncVec {v : Nat} (h : Steady s₀ s) : Steady s₀ (s.syncVec v) :=
  .ite (.ite h h.upd.deliver) (.ite (h.upd.setBit (unwatched_pbaFld v)) h)

theorem Steady.setCtr {c : Ctr} {v : Nat} (h : Steady s₀ s) (hc : c.Unwatched) : Steady s₀ (s.setCtr c v) := by
  unfold State.setCtr
  rw [if_pos hc.hiBits]
  exact h.wr hc.lo

theorem Steady.overflowed {c : Ctr} (h : Steady s₀ s) (hc : c.Unwatched) : Steady s₀ (s.overflowed c) :=
  .ite (h.setBit hc.sticky).setBit.syncVec (h.setBit hc.sticky)

theorem Steady.countBy {c : Ctr} {n : Nat} (h : Steady s₀ s) (hc : c.Unwatched) : Steady s₀ (s.countBy c n) := by
  unfold State.countBy
  extract_lets v
  split
  · exact h
  · split
    · exact .ite h (.ite ((h.setCtr hc).overflowed hc) (h.setCtr hc))
    · exact .ite ((h.setCtr hc).overflowed hc) (h.setCtr hc)

theorem Steady.count {c : Ctr} (h : Steady s₀ s) (hc : c.Unwatched) : Steady s₀ (s.count c) := h.countBy hc

/-- Words are stored where no watched field stands. -/
theorem Steady.setWords {a : Nat} {ws : List Word} (h : Steady s₀ s) (ha : ∀ f ∈ watched, f.addr < a ∨ a + 4 * ws.length ≤ f.addr) :
    Steady s₀ (s.setWords a ws) := by
  induction ws generalizing s a with
  | nil => exact h
  | cons w ws ih =>
    simp only [List.length_cons] at ha
    exact ih (h.setReg fun f hf => by have := ha f hf; omega) fun f hf => by have := ha f hf; omega

theorem evlWords_length (s : State) (idx code src sev : Nat) (int : Bool) (p0 p1 : Nat) : (evlWords s idx code src sev int p0 p1).length = 8 := rfl

/-- The log lies apart from the watched fields. -/
theorem evl_apart_of_watched {f : Fld} (hf : f ∈ watched) (i : Nat) : f.addr < evlAddr i 0 ∨ evlAddr i 0 + 4 * 8 ≤ f.addr := by
  have hapart : f.addr < 0x20000 ∨ 0x40000 ≤ f.addr := by
    revert f
    decide
  unfold evlAddr
  omega

/-- The words of an entry are stored in its place. -/
theorem Steady.logWords {i idx code src sev : Nat} {int : Bool} {p0 p1 : Nat} (h : Steady s₀ s) :
    Steady s₀ (s.setWords (evlAddr i 0) (evlWords s idx code src sev int p0 p1)) :=
  h.setWords fun f hf => by
    rw [evlWords_length]
    exact evl_apart_of_watched hf i

theorem Steady.logAs {src sev : Nat} {int : Bool} {code p0 p1 : Nat} (h : Steady s₀ s) : Steady s₀ (s.logAs src sev int code p0 p1) := by
  unfold State.logAs
  extract_lets i unread s1 s2
  have h1 : Steady s₀ s1 := h.logWords
  have h2 : Steady s₀ s2 := .ite (h1.count evlLost_unwatched).wr h1
  exact h2.wr

theorem Steady.log {code p0 p1 : Nat} (h : Steady s₀ s) : Steady s₀ (s.log code p0 p1) := h.logAs

theorem Steady.toMode {m : Mode} {cause detail : Nat} (h : Steady s₀ s) : Steady s₀ (s.toMode m cause detail) := by
  unfold State.toMode
  extract_lets s1 since
  have h1 : Steady s₀ s1 := h.log
  clear_value s1 since
  exact .ite h h1.setMode.setBit.syncVec

/-! ### What ends with a mode -/

theorem Steady.prvAbort (h : Steady s₀ s) : Steady s₀ s.prvAbort := by
  unfold State.prvAbort
  extract_lets u s1 T wait s2
  have h1 : Steady s₀ s1 := h.wr.setBit.setBit
  have h2 : Steady s₀ s2 := h1.setTwin
  exact .ite h.upd h2.log

theorem Steady.unfollow (h : Steady s₀ s) : Steady s₀ s.unfollow := by
  have h1 : Steady s₀ ((s.wr R.TW_STAT_FOLLOWING 0).setBit R.TW_STAT_ALIGNED false) := h.wr.setBit
  exact h1.setTwin

theorem Steady.leaveFwd (h : Steady s₀ s) : Steady s₀ s.leaveFwd := h.prvAbort.unfollow.upd
theorem Steady.octExit {o : Nat} (h : Steady s₀ s) : Steady s₀ (s.octExit o) := .ite (.ite h.upd.setBit h.upd) h

theorem Steady.unpark {bits : Nat} (h : Steady s₀ s) : Steady s₀ (s.unpark bits) := by
  unfold State.unpark
  extract_lets s1 s2 u s3
  have h1 : Steady s₀ s1 := h.setReg
  have h2 : Steady s₀ s2 := h1.setBit.setBit
  have h3 : Steady s₀ s3 := h2.upd
  exact .ite h (h3.foldl fun _ _ _ hu => .ite hu.octExit hu).syncVec

theorem Steady.wake {bits : Nat} (h : Steady s₀ s) : Steady s₀ (s.wake bits) := .ite h h.unpark.toMode

theorem Steady.setEng {e : Nat} {x : Engine} (h : Steady s₀ s) : Steady s₀ (s.setEng e x) := h.upd

theorem Steady.putSample {words : List Word} (h : Steady s₀ s) : Steady s₀ (s.putSample words) :=
  .ite h (.ite (h.count smpLost_unwatched) h.wr.emit)

theorem Steady.sampleAct {e : Nat} {a : Act} {disc : Option Nat} {actual : Int} (h : Steady s₀ s) : Steady s₀ (s.sampleAct e a disc actual) := by
  unfold State.sampleAct
  extract_lets u
  split
  · exact h
  · exact h.setEng.putSample

theorem Steady.sampleDiscard {e cause : Nat} {as : List Act} (h : Steady s₀ s) : Steady s₀ (s.sampleDiscard e cause as) :=
  h.foldl fun _ _ _ hu => hu.sampleAct

theorem Steady.stopEngine {e : Nat} (h : Steady s₀ s) : Steady s₀ (s.stopEngine e) := h.sampleDiscard.setEng
theorem Steady.stopEngines (h : Steady s₀ s) : Steady s₀ s.stopEngines := h.foldl fun _ _ _ hu => hu.stopEngine

/-! ### Calibration -/

theorem Steady.setCal {g : Nat} {x : Option CalRun} (h : Steady s₀ s) : Steady s₀ (s.setCal g x) := h.upd
theorem Steady.calAsk {g : Nat} (h : Steady s₀ s) : Steady s₀ (s.calAsk g) := .ite h.upd h
theorem Steady.calPend {c : Nat} (h : Steady s₀ s) : Steady s₀ (s.calPend c) := .ite h (h.setBit .array).calAsk
theorem Steady.calScan {k : Nat} (h : Steady s₀ s) : Steady s₀ (s.calScan k) := h.foldl fun _ _ _ hu => .ite hu.calPend hu

theorem Steady.handBack {g c : Nat} (h : Steady s₀ s) : Steady s₀ (s.handBack g c) :=
  .ite (((h.wr .array).wr .array).wr .array) h

theorem Steady.calEnd {g : Nat} (h : Steady s₀ s) : Steady s₀ (s.calEnd g) := by
  unfold State.calEnd
  split
  · exact h
  next r _ =>
    extract_lets s1 s2
    have h1 : Steady s₀ s1 := h.handBack.setCal.setBit .array
    have h2 : Steady s₀ s2 := h1.wr
    exact h2.upd.calAsk

theorem Steady.calLinkLost {c : Nat} (h : Steady s₀ s) : Steady s₀ (s.calLinkLost c) := by
  unfold State.calLinkLost
  split
  · exact .ite h.calEnd h
  · exact h

theorem Steady.calAbortAll (h : Steady s₀ s) : Steady s₀ s.calAbortAll := h.foldl fun _ _ _ hu => hu.calEnd

theorem Steady.setLink {p : Nat} {x : Link} (h : Steady s₀ s) : Steady s₀ (s.setLink p x) := h.upd
theorem Steady.setEgr {p : Nat} {x : Egress} (h : Steady s₀ s) : Steady s₀ (s.setEgr p x) := h.upd
theorem Steady.setTracker {p : Nat} {x : Tracker} (h : Steady s₀ s) : Steady s₀ (s.setTracker p x) := h.upd
theorem Steady.trackerReset {p : Nat} (h : Steady s₀ s) : Steady s₀ (s.trackerReset p) := h.setTracker.setBit (unwatched_fineLock p)

theorem Steady.portOff {p : Nat} (h : Steady s₀ s) : Steady s₀ (s.portOff p) :=
  (Steady.ite (h.count (rxLost_unwatched p)) h).setLink.trackerReset.setEgr.calLinkLost

theorem Steady.dropFrames (h : Steady s₀ s) : Steady s₀ s.dropFrames := by
  unfold State.dropFrames
  extract_lets s1
  have h1 : Steady s₀ s1 := h.foldl fun _ _ _ hu => hu.portOff
  exact h1.upd

end Sys2Proof.Machine
end

section
/-! ## Steady: references, following and what is heard of proving -/

namespace Sys2Proof.Machine

-- The many short proofs are elaborated one after another: at once, each takes a thread with a stack of its own.
set_option Elab.async false

variable {s₀ s : State}

/-! ### References -/

theorem Steady.setDom {d : Nat} {x : Domain} (h : Steady s₀ s) : Steady s₀ (s.setDom d x) := h.upd
theorem Steady.setRef {d : Nat} {x : Ref} (h : Steady s₀ s) : Steady s₀ (s.setRef d x) := h.upd
theorem Steady.setCand {d k : Nat} {x : Cand} (h : Steady s₀ s) : Steady s₀ (s.setCand d k x) := h.upd
theorem Steady.setRate {d : Nat} {r : Int} (h : Steady s₀ s) : Steady s₀ (s.setRate d r) := .ite h.setDom (h.setDom.setBit .array)
theorem Steady.requalify {d : Nat} (h : Steady s₀ s) : Steady s₀ (s.requalify d) := .ite h.setDom h

theorem Steady.candTo {d k st : Nat} (h : Steady s₀ s) : Steady s₀ (s.candTo d k st) := by
  unfold State.candTo
  extract_lets s1 u
  have h1 : Steady s₀ s1 := h.wr .array2
  have hfail : ∀ g, Unwatched g → Steady s₀ (((s1.setBit g true).setBit (R.REF_DHIST_CAND_FAIL d) true).syncVec (24 + d)) := fun g hg =>
    ((h1.setBit hg).setBit .array).syncVec
  split
  · exact h
  · split
    · exact h1.setCand
    · exact (h1.setBit .array2).setCand
    · exact h1.setCand
    · exact hfail _ .array2
    · exact hfail _ .array2
    · exact (h1.setBit .array2).setCand
    · exact h1

theorem Steady.domState {d : Nat} {t : TState} {cause detail : Nat} (h : Steady s₀ s) : Steady s₀ (s.domState d t cause detail) := by
  unfold State.domState
  extract_lets D R s1
  have h1 : Steady s₀ s1 := h.setDom.setRef
  exact .ite h1.toMode (.ite h1.prvAbort.toMode h1)

theorem Steady.deselect {d : Nat} (h : Steady s₀ s) : Steady s₀ (s.deselect d) := by
  unfold State.deselect
  extract_lets s1
  have h1 : Steady s₀ s1 := ((h.setBit .array).setBit .array).wr .array
  split
  · exact h.setBit .array
  · exact (Steady.ite h1.candTo h1).setRef

theorem Steady.enterHoldover {d cause detail : Nat} {compute keep : Bool} (h : Steady s₀ s) :
    Steady s₀ (s.enterHoldover d cause detail compute keep) := by
  unfold State.enterHoldover
  extract_lets held w valid rate s1 u s2 unq u' s3 s4 s5 h' s6
  have h1 : Steady s₀ s1 := .domState (.ite h h.deselect)
  have h2 : Steady s₀ s2 := h1.setRef
  clear_value s2
  have h3 : Steady s₀ s3 := h2.setDom
  have h4 : Steady s₀ s4 := h3.setBit .array
  have h5 : Steady s₀ s5 := .ite (h4.setBit .array) h4
  have h6 : Steady s₀ s6 := .ite h5 (((h5.setRate.wr .array).wr .array).wr .array)
  exact h6.syncVec

theorem Steady.loseRef {d cause detail : Nat} (h : Steady s₀ s) : Steady s₀ (s.loseRef d cause detail) := by
  unfold State.loseRef
  split
  · exact h.enterHoldover
  · exact .ite h.enterHoldover h.deselect.domState
  · exact h.deselect
  · exact h.deselect

theorem Steady.adjust {d : Nat} {δ : Int} (h : Steady s₀ s) : Steady s₀ (s.adjust d δ).1 :=
  .ite_fst h.fst <|
  .ite_fst h.setDom.fst (.ite_fst h.setDom.fst (h.setBit .array).syncVec.fst)

theorem Steady.request {d k : Nat} {δ : Int} (h : Steady s₀ s) : Steady s₀ (s.request d k δ).1 := by
  unfold State.request
  split
  next hp => exact (h.adjust.of_fst hp).candTo.fst
  next hp => exact (h.adjust.of_fst hp).fst

theorem Steady.follow {d k : Nat} (h : Steady s₀ s) : Steady s₀ (s.follow d k) := by
  unfold State.follow
  extract_lets old s1 s2 s3
  have h1 : Steady s₀ s1 := by
    unfold s1
    split
    · exact .ite h.candTo h
    · exact h
  have h2 : Steady s₀ s2 := ((h1.setBit .array).wr .array).candTo.setBit .array2
  have h3 : Steady s₀ s3 := ((h2.setBit .array).count (refSwitches_unwatched d)).log
  exact .ite h h3.syncVec

theorem Steady.selectCand {d k : Nat} {force : Bool} (h : Steady s₀ s) : Steady s₀ (s.selectCand d k force).1 := by
  unfold State.selectCand
  extract_lets zero s1 u s2 a b s1' s2' D u' a' b'
  have h1 : Steady s₀ s1 := .domState (.ite h.follow.setCand h.follow)
  have h2 : Steady s₀ s2 := h1.setRef.setRef
  have h1' : Steady s₀ s1' := .ite h.follow.setCand h.follow
  have h2' : Steady s₀ s2' := .ite h1'.domState h1'
  clear_value s2'
  split
  · exact .ite_fst h2.fst h2.request
  · exact .ite_fst h2.fst h2.request
  · exact .ite_fst h2'.setRef.setDom.fst h2'.setRef.request
  · exact .ite_fst h2'.setRef.setDom.fst h2'.setRef.request

/-! ### Following -/

theorem Steady.startFollow {d : Nat} (hd : d < 8) (h : Steady s₀ s) : Steady s₀ (s.startFollow d) := by
  unfold State.startFollow
  extract_lets s1 u s2
  have h1 : Steady s₀ s1 := h.deselect.setBit (unwatched_followBit hd)
  have h2 : Steady s₀ s2 := h1.setRef
  split
  · exact h2.domState
  · exact h2.domState
  · exact h2
  · exact h2

theorem Steady.stopFollow {d : Nat} (hd : d < 8) (h : Steady s₀ s) : Steady s₀ (s.stopFollow d) := by
  unfold State.stopFollow
  extract_lets k s1 u u' s2 s3 u''
  have h1 : Steady s₀ s1 := h.setBit (unwatched_followBit hd)
  have hu : Steady s₀ u := h1.setBit
  have h2 : Steady s₀ s2 := .ite hu.setTwin h1
  have h3 : Steady s₀ s3 := by
    unfold s3
    split
    · exact h2.selectCand
    · exact h2.loseRef
  exact h3.setTwin

theorem Steady.refollow (h : Steady s₀ s) : Steady s₀ s.refollow := by
  unfold State.refollow
  refine .foldl h fun _ d hd hu => ?_
  have hd := List.mem_range.mp hd
  exact .ite (.ite hu (hu.stopFollow hd)) (.ite (hu.startFollow hd) hu)

/-! ### Proving, as it is asked for and heard -/

theorem unwatched_twHist {k : Nat} (hk : k < 32) : Unwatched ⟨A.TW_HIST, k, 1⟩ := by
  have hne : ∀ f ∈ watched, f.addr ≠ A.TW_HIST := by decide
  exact ⟨hk, fun f hf => .inl (hne f hf)⟩

theorem Steady.twHist {k : Nat} (h : Steady s₀ s) (hk : k < 32 := by decide) : Steady s₀ (s.twHist k) := (h.setBit (unwatched_twHist hk)).syncVec

theorem Steady.prvAsk {plan cause detail : Nat} {revert : Bool} (h : Steady s₀ s) : Steady s₀ (s.prvAsk plan cause detail revert) := h.upd.wake

theorem Steady.revertAsk (h : Steady s₀ s) : Steady s₀ s.revertAsk := by
  unfold State.revertAsk
  extract_lets T rested
  have h1 : Steady s₀ { s with twin := { T with revReq := true, revWait := none } } := h.setTwin
  exact .ite h1.prvAsk h

theorem Steady.claimMeet (h : Steady s₀ s) : Steady s₀ s.claimMeet := .ite h h.setTwin

theorem Steady.provHear {pins : Bool} {c : Option Nat} (h : Steady s₀ s) : Steady s₀ (s.provHear pins c) := by
  unfold State.provHear
  extract_lets T s1 P P1
  have h1 : Steady s₀ s1 := h.setTwin (by cases pins <;> rfl)
  exact .ite h1 h1.upd

theorem Steady.revHear {req : Bool} (h : Steady s₀ s) : Steady s₀ (s.revHear req) := by
  unfold State.revHear
  extract_lets was u s1
  have h1 : Steady s₀ s1 := h.setTwin
  exact .ite h1 (.ite h1.twHist (.ite h1.prvAsk h1))

end Sys2Proof.Machine
end

section
/-! ## Heat (R42, R46, R355) -/

namespace Sys2Proof.Machine

variable {s₀ s : State}

/-! ### What a steady state reads -/

theorem Steady.bit {f : Fld} (h : Steady s₀ s) (hf : f ∈ watched) : s.bit f = s₀.bit f := by
  unfold State.bit
  rw [h.fields f hf]

theorem Steady.alarm (h : Steady s₀ s) : s.sys.alarm = s₀.sys.alarm := (congrArg Sys.alarm h.sys :)
theorem Steady.temp (h : Steady s₀ s) (k : Nat) : s.temp k = s₀.temp k :=
  (congrArg (fun x => storeGet (fun _ => 0) (Sys.temps x) k) h.sys :)

/-! ### The mode -/

theorem OnlyBus.mode {s t : State} (h : OnlyBus s t) : t.mode = s.mode := by
  obtain ⟨r, p, o, rfl⟩ := h
  rfl

theorem toMode_mode (s : State) (m : Mode) (cause detail : Nat) : (s.toMode m cause detail).mode = m := by
  rcases s.toMode_cases m cause detail with ⟨hm, ht⟩ | ⟨-, since, r, p, o, ht⟩
  · rw [ht, hm]
  · rw [ht]

theorem raiseAlarm_mode (s : State) : s.raiseAlarm.mode = s.mode := (OnlyBus.syncVec _ 3).mode

theorem calPend_mode (s : State) (c : Nat) : (s.calPend c).mode = s.mode := by
  unfold State.calPend State.calAsk
  split
  · rfl
  · split <;> rfl

theorem calScan_mode (s : State) (k : Nat) : (s.calScan k).mode = s.mode := by
  refine List.foldlRecOn (motive := fun u : State => u.mode = s.mode) _ _ rfl fun u hu c _ => ?_
  split
  · exact (calPend_mode u c).trans hu
  · exact hu

/-! ### A reading of a die sensor (R42) -/

/-- What a reading does but for the trip at 112 °C: the alarm, its entry in the log, and the channels that it makes pending. -/
def State.afterReading (s : State) (k : Nat) (x : Int) : State :=
  let s1 := s.setTemp k x
  let s2 := if x < 400 || s1.sys.alarm then s1 else s1.raiseAlarm
  (if x < 448 && (x < 400 || s1.sys.alarm) then s2 else s2.log 0x0E k x.toNat).calScan k

/-- From 112 °C a reading enters HALT, or is noted there; below, nothing more. -/
theorem sense_eq (s : State) (k : Nat) (x : Int) :
    s.sense k x = if x < 448 then s.afterReading k x
      else if (s.afterReading k x).mode = .halt then { s.afterReading k x with sys := { (s.afterReading k x).sys with hot := true } }
      else (s.afterReading k x).toHalt 1 0x1F k := rfl

theorem afterReading_mode (s : State) (k : Nat) (x : Int) : (s.afterReading k x).mode = s.mode := by
  unfold State.afterReading
  extract_lets s1 s2
  have h2 : s2.mode = s.mode := by
    unfold s2
    split
    · rfl
    · exact raiseAlarm_mode s1
  rw [calScan_mode]
  split
  · exact h2
  · exact (OnlyBus.log _ _ _ _).mode.trans h2

/-- Below 100 °C a reading is taken, and raises nothing. -/
theorem afterReading_of_cool {k : Nat} {x : Int} (hx : x < 400) : s.afterReading k x = (s.setTemp k x).calScan k := by
  have hx' : x < 448 := by omega
  simp [State.afterReading, hx, hx']

/-- From 100 °C the alarm stands, and the interrupt's bit where the alarm is new. -/
theorem afterReading_of_warm {k : Nat} {x : Int} (hx : 400 ≤ x) :
    (s.afterReading k x).sys.alarm = true ∧ (s.sys.alarm = false → (s.afterReading k x).bit R.GLB_ISRC_THERM = true) := by
  unfold State.afterReading
  extract_lets s1 s2
  have hsteady : Steady s2 ((if x < 448 && (x < 400 || s1.sys.alarm) then s2 else s2.log 0x0E k x.toNat).calScan k) :=
    .calScan (.ite (.refl s2) (Steady.refl s2).log)
  rw [hsteady.alarm, hsteady.bit (by decide)]
  have hcool : decide (x < 400) = false := decide_eq_false (by omega)
  unfold s2
  rw [hcool, Bool.false_or]
  by_cases ha : s1.sys.alarm = true
  · rw [if_pos ha]
    exact ⟨ha, fun h => absurd (h.symm.trans ha) Bool.false_ne_true⟩
  · rw [if_neg ha]
    have hraised : Steady (State.setBit { s1 with sys := { s1.sys with alarm := true } } R.GLB_ISRC_THERM true) s1.raiseAlarm := (Steady.refl _).syncVec
    exact ⟨hraised.alarm, fun _ => (hraised.bit (by decide)).trans (State.bit_setBit_same _ _ rfl (by decide) true)⟩

/-! ### HALT -/

/-- HALT is entered with its cause; the alarm stays as it is, and the device is hot where heat is the cause. -/
theorem toHalt_enters {haltCause cause detail : Nat} (hm : s.mode ≠ .halt) (hc : haltCause < 16) :
    (s.toHalt haltCause cause detail).mode = .halt ∧ (s.toHalt haltCause cause detail).rd R.GLB_MODE_HALT_CAUSE = haltCause ∧
      (s.toHalt haltCause cause detail).sys.alarm = s.sys.alarm ∧ (s.toHalt haltCause cause detail).sys.hot = decide (haltCause = 1) := by
  unfold State.toHalt
  rw [if_neg hm]
  extract_lets s1 u s2
  have h1 : Steady s s1 := (Steady.refl s).leaveFwd.unpark.stopEngines.dropFrames.calAbortAll
  clear_value s1
  have h2 : Steady (s2.wr R.GLB_MODE_HALT_CAUSE haltCause) ((s2.wr R.GLB_MODE_HALT_CAUSE haltCause).toMode .halt cause detail) := (Steady.refl _).toMode
  refine ⟨toMode_mode _ _ _ _, ?_, h2.alarm.trans h1.alarm, (congrArg Sys.hot h2.sys :)⟩
  rw [h2.fields _ (by decide), State.rd_wr_same _ _ (by decide)]
  exact Nat.mod_eq_of_lt hc

/-- A reading from 112 °C leads to HALT, with cause 1 where it was not there already. -/
theorem sense_of_trip {k : Nat} {x : Int} (hx : 448 ≤ x) :
    (s.sense k x).mode = .halt ∧ (s.sense k x).sys.alarm = true ∧ (s.sense k x).sys.hot = true ∧
      (s.mode ≠ .halt → (s.sense k x).rd R.GLB_MODE_HALT_CAUSE = 1) := by
  obtain ⟨halarm, -⟩ := afterReading_of_warm (s := s) (k := k) (x := x) (by omega)
  rw [sense_eq, if_neg (by omega)]
  by_cases hm : (s.afterReading k x).mode = .halt
  · rw [if_pos hm]
    exact ⟨hm, halarm, rfl, fun h => absurd ((afterReading_mode s k x).symm.trans hm) h⟩
  · rw [if_neg hm]
    obtain ⟨hmode, hcause, hkept, hhot⟩ := toHalt_enters (cause := 0x1F) (detail := k) hm (by decide : 1 < 16)
    exact ⟨hmode, hkept.trans halarm, hhot, fun _ => hcause⟩

/-! ### Nine readings (R355) -/

theorem sense_of_cool {k : Nat} {x : Int} (hx : x < 380) :
    (s.sense k x).mode = s.mode ∧ (s.sense k x).temp k = x ∧ ∀ j ≠ k, (s.sense k x).temp j = s.temp j := by
  have hs : s.sense k x = s.afterReading k x := by rw [sense_eq, if_pos (by omega)]
  have htemp : ∀ j, (s.sense k x).temp j = (s.setTemp k x).temp j := by
    intro j
    rw [hs, afterReading_of_cool (by omega)]
    exact (Steady.refl _).calScan.temp j
  refine ⟨hs ▸ afterReading_mode s k x, ?_, ?_⟩
  · rw [htemp]
    exact storeGet_storeSet_same _ _ _ _
  · intro j hj
    rw [htemp]
    exact storeGet_storeSet_ne _ _ hj _

/-- Cool readings one after another leave the mode, and every sensor cool that was read or was cool before. -/
theorem foldl_sense_of_cool {l : List (Int × Nat)} (hl : ∀ x ∈ l, x.1 < 380) :
    (l.foldl (fun s x => s.sense x.2 x.1) s).mode = s.mode ∧
      ∀ k, k ∈ l.map Prod.snd ∨ s.temp k < 380 → (l.foldl (fun s x => s.sense x.2 x.1) s).temp k < 380 := by
  induction l generalizing s with
  | nil => exact ⟨rfl, fun k hk => hk.resolve_left List.not_mem_nil⟩
  | cons x l ih =>
    have hx := hl x List.mem_cons_self
    obtain ⟨hmode, hthis, hother⟩ := sense_of_cool (s := s) (k := x.2) hx
    obtain ⟨ihmode, ihtemp⟩ := ih (s := s.sense x.2 x.1) fun y hy => hl y (List.mem_cons_of_mem x hy)
    refine ⟨ihmode.trans hmode, fun k hk => ihtemp k ?_⟩
    by_cases hkx : k = x.2
    · exact .inr (by rw [hkx, hthis]; exact hx)
    · rw [hother k hkx]
      refine hk.imp_left fun hmem => ?_
      rw [List.map_cons, List.mem_cons] at hmem
      exact hmem.resolve_left hkx

/-- Readings of all nine sensors below 95 °C clear the alarm. -/
theorem thermalAlarmClear_of_cool {ts : List Int} (hlen : ts.length = 9) (hts : ∀ x ∈ ts, x < 380) :
    Answers (.thermalAlarmClear ts) s fun t => t.sys.alarm = false ∧ t.sys.hot = false ∧ t.mode = s.mode := by
  have htake : ts.zipIdx.take 9 = ts.zipIdx := List.take_of_length_le (by rw [List.length_zipIdx, hlen])
  have hcool : ∀ x ∈ ts.zipIdx, x.1 < 380 := fun x hx => hts x.1 (List.fst_mem_of_mem_zipIdx hx)
  obtain ⟨hmode, htemp⟩ := foldl_sense_of_cool (s := s) hcool
  refine ⟨_, rfl, ?_⟩
  rw [htake, if_pos]
  · exact ⟨rfl, rfl, hmode⟩
  · rw [List.all_eq_true]
    intro k hk
    refine decide_eq_true (htemp k (.inl ?_))
    rw [List.zipIdx_map_snd, hlen, ← List.range_eq_range']
    exact hk

theorem heatRules : Rules.HeatRules := by
  intro s
  refine ⟨?_, fun ts hlen hts => thermalAlarmClear_of_cool hlen hts, ?_⟩
  · intro k x hx hbelow
    have hs : s.sense k x = s.afterReading k x := by rw [sense_eq, if_pos hbelow]
    obtain ⟨halarm, htherm⟩ := afterReading_of_warm (s := s) (k := k) hx
    exact ⟨_, congrArg Host.Outcome.next hs, halarm, afterReading_mode s k x, htherm⟩
  · intro k x hx c hc
    rw [List.mem_cons, List.mem_singleton] at hc
    rcases hc with rfl | rfl
    · exact ⟨_, rfl, sense_of_trip hx⟩
    · exact ⟨_, rfl, sense_of_trip hx⟩

end Sys2Proof.Machine
end

section
/-! ## Loss and return of clocks (R35, R51, R339) -/

namespace Sys2Proof.Machine

variable {s₀ s : State}

/-! ### Bits of a register -/

theorem bit_eq_getLsbD (s : State) (a k : Nat) : s.bit ⟨a, k, 1⟩ = (s.reg a).getLsbD k := by
  unfold State.bit State.rd Fld.get BitVec.getLsbD
  rw [Nat.testBit_eq_decide_div_mod_eq, pow_one]
  rfl

theorem getLsbD_setBit_same (s : State) (a : Nat) {k : Nat} (hk : k < 32) (b : Bool) : ((s.setBit ⟨a, k, 1⟩ b).reg a).getLsbD k = b := by
  rw [← bit_eq_getLsbD]
  exact s.bit_setBit_same _ rfl hk b

theorem getLsbD_setBit_ne (s : State) (a : Nat) {j k : Nat} (hk : k < 32) (h : j ≠ k) (b : Bool) :
    ((s.setBit ⟨a, k, 1⟩ b).reg a).getLsbD j = (s.reg a).getLsbD j := by
  rw [← bit_eq_getLsbD, ← bit_eq_getLsbD]
  unfold State.bit State.setBit
  have hrd : (s.wr ⟨a, k, 1⟩ (if b then 1 else 0)).rd ⟨a, j, 1⟩ = s.rd ⟨a, j, 1⟩ := 
    State.rd_wr_disjoint s (f := ⟨a, k, 1⟩) (g := ⟨a, j, 1⟩) rfl hk (by dsimp only; omega) _
  rw [hrd]

theorem Steady.clkStat (h : Steady s₀ s) : s.reg A.CLK_STAT = s₀.reg A.CLK_STAT := by
  have hrd := h.fields ⟨A.CLK_STAT, 0, 32⟩ (by decide)
  unfold State.rd Fld.get at hrd
  simp only [pow_zero, Nat.div_one, Nat.mod_eq_of_lt (BitVec.isLt _)] at hrd
  exact BitVec.eq_of_toNat_eq hrd

theorem Steady.refclkLost (h : Steady s₀ s) : s.sys.refclkLost = s₀.sys.refclkLost := (congrArg Sys.refclkLost h.sys :)

theorem Steady.warm (h : Steady s₀ s) : s.sys.warm = s₀.sys.warm := (congrArg Sys.warm h.sys :)

theorem Steady.refLostDom {d : Nat} (h : Steady s₀ s) : Steady s₀ (s.refLostDom d) := by
  unfold State.refLostDom
  split
  · exact h.enterHoldover
  · exact .ite h.enterHoldover h.deselect.domState
  · exact .ite h (h.setDom.setBit .array).syncVec
  · exact h

theorem Steady.requalCands (h : Steady s₀ s) : Steady s₀ s.requalCands := by
  unfold State.requalCands
  refine .foldl (h.foldl fun _ _ _ hu => .ite hu.deselect.setRef hu) fun _ _ _ hu => ?_
  exact .ite hu (.ite hu.candTo hu.setCand)

/-! ### Timing states of the domains -/

theorem Still.candTo {d k st : Nat} (h : Still s₀ s) : Still s₀ (s.candTo d k st) := by
  unfold State.candTo
  extract_lets s1 u
  have h1 : Still s₀ s1 := h.wr
  split
  · exact h
  · split
    · exact h1.upd
    · exact h1.setBit.upd
    · exact h1.upd
    · exact h1.setBit.setBit.syncVec
    · exact h1.setBit.setBit.syncVec
    · exact h1.setBit.upd
    · exact h1

theorem Still.deselect {d : Nat} (h : Still s₀ s) : Still s₀ (s.deselect d) := by
  unfold State.deselect
  extract_lets s1
  have h1 : Still s₀ s1 := h.setBit.setBit.wr
  split
  · exact h.setBit
  · exact (Still.ite h1.candTo h1).upd

theorem Still.prvAbort (h : Still s₀ s) : Still s₀ s.prvAbort := .ite h.upd h.wr.setBit.setBit.upd.log

/-- Domain d alone has changed, and its timing state is `t`. -/
structure Takes (d : Nat) (t : TState) (s₀ s : State) : Prop where
  own : (s.dom d).tstate = t
  other : ∀ j ≠ d, s.dom j = s₀.dom j

section
variable {d : Nat} {t : TState}

theorem Takes.still {u : State} (h : Takes d t s₀ s) (k : Still s u) : Takes d t s₀ u where
  own := by rw [k.dom, h.own]
  other j hj := k.dom.trans (h.other j hj)

theorem Takes.setDom {x : Domain} (h : Takes d t s₀ s) (hx : x.tstate = t) : Takes d t s₀ (s.setDom d x) where
  own := by rw [State.dom_setDom_same, hx]
  other j hj := (State.dom_setDom_ne s hj x).trans (h.other j hj)

theorem Takes.ite {c : Prop} {i : Decidable c} {u v : State} (hu : Takes d t s₀ u) (hv : Takes d t s₀ v) : Takes d t s₀ (if c then u else v) := by
  split
  · exact hu
  · exact hv

theorem Takes.setRate {r : Int} (h : Takes d t s₀ s) : Takes d t s₀ (s.setRate d r) := by
  have h1 := h.setDom (x := { s.dom d with rateNext := some (clampRate r), rateLog := (s.tb + 1, clampRate r) :: pruneLog s.tb (s.dom d).rateLog }) h.own
  exact .ite h1 (h1.still (Still.refl _).setBit)

/-- The domain takes the timing state, whatever mode follows from it. -/
theorem Still.domState {cause detail : Nat} (h : Still s₀ s) : Takes d t s₀ (s.domState d t cause detail) := by
  unfold State.domState
  extract_lets D R s1
  have h1 : Takes d t s₀ s1 :=
    ⟨by rw [State.setRef_dom, State.dom_setDom_same], fun j hj => (State.dom_setDom_ne s hj _).trans h.dom⟩
  exact .ite (h1.still (Still.refl s1).toMode) (.ite (h1.still (Still.refl s1).prvAbort.toMode) h1)

theorem Still.enterHoldover {cause detail : Nat} {compute keep : Bool} (h : Still s₀ s) :
    Takes d .holdover s₀ (s.enterHoldover d cause detail compute keep) := by
  unfold State.enterHoldover
  extract_lets held w valid rate s1 u s2 unq u' s3 s4 s5 h' s6
  have h1 : Takes d .holdover s₀ s1 := Still.domState (.ite h h.deselect)
  have h2 : Takes d .holdover s₀ s2 := h1.still (Still.refl s1).upd
  clear_value s2
  have h3 : Takes d .holdover s₀ s3 := h2.setDom h2.own
  have h5 : Takes d .holdover s₀ s5 := .ite (h3.still (Still.refl s3).setBit.setBit) (h3.still (Still.refl s3).setBit)
  have h6 : Takes d .holdover s₀ s6 := .ite h5 (h5.setRate.still (Still.refl _).wr.wr.wr)
  exact h6.still (Still.refl s6).syncVec

end

/-! ### The loss of REFCLK in the domains -/

theorem refLostDom_dom_ne {d j : Nat} (h : j ≠ d) : (s.refLostDom d).dom j = s.dom j := by
  unfold State.refLostDom
  split
  · exact (Still.refl s).enterHoldover.other j h
  · split
    · exact (Still.refl s).enterHoldover.other j h
    · exact (Still.domState (Still.refl s).deselect).other j h
  · split
    · rfl
    · exact (Still.refl _).setBit.syncVec.dom.trans (State.dom_setDom_ne s h _)
  · rfl

/-- A LOCKED domain passes to holdover, and one in HOLDOVER stays there. -/
theorem refLostDom_holdover {d : Nat} (h : (s.dom d).tstate = .locked ∨ (s.dom d).tstate = .holdover) :
    ((s.refLostDom d).dom d).tstate = .holdover := by
  unfold State.refLostDom
  rcases h with h | h
  · rw [h]
    exact (Still.refl s).enterHoldover.own
  · rw [h]
    dsimp only
    split
    · exact h
    · rw [(Still.refl (s.setDom d { s.dom d with unqual := true })).setBit.syncVec.dom, State.dom_setDom_same]
      exact h

theorem refLostDom_free {d : Nat} (h : (s.dom d).tstate = .free) : s.refLostDom d = s := by
  unfold State.refLostDom
  rw [h]

theorem foldl_refLostDom_holdover {l : List Nat} {d : Nat} (h : (s.dom d).tstate = .holdover ∨ (s.dom d).tstate = .locked ∧ d ∈ l) :
    ((l.foldl State.refLostDom s).dom d).tstate = .holdover := by
  induction l generalizing s with
  | nil => exact h.resolve_right fun hd => List.not_mem_nil hd.2
  | cons e l ih =>
    refine ih ?_
    by_cases hd : d = e
    · subst hd
      exact .inl (refLostDom_holdover (h.symm.imp_left And.left))
    · rw [refLostDom_dom_ne hd]
      exact h.imp_right fun ⟨hlocked, hmem⟩ => ⟨hlocked, (List.mem_cons.mp hmem).resolve_left hd⟩

theorem foldl_refLostDom_free {l : List Nat} {d : Nat} (h : (s.dom d).tstate = .free) : ((l.foldl State.refLostDom s).dom d).tstate = .free := by
  refine List.foldlRecOn (motive := fun u : State => (u.dom d).tstate = .free) _ _ h fun u hu e _ => ?_
  by_cases hd : d = e
  · subst hd
    rw [refLostDom_free hu, hu]
  · rw [refLostDom_dom_ne hd, hu]

/-! ### The obligation -/

theorem Steady.refLostDoms (h : Steady s₀ s) : Steady s₀ ((List.range 8).foldl State.refLostDom (s.log 0x10 0 0)) :=
  h.log.foldl fun _ _ _ hu => hu.refLostDom

theorem Steady.requalifyAll (h : Steady s₀ s) : Steady s₀ ((List.range 8).foldl State.requalify s) := h.foldl fun _ _ _ hu => hu.requalify

theorem log_dom (s : State) (code p0 p1 d : Nat) : (s.log code p0 p1).dom d = s.dom d := (Still.refl s).log.dom

/-- The device as REFCLK is lost, before the domains act on it. -/
def State.refclkGone (s : State) : State :=
  (({ s with sys := { s.sys with refclkLost := true } } : State).setBit ⟨A.CLK_STAT, 0, 1⟩ false).setBit ⟨A.CLK_STAT, 16, 1⟩ true

/-- The device as REFCLK returns, before the candidates and the domains act on it. -/
def State.refclkBack (s : State) : State :=
  ({ s with sys := { s.sys with refclkLost := false } } : State).setBit ⟨A.CLK_STAT, 0, 1⟩ true

theorem refLost_eq (hm : s.mode ≠ .strap) (hl : s.sys.refclkLost = false) :
    s.refLost = (List.range 8).foldl State.refLostDom (s.refclkGone.log 0x10 0 0) := if_neg (by simp [hm, hl])

theorem refReturn_eq (hl : s.sys.refclkLost = true) :
    s.refReturn = (List.range 8).foldl State.requalify (s.refclkBack.log 0x10 1 0).requalCands := if_neg (by simp [hl])

theorem refclkGone_clkStat (s : State) :
    (s.refclkGone.reg A.CLK_STAT).getLsbD 0 = false ∧ (s.refclkGone.reg A.CLK_STAT).getLsbD 16 = true :=
  ⟨(getLsbD_setBit_ne _ _ (by decide) (by decide) _).trans (getLsbD_setBit_same _ _ (by decide) false), getLsbD_setBit_same _ _ (by decide) true⟩

theorem refclkGone_refclkLost (s : State) : s.refclkGone.sys.refclkLost = true := rfl

theorem refclkGone_dom (s : State) (d : Nat) : s.refclkGone.dom d = s.dom d :=
  ((Still.refl s).upd (t := { s with sys := { s.sys with refclkLost := true } })).setBit.setBit.dom

theorem refclkBack_clkStat (s : State) : (s.refclkBack.reg A.CLK_STAT).getLsbD 0 = true := getLsbD_setBit_same _ _ (by decide) true

theorem refclkBack_refclkLost (s : State) : s.refclkBack.sys.refclkLost = false := rfl

/-- A domain's timing state goes through the logging of the loss and what each domain makes of it. -/
theorem refLostDoms_tstate (s : State) (d : Nat) (hd : d < 8) :
    ((s.dom d).tstate = .locked → (((List.range 8).foldl State.refLostDom (s.log 0x10 0 0)).dom d).tstate = .holdover) ∧
      ((s.dom d).tstate = .free → (((List.range 8).foldl State.refLostDom (s.log 0x10 0 0)).dom d).tstate = .free) :=
  ⟨fun h => foldl_refLostDom_holdover (.inr ⟨by rw [log_dom, h], List.mem_range.mpr hd⟩),
    fun h => foldl_refLostDom_free (by rw [log_dom, h])⟩

theorem refLost_spec (hm : s.mode ≠ .strap) (hl : s.sys.refclkLost = false) :
    s.refLost.sys.refclkLost = true ∧ (s.refLost.reg A.CLK_STAT).getLsbD 0 = false ∧ (s.refLost.reg A.CLK_STAT).getLsbD 16 = true ∧
      (∀ d < 8, (s.dom d).tstate = .locked → (s.refLost.dom d).tstate = .holdover) ∧
      (∀ d < 8, (s.dom d).tstate = .free → (s.refLost.dom d).tstate = .free) := by
  have hsteady : Steady s.refclkGone s.refLost := by
    rw [refLost_eq hm hl]
    exact (Steady.refl _).refLostDoms
  obtain ⟨h0, h16⟩ := refclkGone_clkStat s
  refine ⟨?_, ?_, ?_, fun d hd h => ?_, fun d hd h => ?_⟩
  · rw [hsteady.refclkLost, refclkGone_refclkLost]
  · rw [hsteady.clkStat, h0]
  · rw [hsteady.clkStat, h16]
  · rw [refLost_eq hm hl]
    exact (refLostDoms_tstate s.refclkGone d hd).1 (by rw [refclkGone_dom, h])
  · rw [refLost_eq hm hl]
    exact (refLostDoms_tstate s.refclkGone d hd).2 (by rw [refclkGone_dom, h])

theorem refReturn_spec (hl : s.sys.refclkLost = true) : s.refReturn.sys.refclkLost = false ∧ (s.refReturn.reg A.CLK_STAT).getLsbD 0 = true := by
  have hsteady : Steady s.refclkBack s.refReturn := by
    rw [refReturn_eq hl]
    exact (Steady.refl _).log.requalCands.requalifyAll
  exact ⟨by rw [hsteady.refclkLost, refclkBack_refclkLost], by rw [hsteady.clkStat, refclkBack_clkStat]⟩

/-- Whatever the device is told of REFWARM, the domains' qualification does not change it. -/
theorem requalifyAll_warm (u : State) : ((List.range 8).foldl State.requalify u).sys.warm = u.sys.warm :=
  (Steady.refl u).requalifyAll.warm

theorem pllUnlock_spec {k : Nat} (h0 : 0 < k) (h11 : k < 11) :
    ((s.pllUnlock k).reg A.CLK_STAT).getLsbD k = false ∧ ((s.pllUnlock k).reg A.CLK_STAT).getLsbD (16 + k) = true ∧
      RegsFrame s (s.pllUnlock k) [A.CLK_STAT] ∧ OnlyRegs s (s.pllUnlock k) := by
  unfold State.pllUnlock
  rw [if_neg (by omega), if_neg (by omega)]
  refine ⟨?_, getLsbD_setBit_same _ _ (by omega) true, ?_, (OnlyRegs.setBit _ _ _).trans (OnlyRegs.setBit _ _ _)⟩
  · rw [getLsbD_setBit_ne _ _ (by omega) (by omega)]
    exact getLsbD_setBit_same _ _ (by omega) false
  · intro a ha
    have hne : a ≠ A.CLK_STAT := fun h => ha (List.mem_singleton.mpr h)
    rw [State.reg_setBit_ne _ hne, State.reg_setBit_ne _ hne]

theorem pllRelock_spec {k : Nat} (h0 : 0 < k) (h11 : k < 11) :
    ((s.pllRelock k).reg A.CLK_STAT).getLsbD k = true ∧ RegsFrame s (s.pllRelock k) [A.CLK_STAT] ∧ OnlyRegs s (s.pllRelock k) := by
  unfold State.pllRelock
  rw [if_neg (by omega), if_neg (by omega)]
  refine ⟨getLsbD_setBit_same _ _ (by omega) true, ?_, OnlyRegs.setBit _ _ _⟩
  intro a ha
  exact State.reg_setBit_ne _ (fun h => ha (List.mem_singleton.mpr h)) _

theorem clockLoss : Rules.ClockLoss := by
  intro s
  refine ⟨fun hm hl => ⟨_, rfl, refLost_spec hm hl⟩, fun hl => ⟨_, rfl, refReturn_spec hl⟩, ?_, ?_, ?_⟩
  · intro ho b
    refine ⟨_, congrArg Host.Outcome.next (if_neg (by simp [ho])), ?_⟩
    exact requalifyAll_warm _
  · exact fun ho b => ⟨_, congrArg Host.Outcome.next (if_pos (by simp [ho])), rfl⟩
  · exact fun k h0 h11 => ⟨⟨_, rfl, pllUnlock_spec h0 h11⟩, ⟨_, rfl, pllRelock_spec h0 h11⟩⟩

/-- Settles O20: heat and the clocks act on the device's own conditions and a few fields, which everything that follows from them leaves
(`Steady`), and the loss of REFCLK takes each LOCKED domain to holdover. -/
theorem heatAndClockLoss : Obligations.HeatAndClockLoss := ⟨heatRules, clockLoss⟩

end Sys2Proof.Machine
end

section
/-! ## The twin as it is heard (R37, R310, R312, R313, R316) -/

namespace Sys2Proof.Machine

variable {s₀ s : State}

/-- What has arrived since the last judgement, and the last heartbeat. -/
def Twin.heard (T : Twin) : Nat × Bool × Bool × Option TwHeart := (T.laneHeard, T.heardLink, T.heardPins, T.last)

/-- The role, what has arrived since the last judgement, and what `TW_STAT` shows of the paths are as they were. -/
structure Hears (s₀ s : State) : Prop where
  role : s.role = s₀.role
  heard : s.twin.heard = s₀.twin.heard
  link : s.rd R.TW_STAT_LINK = s₀.rd R.TW_STAT_LINK
  pins : s.bit R.TW_STAT_PINS = s₀.bit R.TW_STAT_PINS

theorem Hears.laneHeard (h : Hears s₀ s) : s.twin.laneHeard = s₀.twin.laneHeard := (congrArg Prod.fst h.heard :)
theorem Hears.heardLink (h : Hears s₀ s) : s.twin.heardLink = s₀.twin.heardLink := (congrArg (·.2.1) h.heard :)
theorem Hears.heardPins (h : Hears s₀ s) : s.twin.heardPins = s₀.twin.heardPins := (congrArg (·.2.2.1) h.heard :)
theorem Hears.last (h : Hears s₀ s) : s.twin.last = s₀.twin.last := (congrArg (·.2.2.2) h.heard :)

theorem Steady.roleNext (h : Steady s₀ s) : s.twin.roleNext = s₀.twin.roleNext := (congrArg Twin.roleNext h.twin :)

theorem Steady.hears (h : Steady s₀ s) : Hears s₀ s where
  role := h.role
  heard := (congrArg Twin.heard h.twin :)
  link := h.fields _ (by decide)
  pins := h.bit (by decide)

theorem Hears.refl (s : State) : Hears s s := (Steady.refl s).hears

theorem Hears.trans {t : State} (h : Hears s₀ s) (k : Hears s t) : Hears s₀ t :=
  ⟨k.role.trans h.role, k.heard.trans h.heard, k.link.trans h.link, k.pins.trans h.pins⟩

theorem Hears.steady {t : State} (h : Hears s₀ s) (k : Steady s t) : Hears s₀ t := h.trans k.hears

/-- A claim, or a wait, changes other parts of the twin. -/
theorem Hears.setTwin {T : Twin} (h : Hears s₀ s) (hT : T.heard = s.twin.heard := by rfl) : Hears s₀ { s with twin := T } :=
  h.trans ⟨rfl, hT, rfl, rfl⟩

/-! ### Claims -/

theorem claimHigher_self (c : Nat) : claimHigher c c = false := by
  simp [claimHigher]

theorem Hears.twinHear {c : Nat} (h : Hears s₀ s) : Hears s₀ (s.twinHear c) := by
  unfold State.twinHear
  extract_lets take gen u s1
  have h1 : Hears s₀ s1 := h.setTwin
  split
  · exact h1.steady (Steady.refl s1).wr.setBit
  · exact h1

theorem Hears.claimHear {c : Nat} (h : Hears s₀ s) : Hears s₀ (s.claimHear c) := by
  unfold State.claimHear
  extract_lets s1 T s2 u
  have h1 : Hears s₀ s1 := h.twinHear
  clear_value s1
  have h2 : Hears s₀ s2 := h1.steady (Steady.refl s1).setBit
  have hu : Hears s₀ u := h2.steady (Steady.refl s2).wr
  split
  · exact h
  · split
    · split
      · exact h1.setTwin
      · exact h1
    · split
      · exact h1.setTwin
      · exact h1
    · split
      · exact hu.setTwin
      · exact h2.setTwin

theorem ownClaim_twinHear (s : State) (c : Nat) : (s.twinHear c).ownClaim = s.ownClaim := by
  unfold State.twinHear State.ownClaim
  extract_lets take gen u s1
  split
  · have hbit : ((s1.wr R.TW_CLAIM_TWIN c).setBit R.TW_STAT_HEARD true).rd R.TW_CLAIM_OWN = (s1.wr R.TW_CLAIM_TWIN c).rd R.TW_CLAIM_OWN :=
      State.rd_wr_ne _ (by decide) _
    exact hbit.trans (State.rd_wr_disjoint s1 (f := R.TW_CLAIM_TWIN) (g := R.TW_CLAIM_OWN) rfl (by decide) (by decide) c)
  · rfl

/-- An ACTIVE that hears a higher claim becomes a Moon at the next Orbit start (R316). -/
theorem roleNext_claimHear {c : Nat} (hr : s.role = .active) (hen : s.bit R.TW_CFG_EN = true) (h0 : c ≠ 0) (hprv : claimPrv c = false)
    (hhigher : claimHigher c s.ownClaim = true) : (s.claimHear c).twin.roleNext = some (.moon (claimGen c) false true) := by
  have hown : c ≠ s.ownClaim := by
    rintro rfl
    rw [claimHigher_self] at hhigher
    exact Bool.false_ne_true hhigher
  have hrole : (s.twinHear c).role = .active := (Hears.refl s).twinHear.role.trans hr
  unfold State.claimHear
  rw [if_neg (by simp [h0, hprv, hown, hen])]
  simp only [hrole]
  rw [ownClaim_twinHear, if_pos hhigher]

/-! ### Heartbeats -/

/-- A heartbeat is noted, and what a Moon compares of it (Table 11-2). -/
def State.heartNoted (s : State) (h : TwHeart) : State :=
  let s1 := { s with twin := { s.twin with heardLink := true, last := some h } }
  if s1.role = .moon && claimAct h.claim.toNat = 1 then
    (s1.setBit R.TW_STAT_GRIDMIS (s1.gridHeart != (h.dom, h.period, h.align))).setBit R.TW_STAT_VERMIS (s1.reg A.GLB_FW != h.fw)
  else s1

/-- After its claim, the rest of a heartbeat is about proving and reverting. -/
theorem steady_heartHear (s : State) (h : TwHeart) : Steady ((s.heartNoted h).claimHear h.claim.toNat) (s.heartHear h) :=
  .revHear (.ite (Steady.refl _).provHear.claimMeet (Steady.refl _).provHear)

theorem steady_heartNoted (s : State) (h : TwHeart) : Steady { s with twin := { s.twin with heardLink := true, last := some h } } (s.heartNoted h) :=
  .ite (Steady.refl _).setBit.setBit (.refl _)

theorem heartNoted_of_active {h : TwHeart} (hr : s.role = .active) :
    s.heartNoted h = { s with twin := { s.twin with heardLink := true, last := some h } } :=
  if_neg (by simp [hr])

theorem hears_heartHear (s : State) (h : TwHeart) :
    Hears { s with twin := { s.twin with heardLink := true, last := some h } } (s.heartHear h) :=
  (steady_heartNoted s h).hears.claimHear.steady (steady_heartHear s h)

theorem roleNext_heartHear {h : TwHeart} (hr : s.role = .active) (hen : s.bit R.TW_CFG_EN = true) (h0 : h.claim ≠ 0)
    (hprv : claimPrv h.claim.toNat = false) (hhigher : claimHigher h.claim.toNat s.ownClaim = true) :
    (s.heartHear h).twin.roleNext = some (.moon (claimGen h.claim.toNat) false true) := by
  rw [(steady_heartHear s h).roleNext, heartNoted_of_active hr]
  exact roleNext_claimHear hr hen (fun h' => h0 (BitVec.eq_of_toNat_eq h')) hprv hhigher

/-! ### Records on a lane -/

/-- A lane has delivered a record. -/
def State.laneNoted (s : State) (l : Nat) : State :=
  { s.wr R.TW_STAT_LINK (s.rd R.TW_STAT_LINK ||| 2 ^ l) with twin := { s.twin with laneHeard := s.twin.laneHeard ||| 2 ^ l } }

theorem bit_laneNoted_cfgEn (s : State) (l : Nat) : (s.laneNoted l).bit R.TW_CFG_EN = s.bit R.TW_CFG_EN :=
  congrArg (· == 1) (State.rd_wr_ne s (f := R.TW_STAT_LINK) (g := R.TW_CFG_EN) (by decide) _)

theorem ownClaim_laneNoted (s : State) (l : Nat) : (s.laneNoted l).ownClaim = s.ownClaim :=
  State.rd_wr_ne s (f := R.TW_STAT_LINK) (g := R.TW_CLAIM_OWN) (by decide) _

theorem link_laneNoted (s : State) (l : Fin 2) : ((s.laneNoted l).rd R.TW_STAT_LINK).testBit l = true := by
  have hrd : (s.laneNoted l).rd R.TW_STAT_LINK = (s.rd R.TW_STAT_LINK ||| 2 ^ l.val) % 2 ^ 2 := State.rd_wr_same s R.TW_STAT_LINK (by decide) _
  rw [hrd, Nat.testBit_mod_two_pow, Nat.testBit_or, Nat.testBit_two_pow_self, Bool.or_true, Bool.and_true]
  exact decide_eq_true l.isLt

theorem laneHeard_laneNoted (s : State) (l : Nat) : (s.laneNoted l).twin.laneHeard.testBit l = true := by
  change (s.twin.laneHeard ||| 2 ^ l).testBit l = true
  rw [Nat.testBit_or, Nat.testBit_two_pow_self, Bool.or_true]

theorem recordHear_heart {l code : Nat} {h : TwHeart} (hm : s.mode.afterBoot = true) (hen : s.bit R.TW_CFG_EN = true) :
    s.recordHear l code (.heart h) = (s.laneNoted l).heartHear h := by
  have hen' : (!(s.laneNoted l).bit R.TW_CFG_EN) ≠ true := by simp [bit_laneNoted_cfgEn, hen]
  exact (if_neg (by simp [hm])).trans (if_neg hen')

theorem recordHear_of_disabled {l code : Nat} {r : TwinRec} (hm : s.mode.afterBoot = true) (hen : s.bit R.TW_CFG_EN = false) :
    s.recordHear l code r = s.laneNoted l := by
  have hen' : (!(s.laneNoted l).bit R.TW_CFG_EN) = true := by simp [bit_laneNoted_cfgEn, hen]
  exact (if_neg (by simp [hm])).trans (if_pos hen')

/-! ### Claim frames -/

/-- A valid claim frame has arrived. -/
def State.pinNoted (s : State) : State := { s.setBit R.TW_STAT_PINS true with twin := { s.twin with heardPins := true } }

theorem bit_pinNoted_cfgEn (s : State) : s.pinNoted.bit R.TW_CFG_EN = s.bit R.TW_CFG_EN :=
  congrArg (· == 1) (State.rd_wr_ne s (f := R.TW_STAT_PINS) (g := R.TW_CFG_EN) (by decide) _)

/-- The claim, the Orbit and the flags of a frame's low 32 bits. -/
theorem claimFrame_parts {n c orb flags : Nat} (hc : c < 65536) (ho : orb < 256)
    (hn : n % 4294967296 = c + 65536 * orb + 16777216 * flags) :
    n % 65536 = c ∧ n / 65536 % 256 = orb ∧ n / 16777216 % 256 = flags := by omega

theorem toNat_claimFrame {c orb flags : Nat} (hc : c < 65536) (ho : orb < 256) (hf : flags < 256) :
    (claimFrame c orb flags).toNat % 4294967296 = c + 65536 * orb + 16777216 * flags := by
  unfold claimFrame
  extract_lets w
  have hw : w = c + 65536 * orb + 16777216 * flags := by omega
  rw [BitVec.toNat_ofNat]
  omega

theorem pinHear_of_bad {b : BitVec 40} {c orb flags : Nat} (hc : c < 65536) (ho : orb < 256)
    (hb : b.toNat % 4294967296 = c + 65536 * orb + 16777216 * flags) (hbad : b ≠ claimFrame c orb flags) : s.pinHear b = s := by
  obtain ⟨h1, h2, h3⟩ := claimFrame_parts hc ho hb
  unfold State.pinHear
  rw [h1, h2, h3]
  exact if_pos (by simp [hbad])

/-- What a valid frame that is heard leads to: the proving claims, and the claim. -/
theorem pinHear_of_good {c orb flags : Nat} (hc : c < 65536) (ho : orb < 256) (hf : flags < 256) (hm : s.mode.afterBoot = true) :
    s.pinHear (claimFrame c orb flags) =
      if !s.pinNoted.bit R.TW_CFG_EN then s.pinNoted
      else
        let s3 := if flags.testBit 2 then s.pinNoted.claimMeet else s.pinNoted
        if claimPrv c then s3.provHear true (some c) else (if orb % 2 = 1 then s3.provHear true none else s3).claimHear c := by
  obtain ⟨h1, h2, h3⟩ := claimFrame_parts hc ho (toNat_claimFrame hc ho hf)
  unfold State.pinHear
  rw [h1, h2, h3]
  exact if_neg (by simp [hm])

theorem hears_pinHear {c orb flags : Nat} (hc : c < 65536) (ho : orb < 256) (hf : flags < 256) (hm : s.mode.afterBoot = true) :
    Hears s.pinNoted (s.pinHear (claimFrame c orb flags)) := by
  rw [pinHear_of_good hc ho hf hm]
  split
  · exact .refl _
  · extract_lets s3
    have h3 : Steady s.pinNoted s3 := .ite (Steady.refl _).claimMeet (.refl _)
    split
    · exact h3.provHear.hears
    · exact (Steady.ite h3.provHear h3).hears.claimHear

theorem bit_pinNoted_pins (s : State) : s.pinNoted.bit R.TW_STAT_PINS = true := State.bit_setBit_same s R.TW_STAT_PINS rfl (by decide) true

/-! ### What is heard -/

theorem twinIsHeard : Rules.TwinIsHeard := by
  intro s
  refine ⟨?_, ?_, ?_, ?_⟩
  · intro l code h hm hen
    have hhears := hears_heartHear (s.laneNoted l) h
    refine ⟨_, congrArg Host.Outcome.next (recordHear_heart hm hen), ?_, ?_, hhears.heardLink, hhears.last, hhears.role, ?_⟩
    · exact (congrArg (Nat.testBit · l) hhears.link).trans (link_laneNoted s l)
    · exact (congrArg (Nat.testBit · l) hhears.laneHeard).trans (laneHeard_laneNoted s l)
    · intro hr h0 hprv hhigher
      exact roleNext_heartHear hr ((bit_laneNoted_cfgEn s l).trans hen) h0 hprv ((congrArg (claimHigher _) (ownClaim_laneNoted s l)).trans hhigher)
  · intro l code r hm hen
    refine ⟨_, congrArg Host.Outcome.next (recordHear_of_disabled hm hen), link_laneNoted s l, fun a ha => ?_, rfl⟩
    exact State.reg_wr_ne s (fun h => ha (List.mem_singleton.mpr h)) _
  · intro c orb flags hc ho hf hm
    have hhears := hears_pinHear hc ho hf hm
    refine ⟨fun b hb hbad => ⟨_, rfl, pinHear_of_bad hc ho hb hbad⟩,
      ⟨_, rfl, hhears.pins.trans (bit_pinNoted_pins s), hhears.heardPins, hhears.role, fun hen => ?_⟩⟩
    rw [pinHear_of_good hc ho hf hm, if_pos (by simp [bit_pinNoted_cfgEn, hen])]
    rfl
  · refine ⟨_, rfl, State.bit_setBit_same _ R.TW_STAT_PINS rfl (by decide) false, fun a ha => ?_, rfl⟩
    exact State.reg_setBit_ne _ (fun h => ha (List.mem_singleton.mpr h)) false

/-! ## The judgement of the twin (R313, R320, R321) -/

/-! ### `TW_STAT` through the end of a calibration and an interrupt -/

theorem reg_deliver_ne {a : Nat} (ha : a < 0x8003800) (v : Nat) : (s.deliver v).reg a = s.reg a := by
  have hne : a ≠ (pbaFld v).addr := by
    unfold pbaFld
    dsimp only
    omega
  unfold State.deliver
  split
  · rfl
  · split <;> exact State.reg_setBit_ne s hne _

theorem reg_syncVec_ne {a : Nat} (ha : a < 0x8003800) (v : Nat) : (s.syncVec v).reg a = s.reg a := by
  have hne : a ≠ (pbaFld v).addr := by
    unfold pbaFld
    dsimp only
    omega
  unfold State.syncVec
  extract_lets was p
  split
  · split
    · rfl
    · exact reg_deliver_ne ha v
  · split
    · exact State.reg_setBit_ne _ hne false
    · rfl

theorem reg_twHist_twStat (s : State) (k : Nat) : (s.twHist k).reg A.TW_STAT = s.reg A.TW_STAT :=
  (reg_syncVec_ne (by decide) 5).trans (State.reg_setBit_ne s (by decide : A.TW_STAT ≠ A.TW_HIST) true)

theorem twStat_ne_chstat (c lo w : Nat) : A.TW_STAT ≠ (⟨0x3001000 + 0x20 * c, lo, w⟩ : Fld).addr := by
  unfold A.TW_STAT
  dsimp only
  omega

theorem regs_calAsk (s : State) (g : Nat) : (s.calAsk g).regs = s.regs := by
  unfold State.calAsk
  split <;> rfl

theorem reg_calEnd_twStat (s : State) (g : Nat) : (s.calEnd g).reg A.TW_STAT = s.reg A.TW_STAT := by
  have hback : ∀ c, (s.handBack g c).reg A.TW_STAT = s.reg A.TW_STAT := by
    intro c
    unfold State.handBack
    split
    · exact (State.reg_wr_ne _ (twStat_ne_chstat _ _ _) _).trans
        ((State.reg_wr_ne _ (twStat_ne_chstat _ _ _) _).trans (State.reg_wr_ne _ (twStat_ne_chstat _ _ _) _))
    · rfl
  unfold State.calEnd
  split
  · rfl
  next r _ =>
    extract_lets s1 s2
    have h1 : s1.reg A.TW_STAT = s.reg A.TW_STAT := (State.reg_setBit_ne _ (twStat_ne_chstat _ _ _) _).trans (hback r.chan)
    have h2 : s2.reg A.TW_STAT = s1.reg A.TW_STAT := State.reg_wr_ne s1 (by decide) _
    exact (congrArg (storeGet resetWord · A.TW_STAT) (regs_calAsk _ g)).trans (h2.trans h1)

theorem reg_calLinkLost_twStat (s : State) (c : Nat) : (s.calLinkLost c).reg A.TW_STAT = s.reg A.TW_STAT := by
  unfold State.calLinkLost
  split
  · split
    · exact reg_calEnd_twStat s _
    · rfl
  · rfl

/-! ### The paths -/

/-- The role, the word `TW_STAT` and the lasting part of the twin are as they were. -/
structure Tells (s₀ s : State) : Prop where
  role : s.role = s₀.role
  twin : s.twin.lasting = s₀.twin.lasting
  twStat : s.reg A.TW_STAT = s₀.reg A.TW_STAT

theorem Tells.refl (s : State) : Tells s s := ⟨rfl, rfl, rfl⟩

theorem Tells.steady {t : State} (h : Tells s₀ s) (k : Steady s t) (hreg : t.reg A.TW_STAT = s.reg A.TW_STAT) : Tells s₀ t :=
  ⟨k.role.trans h.role, k.twin.trans h.twin, hreg.trans h.twStat⟩

theorem Tells.ite {c : Prop} {i : Decidable c} {t u : State} (ht : Tells s₀ t) (hu : Tells s₀ u) : Tells s₀ (if c then t else u) := by
  split
  · exact ht
  · exact hu

theorem Tells.calLinkLost {c : Nat} (h : Tells s₀ s) : Tells s₀ (s.calLinkLost c) := h.steady (Steady.refl s).calLinkLost (reg_calLinkLost_twStat s c)

theorem Tells.twHist {k : Nat} (h : Tells s₀ s) (hk : k < 32 := by decide) : Tells s₀ (s.twHist k) :=
  h.steady ((Steady.refl s).twHist hk) (reg_twHist_twStat s k)

theorem Tells.setRevHold {hold : Option Nat} (h : Tells s₀ s) : Tells s₀ { s with twin := { s.twin with revHold := hold } } :=
  ⟨h.role, h.twin, h.twStat⟩

theorem Tells.bit {f : Fld} (h : Tells s₀ s) (hf : f.addr = A.TW_STAT) : s.bit f = s₀.bit f := by
  unfold State.bit State.rd
  rw [hf, h.twStat]

/-- The twin as the paths are judged: the Orbits in which each stayed silent, and whether they are lost. -/
def Twin.judged (T : Twin) : Twin :=
  let m0 := if T.laneHeard.testBit 0 then 0 else min 8 (T.miss0 + 1)
  let m1 := if T.laneHeard.testBit 1 then 0 else min 8 (T.miss1 + 1)
  let mp := if T.heardPins && !T.pinReport then 0 else min 8 (T.missPins + 1)
  { T with
    miss0 := m0, miss1 := m1, missPins := mp, lossLink := decide (8 ≤ m0) && decide (8 ≤ m1), lossPins := T.pinReport || decide (8 ≤ mp) }

/-- `TW_STAT.ORPHAN` and `ALIGNED` are left by what the judgement shows of the paths. -/
theorem bit_showPaths (s : State) (link : Nat) (pins : Bool) {f : Fld} (hf : f = R.TW_STAT_ORPHAN ∨ f = R.TW_STAT_ALIGNED) :
    ((s.wr R.TW_STAT_LINK link).setBit R.TW_STAT_PINS pins).bit f = s.bit f := by
  have ha : f.addr = A.TW_STAT := by rcases hf with rfl | rfl <;> rfl
  have hlink : R.TW_STAT_LINK.lo + R.TW_STAT_LINK.width ≤ f.lo ∨ f.lo + f.width ≤ R.TW_STAT_LINK.lo := by rcases hf with rfl | rfl <;> decide
  have hpins : R.TW_STAT_PINS.lo + R.TW_STAT_PINS.width ≤ f.lo ∨ f.lo + f.width ≤ R.TW_STAT_PINS.lo := by rcases hf with rfl | rfl <;> decide
  have h1 : (s.wr R.TW_STAT_LINK link).rd f = s.rd f := State.rd_wr_disjoint s ha (by decide) hlink link
  have h2 : ((s.wr R.TW_STAT_LINK link).setBit R.TW_STAT_PINS pins).rd f = (s.wr R.TW_STAT_LINK link).rd f :=
    State.rd_wr_disjoint _ ha (by decide) hpins _
  unfold State.bit
  rw [h2, h1]

theorem judgePaths_spec (s : State) :
    s.judgePaths.role = s.role ∧ s.judgePaths.twin.lasting = s.twin.judged.lasting ∧
      ∀ f, f = R.TW_STAT_ORPHAN ∨ f = R.TW_STAT_ALIGNED → s.judgePaths.bit f = s.bit f := by
  unfold State.judgePaths
  extract_lets T m0 m1 mp ll lp link s0 s1 s2 s3 s4 hold
  have h1 : Tells s0 s1 := by
    have hc : ∀ {c : Nat} {u : State}, Tells s0 u → Tells s0 (if u.chanLink c then u else u.calLinkLost c) := fun hu => .ite hu hu.calLinkLost
    exact hc (hc (.refl s0))
  have hrole0 : s0.role = s.role := rfl
  have hbit0 : ∀ f, f = R.TW_STAT_ORPHAN ∨ f = R.TW_STAT_ALIGNED → s0.bit f = s.bit f := fun f hf => bit_showPaths s link _ hf
  have htwin2 : s2.twin = s.twin.judged := rfl
  have hrole2 : s2.role = s1.role := rfl
  have hreg2 : s2.reg A.TW_STAT = s1.reg A.TW_STAT := rfl
  clear_value s0 s1 s2
  have h3 : Tells s2 s3 := .ite (Tells.refl s2).twHist (.refl s2)
  have h4 : Tells s2 s4 := .ite h3.twHist h3
  clear_value s4
  have hlast : ∀ {c : Prop} {i : Decidable c}, Tells s2 (if c then { s4 with twin := { s4.twin with revHold := some s4.tb } } else s4) := .ite h4.setRevHold h4
  refine ⟨?_, ?_, fun f hf => ?_⟩
  · exact hlast.role.trans (hrole2.trans (h1.role.trans hrole0))
  · exact hlast.twin.trans (congrArg Twin.lasting htwin2)
  · have ha : f.addr = A.TW_STAT := by rcases hf with rfl | rfl <;> rfl
    have h2 : s2.bit f = s1.bit f := (Tells.mk (s := { s2 with twin := s1.twin }) hrole2 rfl hreg2).bit ha
    exact (hlast.bit ha).trans (h2.trans ((h1.bit ha).trans (hbit0 f hf)))

/-! ### The role -/

/-- What a Moon decides once the paths are judged; `s` is the device before, `s1` after. -/
def State.judgeRole (s s1 : State) : State :=
  let T := s.twin
  let one := T.lossLink || T.lossPins
  if s1.role ≠ .moon || s1.bit R.TW_STAT_ORPHAN then s1
  else if !(T.heardLink || T.heardPins) && s1.bit R.TW_STAT_ALIGNED && !one then { s1.twHist 2 with twin := { s1.twin with roleNext := some .eclipse } }
  else if one && s1.twin.lossLink && s1.twin.lossPins && !(T.lossLink && T.lossPins) then s1.orphan
  else if s1.twin.lossLink && s1.twin.lossPins && s1.twin.join.isNone then { s1 with twin := { s1.twin with join := some s1.tb, joinHeard := false } }
  else s1

/-- What has arrived is forgotten for the next Orbit. -/
def State.heardNothing (s : State) : State := { s with twin := { s.twin with heardLink := false, heardPins := false, laneHeard := 0, pinReport := false } }

theorem judge_eq (hen : s.bit R.TW_CFG_EN = true) (hf : s.mode.fwd = true) :
    s.judge = (s.judgeRole s.judgePaths).revertAsk.refollow.heardNothing := if_neg (by simp [hen, hf])

/-- The Orbits of silence. -/
def Twin.misses (T : Twin) : Nat × Nat × Nat := (T.miss0, T.miss1, T.missPins)

theorem Steady.misses (h : Steady s₀ s) : s.twin.misses = s₀.twin.misses := (congrArg Twin.misses h.twin :)

/-- The decision changes neither the role nor the count of silent Orbits. -/
theorem judgeRole_spec (s s1 : State) : (s.judgeRole s1).role = s1.role ∧ (s.judgeRole s1).twin.misses = s1.twin.misses := by
  have hhist : ∀ (u : State) (k : Nat), k < 32 → Steady u (u.twHist k) := fun u k hk => (Steady.refl u).twHist hk
  have horphan : s1.orphan.role = s1.role ∧ s1.orphan.twin.misses = s1.twin.misses := by
    have h := hhist (s1.setBit R.TW_STAT_ORPHAN true) 6 (by decide)
    exact ⟨h.role, h.misses⟩
  unfold State.judgeRole
  extract_lets T one
  split
  · exact ⟨rfl, rfl⟩
  · split
    · exact ⟨(hhist s1 2 (by decide)).role, rfl⟩
    · split
      · exact horphan
      · split <;> exact ⟨rfl, rfl⟩

/-- An aligned Moon that has heard nothing, and had lost no path before, takes control at the next Orbit start (R321). -/
theorem roleNext_judgeRole {s1 : State} (hr : s1.role = .moon) (ho : s1.bit R.TW_STAT_ORPHAN = false) (ha : s1.bit R.TW_STAT_ALIGNED = true)
    (hl : s.twin.heardLink = false) (hp : s.twin.heardPins = false) (hll : s.twin.lossLink = false) (hlp : s.twin.lossPins = false) :
    (s.judgeRole s1).twin.roleNext = some .eclipse := by
  have hwait : s.judgeRole s1 = { s1.twHist 2 with twin := { s1.twin with roleNext := some .eclipse } } :=
    (if_neg (by simp [hr, ho])).trans (if_pos (by simp [hl, hp, ha, hll, hlp]))
  rw [hwait]

theorem twinIsJudged : Rules.TwinIsJudged := by
  intro s
  refine ⟨fun hen hf => ?_, fun hen => ⟨_, rfl, if_pos (by simp [hen])⟩⟩
  obtain ⟨hrole, htwin, hbits⟩ := judgePaths_spec s
  obtain ⟨hrole', hmisses'⟩ := judgeRole_spec s s.judgePaths
  have hsteady : Steady (s.judgeRole s.judgePaths) (s.judgeRole s.judgePaths).revertAsk.refollow := (Steady.refl _).revertAsk.refollow
  have hmisses : (s.judgeRole s.judgePaths).revertAsk.refollow.twin.misses = s.twin.judged.misses :=
    hsteady.misses.trans (hmisses'.trans (congrArg Twin.misses htwin :))
  refine ⟨_, congrArg Host.Outcome.next (judge_eq hen hf), (congrArg Prod.fst hmisses :), (congrArg (·.2.1) hmisses :), (congrArg (·.2.2) hmisses :),
    rfl, rfl, rfl, hsteady.role.trans (hrole'.trans hrole), ?_⟩
  intro hr ho ha hl hp hll hlp
  refine hsteady.roleNext.trans (roleNext_judgeRole (hrole.trans hr) ?_ ?_ hl hp hll hlp)
  · exact (hbits _ (.inl rfl)).trans ho
  · exact (hbits _ (.inr rfl)).trans ha

/-- Settles O52: what is heard leaves the role (`Hears`), as does what is judged (`Tells`, `Steady`); a higher claim, or silence, sets only the
role that the next Orbit start takes up. -/
theorem twinIsHeardAndJudged : Obligations.TwinIsHeardAndJudged := ⟨twinIsHeard, twinIsJudged⟩

end Sys2Proof.Machine
end

section
/-! ## TIME never runs back (R47, R188) -/

namespace Sys2Proof.Machine

variable {s t : State}

theorem stepsOf_tb {l : List Nat} : (s.stepsOf l).tb = s.tb :=
  List.foldlRecOn (motive := fun u : State => u.tb = s.tb) _ _ rfl fun _ hu _ _ => onlyDom_stepAt.tb.trans hu

theorem orbitBegin_tb : s.tb ≤ s.orbitBegin.tb := by
  have hk := (keeps_orbitBegin (s := s)).tb
  rwa [stepsOf_tb, still_numbered_fireDue.tb, numbered_tb] at hk

/-- An Orbit start comes at or after the TIME edge from which it is awaited. -/
theorem orbitStart_tb : s.tb ≤ s.orbitStart.tb := by
  cases hr : s.orbitsRun with
  | false => exact Nat.le_of_eq (congrArg State.tb (if_pos (by simp [hr]) : s.orbitStart = s)).symm
  | true =>
    calc s.tb ≤ s.orbitEnd.tb := (Keeps.refl s).orbitEnd.tb
      _ ≤ s.orbitEnd.orbitBegin.tb := orbitBegin_tb
      _ ≤ s.orbitStart.tb := (keeps_orbitStart hr).tb

theorem untilApplied_tb {n k : Nat} : s.tb ≤ (State.untilApplied n k s).tb := by
  induction n generalizing s with
  | zero => exact le_rfl
  | succ n ih =>
    unfold State.untilApplied
    split
    · exact le_rfl
    · exact orbitStart_tb.trans ih

theorem txnApply_tb : s.tb ≤ s.txnApply.tb := by
  unfold State.txnApply
  split
  · exact le_rfl
  · split
    · exact le_rfl
    · exact untilApplied_tb

/-- A command that does not reset the block in full keeps what `Keeps` says, or has an Orbit start within it. -/
theorem exec_cases {i : Instr} (hi : isFullReset i = false) (h : exec i s = .next t) : Keeps s t ∨ t = s.orbitStart ∨ t = s.txnApply := by
  by_cases ha : actsBetweenStarts i = true
  · exact .inl ((Keeps.refl s).exec ha t h)
  · cases i
    case orbitStart =>
      cases h
      exact .inr (.inl rfl)
    case transactionApply =>
      cases h
      exact .inr (.inr rfl)
    case powerOn => exact nomatch hi
    case resetN => exact nomatch hi
    all_goals exact absurd rfl ha

/-- By itself the block keeps what `Keeps` says, or starts an Orbit. -/
theorem idle_cases (h : s.idle = .next t) : Keeps s t ∨ t = s.orbitStart := by
  have hs := Keeps.refl s
  unfold State.idle at h
  split at h
  · exact .inl (hs.servePosted.next t h)
  · split at h
    · exact .inl ((Keeps.warmReset (s := { s with sys := { s.sys with resetAt := none } }) hs.upd).next t h)
    · split at h
      · exact .inl (hs.takeAct.next t h)
      · split at h
        · cases h
          exact .inr rfl
        · split at h
          · exact .inl (hs.listSeal.next t h)
          · split at h
            next u hu => exact .inl ((hs.selfDue u hu).next t h)
            next =>
              split at h
              · exact .inl (hs.engCycle t h)
              · exact .inl (hs.slipDue.tick.next t h)

theorem exec_tb {i : Instr} (hi : isFullReset i = false) (h : exec i s = .next t) : s.tb ≤ t.tb := by
  rcases exec_cases hi h with hk | rfl | rfl
  · exact hk.tb
  · exact orbitStart_tb
  · exact txnApply_tb

theorem idle_tb (h : s.idle = .next t) : s.tb ≤ t.tb := by
  rcases idle_cases h with hk | rfl
  · exact hk.tb
  · exact orbitStart_tb

/-- Settles O59: `Keeps` carries `TB_CYC` over every command and idle step but an Orbit start, which passes TIME to its instant and keeps it
from there. -/
theorem timeNeverRunsBack : Obligations.TimeNeverRunsBack := by
  intro s t hc h
  unfold step at h
  split at h
  next => exact idle_tb h
  next c l hp => exact exec_tb (s := { s with pending := l }) (hc c (by rw [hp]; rfl)) h

end Sys2Proof.Machine
end

section
/-! ## Power-on and RESET_N (R44, Table 2-1) -/

namespace Sys2Proof.Machine

variable {s : State}

/-! ### The registers that the straps give (R23 to R26) -/

theorem reg_strapRegs_ne {a : Nat} (h : a ∉ [A.GLB_STRAP, A.TW_CFG, A.PWR_BUDGET, A.SEC_STAT]) : s.strapRegs.reg a = s.reg a := by
  simp only [List.mem_cons, List.not_mem_nil, or_false, not_or] at h
  obtain ⟨hstrap, htw, hpwr, hsec⟩ := h
  unfold State.strapRegs
  extract_lets c s1 s2
  have h1 : s1.reg a = s.reg a := (State.reg_setBit_ne _ hstrap _).trans (s.reg_wr_ne hstrap _)
  have h2 : s2.reg a = s.reg a := ((State.reg_wr_ne _ hpwr _).trans (State.reg_setBit_ne _ htw _)).trans h1
  exact ((State.reg_setBit_ne _ hsec _).trans (State.reg_wr_ne _ hpwr _)).trans h2

/-- A value that fits its field is read back. -/
theorem rd_wr_of_lt {f : Fld} {v : Nat} (hf : f.lo + f.width ≤ 32) (hv : v < 2 ^ f.width) : (s.wr f v).rd f = v :=
  (s.rd_wr_same f hf v).trans (Nat.mod_eq_of_lt hv)

theorem rd_setBit_ne {f g : Fld} (h : g.addr ≠ f.addr) (b : Bool) : (s.setBit f b).rd g = s.rd g := s.rd_wr_ne h _

theorem rd_setBit_apart {f g : Fld} (ha : g.addr = f.addr) (hf : f.lo + f.width ≤ 32) (h : f.lo + f.width ≤ g.lo ∨ g.lo + g.width ≤ f.lo) (b : Bool) :
    (s.setBit f b).rd g = s.rd g := s.rd_wr_disjoint ha hf h _

theorem rd_strapRegs_cfg : s.strapRegs.rd R.GLB_STRAP_CFG = s.sys.straps.toNat := by
  unfold State.strapRegs
  extract_lets c s1 s2
  have h0 : (s.wr R.GLB_STRAP_CFG c.toNat).rd R.GLB_STRAP_CFG = c.toNat := rd_wr_of_lt (by decide) c.isLt
  have h1 : s1.rd R.GLB_STRAP_CFG = c.toNat := by
    unfold s1
    rw [rd_setBit_apart (f := R.GLB_STRAP_ERR) (g := R.GLB_STRAP_CFG) rfl (by decide) (by decide), h0]
  have h2 : s2.rd R.GLB_STRAP_CFG = c.toNat := by
    unfold s2
    rw [State.rd_wr_ne _ (by decide), rd_setBit_ne (by decide), h1]
  rw [rd_setBit_ne (by decide), State.rd_wr_ne _ (by decide), h2]

/-! ### A change of mode, and the first entry of a log -/

/-- A change of mode sets the mode, and beside it registers, lines, outputs and the instant of entry to the forwarding modes. -/
theorem toMode_parts (s : State) (m : Mode) (cause detail : Nat) :
    ∃ since r p o, s.toMode m cause detail = { s with mode := m, regs := r, pcie := p, out := o, sys := { s.sys with fwdSince := since } } := by
  rcases s.toMode_cases m cause detail with ⟨hm, ht⟩ | ⟨-, hparts⟩
  · refine ⟨s.sys.fwdSince, s.regs, s.pcie, s.out, ht.trans ?_⟩
    rw [← hm]
  · exact hparts

/-- A vector whose line is 0 and was 0 stays as it is. -/
theorem syncVec_of_quiet {v : Nat} (hline : s.line v = false) (hwas : s.pcie.lines.getLsbD v = false) : s.syncVec v = s := by
  unfold State.syncVec
  rw [hline, hwas]
  rfl

/-- An entry of a log that holds none unread, at index 0. -/
theorem logAs_first {src sev : Nat} {int : Bool} {code p0 p1 : Nat} (hh : s.rd R.EVL_HEAD_INDEX = 0) (hr : s.rd R.EVL_RD_INDEX = 0) :
    s.logAs src sev int code p0 p1 = (s.setWords (evlAddr 0 0) (evlWords s 0 code src sev int p0 p1)).wr R.EVL_HEAD_INDEX 1 := by
  unfold State.logAs
  rw [hh, hr]
  rfl

theorem log_first {code p0 p1 : Nat} (hh : s.rd R.EVL_HEAD_INDEX = 0) (hr : s.rd R.EVL_RD_INDEX = 0) :
    s.log code p0 p1 = (s.setWords (evlAddr 0 0) (evlWords s 0 code 0 (Config.eventSev code).toNat false p0 p1)).wr R.EVL_HEAD_INDEX 1 :=
  logAs_first hh hr

theorem reg_setWords_apart {a b : Nat} {ws : List Word} (h : b < a ∨ a + 4 * ws.length ≤ b) : (s.setWords a ws).reg b = s.reg b := by
  induction ws generalizing s a with
  | nil => rfl
  | cons w ws ih =>
    simp only [List.length_cons] at h
    exact (ih (by omega)).trans (s.reg_setReg_ne (by omega) w)

/-- The line of the mode change (Table 15-7). -/
theorem line_modeChange (s : State) : s.line 1 = (s.bit R.GLB_ISRC_MODE && s.bit R.GLB_IEN_MODE) := rfl

/-- The mode is another, since an instant from which the forwarding modes may count. -/
def State.inMode (s : State) (m : Mode) (since : Option Nat) : State := { s with mode := m, sys := { s.sys with fwdSince := since } }

theorem reg_inMode (s : State) (m : Mode) (since : Option Nat) (a : Nat) : (s.inMode m since).reg a = s.reg a := rfl

theorem reg_setBit_inMode (s : State) (m : Mode) (since : Option Nat) (f : Fld) (b : Bool) (a : Nat) :
    ((s.inMode m since).setBit f b).reg a = (s.setBit f b).reg a := rfl

theorem toMode_of_ne {m : Mode} {cause detail : Nat} (hm : s.mode ≠ m) :
    ∃ since, s.toMode m cause detail =
      (((s.log 1 (s.mode.code + 16 * m.code) (cause % 256 + 256 * (detail % 256))).inMode m since).setBit R.GLB_ISRC_MODE true).syncVec 1 :=
  ⟨_, if_neg hm⟩

/-- Where the interrupt of a mode change is not enabled and was not raised, no line changes. -/
theorem syncVec_modeChange_of_disabled {m : Mode} {since : Option Nat} (hien : s.bit R.GLB_IEN_MODE = false) (hwas : s.pcie.lines.getLsbD 1 = false) :
    ((s.inMode m since).setBit R.GLB_ISRC_MODE true).syncVec 1 = (s.inMode m since).setBit R.GLB_ISRC_MODE true := by
  have hbit : ((s.inMode m since).setBit R.GLB_ISRC_MODE true).bit R.GLB_IEN_MODE = s.bit R.GLB_IEN_MODE := by
    unfold State.bit State.rd
    rw [State.reg_setBit_ne _ (by decide), reg_inMode]
  have hline : ((s.inMode m since).setBit R.GLB_ISRC_MODE true).line 1 = false := by
    rw [line_modeChange, hbit, hien, Bool.and_false]
  exact syncVec_of_quiet hline hwas

/-- Where the first entry of a log is that of a change of mode whose interrupt is not enabled, the registers take the entry and the flag. -/
theorem toMode_first {m : Mode} {cause detail : Nat} (hm : s.mode ≠ m) (hh : s.rd R.EVL_HEAD_INDEX = 0) (hr : s.rd R.EVL_RD_INDEX = 0)
    (hien : s.bit R.GLB_IEN_MODE = false) (hwas : s.pcie.lines.getLsbD 1 = false) :
    ∃ since, s.toMode m cause detail =
      ((s.log 1 (s.mode.code + 16 * m.code) (cause % 256 + 256 * (detail % 256))).inMode m since).setBit R.GLB_ISRC_MODE true := by
  obtain ⟨since, hmode⟩ := toMode_of_ne (cause := cause) (detail := detail) hm
  have hlog := log_first (code := 1) (p0 := s.mode.code + 16 * m.code) (p1 := cause % 256 + 256 * (detail % 256)) hh hr
  obtain ⟨r, hwords⟩ := OnlyRegs.setWords s (evlAddr 0 0) (evlWords s 0 1 0 (Config.eventSev 1).toNat false (s.mode.code + 16 * m.code)
    (cause % 256 + 256 * (detail % 256)))
  refine ⟨since, hmode.trans (syncVec_modeChange_of_disabled ?_ ?_)⟩
  · rw [← hien, hlog]
    unfold State.bit State.rd
    rw [State.reg_wr_ne _ (by decide), reg_setWords_apart (.inl (by decide))]
  · rw [hlog, State.wr_pcie, hwords]
    exact hwas

/-- A word of those stored reads as it was stored. -/
theorem reg_setWords_get {a k : Nat} {ws : List Word} (hk : k < ws.length) : (s.setWords a ws).reg (a + 4 * k) = ws[k] := by
  induction ws generalizing s a k with
  | nil => exact absurd hk (Nat.not_lt_zero k)
  | cons w ws ih =>
    cases k with
    | zero =>
      have h := reg_setWords_apart (s := s.setReg a w) (a := a + 4) (b := a) (ws := ws) (.inl (by omega))
      exact h.trans (s.reg_setReg_same a w)
    | succ k =>
      have he : a + 4 * (k + 1) = a + 4 + 4 * k := by omega
      rw [he]
      exact ih (Nat.lt_of_succ_lt_succ hk)

/-! ### The state that is left -/

/-- Everything at its reset value but what stands outside the device and what the model keeps (log entry 1); the straps are not yet in the registers. -/
def State.cleared (s : State) (src : Nat) (straps : BitVec 11) (vtio33 : Bool) : State :=
  { State.reset with
    out := .clkobs 0 0 0 :: s.pinsOff.out, freeCount := s.freeCount, pending := s.pending
    tins := (List.range 8).foldl (fun m p => storeSet (fun _ => {}) m p { pin := (s.tin p).pin }) []
    sys := { straps := straps, vtio33 := vtio33, temps := s.sys.temps, warm := s.sys.warm, tripped := decide (src = 1) && s.sys.tripped }
    pcie := { perst := s.pcie.perst } }

/-- The straps are in the registers, and the mode is the one that the reset leaves. -/
def State.strapped (s : State) (src : Nat) (straps : BitVec 11) (vtio33 : Bool) : State :=
  { (s.cleared src straps vtio33).strapRegs.wr R.GLB_MODE_LAST_RESET src with mode := s.mode }

section
variable {src : Nat} {straps : BitVec 11} {vtio33 : Bool}

theorem fullReset_eq :
    s.fullReset src straps vtio33 = (s.strapped src straps vtio33).toMode .strap Config.strapCause.toNat (Config.strapCause.toNat / 256) := rfl

theorem reg_cleared (a : Nat) : (s.cleared src straps vtio33).reg a = resetWord a := rfl

theorem reg_strapped_ne {a : Nat} (h : a ∉ [A.GLB_MODE, A.GLB_STRAP, A.TW_CFG, A.PWR_BUDGET, A.SEC_STAT]) :
    (s.strapped src straps vtio33).reg a = resetWord a := by
  obtain ⟨hmode, hrest⟩ := not_or.mp (mt List.mem_cons.mpr h)
  exact ((State.reg_wr_ne _ hmode _).trans (reg_strapRegs_ne hrest)).trans (reg_cleared a)

theorem rd_strapped_lastReset (hsrc : src < 8) : (s.strapped src straps vtio33).rd R.GLB_MODE_LAST_RESET = src :=
  rd_wr_of_lt (by decide) hsrc

theorem rd_strapped_cfg : (s.strapped src straps vtio33).rd R.GLB_STRAP_CFG = straps.toNat :=
  (State.rd_wr_ne _ (by decide) src).trans rd_strapRegs_cfg

theorem rd_strapped_evlHead : (s.strapped src straps vtio33).rd R.EVL_HEAD_INDEX = 0 := by
  unfold State.rd
  rw [reg_strapped_ne (by decide)]
  decide

theorem rd_strapped_evlRd : (s.strapped src straps vtio33).rd R.EVL_RD_INDEX = 0 := by
  unfold State.rd
  rw [reg_strapped_ne (by decide)]
  decide

theorem bit_strapped_ienMode : (s.strapped src straps vtio33).bit R.GLB_IEN_MODE = false := by
  unfold State.bit State.rd
  rw [reg_strapped_ne (by decide)]
  decide

/-- The state in which the change to STRAP has been logged. -/
def State.strapLogged (s : State) (src : Nat) (straps : BitVec 11) (vtio33 : Bool) : State :=
  (s.strapped src straps vtio33).log 1 (s.mode.code + 16 * Mode.strap.code) (Config.strapCause.toNat % 256 + 256 * (Config.strapCause.toNat / 256 % 256))

/-- The entry of that change. -/
def State.strapEntry (s : State) (src : Nat) (straps : BitVec 11) (vtio33 : Bool) : List Word :=
  evlWords (s.strapped src straps vtio33) 0 1 0 (Config.eventSev 1).toNat false (s.mode.code + 16 * Mode.strap.code)
    (Config.strapCause.toNat % 256 + 256 * (Config.strapCause.toNat / 256 % 256))

theorem strapLogged_eq : s.strapLogged src straps vtio33 =
    ((s.strapped src straps vtio33).setWords (evlAddr 0 0) (s.strapEntry src straps vtio33)).wr R.EVL_HEAD_INDEX 1 :=
  log_first rd_strapped_evlHead rd_strapped_evlRd

/-- From any mode but STRAP the registers are left with the first entry of the log and the flag of the mode change; no line rises, since nothing is enabled. -/
theorem reg_fullReset_of_ne (hm : s.mode ≠ .strap) (a : Nat) :
    (s.fullReset src straps vtio33).reg a = ((s.strapLogged src straps vtio33).setBit R.GLB_ISRC_MODE true).reg a := by
  obtain ⟨since, ht⟩ := toMode_first (s := s.strapped src straps vtio33) (m := .strap) (cause := Config.strapCause.toNat)
    (detail := Config.strapCause.toNat / 256) hm rd_strapped_evlHead rd_strapped_evlRd bit_strapped_ienMode BitVec.getLsbD_zero
  rw [fullReset_eq, ht, reg_setBit_inMode]
  rfl

theorem fullReset_of_strap (hm : s.mode = .strap) : s.fullReset src straps vtio33 = s.strapped src straps vtio33 := if_pos hm

/-- Outside the entry, the head of the log and the flag the change of mode leaves every word. -/
theorem reg_fullReset_strapped {a : Nat} (ha : a ≠ A.GLB_ISRC ∧ a ≠ A.EVL_HEAD) (hout : a < 0x20000 ∨ 0x20020 ≤ a) :
    (s.fullReset src straps vtio33).reg a = (s.strapped src straps vtio33).reg a := by
  by_cases hm : s.mode = .strap
  · rw [fullReset_of_strap hm]
  · rw [reg_fullReset_of_ne hm, State.reg_setBit_ne _ ha.1, strapLogged_eq, State.reg_wr_ne _ ha.2]
    exact reg_setWords_apart hout

theorem rd_fullReset_strapped {f : Fld} (ha : f.addr ≠ A.GLB_ISRC ∧ f.addr ≠ A.EVL_HEAD) (hout : f.addr < 0x20000 ∨ 0x20020 ≤ f.addr) :
    (s.fullReset src straps vtio33).rd f = (s.strapped src straps vtio33).rd f := congrArg f.get (reg_fullReset_strapped ha hout)

theorem rd_fullReset_evlHead (hm : s.mode ≠ .strap) : (s.fullReset src straps vtio33).rd R.EVL_HEAD_INDEX = 1 := by
  unfold State.rd
  rw [reg_fullReset_of_ne hm, State.reg_setBit_ne _ (by decide), strapLogged_eq]
  exact rd_wr_of_lt (by decide) (by decide)

theorem bit_fullReset_isrcMode (hm : s.mode ≠ .strap) : (s.fullReset src straps vtio33).bit R.GLB_ISRC_MODE = true := by
  unfold State.bit State.rd
  rw [reg_fullReset_of_ne hm]
  exact State.bit_setBit_same _ _ rfl (by decide) true

theorem strapEntry_length : (s.strapEntry src straps vtio33).length = 8 := rfl

/-- The words of the entry stand at the beginning of the log. -/
theorem reg_fullReset_entry (hm : s.mode ≠ .strap) {k : Nat} (hk : k < (s.strapEntry src straps vtio33).length) :
    (s.fullReset src straps vtio33).reg (evlAddr 0 k) = (s.strapEntry src straps vtio33)[k] := by
  have hat : evlAddr 0 k = evlAddr 0 0 + 4 * k := rfl
  have hisrc : evlAddr 0 k ≠ A.GLB_ISRC := by simp only [evlAddr, A.GLB_ISRC]; omega
  have hhead : evlAddr 0 k ≠ A.EVL_HEAD := by simp only [evlAddr, A.EVL_HEAD]; omega
  rw [reg_fullReset_of_ne hm, State.reg_setBit_ne _ hisrc, strapLogged_eq, State.reg_wr_ne _ hhead, hat, reg_setWords_get hk]

/-- The low half of an entry's first word is its code (Table 13-13). -/
theorem evlWords_code (s : State) (idx code src sev : Nat) (int : Bool) (p0 p1 : Nat) :
    ((evlWords s idx code src sev int p0 p1)[0]'(by rw [evlWords_length]; decide)).toNat % 65536 = code % 65536 := by
  simp only [evlWords, List.getElem_cons_zero, BitVec.toNat_ofNat]
  split <;> split <;> omega

/-- Its first parameter gives the mode that was left. -/
theorem strapEntry_mode : ((s.strapEntry src straps vtio33)[6]'(by rw [strapEntry_length]; decide)).toNat = s.mode.code := by
  have hlt : s.mode.code < 2 ^ 32 := by cases s.mode <;> decide
  exact Nat.mod_eq_of_lt hlt

end

theorem isReset_fullReset {src : Nat} (hsrc : src < 8) (straps : BitVec 11) (vtio33 : Bool) (s : State) :
    IsReset s (s.fullReset src straps vtio33) src straps vtio33 := by
  have hentry := strapEntry_length (s := s) (src := src) (straps := straps) (vtio33 := vtio33)
  have hlast : (s.fullReset src straps vtio33).rd R.GLB_MODE_LAST_RESET = src :=
    (rd_fullReset_strapped (by decide) (by decide)).trans (rd_strapped_lastReset hsrc)
  have hcfg : (s.fullReset src straps vtio33).rd R.GLB_STRAP_CFG = straps.toNat :=
    (rd_fullReset_strapped (by decide) (by decide)).trans rd_strapped_cfg
  have hstrap : s.mode = .strap → (s.fullReset src straps vtio33).rd R.EVL_HEAD_INDEX = 0 := by
    intro hm
    rw [fullReset_of_strap hm]
    exact rd_strapped_evlHead
  have hlog : s.mode ≠ .strap → (s.fullReset src straps vtio33).rd R.EVL_HEAD_INDEX = 1 ∧
      ((s.fullReset src straps vtio33).reg (evlAddr 0 0)).toNat % 65536 = 1 ∧
      ((s.fullReset src straps vtio33).reg (evlAddr 0 6)).toNat = s.mode.code ∧ (s.fullReset src straps vtio33).bit R.GLB_ISRC_MODE = true := by
    intro hm
    refine ⟨rd_fullReset_evlHead hm, ?_, ?_, bit_fullReset_isrcMode hm⟩
    · rw [reg_fullReset_entry hm (by rw [hentry]; decide)]
      exact evlWords_code _ _ _ _ _ _ _ _
    · rw [reg_fullReset_entry hm (by rw [hentry]; decide)]
      exact strapEntry_mode
  have hwords : ∀ a, a ∉ [A.GLB_MODE, A.GLB_STRAP, A.TW_CFG, A.PWR_BUDGET, A.SEC_STAT, A.GLB_ISRC, A.EVL_HEAD] → (a < 0x20000 ∨ 0x20020 ≤ a) →
      (s.fullReset src straps vtio33).reg a = resetWord a := by
    intro a ha hout
    simp only [List.mem_cons, List.not_mem_nil, or_false, not_or] at ha
    obtain ⟨hmode, hstraps, htw, hpwr, hsec, hisrc, hhead⟩ := ha
    rw [reg_fullReset_strapped ⟨hisrc, hhead⟩ hout, reg_strapped_ne]
    simp only [List.mem_cons, List.not_mem_nil, or_false, not_or]
    exact ⟨hmode, hstraps, htw, hpwr, hsec⟩
  obtain ⟨since, r, p, o, ht⟩ := toMode_parts (s.strapped src straps vtio33) .strap Config.strapCause.toNat (Config.strapCause.toNat / 256)
  rw [← fullReset_eq] at ht
  exact ⟨(congrArg State.mode ht :), (congrArg State.role ht :), (congrArg State.tb ht :), (congrArg State.orbNum ht :), (congrArg State.orbit ht :),
    (congrArg State.domains ht :), (congrArg State.engines ht :), (congrArg State.links ht :), (congrArg State.voqs ht :), (congrArg State.egrQs ht :),
    (congrArg State.keys ht :), (congrArg State.mbs ht :), (congrArg State.txns ht :), (congrArg State.journal ht :), (congrArg State.twin ht :),
    (congrArg State.power ht :), (congrArg State.clk ht :), (congrArg State.pending ht :), (congrArg (·.sys.straps) ht :), (congrArg (·.sys.vtio33) ht :),
    (congrArg (·.sys.timebase) ht :), hlast, hcfg, hstrap, hlog, hwords⟩

/-- Settles O15: but for the straps' registers, the first entry of the log and its flag, every part is left at its reset value. -/
theorem resetsEnterStrap : Obligations.ResetsEnterStrap := by
  intro straps vtio33 s
  refine ⟨⟨_, rfl, isReset_fullReset (by decide) straps vtio33 s⟩, fun ns hns => ⟨_, rfl, ?_⟩, fun ns hns => ⟨_, rfl, if_pos hns⟩⟩
  rw [if_neg (Nat.not_lt.mpr hns)]
  exact isReset_fullReset (by decide) straps vtio33 s

end Sys2Proof.Machine
end

section
/-! ## Reads that clear a field, remove a head or latch (R71, R163, R212, R246, R273, R334) -/

namespace Sys2Proof.Machine

variable {s : State}

/-! ### A read that BAR0 serves -/

/-- Where a reader has latched nothing, ending its latch changes nothing. -/
theorem unlatch_of_empty (h : s.bus.latch = []) (r : Nat) : s.unlatch r = s := by
  have hnil : storeSet (fun _ => none) ([] : Store (Option CtrLatch)) r none = [] := rfl
  unfold State.unlatch
  rw [h, hnil, ← h]

/-- A register that is no counter and begins no latched group. -/
structure PlainWord (a : Nat) : Prop where
  noCtr : Ctr.at a = none
  noCtrHi : Ctr.atHi a = none
  noGroup : latchLen a = none
  isReg : (findDesc a).isNone = false

theorem readValue_of_plain {a : Nat} (hw : PlainWord a) (hl : s.bus.latch = []) :
    s.readValue 0 a = (s, if latchTail a then s.latched a else s.live a) := by
  have hstays : (if narrowCtr a then s.unlatch 0 else s) = s := by rw [unlatch_of_empty hl, ite_self]
  have hnone : s.ctrLatch 0 = none := by rw [State.ctrLatch, hl, storeGet_nil]
  have hreader : readerOf 0 = some 0 := rfl
  unfold State.readValue
  simp only [hreader, hstays, hw.noCtr, hw.noCtrHi, hw.noGroup, Option.bind_some, hnone]
  split <;> rfl

theorem readBar0_of_plain {a : Nat} (hw : PlainWord a) (hdead : s.deadWord a = false) (hl : s.bus.latch = []) :
    s.readBar0 0 a = (s.readEffect a, if latchTail a then s.latched a else s.live a) := by
  unfold State.readBar0
  rw [readValue_of_plain hw hl, hdead, hw.isReg]
  rfl

/-- A read that BAR0 serves gives the word and leaves what reading it does. -/
theorem busRead_of_plain {a : Nat} (hw : PlainWord a) (hs : Served s 0 a) (hdead : s.deadWord a = false) (hl : s.bus.latch = []) :
    s.busRead 0 a false = .next ((s.readEffect a).emit (.data 0 a (if latchTail a then s.latched a else s.live a))) := by
  obtain ⟨hal, hin, hfun, hbad⟩ := hs
  unfold State.busRead
  rw [if_neg (Nat.not_le.mpr hin), hfun, hal, Nat.sub_zero]
  simp only [hbad, readBar0_of_plain hw hdead hl]
  rfl

section
variable {i : Instr} {a : Nat} {P : State → Prop}

theorem reads_live (hi : exec i s = s.busRead 0 a false) (hw : PlainWord a) (htail : latchTail a = false) (hs : Served s 0 a)
    (hdead : s.deadWord a = false) (hl : s.bus.latch = []) (hP : P ((s.readEffect a).emit (.data 0 a (s.live a)))) :
    Reads i s a (s.live a) P := by
  have hread := hi.trans (busRead_of_plain hw hs hdead hl)
  rw [htail] at hread
  exact ⟨_, hread, rfl, hP⟩

/-- The last word of a group is read as it was latched. -/
theorem reads_latched (hi : exec i s = s.busRead 0 a false) (hw : PlainWord a) (htail : latchTail a = true) (hs : Served s 0 a)
    (hdead : s.deadWord a = false) (hl : s.bus.latch = []) (hP : P ((s.readEffect a).emit (.data 0 a (s.latched a)))) :
    Reads i s a (s.latched a) P := by
  have hread := hi.trans (busRead_of_plain hw hs hdead hl)
  rw [htail] at hread
  exact ⟨_, hread, rfl, hP⟩

end

/-! ### Fields that reading clears -/

theorem plainWord_glbRcv : PlainWord A.GLB_RCV := ⟨by decide, by decide, by decide, by decide⟩
theorem plainWord_prvLogptr : PlainWord A.PRV_LOGPTR := ⟨by decide, by decide, by decide, by decide⟩

theorem plainWord_engMaxcyc (e : Fin 9) : PlainWord (A.ENG_MAXCYC e) := by
  have h : ∀ e : Fin 9, Ctr.at (A.ENG_MAXCYC e) = none ∧ Ctr.atHi (A.ENG_MAXCYC e) = none ∧ latchLen (A.ENG_MAXCYC e) = none ∧
      (findDesc (A.ENG_MAXCYC e)).isNone = false := by decide
  obtain ⟨h1, h2, h3, h4⟩ := h e
  exact ⟨h1, h2, h3, h4⟩

theorem readEffect_glbRcv : s.readEffect A.GLB_RCV = s.wr R.GLB_RCV_BADKEY 0 := rfl
theorem readEffect_prvLogptr : s.readEffect A.PRV_LOGPTR = s.wr R.PRV_LOGPTR_LOST 0 := rfl

theorem readEffect_engMaxcyc (e : Fin 9) : s.readEffect (A.ENG_MAXCYC e) = s.wr (R.ENG_MAXCYC_CYC e) 0 := by
  have h : ∀ e : Fin 9, A.ENG_MAXCYC e ≠ A.GLB_RCV ∧ A.ENG_MAXCYC e ≠ A.PRV_LOGPTR ∧
      (0x5001000 ≤ A.ENG_MAXCYC e && A.ENG_MAXCYC e < 0x5001900 && A.ENG_MAXCYC e % 0x100 = 8) = true ∧
      A.ENG_MAXCYC e % 0x1000 / 0x100 = e := by decide
  obtain ⟨hrcv, hprv, hin, hidx⟩ := h e
  unfold State.readEffect
  rw [if_neg hrcv, if_neg hprv, if_pos hin, hidx]

theorem deadWord_of_noPort {a : Nat} (h : portReg a = none) : s.deadWord a = false := by rw [State.deadWord, h]

/-- A field that is cleared, by a read that gives the word out. -/
theorem clearsField (f : Fld) (o : Out) (hf : f.lo + f.width ≤ 32) :
    ((s.wr f 0).emit o).rd f = 0 ∧ RegsFrame s ((s.wr f 0).emit o) [f.addr] ∧ OnlyBus s ((s.wr f 0).emit o) := by
  refine ⟨(s.rd_wr_same f hf 0).trans (Nat.zero_mod _), fun a ha => ?_, (OnlyRegs.wr s f 0).bus.trans (OnlyBus.emit _ o)⟩
  exact s.reg_wr_ne (fun h => ha (List.mem_singleton.mpr h)) 0

theorem readsThatClear : Rules.ReadsThatClear := by
  intro e s hl
  refine ⟨fun hs => ?_, fun hs => ?_, fun hs => ?_⟩
  · refine reads_live rfl plainWord_glbRcv (by decide) hs rfl hl ?_
    rw [readEffect_glbRcv]
    obtain ⟨hclear, hframe, honly⟩ := clearsField (s := s) R.GLB_RCV_BADKEY (.data 0 A.GLB_RCV (s.live A.GLB_RCV)) (by decide)
    exact ⟨hclear, State.rd_wr_disjoint s (f := R.GLB_RCV_BADKEY) (g := R.GLB_RCV_COUNT) rfl (by decide) (by decide) 0, hframe, honly⟩
  · have h : ∀ e : Fin 9, latchTail (A.ENG_MAXCYC e) = false ∧ portReg (A.ENG_MAXCYC e) = none := by decide
    obtain ⟨htail, hport⟩ := h e
    refine reads_live rfl (plainWord_engMaxcyc e) htail hs (deadWord_of_noPort hport) hl ?_
    rw [readEffect_engMaxcyc]
    exact clearsField (R.ENG_MAXCYC_CYC e) _ (by simp only [R.ENG_MAXCYC_CYC]; omega)
  · refine reads_live rfl plainWord_prvLogptr (by decide) hs rfl hl ?_
    rw [readEffect_prvLogptr]
    obtain ⟨hclear, hframe, honly⟩ := clearsField (s := s) R.PRV_LOGPTR_LOST (.data 0 A.PRV_LOGPTR (s.live A.PRV_LOGPTR)) (by decide)
    exact ⟨hclear, State.rd_wr_disjoint s (f := R.PRV_LOGPTR_LOST) (g := R.PRV_LOGPTR_NEXT) rfl (by decide) (by decide) 0, hframe, honly⟩

/-! ### Heads of queues -/

theorem OnlyBus.tin {s t : State} (h : OnlyBus s t) (k : Nat) : t.tin k = s.tin k := by
  obtain ⟨_, _, _, rfl⟩ := h
  rfl

theorem OnlyBus.egr {s t : State} (h : OnlyBus s t) (k : Nat) : t.egr k = s.egr k := by
  obtain ⟨_, _, _, rfl⟩ := h
  rfl

theorem onlyBus_tinPop (p : Nat) : OnlyBus (s.setTin p { s.tin p with queue := (s.tin p).queue.drop 1 }) (s.tinPop p) := .syncVec _ _

theorem onlyBus_tsqPop (p : Nat) : OnlyBus (s.setEgr p { s.egr p with tsq := (s.egr p).tsq.drop 1 }) (s.tsqPop p) := .syncVec _ _

theorem plainWord_tinHead3 (p : Fin 8) : PlainWord (A.TIN_HEAD3 p) := by
  have h : ∀ p : Fin 8, Ctr.at (A.TIN_HEAD3 p) = none ∧ Ctr.atHi (A.TIN_HEAD3 p) = none ∧ latchLen (A.TIN_HEAD3 p) = none ∧
      (findDesc (A.TIN_HEAD3 p)).isNone = false := by decide
  obtain ⟨h1, h2, h3, h4⟩ := h p
  exact ⟨h1, h2, h3, h4⟩

theorem plainWord_tsq4 (p : Fin 64) : PlainWord (A.TSQ4 p) := by
  have h : ∀ p : Fin 64, Ctr.at (A.TSQ4 p) = none ∧ Ctr.atHi (A.TSQ4 p) = none ∧ latchLen (A.TSQ4 p) = none ∧
      (findDesc (A.TSQ4 p)).isNone = false := by decide +kernel
  obtain ⟨h1, h2, h3, h4⟩ := h p
  exact ⟨h1, h2, h3, h4⟩

theorem plainWord_ivlResLo (u : Fin 4) : PlainWord (A.IVL_RES_LO u) := by
  have h : ∀ u : Fin 4, Ctr.at (A.IVL_RES_LO u) = none ∧ Ctr.atHi (A.IVL_RES_LO u) = none ∧ latchLen (A.IVL_RES_LO u) = none ∧
      (findDesc (A.IVL_RES_LO u)).isNone = false := by decide
  obtain ⟨h1, h2, h3, h4⟩ := h u
  exact ⟨h1, h2, h3, h4⟩

theorem readEffect_tinHead3 (p : Fin 8) : s.readEffect (A.TIN_HEAD3 p) = s.tinPop p := by
  have h : ∀ p : Fin 8, A.TIN_HEAD3 p ≠ A.GLB_RCV ∧ A.TIN_HEAD3 p ≠ A.PRV_LOGPTR ∧
      ¬ (0x5001000 ≤ A.TIN_HEAD3 p && A.TIN_HEAD3 p < 0x5001900 && A.TIN_HEAD3 p % 0x100 = 8) = true ∧
      (0x2820000 ≤ A.TIN_HEAD3 p && A.TIN_HEAD3 p < 0x2820200 && A.TIN_HEAD3 p % 0x40 = 0x1C) = true ∧
      A.TIN_HEAD3 p % 0x200 / 0x40 = p := by decide
  obtain ⟨hrcv, hprv, heng, hin, hidx⟩ := h p
  unfold State.readEffect
  rw [if_neg hrcv, if_neg hprv, if_neg heng, if_pos hin, hidx]

theorem readEffect_ivlResLo (u : Fin 4) : s.readEffect (A.IVL_RES_LO u) = s.ivlRead u := by
  have h : ∀ u : Fin 4, A.IVL_RES_LO u ≠ A.GLB_RCV ∧ A.IVL_RES_LO u ≠ A.PRV_LOGPTR ∧
      ¬ (0x5001000 ≤ A.IVL_RES_LO u && A.IVL_RES_LO u < 0x5001900 && A.IVL_RES_LO u % 0x100 = 8) = true ∧
      ¬ (0x2820000 ≤ A.IVL_RES_LO u && A.IVL_RES_LO u < 0x2820200 && A.IVL_RES_LO u % 0x40 = 0x1C) = true ∧
      (0x3000E00 ≤ A.IVL_RES_LO u && A.IVL_RES_LO u < 0x3000E80 && A.IVL_RES_LO u % 0x20 = 8) = true ∧
      A.IVL_RES_LO u % 0x80 / 0x20 = u := by decide
  obtain ⟨hrcv, hprv, heng, htin, hin, hidx⟩ := h u
  unfold State.readEffect
  rw [if_neg hrcv, if_neg hprv, if_neg heng, if_neg htin, if_pos hin, hidx]

theorem readEffect_tsq4 (p : Fin 64) : s.readEffect (A.TSQ4 p) = s.tsqPop p := by
  have h : ∀ p : Fin 64, A.TSQ4 p ≠ A.GLB_RCV ∧ A.TSQ4 p ≠ A.PRV_LOGPTR ∧
      ¬ (0x5001000 ≤ A.TSQ4 p && A.TSQ4 p < 0x5001900 && A.TSQ4 p % 0x100 = 8) = true ∧
      ¬ (0x2820000 ≤ A.TSQ4 p && A.TSQ4 p < 0x2820200 && A.TSQ4 p % 0x40 = 0x1C) = true ∧
      ¬ (0x3000E00 ≤ A.TSQ4 p && A.TSQ4 p < 0x3000E80 && A.TSQ4 p % 0x20 = 8) = true ∧
      (inPage (A.TSQ4 p) 5 && A.TSQ4 p % 0x100 = 0x40) = true ∧ portOf (A.TSQ4 p) = p := by decide
  obtain ⟨hrcv, hprv, heng, htin, hivl, hin, hidx⟩ := h p
  unfold State.readEffect
  rw [if_neg hrcv, if_neg hprv, if_neg heng, if_neg htin, if_neg hivl, if_pos hin, hidx]

/-- The registers of the interval units read as they are held. -/
theorem live_ivlResLo (u : Fin 4) : s.live (A.IVL_RES_LO u) = s.reg (A.IVL_RES_LO u) := by
  have h : ∀ u : Fin 4, ¬ A.IVL_RES_LO u < 0x1000000 ∧ ¬ A.IVL_RES_LO u < 0x1800000 ∧ ¬ A.IVL_RES_LO u < 0x2800000 ∧ ¬ A.IVL_RES_LO u < 0x3000000 ∧
      A.IVL_RES_LO u < 0x3800000 ∧ ¬ (0x3001000 ≤ A.IVL_RES_LO u && A.IVL_RES_LO u < 0x3001A80) = true ∧ ¬ 0x3010000 ≤ A.IVL_RES_LO u := by decide
  obtain ⟨hglb, hoct, hfab, htim, htdc, hch, hbin⟩ := h u
  unfold State.live
  rw [if_neg hglb, if_neg hoct, if_neg hfab, if_neg htim, if_pos htdc]
  unfold State.liveTdc
  rw [if_neg hch, if_neg hbin]

/-- Reading the result latches the higher word and the flags, and nothing else changes. -/
theorem ivlRead_spec (u : Nat) : (s.ivlRead u).bit (R.IVL_STAT_NEW u) = false ∧ (s.ivlRead u).reg (A.IVL_RES_HI u) = (s.ivl u).hi ∧
    RegsFrame s (s.ivlRead u) [A.IVL_RES_HI u, A.IVL_STAT u] ∧ OnlyRegs s (s.ivlRead u) := by
  unfold State.ivlRead
  extract_lets V w w1 w2 w3 w4
  have hnew : (R.IVL_STAT_NEW u).get w4 = 0 := by
    unfold w4 w3 w2 w1
    rw [Fld.get_put_below _ _ (Nat.le_of_ble_eq_true rfl) (Nat.le_of_ble_eq_true rfl),
      Fld.get_put_below _ _ (Nat.le_of_ble_eq_true rfl) (Nat.le_of_ble_eq_true rfl),
      Fld.get_put_below _ _ (Nat.le_of_ble_eq_true rfl) (Nat.le_of_ble_eq_true rfl), Fld.get_put_same _ (Nat.le_of_ble_eq_true rfl)]
    exact Nat.zero_mod _
  have hne : A.IVL_RES_HI u ≠ A.IVL_STAT u := by simp only [A.IVL_RES_HI, A.IVL_STAT]; omega
  refine ⟨?_, ?_, fun a ha => ?_, (OnlyRegs.setReg _ _ _).trans (OnlyRegs.setReg _ _ _)⟩
  · have hstat : (R.IVL_STAT_NEW u).addr = A.IVL_STAT u := rfl
    unfold State.bit State.rd
    rw [hstat, State.reg_setReg_same, hnew]
    rfl
  · rw [State.reg_setReg_ne _ hne, State.reg_setReg_same]
  · simp only [List.mem_cons, List.not_mem_nil, or_false, not_or] at ha
    rw [State.reg_setReg_ne _ ha.2, State.reg_setReg_ne _ ha.1]

/-! ### The interval units' configuration -/

/-- A full word that BAR0 serves reaches the register; beside what the register does, only what is latched of its group may change. -/
theorem writeBar0_of_plain {a : Nat} (v : Word) (hreg : (findDesc a).isNone = false) (hdead : s.deadWord a = false) (hraw : rawTable a = false) :
    ∃ b, s.writeBar0 0 a v = { s.writeAt a 0xFFFFFFFF v with bus := b } := by
  unfold State.writeBar0 State.regWrite
  simp only [hreg, hdead, hraw, Bool.false_eq_true, if_false]
  split
  · exact ⟨_, rfl⟩
  · exact ⟨_, rfl⟩

theorem writeAt_ivlCfg (u : Fin 4) (m v : Word) : s.writeAt (A.IVL_CFG u) m v = s.ivlCfgWrite u m v := by
  have h : ∀ u : Fin 4, ¬ A.IVL_CFG u < 0x1000000 ∧ ¬ A.IVL_CFG u < 0x1800000 ∧ ¬ A.IVL_CFG u < 0x2200000 ∧ ¬ A.IVL_CFG u < 0x2800000 ∧
      ¬ A.IVL_CFG u < 0x3000000 ∧ A.IVL_CFG u < 0x3800000 ∧ (0x3000E00 ≤ A.IVL_CFG u && A.IVL_CFG u < 0x3000E80 && A.IVL_CFG u % 0x20 = 0) = true ∧
      A.IVL_CFG u % 0x80 / 0x20 = u := by decide
  obtain ⟨hglb, hoct, hfab, hstr, htim, htdc, hin, hidx⟩ := h u
  unfold State.writeAt
  rw [if_neg hglb, if_neg hoct, if_neg hfab, if_neg hstr, if_neg htim, if_pos htdc]
  unfold State.writeTdc
  rw [if_pos hin, hidx]

/-- `EN` is written as it is. -/
theorem getLsbD_putReg_ivlCfg (u : Fin 4) (v : Word) : ((s.putReg (A.IVL_CFG u) 0xFFFFFFFF v).reg (A.IVL_CFG u)).getLsbD 0 = v.getLsbD 0 := by
  have h : ∀ u : Fin 4, (findDesc (A.IVL_CFG u)).map (fun d => (d.rw, d.w1c)) = some (4095, 0) := by decide
  obtain ⟨d, hd, hbits⟩ := Option.map_eq_some_iff.mp (h u)
  obtain ⟨hrw, hw1c⟩ := Prod.mk.inj hbits
  unfold State.putReg
  rw [hd]
  dsimp only
  rw [hrw, hw1c, State.reg_setReg_same]
  simp

/-- Where the address is of no other, a register written so leaves the others. -/
theorem reg_putReg_ne {a b : Nat} (h : b ≠ a) (m v : Word) : (s.putReg a m v).reg b = s.reg b := by
  unfold State.putReg
  split
  · rfl
  · exact s.reg_setReg_ne h _

theorem OnlyRegs.putReg (s : State) (a : Nat) (m v : Word) : OnlyRegs s (s.putReg a m v) := by
  unfold State.putReg
  split
  · exact .refl s
  · exact .setReg s _ _

theorem OnlyRegs.ivl {s t : State} (h : OnlyRegs s t) (u : Nat) : t.ivl u = s.ivl u := by
  obtain ⟨_, rfl⟩ := h
  rfl

/-- The edges of the present TIME cycle are taken before a unit's configuration changes. -/
theorem edges_ivlTake (u : Nat) : ((s.ivlTake u).ivl u).edges = [] := by
  unfold State.ivlTake
  split
  next h => exact List.isEmpty_iff.mp h
  next => exact congrArg Ivl.edges (State.ivl_setIvl_same _ _ _)

theorem edges_ivlDrop (u : Nat) : ((s.ivlDrop u).ivl u).edges = (s.ivl u).edges := (congrArg Ivl.edges (s.ivl_setIvl_same u _) :)

theorem reg_ivlDrop (u a : Nat) : (s.ivlDrop u).reg a = s.reg a := rfl

theorem ivlTake_of_none {u : Nat} (h : (s.ivl u).edges = []) : s.ivlTake u = s := by
  unfold State.ivlTake
  rw [h]
  rfl

/-- A write that leaves `EN` at 0 drops the unit's unpaired edges (Table 9-7). -/
theorem ivlCfgWrite_of_clear (u : Fin 4) {v : Word} (hv : v.getLsbD 0 = false) :
    (s.ivlCfgWrite u 0xFFFFFFFF v).bit (R.IVL_CFG_EN u) = false ∧ ((s.ivlCfgWrite u 0xFFFFFFFF v).ivl u).start = none ∧
      ((s.ivlCfgWrite u 0xFFFFFFFF v).ivl u).stop = none ∧ ((s.ivlCfgWrite u 0xFFFFFFFF v).ivl u).edges = [] ∧
      ((s.ivl u).edges = [] → RegsFrame s (s.ivlCfgWrite u 0xFFFFFFFF v) [A.IVL_CFG u]) := by
  unfold State.ivlCfgWrite
  extract_lets s1
  have hivl : s1.ivl u = ((s.ivlTake u).ivlDrop u).ivl u := (OnlyRegs.putReg _ _ _ _).ivl u
  have hoff : s1.bit (R.IVL_CFG_EN u) = false := (bit_eq_getLsbD s1 (A.IVL_CFG u) 0).trans ((getLsbD_putReg_ivlCfg u v).trans hv)
  rw [if_neg (by rw [hoff]; exact Bool.false_ne_true)]
  have hthis := s1.ivl_setIvl_same u { s1.ivl u with start := none, stop := none }
  refine ⟨hoff, (congrArg Ivl.start hthis :), (congrArg Ivl.stop hthis :), (congrArg Ivl.edges hthis :).trans ?_, fun hnone a ha => ?_⟩
  · rw [hivl, edges_ivlDrop, edges_ivlTake]
  · have hne : a ≠ A.IVL_CFG u := fun h => ha (List.mem_singleton.mpr h)
    rw [State.setIvl_reg, reg_putReg_ne hne, ivlTake_of_none hnone, reg_ivlDrop]

theorem readsThatPop : Rules.ReadsThatPop := by
  intro s hl
  refine ⟨fun p hs => ?_, fun p hs habs => ?_, fun u hs => ?_, fun u v hs hv => ?_⟩
  · have h : ∀ p : Fin 8, latchTail (A.TIN_HEAD3 p) = true ∧ portReg (A.TIN_HEAD3 p) = none := by decide
    obtain ⟨htail, hport⟩ := h p
    refine reads_latched rfl (plainWord_tinHead3 p) htail hs (deadWord_of_noPort hport) hl ?_
    rw [readEffect_tinHead3]
    have hthis := ((onlyBus_tinPop p).tin p).trans (s.tin_setTin_same p _)
    refine ⟨?_, (congrArg Tin.pin hthis :), fun k hk => ((onlyBus_tinPop p).tin k).trans (s.tin_setTin_ne hk _)⟩
    exact (congrArg Tin.queue hthis :).trans List.drop_one
  · have h : ∀ p : Fin 64, latchTail (A.TSQ4 p) = true ∧ portReg (A.TSQ4 p) = some p.val := by decide
    obtain ⟨htail, hport⟩ := h p
    have hdead : s.deadWord (A.TSQ4 p) = false := by
      rw [State.deadWord, hport]
      exact habs
    refine reads_latched rfl (plainWord_tsq4 p) htail hs hdead hl ?_
    rw [readEffect_tsq4]
    have hthis := ((onlyBus_tsqPop p).egr p).trans (s.egr_setEgr_same p _)
    refine ⟨?_, (congrArg Egress.tx hthis :), fun k hk => ((onlyBus_tsqPop p).egr k).trans (s.egr_setEgr_ne hk _)⟩
    exact (congrArg Egress.tsq hthis :).trans List.drop_one
  · have h : ∀ u : Fin 4, latchTail (A.IVL_RES_LO u) = false ∧ portReg (A.IVL_RES_LO u) = none := by decide
    obtain ⟨htail, hport⟩ := h u
    obtain ⟨hnew, hhi, hframe, honly⟩ := ivlRead_spec (s := s) u
    rw [← live_ivlResLo]
    refine reads_live rfl (plainWord_ivlResLo u) htail hs (deadWord_of_noPort hport) hl ?_
    rw [readEffect_ivlResLo]
    exact ⟨hnew, hhi, hframe, honly.bus.trans (OnlyBus.emit _ _)⟩
  · have h : ∀ u : Fin 4, (findDesc (A.IVL_CFG u)).isNone = false ∧ portReg (A.IVL_CFG u) = none ∧ rawTable (A.IVL_CFG u) = false := by decide
    obtain ⟨hreg, hport, hraw⟩ := h u
    obtain ⟨b, hwrite⟩ := writeBar0_of_plain (s := s) v hreg (deadWord_of_noPort hport) hraw
    rw [writeAt_ivlCfg] at hwrite
    exact ⟨_, (busWrite_of_served v hs).trans (congrArg _ hwrite), ivlCfgWrite_of_clear u hv⟩

/-- Settles O25: each of these registers is plain, so that reading it gives its word and does its one effect, and that effect is said once. -/
theorem readsWithEffects : Obligations.ReadsWithEffects := ⟨readsThatClear, readsThatPop⟩

end Sys2Proof.Machine
end

section
/-! ## Commands that are messages of their own (R359, R362, R365, Table 13-3) -/

namespace Sys2Proof.Machine

variable {s s1 : State} {i : Instr} {m : MbCmd} {op p : Nat} {ws ws' res : List Word} {P : State → List Word → Prop}

/-! ### One record that is a whole message -/

/-- An operation of class S, T or X: it is run when its record arrives. -/
abbrev RunsAtOnce (op : Nat) : Prop := opClass op ≠ 0 ∧ opClass op ≠ 4

theorem record_of_free (hf : FreeBox s p) (last : Bool) : s.record p op last ws = s.recIn p op last {} ws := by
  obtain ⟨hserves, hmsg, hwait, hrelay⟩ := hf
  simp [State.record, hserves, hmsg, hwait, hrelay]

theorem formBad_alone (op : Nat) (hc : opClass op ≠ 4) : ({} : Msg).formBad op true = false := by
  have hop : op ≠ 0x22 := fun h => hc (by rw [h]; rfl)
  simp [Msg.formBad, hop]

theorem finish_alone (hc : RunsAtOnce op) (st : Nat) :
    s.finish p (({} : Msg).put op st res) = (s.setMb p { s.mb p with msg := some (({} : Msg).put op st res) }).mbClose p := by
  have hcls : (({} : Msg).put op st res).cls = opClass op := by simp [Msg.cls, Msg.put, hc.1]
  have hseq : (({} : Msg).put op st res).seq = 0 := rfl
  simp [State.finish, hcls, hseq, hc.2]

/-- A record that is accepted is run, and answered or left waiting. -/
theorem recIn_alone (hc : RunsAtOnce op) (hacc : s.accept p op = St.OK) :
    s.recIn p op true {} ws = match s.run p op (Msg.room {} p) ws with
      | (s1, some (st, res)) => (s1.setMb p { s1.mb p with msg := some (({} : Msg).put op st res) }).mbClose p
      | (s1, none) => (s1.setMb p { s1.mb p with msg := some {}, wait := some op }).mbPollAt p := by
  have hvoid : ({} : Msg).void = false := rfl
  have hfail : ({} : Msg).fail.isSome = false := rfl
  unfold State.recIn
  simp only [hvoid, formBad_alone op hc.2, hfail, hacc, hc.2, if_true, if_false, Bool.false_eq_true, ne_eq, not_true]
  split <;> simp only [*, finish_alone hc]

theorem closed_put (s : State) (p op st : Nat) (res : List Word) :
    Closed s ((s.setMb p { s.mb p with msg := some (({} : Msg).put op st res) }).mbClose p) p op st res :=
  ⟨_, rfl, rfl, rfl, by simp [Msg.put], rfl⟩

section
variable (hrow : exec i s = .next (s.record m.partner op m.last ws')) (ha : Alone m op ws s) (hc : RunsAtOnce op)
include hrow ha hc

/-- A command whose run gives a status closes its message with it. -/
theorem closes_of_run {st : Nat} (hrun : s.run m.partner op (Msg.room {} m.partner) ws' = (s1, some (st, res))) :
    ∃ t, exec i s = .next t ∧ Closed s1 t m.partner op st res := by
  obtain ⟨hlast, -, hfree, hacc⟩ := ha
  rw [hlast, record_of_free hfree, recIn_alone hc hacc, hrun] at hrow
  exact ⟨_, hrow, closed_put s1 _ op st res⟩

theorem replies_of_run (hrun : s.run m.partner op (Msg.room {} m.partner) ws' = ranOk s1 res) (hP : P s1 res) : Replies i m op s P := by
  obtain ⟨t, hexec, hclosed⟩ := closes_of_run hrow ha hc hrun
  exact ⟨t, hexec, s1, res, hP, hclosed⟩

/-- A command whose run gives no status leaves its message waiting. -/
theorem waits_of_run (hrun : s.run m.partner op (Msg.room {} m.partner) ws' = (s1, none)) :
    exec i s = .next ((s1.setMb m.partner { s1.mb m.partner with msg := some {}, wait := some op }).mbPollAt m.partner) := by
  obtain ⟨hlast, -, hfree, hacc⟩ := ha
  rw [hlast, record_of_free hfree, recIn_alone hc hacc, hrun] at hrow
  exact hrow

end

theorem words_of_alone (ha : Alone m op ws s) : m.words = ws := ha.2.1

/-! ### The layout of parameters -/

theorem params_of_clear {ms : List Word} {f : Ran} (hlen : ws.length = ms.length) (hclear : ∀ x ∈ ms.zip ws, x.2 &&& ~~~x.1 = 0) :
    params s ms ws f = f := by
  have hany : ((ms.zip ws).any fun x => x.2 &&& ~~~x.1 != 0) = false := by
    rw [List.any_eq_false]
    intro x hx
    rw [hclear x hx]
    decide
  unfold params
  rw [if_neg (not_not.mpr hlen), hany]
  rfl

/-- A number below 2^k has no bit outside the k lowest. -/
theorem clear_of_lt {w : Word} (k : Nat) {b : Word} (hw : w.toNat < 2 ^ k) (hb : ∀ i < k, b.getLsbD i = true) : w &&& ~~~b = 0 := by
  ext i hi
  rcases Nat.lt_or_ge i k with hik | hik
  · have hone : b[i] = true := by rw [← BitVec.getLsbD_eq_getElem]; exact hb i hik
    simp [hone]
  · have hzero : w[i] = false := by
      rw [← BitVec.getLsbD_eq_getElem]
      exact Nat.testBit_lt_two_pow (hw.trans_le (Nat.pow_le_pow_right (by decide) hik))
    simp [hzero]

theorem clear_ones (w : Word) : w &&& ~~~0xFFFFFFFF = 0 := by
  simp

end Sys2Proof.Machine
end

section
/-! ## POWER_SET, COUNTER_SET, KEY_LOAD, AGENT_SET and the restores (R58, R271, R352, R371, R373, R379, R382) -/

namespace Sys2Proof.Machine

variable {s : State}

/-! ### POWER_SET -/

theorem powerSet_replies (m : MbCmd) {ws : List Word} {cs : List Change} (hcs : State.stageItems 0x19 (ws.length + 1) s ws [] = .ok cs)
    (ha : Alone m 0x19 (0 :: ws) s) :
    Replies (.powerSet m) m 0x19 s fun s1 res => s1 = cs.foldl State.applyChange s ∧ res = [] := by
  refine replies_of_run rfl ha (by decide) ?_ ⟨rfl, rfl⟩
  rw [words_of_alone ha]
  show s.runPower (0 :: ws) = _
  simp [State.runPower, hcs]

/-- Registers and the power state aside, nothing differs from `s`, and the device leaves P3. -/
def Leaving (s u : State) : Prop := ∃ r pw, u = { s with regs := r, power := pw } ∧ pw.devExit = true

theorem Leaving.octExit {u : State} (h : Leaving s u) (o : Nat) : Leaving s (u.octExit o) := by
  obtain ⟨r, pw, rfl, hx⟩ := h
  unfold State.octExit
  dsimp only
  split_ifs
  · exact ⟨_, _, rfl, hx⟩
  · exact ⟨_, _, rfl, hx⟩
  · exact ⟨_, _, rfl, hx⟩

/-- Leaving P3 touches registers, the endpoint and the power state alone, and the device's exit is under way. -/
theorem unpark_parts (hm : s.mode = .doze) (bits : Nat) :
    ∃ r pw p o, s.unpark bits = { s with regs := r, power := pw, pcie := p, out := o } ∧ pw.devExit = true := by
  unfold State.unpark
  rw [if_neg (not_not.mpr hm)]
  extract_lets s1 s2 u s3
  have h3 : Leaving s s3 := by
    obtain ⟨r, hr⟩ : OnlyRegs s s2 := ((OnlyRegs.setReg s _ _).trans (OnlyRegs.setBit _ _ _)).trans (OnlyRegs.setBit _ _ _)
    exact ⟨r, { s2.power with devExit := true, exitTb := storeSet (fun _ => 0) s2.power.exitTb 8 s2.tb }, congrArg (fun u : State => { u with power := s3.power }) hr, rfl⟩
  have hfold : Leaving s ((List.range 8).foldl (fun u o => if u.octPower o = 2 then u.octExit o else u) s3) :=
    List.foldlRecOn (motive := Leaving s) _ _ h3 fun u hu o _ => by
      split
      · exact hu.octExit o
      · exact hu
  obtain ⟨r, pw, hu, hx⟩ := hfold
  rw [hu]
  obtain ⟨r', p, o, hv⟩ := OnlyBus.syncVec { s with regs := r, power := pw } 6
  exact ⟨r', pw, p, o, hv, hx⟩

theorem wake_of_doze (hm : s.mode = .doze) (bits : Nat) : (s.wake bits).mode = s.tstate.mode ∧ (s.wake bits).power.devExit = true := by
  obtain ⟨r, pw, p, o, hu, hx⟩ := unpark_parts hm bits
  have htstate : (s.unpark bits).tstate = s.tstate := by rw [hu]; rfl
  unfold State.wake
  rw [if_neg (not_not.mpr hm)]
  dsimp only
  refine ⟨by rw [toMode_mode, htstate], ?_⟩
  obtain ⟨since, r', p', o', ht⟩ := toMode_parts (s.unpark bits) (s.unpark bits).tstate.mode 0x17 (((s.unpark bits).reg A.PWR_WAKE).toNat % 128)
  rw [ht, hu]
  exact hx

theorem powerSetWake_replies (m : MbCmd) (hm : s.mode = .doze) (ha : Alone m 0x19 [0] s) :
    Replies (.powerSetWake m) m 0x19 s fun s1 res => s1.mode = s.tstate.mode ∧ s1.power.devExit = true ∧ res = [] := by
  obtain ⟨hmode, hexit⟩ := wake_of_doze hm 16
  refine replies_of_run rfl ha (by decide) (s1 := s.wake 16) ?_ ⟨hmode, hexit, rfl⟩
  have hwords : (forceBits m 0x1 0x1).words = [1] := by simp [forceBits, words_of_alone ha]
  rw [hwords]
  rfl

/-! ### COUNTER_SET -/

/-- The registers that COUNTER_SET writes. -/
def State.ringRegs (s : State) (a b c d e f : Word) (user : Bool) : State :=
  ((((((s.setReg A.HUB_RING_LO a).setReg A.HUB_RING_HI b).setReg A.HUB_SIZE c).setReg A.HUB_PERIOD d).setReg A.HUB_GMASK_LO e).setReg A.HUB_GMASK_HI f).setBit
    R.HUB_STAT_USER user

theorem ringRegs_reads (s : State) (a b c d e f : Word) (user : Bool) :
    (s.ringRegs a b c d e f user).reg A.HUB_RING_LO = a ∧ (s.ringRegs a b c d e f user).reg A.HUB_RING_HI = b ∧ (s.ringRegs a b c d e f user).reg A.HUB_SIZE = c ∧
      (s.ringRegs a b c d e f user).reg A.HUB_PERIOD = d ∧ (s.ringRegs a b c d e f user).reg A.HUB_GMASK_LO = e ∧ (s.ringRegs a b c d e f user).reg A.HUB_GMASK_HI = f ∧
      (s.ringRegs a b c d e f user).bit R.HUB_STAT_USER = user := by
  unfold State.ringRegs
  refine ⟨?_, ?_, ?_, ?_, ?_, ?_, State.bit_setBit_same _ _ rfl (by decide) _⟩
  all_goals
    refine (State.reg_setBit_ne _ (f := R.HUB_STAT_USER) (by decide) _).trans ?_
    simp (disch := decide) only [State.reg_setReg_ne, State.reg_setReg_same]

theorem counterSet_replies (m : MbCmd) {a b c d e f g : Word} (ha : a &&& ~~~((descRw A.HUB_RING_LO).getD 0) = 0)
    (hb : b &&& ~~~((descRw A.HUB_RING_HI).getD 0) = 0) (hc : c.toNat < 65536) (hd : d.toNat < 16777216) (hg : g.toNat < 2)
    (halone : Alone m 0x1A [a, b, c, d, e, f, g] s) :
    Replies (.counterSet m) m 0x1A s fun s1 res =>
      s1.reg A.HUB_RING_LO = a ∧ s1.reg A.HUB_RING_HI = b ∧ s1.reg A.HUB_SIZE = c ∧ s1.reg A.HUB_PERIOD = d ∧ s1.reg A.HUB_GMASK_LO = e ∧ s1.reg A.HUB_GMASK_HI = f ∧
      s1.bit R.HUB_STAT_USER = g.getLsbD 0 ∧ s1.hub.seq = 0 ∧ res = [] := by
  have hclear : ∀ x ∈ List.zip [(descRw A.HUB_RING_LO).getD 0, (descRw A.HUB_RING_HI).getD 0, 0xFFFF, 0xFFFFFF, 0xFFFFFFFF, 0xFFFFFFFF, 1] [a, b, c, d, e, f, g],
      x.2 &&& ~~~x.1 = 0 := by
    simp only [List.zip_cons_cons, List.zip_nil_right, List.forall_mem_cons, List.not_mem_nil, false_imp_iff, implies_true, and_true]
    exact ⟨ha, hb, clear_of_lt 16 hc (by decide), clear_of_lt 24 hd (by decide), clear_ones e, clear_ones f, clear_of_lt 1 hg (by decide)⟩
  have hrun : s.runCounter [a, b, c, d, e, f, g] =
      ranOk { s.ringRegs a b c d e f (g.getLsbD 0) with hub := { s.hub with seq := 0 } } [] := by
    unfold State.runCounter
    rw [params_of_clear (by rfl) hclear]
    rfl
  obtain ⟨hlo, hhi, hsize, hperiod, hglo, hghi, huser⟩ := ringRegs_reads s a b c d e f (g.getLsbD 0)
  exact replies_of_run (s1 := { s.ringRegs a b c d e f (g.getLsbD 0) with hub := { s.hub with seq := 0 } }) rfl halone (by decide)
    (by rw [words_of_alone halone]; exact hrun) ⟨hlo, hhi, hsize, hperiod, hglo, hghi, huser, rfl, rfl⟩

/-! ### Keys and the agent -/

/-- A word of a KEY_LOAD row whose reserved bits are clear, with its operation. -/
structure KeyWord (w : Word) (op : Nat) : Prop where
  clear : w &&& 0xFFFF0000#32 = 0#32
  lt : w.toNat < 65536
  op : w.toNat / 32 % 8 = op

theorem keyWord_of_lt {w : Word} (hw : w.toNat < 65536) : KeyWord w (w.toNat / 32 % 8) :=
  ⟨clear_of_lt 16 (b := 0x0000FFFF) hw (by decide), hw, rfl⟩

/-- A word whose bits 5 to 7 are clear. -/
theorem and_operation {w : Word} (h : w.toNat / 32 % 8 = 0) : w &&& 0xE0 = 0#32 := by
  have hbits : ∀ i < 32, (0xE0 : Word).getLsbD i = (decide (5 ≤ i) && decide (i < 8)) := by decide
  apply BitVec.eq_of_getLsbD_eq
  intro i hi
  rw [BitVec.getLsbD_and, hbits i hi, BitVec.getLsbD_zero]
  by_cases hr : 5 ≤ i ∧ i < 8
  · have hbit := Nat.testBit_mod_two_pow (w.toNat / 2 ^ 5) 3 (i - 5)
    rw [show w.toNat / 2 ^ 5 % 2 ^ 3 = 0 from h, Nat.testBit_div_two_pow, Nat.zero_testBit, show i - 5 + 5 = i by omega,
      decide_eq_true (show i - 5 < 3 by omega), Bool.true_and] at hbit
    rw [show w.getLsbD i = false from hbit.symm, Bool.false_and]
  · rw [not_and_or] at hr
    rcases hr with hr | hr <;> simp [hr]

/-- Bits 5 to 7, clear in the word, take the operation. -/
theorem forced_toNat {w v : Word} (h : w.toNat / 32 % 8 = 0) (hv : v &&& 0xE0 = v) (hlt : w.toNat + v.toNat < 2 ^ 32) :
    (w &&& ~~~0xE0 ||| v).toNat = w.toNat + v.toNat := by
  have hand := and_operation h
  have hkeep : w &&& ~~~0xE0 = w := by
    calc w &&& ~~~0xE0 = (w &&& ~~~0xE0) ||| (w &&& 0xE0) := by rw [hand, BitVec.or_zero]
      _ = w &&& (~~~0xE0 ||| 0xE0) := BitVec.and_or_distrib_left.symm
      _ = w := BitVec.and_allOnes
  have hapart : w &&& v = 0#32 := by rw [← hv, BitVec.and_comm v, ← BitVec.and_assoc, hand, BitVec.zero_and]
  rw [hkeep, ← BitVec.add_eq_or_of_and_eq_zero w v hapart, BitVec.toNat_add, Nat.mod_eq_of_lt hlt]

/-- The first word of a KEY_LOAD row with its operation in place. -/
theorem forceBits_words (m : MbCmd) {w x : Word} (mask v : Word) (h : m.words = [w, x]) : (forceBits m mask v).words = [w &&& ~~~mask ||| v, x] := by
  simp [forceBits, h]

theorem keyLoad_replies (m : MbCmd) {w x : Word} {ks : List Word} (hw : w.toNat < 32) (hks : ks.length = 8) (ha : Alone m 0x1D (w :: x :: ks) s) :
    Replies (.keyLoad m) m 0x1D s fun s1 res =>
      s1 = { s with keys := storeSet (fun _ => []) s.keys w.toNat ((bytesOf ks).map (BitVec.ofNat 8)) } ∧
        res = (wordsOf (hmac ((bytesOf ks).map (BitVec.ofNat 8)) (List.replicate 32 0))).take 1 := by
  refine replies_of_run rfl ha (by decide) ?_ ⟨rfl, rfl⟩
  rw [words_of_alone ha]
  show s.runKey (w :: x :: ks) = _
  have hop : w.toNat / 32 % 8 = 0 := by omega
  have hslot : w.toNat % 32 = w.toNat := Nat.mod_eq_of_lt hw
  have hclear := (keyWord_of_lt (hw.trans (by decide))).clear
  simp [State.runKey, hclear, hop, hslot, hks]

theorem runKey_erase {w : Word} (x : Word) (hw : KeyWord w 1) :
    s.runKey [w, x] = ranOk { s with keys := storeSet (fun _ => []) s.keys (w.toNat % 32) [], binds := s.binds.filter fun b => b.2.2 != w.toNat % 32 } [] := by
  simp [State.runKey, hw.clear, hw.op]

/-- The bindings of other streams. -/
def State.bindsApart (s : State) (spp id : Nat) : List (Nat × Nat × Nat) := s.binds.filter fun b => !(b.1 == spp && b.2.1 == id)

theorem not_bound_apart {spp id : Nat} : ∀ b ∈ s.bindsApart spp id, ¬ (b.1 = spp ∧ b.2.1 = id) := by
  intro b hb ⟨hspp, hid⟩
  have hkept := (List.mem_filter.mp hb).2
  simp [hspp, hid] at hkept

theorem runKey_bind {w : Word} (x : Word) (hw : KeyWord w 2) (hkey : storeGet (fun _ => []) s.keys (w.toNat % 32) ≠ []) (hroom : s.binds.length < 64) :
    s.runKey [w, x] = ranOk { s with binds := s.bindsApart (w.toNat / 256 % 256) x.toNat ++ [(w.toNat / 256 % 256, x.toNat, w.toNat % 32)] } [] := by
  have hlen : ¬ 64 ≤ (s.bindsApart (w.toNat / 256 % 256) x.toNat).length := not_le.mpr ((List.length_filter_le _ _).trans_lt hroom)
  unfold State.bindsApart at hlen ⊢
  simp only [Bool.not_and] at hlen
  simp [State.runKey, hw.clear, hw.op, hkey, hlen]

theorem runKey_unbind {w : Word} (x : Word) (hw : KeyWord w 3) :
    s.runKey [w, x] = ranOk { s with binds := s.bindsApart (w.toNat / 256 % 256) x.toNat } [] := by
  unfold State.bindsApart
  simp [State.runKey, hw.clear, hw.op]

section
variable (m : MbCmd) {w x : Word}

theorem keyErase_replies (hw : w.toNat < 32) (ha : Alone m 0x1D [w, x] s) :
    Replies (.keyErase m) m 0x1D s fun s1 res =>
      storeGet (fun _ => []) s1.keys w.toNat = [] ∧ (∀ k, k ≠ w.toNat → storeGet (fun _ => []) s1.keys k = storeGet (fun _ => []) s.keys k) ∧
        (∀ b ∈ s1.binds, b.2.2 ≠ w.toNat) ∧ res = [] ∧ s1 = { s with keys := s1.keys, binds := s1.binds } := by
  have hval : (w &&& ~~~0xE0 ||| 0x20).toNat = w.toNat + 32 := forced_toNat (by omega) (by decide) (by rw [show (0x20 : Word).toNat = 32 from rfl]; omega)
  have hslot : (w.toNat + 32) % 32 = w.toNat := by omega
  have hkey : KeyWord (w &&& ~~~0xE0 ||| 0x20) 1 := by
    have h := keyWord_of_lt (w := w &&& ~~~0xE0 ||| 0x20) (by rw [hval]; omega)
    rwa [hval, show (w.toNat + 32) / 32 % 8 = 1 by omega] at h
  have hrun := runKey_erase (s := s) x hkey
  rw [hval, hslot] at hrun
  have hwords : (forceBits m 0xE0 0x20).words = [w &&& ~~~0xE0 ||| 0x20, x] := forceBits_words m _ _ (words_of_alone ha)
  refine replies_of_run rfl ha (by decide) (by rw [hwords]; exact hrun)
    ⟨storeGet_storeSet_same (fun _ => []) s.keys w.toNat [], fun k hk => storeGet_storeSet_ne (fun _ => []) s.keys hk [], fun b hb => ?_, rfl, rfl⟩
  simpa using (List.mem_filter.mp hb).2

theorem keyBind_replies (hw : w.toNat < 65536) (hop : w.toNat / 32 % 8 = 0) (hkey : storeGet (fun _ => []) s.keys (w.toNat % 32) ≠ [])
    (hroom : s.binds.length < 64) (ha : Alone m 0x1D [w, x] s) :
    Replies (.keyBind m) m 0x1D s fun s1 res => (w.toNat / 256, x.toNat, w.toNat % 32) ∈ s1.binds ∧ res = [] ∧ s1 = { s with binds := s1.binds } := by
  have hval : (w &&& ~~~0xE0 ||| 0x40).toNat = w.toNat + 64 := forced_toNat hop (by decide) (by rw [show (0x40 : Word).toNat = 64 from rfl]; omega)
  have hslot : (w.toNat + 64) % 32 = w.toNat % 32 := by omega
  have hspp : (w.toNat + 64) / 256 % 256 = w.toNat / 256 := by omega
  have hword : KeyWord (w &&& ~~~0xE0 ||| 0x40) 2 := by
    have h := keyWord_of_lt (w := w &&& ~~~0xE0 ||| 0x40) (by rw [hval]; omega)
    rwa [hval, show (w.toNat + 64) / 32 % 8 = 2 by omega] at h
  have hrun := runKey_bind x hword (by rw [hval, hslot]; exact hkey) hroom
  rw [hval, hslot, hspp] at hrun
  have hwords : (forceBits m 0xE0 0x40).words = [w &&& ~~~0xE0 ||| 0x40, x] := forceBits_words m _ _ (words_of_alone ha)
  exact replies_of_run rfl ha (by decide) (by rw [hwords]; exact hrun) ⟨List.mem_append_right _ List.mem_cons_self, rfl, rfl⟩

theorem keyUnbind_replies (hw : w.toNat < 65536) (hop : w.toNat / 32 % 8 = 0) (ha : Alone m 0x1D [w, x] s) :
    Replies (.keyUnbind m) m 0x1D s fun s1 res =>
      (∀ b ∈ s1.binds, ¬ (b.1 = w.toNat / 256 ∧ b.2.1 = x.toNat)) ∧ res = [] ∧ s1 = { s with binds := s1.binds } := by
  have hval : (w &&& ~~~0xE0 ||| 0x60).toNat = w.toNat + 96 := forced_toNat hop (by decide) (by rw [show (0x60 : Word).toNat = 96 from rfl]; omega)
  have hspp : (w.toNat + 96) / 256 % 256 = w.toNat / 256 := by omega
  have hword : KeyWord (w &&& ~~~0xE0 ||| 0x60) 3 := by
    have h := keyWord_of_lt (w := w &&& ~~~0xE0 ||| 0x60) (by rw [hval]; omega)
    rwa [hval, show (w.toNat + 96) / 32 % 8 = 3 by omega] at h
  have hrun := runKey_unbind (s := s) x hword
  rw [hval, hspp] at hrun
  have hwords : (forceBits m 0xE0 0x60).words = [w &&& ~~~0xE0 ||| 0x60, x] := forceBits_words m _ _ (words_of_alone ha)
  exact replies_of_run rfl ha (by decide) (by rw [hwords]; exact hrun) ⟨not_bound_apart, rfl, rfl⟩

end

theorem agentSet_replies (m : MbCmd) {w lo hi : Word} (hw : w.toNat < 4096) (hhi : hi.toNat < 65536) (hport : s.absent (w.toNat % 64) = false)
    (ha : Alone m 0x1E [w, lo, hi] s) :
    Replies (.agentSet m) m 0x1E s fun s1 res =>
      s1 = { s with agent := { s.agent with en := w.getLsbD 6, port := w.toNat % 64, slot := w.toNat / 128, mac := .ofNat 48 (lo.toNat + 4294967296 * hi.toNat) } } ∧
        res = [] := by
  have hclear : ∀ x ∈ List.zip [0xFFF, 0xFFFFFFFF, 0xFFFF] [w, lo, hi], x.2 &&& ~~~x.1 = 0 := by
    simp only [List.zip_cons_cons, List.zip_nil_right, List.forall_mem_cons, List.not_mem_nil, false_imp_iff, implies_true, and_true]
    exact ⟨clear_of_lt 12 hw (by decide), clear_ones lo, clear_of_lt 16 hhi (by decide)⟩
  have hslot : w.toNat / 128 % 32 = w.toNat / 128 := Nat.mod_eq_of_lt (by omega)
  refine replies_of_run rfl ha (by decide) ?_ ⟨rfl, rfl⟩
  rw [words_of_alone ha]
  show s.runAgent [w, lo, hi] = _
  unfold State.runAgent
  rw [params_of_clear (by rfl) hclear]
  rw [show [w, lo, hi].getD 0 0 = w from rfl]
  dsimp only
  rw [hport, hslot]
  rfl

/-! ### REPAIR_RESTORE and CAL_RESTORE -/

theorem repairRestore_replies (m : MbCmd) {h : Word} {es : List Word} (hlen : es.length ≤ 128) (hn : h.toNat % 256 = es.length)
    (hcrc : h.toNat / 65536 = repairCrc es) (hok : ∀ w ∈ es, repairOk w = true) (ha : Alone m 0x1B (Config.dieTag :: h :: es) s) :
    Replies (.repairRestore m) m 0x1B s fun s1 res =>
      ∃ x : Restore, x = (List.range es.length).foldl (fun (x : Restore) i => x.take i (es.getD i 0)) { map := s.repairs, st := s } ∧
        s1 = x.st.setRepairs x.map ∧ res.length = 5 := by
  have hany : (es.any fun w => !repairOk w) = false := by
    rw [List.any_eq_false]
    intro w hw
    rw [hok w hw]
    decide
  let x := (List.range es.length).foldl (fun (x : Restore) i => x.take i (es.getD i 0)) { map := s.repairs, st := s }
  refine replies_of_run (res := [.ofNat (flag x.cleared + 256 * x.count)] ++ (List.range 4).map fun k => .ofNat (x.lost / 4294967296 ^ k))
    rfl ha (by decide) ?_ ⟨x, rfl, rfl, rfl⟩
  rw [words_of_alone ha]
  show s.runRepair (Config.dieTag :: h :: es) = _
  unfold State.runRepair
  dsimp only
  rw [show (Config.dieTag :: h :: es).drop 2 = es from rfl, show (Config.dieTag :: h :: es).getD 1 0 = h from rfl, show (Config.dieTag :: h :: es).getD 0 0 = Config.dieTag from rfl, hn, hcrc, hany]
  simp only [Nat.not_lt.mpr hlen, ne_eq, not_true, decide_false, Bool.or_self, Bool.false_eq_true, if_false]
  rfl

/-- Asking for a calibration run leaves the fields of a channel's status word apart from its request. -/
theorem rd_calPend {u : State} {c : Nat} {f : Fld} (ha : f.addr = A.TDC_CHSTAT c) (hf : f.lo + f.width ≤ 5 ∨ 6 ≤ f.lo) : (u.calPend c).rd f = u.rd f := by
  have hask : ((u.setBit (R.TDC_CHSTAT_PEND c) true).calAsk (calGroup c)).rd f = (u.setBit (R.TDC_CHSTAT_PEND c) true).rd f := by
    unfold State.calAsk
    split <;> rfl
  have hset : (u.setBit (R.TDC_CHSTAT_PEND c) true).rd f = u.rd f :=
    rd_setBit_apart (f := R.TDC_CHSTAT_PEND c) (g := f) ha (Nat.le_of_ble_eq_true rfl) (by rcases hf with h | h <;> simp [R.TDC_CHSTAT_PEND, h]) true
  unfold State.calPend
  split
  · rfl
  · exact hask.trans hset

/-- The state with a table restored, before a run is asked for. -/
def State.binsRestored (s : State) (c : Nat) (tbl : List Nat) (tcal : Nat) : State :=
  (((s.setBins c tbl).wr (R.TDC_CHSTAT_GRADE c) 3).wr (R.TDC_CHSTAT_TCAL c) tcal).setBit (R.TDC_CHSTAT_PEND c) false

theorem binsRestored_reads (s : State) (c : Nat) (tbl : List Nat) {tcal : Nat} (ht : tcal < 1024) :
    (s.binsRestored c tbl tcal).rd (R.TDC_CHSTAT_GRADE c) = 3 ∧ (s.binsRestored c tbl tcal).rd (R.TDC_CHSTAT_TCAL c) = tcal := by
  unfold State.binsRestored
  refine ⟨?_, ?_⟩
  · rw [rd_setBit_apart (f := R.TDC_CHSTAT_PEND c) (g := R.TDC_CHSTAT_GRADE c) rfl (Nat.le_of_ble_eq_true rfl) (.inr (Nat.le_of_ble_eq_true rfl)) false,
      State.rd_wr_disjoint _ (f := R.TDC_CHSTAT_TCAL c) (g := R.TDC_CHSTAT_GRADE c) rfl (Nat.le_of_ble_eq_true rfl) (.inr (Nat.le_of_ble_eq_true rfl))]
    exact rd_wr_of_lt (f := R.TDC_CHSTAT_GRADE c) (Nat.le_of_ble_eq_true rfl) (show 3 < 2 ^ 2 by decide)
  · rw [rd_setBit_apart (f := R.TDC_CHSTAT_PEND c) (g := R.TDC_CHSTAT_TCAL c) rfl (Nat.le_of_ble_eq_true rfl) (.inl (Nat.le_of_ble_eq_true rfl)) false]
    exact rd_wr_of_lt (f := R.TDC_CHSTAT_TCAL c) (Nat.le_of_ble_eq_true rfl) (show tcal < 2 ^ 10 from ht)

/-- What a restored table leaves of its channel: grade 3 and the saved temperature. -/
theorem calTake_restores {h k : Word} {ts : List Word} {c : Nat} (hc : h.toNat % 128 = c) (hh : h.toNat < 0x4000000)
    (hcrc : k.toNat = binCrc (ts.flatMap fun w => [w.toNat % 65536, w.toNat / 65536])) (hstate : s.rd (R.TDC_CHSTAT_STATE c) ≠ 1)
    (hgrade : s.rd (R.TDC_CHSTAT_GRADE c) ≠ 2) :
    (s.calTake (h :: k :: ts)).1.rd (R.TDC_CHSTAT_GRADE c) = 3 ∧ (s.calTake (h :: k :: ts)).1.rd (R.TDC_CHSTAT_TCAL c) = h.toNat / 65536 := by
  have htemp : h.toNat / 65536 < 1024 := by omega
  have hcrc' : ¬ binCrc (((h :: k :: ts).drop 2).flatMap fun w => [w.toNat % 65536, w.toNat / 65536]) ≠ ((h :: k :: ts).getD 1 0).toNat := not_not.mpr hcrc.symm
  have hkept : ¬ (decide (s.rd (R.TDC_CHSTAT_GRADE c) = 2) && decide (s.tcalDrift c ≤ 4 * s.rd R.TDC_CALCFG_CAL_DT)) = true := by simp [hgrade]
  obtain ⟨hg, ht⟩ := binsRestored_reads s c (((h :: k :: ts).drop 2).flatMap fun w => [w.toNat % 65536, w.toNat / 65536]) htemp
  unfold State.calTake
  extract_lets c' tbl s1 s2
  rw [show c' = c from hc, if_neg hcrc', if_neg hstate, if_neg hkept]
  have hs2 : s2 = s.binsRestored c tbl (h.toNat / 65536) := by
    unfold State.binsRestored
    rw [← hc, ← Nat.mod_eq_of_lt htemp]
    rfl
  rw [← hs2] at hg ht
  dsimp only
  split
  · rw [rd_calPend (f := R.TDC_CHSTAT_GRADE c) rfl (.inl (Nat.le_of_ble_eq_true rfl)), rd_calPend (f := R.TDC_CHSTAT_TCAL c) rfl (.inr (Nat.le_of_ble_eq_true rfl))]
    exact ⟨hg, ht⟩
  · exact ⟨hg, ht⟩

/-- A head word of CAL_RESTORE with clear reserved bits lies below 2^26. -/
theorem calHead_lt {h : Word} (hclear : h &&& 0xFC00FF80 = 0) : h.toNat < 0x4000000 := by
  have hbits : ∀ i < 32, 26 ≤ i → (0xFC00FF80 : Word).getLsbD i = true := by decide
  refine Nat.lt_pow_two_of_testBit (n := 26) _ fun i hi => ?_
  rcases Nat.lt_or_ge i 32 with h32 | h32
  · have hbit := congrArg (fun w : Word => w.getLsbD i) hclear
    simp only [BitVec.getLsbD_and, hbits i h32 hi, Bool.and_true] at hbit
    exact hbit.trans BitVec.getLsbD_zero
  · exact Nat.testBit_lt_two_pow (h.isLt.trans_le (Nat.pow_le_pow_right (by decide) h32))

theorem calRestore_replies (m : MbCmd) (c : Fin 84) {h k : Word} {ts : List Word} (hts : ts.length = 256) (hc : h.toNat % 128 = c.val)
    (hclear : h &&& 0xFC00FF80 = 0) (hk : k.toNat < 65536) (hcrc : k.toNat = binCrc (ts.flatMap fun w => [w.toNat % 65536, w.toNat / 65536]))
    (hstate : s.rd (R.TDC_CHSTAT_STATE c) ≠ 1) (hgrade : s.rd (R.TDC_CHSTAT_GRADE c) ≠ 2) (ha : Alone m 0x1C (Config.dieTag :: h :: k :: ts) s) :
    Replies (.calRestore m) m 0x1C s fun s1 res =>
      s1.rd (R.TDC_CHSTAT_GRADE c) = 3 ∧ s1.rd (R.TDC_CHSTAT_TCAL c) = h.toNat / 65536 ∧ res.length = 6 := by
  obtain ⟨hg, ht⟩ := calTake_restores hc (calHead_lt hclear) hcrc hstate hgrade
  have hlen : (h :: k :: ts).length = 258 := by simp [hts]
  have hhc : h &&& 0xFC00FF80#32 = 0#32 := hclear
  have hkc : k &&& 0xFFFF0000#32 = 0#32 := clear_of_lt 16 (b := 0x0000FFFF) hk (by decide)
  have hall (f : Nat → Nat) : (State.calTakeAll 1 s (h :: k :: ts) f).1 = (s.calTake (h :: k :: ts)).1 := by
    unfold State.calTakeAll
    rw [List.take_of_length_le hlen.le]
    rfl
  have hheads : ((List.range ((h :: k :: ts).length / 258)).map fun j => ((h :: k :: ts).getD (258 * j) 0, (h :: k :: ts).getD (258 * j + 1) 0)) = [(h, k)] := by
    rw [hlen]
    rfl
  have hrun : s.runCalRestore (Config.dieTag :: h :: k :: ts) =
      ranOk (s.calTake (h :: k :: ts)).1 (calReport (State.calTakeAll 1 s (h :: k :: ts) fun k => (Config.calIgnored k).toNat).2) := by
    unfold State.runCalRestore
    rw [show (Config.dieTag :: h :: k :: ts).drop 1 = h :: k :: ts from rfl, show (Config.dieTag :: h :: k :: ts).getD 0 0 = Config.dieTag from rfl]
    dsimp only
    rw [hheads, hlen]
    simp [hhc, hkc, hc, Nat.not_le.mpr c.isLt, ranOk, hall]
  exact replies_of_run rfl ha (by decide) (by rw [words_of_alone ha]; exact hrun) ⟨hg, ht, rfl⟩

/-! ### The statement -/

theorem powerCounterKeyAndAgentCommands : Rules.PowerCounterKeyAndAgentCommands := fun m _ =>
  ⟨fun _ _ hcs ha => powerSet_replies m hcs ha, powerSetWake_replies m, fun _ _ _ _ _ _ _ ha hb hc hd hg halone => counterSet_replies m ha hb hc hd hg halone,
    fun _ _ _ hw hks ha => keyLoad_replies m hw hks ha, fun _ _ hw ha => keyErase_replies m hw ha,
    fun _ _ hw hop hkey hroom ha => keyBind_replies m hw hop hkey hroom ha, fun _ _ hw hop ha => keyUnbind_replies m hw hop ha,
    fun _ _ _ hw hhi hport ha => agentSet_replies m hw hhi hport ha⟩

theorem restoreCommands : Rules.RestoreCommands := fun m _ =>
  ⟨fun _ _ hlen hn hcrc hok ha => repairRestore_replies m hlen hn hcrc hok ha,
    fun c _ _ _ hts hc hclear hk hcrc hstate hgrade ha => calRestore_replies m c hts hc hclear hk hcrc hstate hgrade ha⟩

/-- Settles O33: each row is one record that is run at once; its run is evaluated on the parameters that the statement admits. -/
theorem configurationCommands : Obligations.ConfigurationCommands := ⟨powerCounterKeyAndAgentCommands, restoreCommands⟩

end Sys2Proof.Machine
end

section
/-! ## The frame `Spares`: what stops, closes and logs leaves of the lowest registers, the keys and the device's own state -/

namespace Sys2Proof.Machine

-- The many short proofs are elaborated one after another: at once, each takes a thread with a stack of its own.
set_option Elab.async false

variable {s₀ s : State}

/-- The registers below the event log's own, the keys and their bindings, the journal, the transactions and the device's own state are as they were, the
register store being in canonical form. -/
structure Spares (s₀ s : State) : Prop where
  regsOk : RegsOk s
  low : ∀ a < 0x50, s.reg a = s₀.reg a
  keys : s.keys = s₀.keys
  binds : s.binds = s₀.binds
  journal : s.journal = s₀.journal
  txns : s.txns = s₀.txns
  sys : s.sys.lasting = s₀.sys.lasting

theorem Spares.refl (h : RegsOk s) : Spares s s := ⟨h, fun _ _ => rfl, rfl, rfl, rfl, rfl, rfl⟩

/-- Any part outside the frame is set. -/
theorem Spares.parts {t : State} (h : Spares s₀ s) (hregs : t.regs = s.regs := by rfl) (hkeys : t.keys = s.keys := by rfl) (hbinds : t.binds = s.binds := by rfl)
    (hjournal : t.journal = s.journal := by rfl) (htxns : t.txns = s.txns := by rfl) (hsys : t.sys.lasting = s.sys.lasting := by rfl) : Spares s₀ t where
  regsOk := by
    have hok := h.regsOk
    unfold RegsOk at hok ⊢
    rwa [hregs]
  low a ha := by
    rw [← h.low a ha]
    unfold State.reg
    rw [hregs]
  keys := hkeys.trans h.keys
  binds := hbinds.trans h.binds
  journal := hjournal.trans h.journal
  txns := htxns.trans h.txns
  sys := hsys.trans h.sys

theorem Spares.bit {f : Fld} (h : Spares s₀ s) (hf : f.addr < 0x50 := by decide) : s.bit f = s₀.bit f := by
  unfold State.bit State.rd
  rw [h.low f.addr hf]

theorem Spares.rd {f : Fld} (h : Spares s₀ s) (hf : f.addr < 0x50 := by decide) : s.rd f = s₀.rd f := by
  unfold State.rd
  rw [h.low f.addr hf]

theorem Spares.setReg {b : Nat} {w : Word} (h : Spares s₀ s) (hb : 0x50 ≤ b := by decide) : Spares s₀ (s.setReg b w) where
  regsOk := s.setReg_regsOk b w h.regsOk
  low a ha := (s.reg_setReg_ne (ha.trans_le hb).ne w).trans (h.low a ha)
  keys := h.keys
  binds := h.binds
  journal := h.journal
  txns := h.txns
  sys := h.sys

theorem Spares.wr {f : Fld} {v : Nat} (h : Spares s₀ s) (hf : 0x50 ≤ f.addr := by decide) : Spares s₀ (s.wr f v) := h.setReg hf
theorem Spares.setBit {f : Fld} {b : Bool} (h : Spares s₀ s) (hf : 0x50 ≤ f.addr := by decide) : Spares s₀ (s.setBit f b) := h.wr hf

/-- An array of registers that begins above the lowest ones. -/
theorem le_array {b n : Nat} (hb : 0x50 ≤ b := by decide) : 0x50 ≤ b + n := Nat.le_add_right_of_le hb

/-- The same of an array of two indices. -/
theorem le_array2 {b m n : Nat} (hb : 0x50 ≤ b := by decide) : 0x50 ≤ b + m + n := le_array (le_array hb)

/-- Register words from the log's on are changed throughout. -/
theorem Spares.mapRegs {f : Nat → Word → Word} (h : Spares s₀ s) (hf : ∀ a < 0x50, ∀ w, f a w = w) :
    Spares s₀ { s with regs := storeMap resetWord f s.regs } where
  regsOk := storeWf_storeMap resetWord f h.regsOk
  low a ha := (storeGet_storeMap_of_fixed h.regsOk (hf a ha)).trans (h.low a ha)
  keys := h.keys
  binds := h.binds
  journal := h.journal
  txns := h.txns
  sys := h.sys

theorem Spares.ite {c : Prop} {i : Decidable c} {t u : State} (ht : Spares s₀ t) (hu : Spares s₀ u) : Spares s₀ (if c then t else u) := by
  split
  · exact ht
  · exact hu

theorem Spares.foldl {α : Type} {f : State → α → State} {l : List α} (h : Spares s₀ s) (hf : ∀ u x, Spares s₀ u → Spares s₀ (f u x)) :
    Spares s₀ (l.foldl f s) := by
  induction l generalizing s with
  | nil => exact h
  | cons x l ih => exact ih (hf s x h)

/-! ### Lines, counters, the log and modes -/

theorem Spares.emit {o : Out} (h : Spares s₀ s) : Spares s₀ (s.emit o) := h.parts

theorem Spares.deliver {v : Nat} (h : Spares s₀ s) : Spares s₀ (s.deliver v) :=
  .ite h (.ite (h.setBit le_array) (h.setBit le_array).emit)

theorem Spares.syncVec {v : Nat} (h : Spares s₀ s) : Spares s₀ (s.syncVec v) :=
  .ite (.ite h (.deliver (h.parts (t := { s with pcie := { s.pcie with lines := s.pcie.lines ||| BitVec.twoPow 64 v } }))))
    (.ite (.setBit (h.parts (t := { s with pcie := { s.pcie with lines := s.pcie.lines &&& ~~~(BitVec.twoPow 64 v) } })) le_array) h)

/-- A counter of one word that stands above the lowest registers. -/
structure Ctr.High (c : Ctr) : Prop where
  lo : 0x50 ≤ c.lo.addr
  hiBits : c.hiBits = 0
  sticky : 0x50 ≤ c.sticky.addr

theorem Spares.setCtr {c : Ctr} {v : Nat} (h : Spares s₀ s) (hc : c.High) : Spares s₀ (s.setCtr c v) := by
  unfold State.setCtr
  rw [if_pos hc.hiBits]
  exact h.wr hc.lo

theorem Spares.overflowed {c : Ctr} (h : Spares s₀ s) (hc : c.High) : Spares s₀ (s.overflowed c) :=
  .ite (h.setBit hc.sticky).setBit.syncVec (h.setBit hc.sticky)

theorem Spares.countBy {c : Ctr} {n : Nat} (h : Spares s₀ s) (hc : c.High) : Spares s₀ (s.countBy c n) := by
  unfold State.countBy
  extract_lets v
  split
  · exact h
  · split
    · exact .ite h (.ite ((h.setCtr hc).overflowed hc) (h.setCtr hc))
    · exact .ite ((h.setCtr hc).overflowed hc) (h.setCtr hc)

theorem Spares.count {c : Ctr} (h : Spares s₀ s) (hc : c.High) : Spares s₀ (s.count c) := h.countBy hc

theorem evlLost_high : Ctr.evlLost.High := ⟨by decide, rfl, by decide⟩
theorem smpLost_high : Ctr.smpLost.High := ⟨by decide, rfl, by decide⟩

theorem rxLost_high (p : Nat) : (Ctr.port p 0x3D).High := by
  refine ⟨?_, rfl, ?_⟩ <;>
  · simp only [Ctr.port, portCtrAddr]
    omega

theorem Spares.setWords {a : Nat} {ws : List Word} (h : Spares s₀ s) (ha : 0x50 ≤ a) : Spares s₀ (s.setWords a ws) := by
  induction ws generalizing s a with
  | nil => exact h
  | cons w ws ih => exact ih (h.setReg ha) (Nat.le_add_right_of_le ha)

theorem Spares.logAs {src sev : Nat} {int : Bool} {code p0 p1 : Nat} (h : Spares s₀ s) : Spares s₀ (s.logAs src sev int code p0 p1) := by
  unfold State.logAs
  extract_lets i unread s1 s2
  have h1 : Spares s₀ s1 := h.setWords (by unfold evlAddr; omega)
  have h2 : Spares s₀ s2 := .ite (h1.count evlLost_high).wr h1
  exact h2.wr

theorem Spares.log {code p0 p1 : Nat} (h : Spares s₀ s) : Spares s₀ (s.log code p0 p1) := h.logAs

theorem Spares.setMode {m : Mode} {since : Option Nat} (h : Spares s₀ s) : Spares s₀ { s with mode := m, sys := { s.sys with fwdSince := since } } := h.parts

theorem Spares.toMode {m : Mode} {cause detail : Nat} (h : Spares s₀ s) : Spares s₀ (s.toMode m cause detail) := by
  unfold State.toMode
  extract_lets s1 since
  have h1 : Spares s₀ s1 := h.log
  clear_value s1 since
  exact .ite h h1.setMode.setBit.syncVec

/-! ### Engines -/

theorem Spares.setEng {e : Nat} {x : Engine} (h : Spares s₀ s) : Spares s₀ (s.setEng e x) := h.parts

theorem Spares.putSample {words : List Word} (h : Spares s₀ s) : Spares s₀ (s.putSample words) :=
  .ite h (.ite (h.count smpLost_high) h.wr.emit)

theorem Spares.sampleAct {e : Nat} {a : Act} {disc : Option Nat} {actual : Int} (h : Spares s₀ s) : Spares s₀ (s.sampleAct e a disc actual) := by
  unfold State.sampleAct
  extract_lets u
  split
  · exact h
  · exact h.setEng.putSample

theorem Spares.sampleDiscard {e cause : Nat} {as : List Act} (h : Spares s₀ s) : Spares s₀ (s.sampleDiscard e cause as) :=
  h.foldl fun _ _ hu => hu.sampleAct

theorem Spares.stopEngine {e : Nat} (h : Spares s₀ s) : Spares s₀ (s.stopEngine e) := h.sampleDiscard.setEng
theorem Spares.stopEngines (h : Spares s₀ s) : Spares s₀ s.stopEngines := h.foldl fun _ _ hu => hu.stopEngine
theorem Spares.setGlist {p : Nat} {l : Option GateList} (h : Spares s₀ s) : Spares s₀ (s.setGlist p l) := h.parts
theorem Spares.setGpend {p : Nat} {l : Option GateList} (h : Spares s₀ s) : Spares s₀ (s.setGpend p l) := h.parts

theorem Spares.dropGlists {e : Nat} (h : Spares s₀ s) : Spares s₀ (s.dropGlists e) :=
  h.foldl fun _ _ hu => (hu.setGlist.setGpend.setBit le_array).setBit le_array

/-! ### Calibration and ports -/

theorem Spares.setCal {g : Nat} {x : Option CalRun} (h : Spares s₀ s) : Spares s₀ (s.setCal g x) := h.parts
theorem Spares.calAsk {g : Nat} (h : Spares s₀ s) : Spares s₀ (s.calAsk g) := .ite h.parts h

theorem Spares.handBack {g c : Nat} (h : Spares s₀ s) : Spares s₀ (s.handBack g c) :=
  .ite (((h.wr le_array).wr le_array).wr le_array) h

theorem Spares.calEnd {g : Nat} (h : Spares s₀ s) : Spares s₀ (s.calEnd g) := by
  unfold State.calEnd
  split
  · exact h
  next r _ =>
    extract_lets s1 s2
    have h1 : Spares s₀ s1 := h.handBack.setCal.setBit le_array
    have h2 : Spares s₀ s2 := h1.wr
    exact Spares.calAsk h2.parts

theorem Spares.calLinkLost {c : Nat} (h : Spares s₀ s) : Spares s₀ (s.calLinkLost c) := by
  unfold State.calLinkLost
  split
  · exact .ite h.calEnd h
  · exact h

theorem Spares.calAbortAll (h : Spares s₀ s) : Spares s₀ s.calAbortAll := h.foldl fun _ _ hu => hu.calEnd
theorem Spares.setLink {p : Nat} {x : Link} (h : Spares s₀ s) : Spares s₀ (s.setLink p x) := h.parts
theorem Spares.setEgr {p : Nat} {x : Egress} (h : Spares s₀ s) : Spares s₀ (s.setEgr p x) := h.parts
theorem Spares.setTracker {p : Nat} {x : Tracker} (h : Spares s₀ s) : Spares s₀ (s.setTracker p x) := h.parts
theorem Spares.trackerReset {p : Nat} (h : Spares s₀ s) : Spares s₀ (s.trackerReset p) := h.setTracker.setBit le_array

theorem Spares.portOff {p : Nat} (h : Spares s₀ s) : Spares s₀ (s.portOff p) :=
  (Spares.ite (h.count (rxLost_high p)) h).setLink.trackerReset.setEgr.calLinkLost

theorem Spares.dropFrames (h : Spares s₀ s) : Spares s₀ s.dropFrames := by
  unfold State.dropFrames
  extract_lets s1
  have h1 : Spares s₀ s1 := h.foldl fun _ _ hu => hu.portOff
  clear_value s1
  exact h1.parts

/-! ### Pins, the role and references -/

theorem Spares.setTout {p : Nat} {x : Tout} (h : Spares s₀ s) : Spares s₀ (s.setTout p x) := h.parts
theorem Spares.pinsOff (h : Spares s₀ s) : Spares s₀ s.pinsOff := h.foldl fun _ _ hu => (Spares.ite hu.emit hu).setTout

theorem Spares.asRole {r : Role} (h : Spares s₀ s) : Spares s₀ { s with role := r } := h.parts
theorem Spares.asTwin {T : Twin} (h : Spares s₀ s) : Spares s₀ { s with twin := T } := h.parts
theorem Spares.setRole {r : Role} {claim : Nat} (h : Spares s₀ s) : Spares s₀ (s.setRole r claim) := h.log.wr.asRole

theorem Spares.soloRole (h : Spares s₀ s) : Spares s₀ s.soloRole := by
  have h1 : Spares s₀ (if s.role = .solo then s else s.setRole .solo s.ownClaim) := .ite h h.setRole
  exact h1.asTwin

theorem Spares.setRef {d : Nat} {x : Ref} (h : Spares s₀ s) : Spares s₀ (s.setRef d x) := h.parts
theorem Spares.setCand {d k : Nat} {x : Cand} (h : Spares s₀ s) : Spares s₀ (s.setCand d k x) := h.parts

theorem Spares.candTo {d k st : Nat} (h : Spares s₀ s) : Spares s₀ (s.candTo d k st) := by
  unfold State.candTo
  extract_lets s1 u
  have h1 : Spares s₀ s1 := h.wr le_array2
  have hfail : ∀ g, 0x50 ≤ g.addr → Spares s₀ (((s1.setBit g true).setBit (R.REF_DHIST_CAND_FAIL d) true).syncVec (24 + d)) := fun g hg =>
    ((h1.setBit hg).setBit le_array).syncVec
  split
  · exact h
  · split
    · exact h1.setCand
    · exact (h1.setBit le_array2).setCand
    · exact h1.setCand
    · exact hfail _ le_array2
    · exact hfail _ le_array2
    · exact (h1.setBit le_array2).setCand
    · exact h1

theorem Spares.deselect {d : Nat} (h : Spares s₀ s) : Spares s₀ (s.deselect d) := by
  unfold State.deselect
  extract_lets s1
  have h1 : Spares s₀ s1 := ((h.setBit le_array).setBit le_array).wr le_array
  split
  · exact h.setBit le_array
  · exact (Spares.ite h1.candTo h1).setRef

theorem Spares.requalCands (h : Spares s₀ s) : Spares s₀ s.requalCands := by
  unfold State.requalCands
  refine .foldl (h.foldl fun _ _ hu => .ite hu.deselect.setRef hu) fun _ _ hu => ?_
  exact .ite hu (.ite hu.candTo hu.setCand)

theorem Spares.twinEnter (h : Spares s₀ s) : Spares s₀ s.twinEnter := .ite h h.setBit.asTwin

/-! ### Mailboxes -/

theorem Spares.setMb {p : Nat} {x : Mb} (h : Spares s₀ s) : Spares s₀ (s.setMb p x) := h.parts

theorem rspBuf_high (p : Nat) : 0x50 ≤ rspBuf p := by
  unfold rspBuf
  omega

theorem Spares.mbFill {p : Nat} {ws : List Word} (h : Spares s₀ s) : Spares s₀ (s.mbFill p ws) :=
  ((h.mapRegs fun a ha w => by rw [if_neg]; have := rspBuf_high p; simp; omega).setWords (rspBuf_high p)).setBit le_array |>.syncVec

theorem Spares.mbPost {p : Nat} {ws : List Word} (h : Spares s₀ s) : Spares s₀ (s.mbPost p ws) :=
  .ite h.emit <|
  .ite h.emit (.ite h.setMb h.mbFill)

theorem Spares.mbClose {p : Nat} (h : Spares s₀ s) : Spares s₀ (s.mbClose p) := by
  unfold State.mbClose
  extract_lets u
  split
  · exact h
  · exact h.setMb.mbPost

theorem Spares.mbComplete {p st : Nat} {res : List Word} (h : Spares s₀ s) : Spares s₀ (s.mbComplete p st res) := by
  unfold State.mbComplete
  extract_lets op u
  split
  · exact h
  · exact h.setMb.mbClose

theorem Spares.mbPollAt {p : Nat} (h : Spares s₀ s) : Spares s₀ (s.mbPollAt p) := by
  unfold State.mbPollAt
  split
  · exact .ite h.mbComplete (.ite h h.mbComplete)
  · exact .ite h.mbComplete (.ite h h.mbComplete)
  · exact .ite h.mbComplete (.ite h h.mbComplete)
  · exact h

theorem Spares.mbPoll (h : Spares s₀ s) : Spares s₀ s.mbPoll := h.foldl fun _ _ hu => hu.mbPollAt

/-- Registers of a block that begins above the lowest ones are erased. -/
theorem Spares.eraseRegs {lo hi : Nat} {f : Nat → Bool} (h : Spares s₀ s) (hlo : 0x50 ≤ lo := by decide) : Spares s₀ (s.eraseRegs lo hi f) :=
  h.mapRegs fun a ha w => by rw [if_neg]; simp; omega

end Sys2Proof.Machine
end

section
/-! ## What the log, a change of mode and the mailbox leave -/

namespace Sys2Proof.Machine

variable {s : State}

/-! ### Registers that no log entry writes -/

/-- The address is none that an entry of the event log, its counter or an interrupt message writes. -/
structure Unlogged (a : Nat) : Prop where
  below : a < 0x8003800
  ring : a < 0x20000 ∨ 0x40000 ≤ a
  fixed : a ∉ [A.EVL_HEAD, A.EVL_RD, A.EVL_LOST, R.EVL_LOST_STICKY.addr, A.HUB_STAT, A.GLB_ISRC]

section
variable {a : Nat} (ha : Unlogged a)
include ha

theorem Unlogged.ne {b : Nat} (hb : b ∈ [A.EVL_HEAD, A.EVL_RD, A.EVL_LOST, R.EVL_LOST_STICKY.addr, A.HUB_STAT, A.GLB_ISRC]) : a ≠ b :=
  fun h => ha.fixed (h ▸ hb)

theorem reg_overflowed_evlLost : (s.overflowed .evlLost).reg a = s.reg a := by
  have hsticky : (s.setBit R.EVL_LOST_STICKY true).reg a = s.reg a := s.reg_setBit_ne (ha.ne (by decide)) true
  unfold State.overflowed
  extract_lets s1
  split
  · exact (reg_syncVec_ne ha.below 7).trans ((s1.reg_setBit_ne (f := R.HUB_STAT_WRAP) (ha.ne (by decide)) true).trans hsticky)
  · exact hsticky

theorem reg_count_evlLost : (s.count .evlLost).reg a = s.reg a := by
  have hset : ∀ v, (s.setCtr .evlLost v).reg a = s.reg a := fun v => s.reg_wr_ne (f := R.EVL_LOST_COUNT) (ha.ne (by decide)) _
  unfold State.count State.countBy
  extract_lets v
  split
  · rfl
  · split
    · split
      · rfl
      · split
        · exact (reg_overflowed_evlLost ha).trans (hset _)
        · exact hset _
    · split
      · exact (reg_overflowed_evlLost ha).trans (hset _)
      · exact hset _

theorem reg_log_ne (code p0 p1 : Nat) : (s.log code p0 p1).reg a = s.reg a := by
  have hwords : ∀ i ws, ws.length = 8 → (s.setWords (evlAddr i 0) ws).reg a = s.reg a := fun i ws hlen =>
    reg_setWords_apart (by rw [hlen]; have := ha.ring; unfold evlAddr; omega)
  unfold State.log State.logAs
  extract_lets i unread s1 s2
  have h1 : s1.reg a = s.reg a := hwords i _ (evlWords_length ..)
  have h2 : s2.reg a = s.reg a := by
    unfold s2
    split
    · exact ((s1.count .evlLost).reg_wr_ne (f := R.EVL_RD_INDEX) (ha.ne (by decide)) _).trans ((reg_count_evlLost ha).trans h1)
    · exact h1
  exact (s2.reg_wr_ne (f := R.EVL_HEAD_INDEX) (ha.ne (by decide)) _).trans h2

theorem reg_toMode_ne (m : Mode) (cause detail : Nat) : (s.toMode m cause detail).reg a = s.reg a := by
  by_cases hm : s.mode = m
  · unfold State.toMode
    rw [if_pos hm]
  · obtain ⟨since, ht⟩ := toMode_of_ne (cause := cause) (detail := detail) hm
    rw [ht, reg_syncVec_ne ha.below, reg_setBit_inMode, State.reg_setBit_ne _ (ha.ne (by decide)), reg_log_ne ha]

end

theorem rd_log_ne {f : Fld} (hf : Unlogged f.addr) (code p0 p1 : Nat) : (s.log code p0 p1).rd f = s.rd f := by
  unfold State.rd
  rw [reg_log_ne hf]

theorem rd_toMode_ne {f : Fld} (hf : Unlogged f.addr) (m : Mode) (cause detail : Nat) : (s.toMode m cause detail).rd f = s.rd f := by
  unfold State.rd
  rw [reg_toMode_ne hf]

theorem bit_toMode_ne {f : Fld} (hf : Unlogged f.addr) (m : Mode) (cause detail : Nat) : (s.toMode m cause detail).bit f = s.bit f := by
  unfold State.bit
  rw [rd_toMode_ne hf]

/-! ### The mailbox -/

/-- `t` differs from `s` in registers, lines, outputs and mailboxes only. -/
def OnlyMail (s t : State) : Prop := ∃ r p o b, t = { s with regs := r, pcie := p, out := o, mbs := b }

theorem OnlyMail.refl (s : State) : OnlyMail s s := ⟨_, _, _, _, rfl⟩

theorem OnlyMail.trans {t u : State} (h : OnlyMail s t) (k : OnlyMail t u) : OnlyMail s u := by
  obtain ⟨r, p, o, b, rfl⟩ := h
  obtain ⟨r', p', o', b', rfl⟩ := k
  exact ⟨_, _, _, _, rfl⟩

theorem OnlyBus.mail {t : State} (h : OnlyBus s t) : OnlyMail s t := by
  obtain ⟨r, p, o, rfl⟩ := h
  exact ⟨_, _, _, _, rfl⟩

theorem OnlyMail.setMb (s : State) (p : Nat) (x : Mb) : OnlyMail s (s.setMb p x) := ⟨_, _, _, _, rfl⟩

theorem OnlyBus.mbFill (s : State) (p : Nat) (ws : List Word) : OnlyBus s (s.mbFill p ws) := by
  unfold State.mbFill
  extract_lets lo s1
  have h1 : OnlyBus s s1 := ⟨_, _, _, rfl⟩
  exact h1.trans (((OnlyRegs.setWords s1 lo ws).trans (.setBit _ _ _)).bus.trans (.syncVec _ 0))

theorem OnlyMail.mbPost (s : State) (p : Nat) (ws : List Word) : OnlyMail s (s.mbPost p ws) := by
  unfold State.mbPost
  extract_lets M
  split
  · exact (OnlyBus.emit s _).mail
  · split
    · exact (OnlyBus.emit s _).mail
    · split
      · exact .setMb s p _
      · exact (OnlyBus.mbFill s p ws).mail

theorem OnlyMail.mbClose (s : State) (p : Nat) : OnlyMail s (s.mbClose p) := by
  unfold State.mbClose
  split
  · exact .refl s
  · exact (OnlyMail.setMb s p _).trans (.mbPost _ p _)

theorem OnlyMail.mbComplete (s : State) (p st : Nat) (res : List Word) : OnlyMail s (s.mbComplete p st res) := by
  unfold State.mbComplete
  split
  · exact .refl s
  · exact (OnlyMail.setMb s p _).trans (.mbClose _ p)

theorem OnlyMail.mbPollAt (s : State) (p : Nat) : OnlyMail s (s.mbPollAt p) := by
  have hcases : ∀ (c d : Prop) [Decidable c] [Decidable d] (st : Nat) (res : List Word),
      OnlyMail s (if c then s.mbComplete p St.OK res else if d then s else s.mbComplete p st []) := fun c d _ _ st res => by
    split
    · exact .mbComplete s p _ _
    · split
      · exact .refl s
      · exact .mbComplete s p _ _
  unfold State.mbPollAt
  split
  · exact hcases _ _ _ _
  · exact hcases _ _ _ _
  · exact hcases _ _ _ _
  · exact .refl s

theorem OnlyMail.foldl {α : Type} {f : State → α → State} (hf : ∀ u x, OnlyMail u (f u x)) (l : List α) (s : State) : OnlyMail s (l.foldl f s) := by
  induction l generalizing s with
  | nil => exact .refl s
  | cons x l ih => exact (hf s x).trans (ih _)

theorem OnlyMail.mbPoll (s : State) : OnlyMail s s.mbPoll := .foldl OnlyMail.mbPollAt _ s

theorem OnlyMail.mode {t : State} (h : OnlyMail s t) : t.mode = s.mode := by
  obtain ⟨r, p, o, b, rfl⟩ := h
  rfl

theorem OnlyMail.role {t : State} (h : OnlyMail s t) : t.role = s.role := by
  obtain ⟨r, p, o, b, rfl⟩ := h
  rfl

end Sys2Proof.Machine
end

section
/-! ## How a recovery counts (R69), and a state in which it does not count by one -/

namespace Sys2Proof.Machine

variable {s : State}

/-- `GLB_RCV.COUNT` counts one recovery. -/
def State.rcvCounted (s : State) : State := s.wr R.GLB_RCV_COUNT (min 255 (s.rd R.GLB_RCV_COUNT + 1))

theorem rd_rcvCounted (s : State) : s.rcvCounted.rd R.GLB_RCV_COUNT = min 255 (s.rd R.GLB_RCV_COUNT + 1) :=
  rd_wr_of_lt (by decide) (Nat.lt_succ_of_le (min_le_left 255 _))

theorem Spares.noTxns {s₀ : State} (h : Spares s₀ s) (hnone : s.txns = []) : Spares s₀ { s with txns := [] } := h.parts (htxns := hnone.symm)

/-- What recovery does after counting leaves the lowest registers. -/
theorem spares_recovered {u : State} {lost : Nat} (hdrop : s.dropIntents = (u, lost)) (hok : RegsOk u) (htxns : u.txns = []) :
    Spares u.rcvCounted s.recovered := by
  unfold State.recovered
  rw [hdrop]
  split
  next s1 l hp =>
  cases hp
  extract_lets again n s2 s3 s4 s5
  have h1 : Spares u.rcvCounted u.rcvCounted := .refl (u.wr_regsOk _ _ hok)
  have h2 : Spares u.rcvCounted s2 := h1.log
  clear_value s2
  have h3 : Spares u.rcvCounted s3 := (Spares.ite h2.toMode h2.toMode).requalCands
  clear_value s3
  have hnone : s3.txns = [] := h3.txns.trans htxns
  have h4 : Spares u.rcvCounted s4 := by
    unfold s4
    rw [hnone, List.foldl_nil]
    exact h3.noTxns hnone
  clear_value s4
  have h5 : Spares u.rcvCounted s5 := h4.foldl fun _ _ hu => .ite hu.setEng hu
  clear_value s5
  exact (Spares.ite h5.twinEnter h5).mbPoll

/-- A recovery whose checks pass counts from what `GLB_RCV.COUNT` reads once the messages with an intent record only are answered. -/
theorem rd_recovered_count {u : State} {lost : Nat} (hdrop : s.dropIntents = (u, lost)) (hok : RegsOk u) (htxns : u.txns = []) :
    s.recovered.rd R.GLB_RCV_COUNT = min 255 (u.rd R.GLB_RCV_COUNT + 1) :=
  ((spares_recovered hdrop hok htxns).rd (f := R.GLB_RCV_COUNT)).trans (rd_rcvCounted u)

/-! ### The state -/

/-- A recovering device whose register store lists a word of the host's response buffer before `GLB_RCV`, which therefore reads 0, and that has
a message with an intent record only. -/
def scrambled : State :=
  { mode := .recover, regs := [(rspBuf 0, 1), (A.GLB_RCV, 5)], sys := { fromDock := true }, mbs := [(0, { msg := some { seq := 1 } })] }

theorem rd_scrambled : scrambled.rd R.GLB_RCV_COUNT = 0 := by decide

/-- Emptying the response buffer brings the hidden word of `GLB_RCV` to light. -/
theorem storeMap_scrambled {u : State} (hu : u.regs = scrambled.regs) :
    storeMap resetWord (fun a w => if rspBuf 0 ≤ a && a < rspBuf 0 + 0x1000 then resetWord a else w) u.regs = [(A.GLB_RCV, 5)] := by
  rw [hu]
  decide

theorem mbFill_scrambled {u : State} (hu : u.regs = scrambled.regs) (ws : List Word) :
    RegsOk (u.mbFill 0 ws) ∧ (u.mbFill 0 ws).rd R.GLB_RCV_COUNT = 5 := by
  have hemptied := storeMap_scrambled hu
  unfold State.mbFill
  extract_lets lo s1
  have hs1 : s1 = { u with regs := [(A.GLB_RCV, 5)] } := by rw [← hemptied]
  clear_value s1
  have hregs : s1.regs = [(A.GLB_RCV, 5)] := by rw [hs1]
  have hok : RegsOk s1 := by
    unfold RegsOk
    rw [hregs]
    decide
  have hcount : s1.rd R.GLB_RCV_COUNT = 5 := by
    unfold State.rd State.reg
    rw [hregs]
    decide
  have hfill : Spares s1 (((s1.setWords lo ws).setBit (mbFld 0 R.MB_STATUS_RSP_READY) true).syncVec 0) :=
    (((Spares.refl hok).setWords (rspBuf_high 0)).setBit le_array).syncVec
  exact ⟨hfill.regsOk, (hfill.rd (f := R.GLB_RCV_COUNT)).trans hcount⟩

theorem mbClose_of_msg {p : Nat} {m : Msg} (h : (s.mb p).msg = some m) :
    s.mbClose p = (s.setMb p { s.mb p with msg := none, wait := none }).mbPost p (mbResponse m.tag m.seq m.status m.failIdx m.recs.reverse) := by
  unfold State.mbClose
  rw [h]

theorem mbPost_host (hfree : s.bit (mbFld 0 R.MB_STATUS_RSP_READY) = false) (ws : List Word) : s.mbPost 0 ws = s.mbFill 0 ws := by
  unfold State.mbPost
  rw [hfree]
  rfl

/-- What recovery does to the message of partner p (R366): the state, and the last sequence number not applied. -/
def dropIntent (r : State × Nat) (p : Nat) : State × Nat :=
  match (r.1.mb p).msg with
  | some m =>
    if (r.1.mb p).wait = some 0 then r
    else if m.seq ≠ 0 then
      (((r.1.jot m.seq p 2).setMb p { r.1.mb p with msg := some { m with recs := [], fail := some (0, St.RECOVERED) } }).mbClose p, m.seq)
    else r
  | none => r

theorem dropIntents_eq (s : State) : s.dropIntents = [0, 1, 2, 3].foldl dropIntent (s, 0) := rfl

theorem dropIntent_of_none {r : State × Nat} {p : Nat} (h : (r.1.mb p).msg = none) : dropIntent r p = r := by
  unfold dropIntent
  rw [h]

theorem dropIntent_of_some {r : State × Nat} {p : Nat} {m : Msg} (h : (r.1.mb p).msg = some m) (hwait : (r.1.mb p).wait ≠ some 0) (hseq : m.seq ≠ 0) :
    dropIntent r p =
      (((r.1.jot m.seq p 2).setMb p { r.1.mb p with msg := some { m with recs := [], fail := some (0, St.RECOVERED) } }).mbClose p, m.seq) := by
  unfold dropIntent
  rw [h]
  dsimp only
  rw [if_neg hwait, if_pos hseq]

/-- The one message of `scrambled`, its status noted in the journal. -/
def scrambledNoted : State := (scrambled.jot 1 0 2).setMb 0 { msg := some { seq := 1, fail := some (0, St.RECOVERED) } }

theorem mbClose_scrambledNoted : scrambledNoted.mbClose 0 = (scrambledNoted.setMb 0 {}).mbFill 0 (mbResponse 0 1 St.RECOVERED 0 []) :=
  (mbClose_of_msg (p := 0) (m := { seq := 1, fail := some (0, St.RECOVERED) }) rfl).trans (mbPost_host (by decide) _)

/-- Answering the one message makes `GLB_RCV.COUNT` read 5. -/
theorem dropIntents_scrambled : ∃ u lost, scrambled.dropIntents = (u, lost) ∧ RegsOk u ∧ u.rd R.GLB_RCV_COUNT = 5 ∧ u.txns = [] := by
  obtain ⟨hok, hfive⟩ := mbFill_scrambled (u := scrambledNoted.setMb 0 {}) rfl (mbResponse 0 1 St.RECOVERED 0 [])
  have hbus := OnlyBus.mbFill (scrambledNoted.setMb 0 {}) 0 (mbResponse 0 1 St.RECOVERED 0 [])
  rw [← mbClose_scrambledNoted] at hok hfive hbus
  have hfirst : dropIntent (scrambled, 0) 0 = (scrambledNoted.mbClose 0, 1) := dropIntent_of_some (m := { seq := 1 }) rfl (by decide) (by decide)
  have hnone : ∀ p ∈ [1, 2, 3], ((scrambledNoted.setMb 0 {}).mb p).msg = none := by decide
  generalize scrambledNoted.mbClose 0 = u at hok hfive hbus hfirst
  obtain ⟨r, pc, o, rfl⟩ := hbus
  refine ⟨_, 1, ?_, hok, hfive, rfl⟩
  rw [dropIntents_eq, List.foldl_cons, hfirst]
  exact foldl_eq_of_fixed fun p hp => dropIntent_of_none (hnone p hp)

/-- Refutes O19: the statement lets the register store be out of canonical form, as it is in `scrambled`. There `GLB_RCV.COUNT` reads 0; emptying the
response buffer for the message that recovery answers makes it read 5, and the recovery counts 6 and not 1. -/
theorem not_recovery : ¬ Obligations.Recovery := by
  rintro ⟨-, -, hcompletes⟩
  obtain ⟨t, hexec, -, hcount⟩ := hcompletes scrambled rfl rfl rfl
  obtain ⟨u, lost, hdrop, hok, hfive, htxns⟩ := dropIntents_scrambled
  have ht : t = scrambled.recovered := (Host.Outcome.next.inj hexec).symm
  rw [ht, rd_recovered_count hdrop hok htxns, hfive, rd_scrambled] at hcount
  exact absurd hcount (by decide)

end Sys2Proof.Machine
end

section
/-! ## START, DOCK, RESET, HALT, PROVE, its abort and OPEN_DEBUG (R62, R63, R328, R333, R370, R384, R385) -/

namespace Sys2Proof.Machine

variable {s : State}

/-! ### START -/

/-- A unit with a twin that enters the forwarding modes touches registers and what it holds of the twin. -/
theorem twinEnter_parts (s : State) : ∃ r T, s.twinEnter = { s with regs := r, twin := T } := by
  unfold State.twinEnter
  split
  · exact ⟨_, _, rfl⟩
  · exact ⟨_, _, rfl⟩

/-- Asking for trainings touches the power arbiter alone. -/
theorem trainAsk_fold_parts (ls : List Nat) (s : State) :
    ∃ pw, ls.foldl (fun s l => if s.octOff (l / 8) then s else s.trainAsk l) s = { s with power := pw } := by
  refine List.foldlRecOn (motive := fun u => ∃ pw, u = { s with power := pw }) ls _ ⟨s.power, rfl⟩ fun u hu l _ => ?_
  obtain ⟨pw, rfl⟩ := hu
  split
  · exact ⟨pw, rfl⟩
  · unfold State.trainAsk
    split
    · exact ⟨_, rfl⟩
    · exact ⟨_, rfl⟩

theorem startFwd_enters (hm : s.mode = .dock) (cause : Nat) : (s.startFwd cause).mode = .free ∧ (s.startFwd cause).tstate = .free := by
  unfold State.startFwd
  rw [if_neg (not_not.mpr hm)]
  extract_lets d D s1 s2
  have horbit : s1.orbit = s.orbit := (Still.refl s).deselect.orbit
  have hdom : (s1.dom d).tstate = .free := congrArg Domain.tstate (State.dom_setDom_same _ _ _)
  have h1 : s1.tstate = .free := by
    unfold State.tstate State.orbDom
    rw [horbit]
    exact hdom
  clear_value s1
  obtain ⟨since, r, p, o, h2⟩ := toMode_parts s1 .free cause 0
  obtain ⟨pw, hpw⟩ := trainAsk_fold_parts (List.range 64) s2
  obtain ⟨r', T, ht⟩ := twinEnter_parts { s2 with power := pw }
  rw [hpw, ht, show s2 = _ from h2]
  exact ⟨rfl, h1⟩

theorem startCmd_replies (m : MbCmd) (hm : s.mode = .dock) (ha : Alone m 0x10 [] s) :
    Replies (.startCmd m) m 0x10 s fun s1 res => s1.mode = .free ∧ s1.tstate = .free ∧ res = [] := by
  obtain ⟨hmode, hstate⟩ := startFwd_enters hm 5
  exact replies_of_run (s1 := s.startFwd 5) rfl ha (by decide) (by rw [words_of_alone ha]; rfl) ⟨hmode, hstate, rfl⟩

/-! ### DOCK -/

/-- Forgetting that domains have been locked touches the domains alone, and none of them remembers. -/
theorem forgetLocks_parts (n : Nat) (s : State) :
    ∃ ds, (List.range n).foldl (fun s d => s.setDom d { s.dom d with lockedSeen := false }) s = { s with domains := ds } ∧
      ∀ d < n, (storeGet (fun _ => {}) ds d).lockedSeen = false := by
  induction n with
  | zero => exact ⟨_, rfl, fun d hd => absurd hd (Nat.not_lt_zero d)⟩
  | succ n ih =>
    obtain ⟨ds, hfold, hds⟩ := ih
    rw [List.range_succ, List.foldl_append, hfold]
    refine ⟨_, rfl, fun d hd => ?_⟩
    by_cases hdn : d = n
    · rw [hdn]
      exact congrArg Domain.lockedSeen (storeGet_storeSet_same _ _ _ _)
    · exact (congrArg Domain.lockedSeen (storeGet_storeSet_ne _ _ hdn _)).trans (hds d (by omega))

theorem params_nil (f : Ran) : params s [] [] f = f := params_of_clear rfl (by simp)

theorem params_one {mask w : Word} (hclear : w &&& ~~~mask = 0) (f : Ran) : params s [mask] [w] f = f := by
  refine params_of_clear (by rfl) fun x hx => ?_
  rw [List.zip_cons_cons, List.zip_nil_right, List.mem_singleton] at hx
  rw [hx]
  exact hclear

theorem dropFrames_queues (s : State) : s.dropFrames.voqs = [] ∧ s.dropFrames.egrQs = [] := ⟨rfl, rfl⟩

theorem toDock_enters (s : State) (cause detail : Nat) :
    (s.toDock cause detail).mode = .dock ∧ (∀ d < 8, ((s.toDock cause detail).dom d).lockedSeen = false) ∧ (s.toDock cause detail).voqs = [] ∧
      (s.toDock cause detail).egrQs = [] := by
  obtain ⟨hvoqs, hegrs⟩ := dropFrames_queues s.leaveFwd.stopEngines
  unfold State.toDock
  extract_lets s1
  change s1.voqs = [] at hvoqs
  change s1.egrQs = [] at hegrs
  clear_value s1
  obtain ⟨ds, hfold, hds⟩ := forgetLocks_parts 8 s1
  rw [hfold]
  obtain ⟨since, r, p, o, ht⟩ := toMode_parts { s1 with domains := ds } .dock cause detail
  rw [ht]
  exact ⟨rfl, hds, hvoqs, hegrs⟩

theorem dockCmd_replies (m : MbCmd) (hdoze : s.mode ≠ .doze) (ha : Alone m 0x11 [] s) :
    Replies (.dockCmd m) m 0x11 s fun s1 res => s1.mode = .dock ∧ (∀ d < 8, (s1.dom d).lockedSeen = false) ∧ s1.voqs = [] ∧ s1.egrQs = [] ∧ res = [] := by
  obtain ⟨hmode, hlocks, hvoqs, hegrs⟩ := toDock_enters s 7 0
  refine replies_of_run (s1 := s.toDock 7 0) rfl ha (by decide) ?_ ⟨hmode, hlocks, hvoqs, hegrs, rfl⟩
  rw [words_of_alone ha]
  show s.runDock [] = _
  unfold State.runDock
  rw [params_nil, if_neg hdoze]

/-- A message that waits for DOCK waits on while DOCK is to come. -/
theorem mbPollAt_of_dockToCome {p : Nat} (hwait : (s.mb p).wait = some 0x11) (hm : s.mode ≠ .dock) (hnext : s.power.modeNext.isSome = true) : s.mbPollAt p = s := by
  unfold State.mbPollAt
  rw [hwait]
  exact (if_neg hm).trans (if_pos hnext)

/-- From DOZE the mode follows once the device has left P3, and the message waits for it. -/
theorem dockCmd_waits (m : MbCmd) (hdoze : s.mode = .doze) (ha : Alone m 0x11 [] s) :
    Answers (.dockCmd m) s fun t => t.power.modeNext = some (.dock, 7, 0) ∧ (t.mb m.partner).wait = some 0x11 := by
  obtain ⟨r, pw, p, o, hu, -⟩ := unpark_parts hdoze 8
  generalize hv : ({ s.unpark 8 with power := { (s.unpark 8).power with modeNext := some (.dock, 7, 0) } } : State) = v
  have hmode : v.mode = .doze := by rw [← hv, hu]; exact hdoze
  have hnext : v.power.modeNext = some (.dock, 7, 0) := by rw [← hv]
  have hrun : s.run m.partner 0x11 (Msg.room {} m.partner) m.words = (v, none) := by
    rw [words_of_alone ha, ← hv]
    show s.runDock [] = _
    unfold State.runDock
    rw [params_nil, if_pos hdoze]
  have hexec := waits_of_run (i := .dockCmd m) rfl ha (by decide) hrun
  have hwait : ((v.setMb m.partner { v.mb m.partner with msg := some {}, wait := some 0x11 }).mb m.partner).wait = some 0x11 := by rw [State.mb_setMb_same]
  rw [mbPollAt_of_dockToCome hwait (by rw [show (v.setMb _ _).mode = _ from hmode]; decide) (by rw [show (v.setMb _ _).power.modeNext = _ from hnext]; rfl)] at hexec
  exact ⟨_, hexec, hnext, hwait⟩

/-! ### RESET and HALT -/

theorem resetCmd_replies (m : MbCmd) (ha : Alone m 0x12 [] s) :
    Replies (.resetCmd m) m 0x12 s fun s1 res => s1 = { s with sys := { s.sys with resetAt := some s.tb } } ∧ res = [] :=
  replies_of_run rfl ha (by decide) (by rw [words_of_alone ha]; rfl) ⟨rfl, rfl⟩

theorem haltCmd_replies (m : MbCmd) (hm : s.mode ≠ .halt) (ha : Alone m 0x13 [] s) :
    Replies (.haltCmd m) m 0x13 s fun s1 res => s1.mode = .halt ∧ s1.rd R.GLB_MODE_HALT_CAUSE = 7 ∧ res = [] := by
  obtain ⟨hmode, hcause, -, -⟩ := toHalt_enters (cause := 0x20) (detail := m.partner) hm (by decide : 7 < 16)
  exact replies_of_run (s1 := s.toHalt 7 0x20 m.partner) rfl ha (by decide) (by rw [words_of_alone ha]; rfl) ⟨hmode, hcause, rfl⟩

/-! ### PROVE and its abort -/

theorem prvStat_unlogged : Unlogged A.PRV_STAT := ⟨by decide, .inr (by decide), by decide⟩

/-- A plan with one of the steps 0 to 2 begins with the first of them: the run alone is set. -/
theorem prvFrom_zero (h : s.prv.plan % 8 ≠ 0) : ∃ P : Prv, s.prvFrom 0 = { s with prv := P } ∧ P.plan = s.prv.plan := by
  unfold State.prvFrom
  dsimp only
  split
  · exact ⟨_, rfl, rfl⟩
  next h0 =>
    split
    · exact ⟨_, rfl, rfl⟩
    next h1 =>
      split
      · exact ⟨_, rfl, rfl⟩
      next h2 =>
        simp only [Nat.testBit_eq_decide_div_mod_eq] at h0 h1 h2
        simp at h0 h1 h2
        omega

/-- The run begins: its steps are to be tested, and no template has been heard. -/
def State.prvCleared (s : State) : State :=
  (List.range 256).foldl (fun s t => s.wr (R.TMPL1_SEQ t) 0) (((s.wr R.PRV_STAT_RESULT 0).wr R.PRV_STAT_STEPS 0).setBit R.PRV_STAT_RUN true)

theorem bit_prvCleared_run : s.prvCleared.bit R.PRV_STAT_RUN = true := by
  have hfold : ∀ (l : List Nat) (u : State), (l.foldl (fun s t => s.wr (R.TMPL1_SEQ t) 0) u).reg A.PRV_STAT = u.reg A.PRV_STAT := by
    intro l
    induction l with
    | nil => exact fun u => rfl
    | cons t l ih => exact fun u => (ih _).trans (u.reg_wr_ne (f := R.TMPL1_SEQ t) (by simp only [A.PRV_STAT, R.TMPL1_SEQ]; omega) 0)
  have hset := State.bit_setBit_same ((s.wr R.PRV_STAT_RESULT 0).wr R.PRV_STAT_STEPS 0) R.PRV_STAT_RUN rfl (by decide) true
  unfold State.bit State.rd at hset ⊢
  unfold State.prvCleared
  rw [show R.PRV_STAT_RUN.addr = A.PRV_STAT from rfl] at hset ⊢
  rw [hfold]
  exact hset

/-- A mode change to PROVING and the first step of a plan leave the plan and the run. -/
theorem proving_begins {u : State} {P : Prv} (hplan : P.plan % 8 ≠ 0) (hrun : u.bit R.PRV_STAT_RUN = true) (cause detail : Nat) :
    ((({ u with prv := P } : State).toMode .proving cause detail).prvFrom 0).mode = .proving ∧
      ((({ u with prv := P } : State).toMode .proving cause detail).prvFrom 0).prv.plan = P.plan ∧
      ((({ u with prv := P } : State).toMode .proving cause detail).prvFrom 0).bit R.PRV_STAT_RUN = true := by
  have hbit : ({ u with prv := P } : State).bit R.PRV_STAT_RUN = true := hrun
  have hprv : ({ u with prv := P } : State).prv = P := rfl
  generalize ({ u with prv := P } : State) = v at hbit hprv ⊢
  obtain ⟨since, r, p, o, ht⟩ := toMode_parts v .proving cause detail
  have hv : (v.toMode .proving cause detail).prv = P := by rw [ht]; exact hprv
  obtain ⟨P', hfrom, hP'⟩ := prvFrom_zero (s := v.toMode .proving cause detail) (by rw [hv]; exact hplan)
  rw [hfrom]
  exact ⟨toMode_mode v .proving cause detail, hP'.trans (congrArg Prv.plan hv), (bit_toMode_ne (f := R.PRV_STAT_RUN) prvStat_unlogged .proving cause detail).trans hbit⟩

theorem prvEnter_eq (s : State) (plan cause detail : Nat) (revert : Bool) :
    s.prvEnter plan cause detail revert =
      let loose := decide (s.tstate = .free) || decide (s.tstate = .holdover)
      let s2 := s.prvCleared
      let s3 := { s2 with prv := { plan := plan % 16, revert := revert, loose := loose, due := s2.prv.due, day := s2.prv.day } }
      (s3.toMode .proving cause detail).prvFrom 0 := rfl

theorem prvEnter_begins {plan cause detail : Nat} {revert : Bool} (h : plan % 8 ≠ 0) :
    (s.prvEnter plan cause detail revert).mode = .proving ∧ (s.prvEnter plan cause detail revert).prv.plan = plan % 16 ∧
      (s.prvEnter plan cause detail revert).bit R.PRV_STAT_RUN = true := by
  rw [prvEnter_eq]
  exact proving_begins (show plan % 16 % 8 ≠ 0 by omega) bit_prvCleared_run cause detail

theorem prove_replies (m : MbCmd) {w : Word} (hw : w &&& 0xFFFFFF0F = 0) (hplan : w.toNat / 16 % 8 ≠ 0) (hmay : s.prvMayEnter = true)
    (hreq : s.prv.request = none) (ha : Alone m 0x14 [w] s) :
    Replies (.prove m) m 0x14 s fun s1 res =>
      s1.mode = .proving ∧ s1.prv.plan = w.toNat / 16 % 16 ∧ s1.bit R.PRV_STAT_RUN = true ∧ res = [s1.reg A.PRV_STAT] := by
  obtain ⟨hmode, hp, hrun⟩ := prvEnter_begins (s := s) (plan := w.toNat / 16 % 16) (cause := 0x11) (detail := 0) (revert := false) (by omega)
  rw [Nat.mod_mod] at hp
  have hclear : w &&& ~~~0xF1 = 0 := by
    rw [show (~~~0xF1 : Word) = 0xFFFFFF0F &&& ~~~0xF1 from rfl, ← BitVec.and_assoc, hw]
    exact BitVec.zero_and
  have hlow : w.getLsbD 0 = false := by
    have hbit := congrArg (fun v : Word => v.getLsbD 0) hw
    simpa using hbit
  have hidle : (decide (s.mode = .acquire) || decide (s.mode = .proving) || s.prv.request.isSome) = false := by
    unfold State.prvMayEnter at hmay
    rw [hreq]
    cases hs : s.mode <;> simp [hs] at hmay ⊢
  have hproves : s.runProve [w] = ranOk (s.prvEnter (w.toNat / 16 % 16) 0x11 0 false) [(s.prvEnter (w.toNat / 16 % 16) 0x11 0 false).reg A.PRV_STAT] := by
    unfold State.runProve
    rw [params_one hclear]
    dsimp only
    rw [show [w].getD 0 0 = w from rfl, hlow, hidle, hmay]
    rfl
  generalize s.prvEnter (w.toNat / 16 % 16) 0x11 0 false = u at hmode hp hrun hproves
  exact replies_of_run rfl ha (by decide) (by rw [words_of_alone ha]; exact hproves) ⟨hmode, hp, hrun, rfl⟩

/-- The abort of a run in progress records it and leaves the mode. -/
theorem prvAbort_aborts (hrun : s.bit R.PRV_STAT_RUN = true) :
    s.prvAbort.mode = s.mode ∧ s.prvAbort.rd R.PRV_STAT_RESULT = 3 ∧ s.prvAbort.bit R.PRV_STAT_RUN = false := by
  unfold State.prvAbort
  rw [hrun, Bool.not_true, if_neg Bool.false_ne_true]
  extract_lets s1 T wait s2
  have hmode : s1.mode = s.mode := rfl
  have hresult : s1.rd R.PRV_STAT_RESULT = 3 := by
    unfold s1
    rw [rd_setBit_ne (by decide), rd_setBit_apart (f := R.PRV_STAT_RUN) (g := R.PRV_STAT_RESULT) rfl (by decide) (by decide)]
    exact rd_wr_of_lt (by decide) (by decide)
  have hoff : s1.rd R.PRV_STAT_RUN = 0 := by
    unfold s1
    rw [rd_setBit_ne (by decide)]
    exact rd_wr_of_lt (by decide) (by decide)
  clear_value s1
  have hresult2 : s2.rd R.PRV_STAT_RESULT = 3 := hresult
  have hoff2 : s2.rd R.PRV_STAT_RUN = 0 := hoff
  have hmode2 : s2.mode = s.mode := hmode
  clear_value s2
  refine ⟨(OnlyBus.log s2 0x0A _ 0).mode.trans hmode2, (rd_log_ne (f := R.PRV_STAT_RESULT) prvStat_unlogged _ _ _).trans hresult2, ?_⟩
  unfold State.bit
  rw [rd_log_ne (f := R.PRV_STAT_RUN) prvStat_unlogged, hoff2]
  rfl

theorem abortRun_aborts (hm : s.mode = .proving) (hrun : s.bit R.PRV_STAT_RUN = true) :
    s.abortRun.mode = s.tstate.mode ∧ s.abortRun.rd R.PRV_STAT_RESULT = 3 ∧ s.abortRun.bit R.PRV_STAT_RUN = false := by
  obtain ⟨hmode, hresult, hoff⟩ := prvAbort_aborts hrun
  have hstill : Still s s.prvAbort := (Still.refl s).prvAbort
  have htstate : s.prvAbort.tstate = s.tstate := by
    unfold State.tstate State.orbDom
    rw [hstill.orbit, hstill.dom]
  unfold State.abortRun
  dsimp only
  rw [if_pos (hmode.trans hm), htstate]
  exact ⟨toMode_mode _ _ _ _, (rd_toMode_ne (f := R.PRV_STAT_RESULT) prvStat_unlogged _ _ _).trans hresult,
    (bit_toMode_ne (f := R.PRV_STAT_RUN) prvStat_unlogged _ _ _).trans hoff⟩

theorem proveAbort_replies (m : MbCmd) (hm : s.mode = .proving) (hrun : s.bit R.PRV_STAT_RUN = true) (ha : Alone m 0x14 [0] s) :
    Replies (.proveAbort m) m 0x14 s fun s1 res =>
      s1.mode = s.tstate.mode ∧ s1.rd R.PRV_STAT_RESULT = 3 ∧ s1.bit R.PRV_STAT_RUN = false ∧ res = [s1.reg A.PRV_STAT] := by
  obtain ⟨hmode, hresult, hoff⟩ := abortRun_aborts hm hrun
  have hwords : (forceBits m 0x1 0x1).words = [1] := by simp [forceBits, words_of_alone ha]
  exact replies_of_run (s1 := s.abortRun) rfl ha (by decide) (by rw [hwords]; rfl) ⟨hmode, hresult, hoff, rfl⟩

/-! ### OPEN_DEBUG -/

theorem mode_stopEngine (s : State) (e : Nat) : (s.stopEngine e).mode = s.mode := by
  obtain ⟨en, r, p, o, h⟩ := OnlyEng.sampleDiscard s e 6 ((s.eng e).exec ++ (s.eng e).pendList ++ (s.eng e).filling)
  exact (congrArg State.mode h :)

theorem mode_dropGlists (s : State) (e : Nat) : (s.dropGlists e).mode = s.mode :=
  List.foldlRecOn (motive := fun u : State => u.mode = s.mode) _ _ rfl fun _ hu _ _ => hu

/-- Debug is open, and the device key is gone. -/
theorem bit_opened (s : State) : ((s.setBit R.SEC_STAT_OPEN true).setBit R.SEC_STAT_DEVKEY false).bit R.SEC_STAT_OPEN = true := by
  have hset := s.bit_setBit_same R.SEC_STAT_OPEN rfl (by decide) true
  unfold State.bit at hset ⊢
  rw [rd_setBit_apart (f := R.SEC_STAT_DEVKEY) (g := R.SEC_STAT_OPEN) rfl (by decide) (by decide)]
  exact hset

/-- The secrets of ports and of the agent, the sequence histories and the journal are forgotten. -/
theorem Spares.forget {s₀ : State} {P : Store PtpPort} {x : Agent} {Q : Store SeqHist} (h : Spares s₀ s) :
    Spares { s₀ with journal := [] } { s with ptps := P, agent := x, seqHists := Q, journal := [] } :=
  ⟨h.regsOk, h.low, h.keys, h.binds, rfl, h.txns, h.sys⟩

/-- What stands once the erase of `s` has begun; the mode is as it was. -/
structure Erased (s t : State) : Prop where
  mode : t.mode = s.mode
  opened : t.bit R.SEC_STAT_OPEN = true
  erasing : t.sys.erasing = true
  keys : t.keys = []
  binds : t.binds = []
  journal : t.journal = []
  txns : t.txns = []

theorem openErase_erases (hok : RegsOk s) : Erased s s.openErase := by
  unfold State.openErase
  extract_lets s1 s2 s3 s4 s5 u s6 s7 s8 u'
  have hopen : s1.bit R.SEC_STAT_OPEN = true := bit_opened s
  have h1 : RegsOk s1 := (s.setBit R.SEC_STAT_OPEN true).setBit_regsOk R.SEC_STAT_DEVKEY false (s.setBit_regsOk R.SEC_STAT_OPEN true hok)
  have hm1 : s1.mode = s.mode := rfl
  clear_value s1
  have h2 : Spares s2 s2 := .refl h1
  have hopen2 : s2.bit R.SEC_STAT_OPEN = true := hopen
  have hm2 : s2.mode = s.mode := hm1
  have hkeys2 : s2.keys = [] := rfl
  have hbinds2 : s2.binds = [] := rfl
  clear_value s2
  have h3 : Spares s2 s3 := h2.foldl fun _ _ hu => hu.stopEngine.dropGlists.setEng
  have hm3 : s3.mode = s.mode := List.foldlRecOn (motive := fun u : State => u.mode = s.mode) _ _ hm2 fun u hu e _ =>
    (State.setEng_mode _ e _).trans ((mode_dropGlists (u.stopEngine e) e).trans ((mode_stopEngine u e).trans hu))
  clear_value s3
  have h4 : Spares s2 s4 := h3.eraseRegs
  have hm4 : s4.mode = s.mode := hm3
  clear_value s4
  have h5 : Spares s2 s5 := h4.foldl fun _ _ hu => (hu.setBit le_array).wr le_array
  have hm5 : s5.mode = s.mode := List.foldlRecOn (motive := fun u : State => u.mode = s.mode) _ _ hm4 fun _ hu _ _ => (State.wr_mode _ _ _).trans ((State.setBit_mode _ _ _).trans hu)
  clear_value s5
  have h6 : Spares { s2 with journal := [] } s6 := h5.forget
  have hm6 : s6.mode = s.mode := hm5
  clear_value s6
  have h7 : Spares { s2 with journal := [] } s7 := h6.eraseRegs.eraseRegs.eraseRegs
  have hm7 : s7.mode = s.mode := hm6
  clear_value s7
  have h8 : Spares { s2 with journal := [] } s8 := h7.foldl fun _ _ hu => hu.setMb.mbClose
  have hm8 : s8.mode = s.mode := (OnlyMail.foldl (fun u x => (OnlyMail.setMb u _ _).trans (.mbClose _ _)) _ s7).mode.trans hm7
  clear_value s8
  exact ⟨hm8, (h8.bit (f := R.SEC_STAT_OPEN)).trans hopen2, rfl, h8.keys.trans hkeys2, h8.binds.trans hbinds2, h8.journal, rfl⟩

/-- A message that waits for OPEN waits on while the erase goes on. -/
theorem mbPollAt_of_erasing {p : Nat} (hwait : (s.mb p).wait = some 0x15) (hm : s.mode ≠ .opened) (herase : s.sys.erasing = true) : s.mbPollAt p = s := by
  unfold State.mbPollAt
  rw [hwait]
  exact (if_neg hm).trans (if_pos herase)

theorem mode_of_accept_open {p : Nat} (h : s.accept p 0x15 = St.OK) : s.mode ≠ .opened := by
  intro hm
  have htakes : s.mode.takes 0x15 = false := by
    rw [hm]
    rfl
  have hclass : ¬ opClass 0x15 = 0 := by decide
  unfold State.accept at h
  rw [if_neg hclass, if_neg (by simp), htakes] at h
  split at h
  · exact absurd h (by decide)
  · rw [Bool.not_false, if_pos rfl] at h
    exact absurd h (by decide)

theorem openDebug_answers (m : MbCmd) (hok : RegsOk s) (hstrap : s.sys.straps.getLsbD 7 = true) (ha : Alone m 0x15 [0x4F50454E] s) :
    Answers (.openDebug m) s fun t =>
      if Config.debugLock = true then Closed (s.log 0x0C 0x15 St.LOCKED) t m.partner 0x15 St.LOCKED [2]
      else t.bit R.SEC_STAT_OPEN = true ∧ t.sys.erasing = true ∧ t.keys = [] ∧ t.binds = [] ∧ t.journal = [] ∧ t.txns = [] ∧ (t.mb m.partner).wait = some 0x15 := by
  have hmode := mode_of_accept_open ha.2.2.2
  by_cases hlock : Config.debugLock = true
  · have hrun : s.run m.partner 0x15 (Msg.room {} m.partner) m.words = (s.log 0x0C 0x15 St.LOCKED, some (St.LOCKED, [2])) := by
      rw [words_of_alone ha]
      show s.runOpen [0x4F50454E] = _
      unfold State.runOpen
      rw [hstrap, hlock]
      rfl
    obtain ⟨t, hexec, hclosed⟩ := closes_of_run (i := .openDebug m) rfl ha (by decide) hrun
    exact ⟨t, hexec, (if_pos hlock).mpr hclosed⟩
  · have hrun : s.run m.partner 0x15 (Msg.room {} m.partner) m.words = (s.openErase, none) := by
      rw [words_of_alone ha]
      show s.runOpen [0x4F50454E] = _
      unfold State.runOpen
      rw [hstrap, params_one (clear_ones _), Bool.not_true, if_neg Bool.false_ne_true, if_neg hlock]
      rfl
    have herased := openErase_erases hok
    have hexec := waits_of_run (i := .openDebug m) rfl ha (by decide) hrun
    generalize s.openErase = v at herased hexec
    have hwait : ((v.setMb m.partner { v.mb m.partner with msg := some {}, wait := some 0x15 }).mb m.partner).wait = some 0x15 := by rw [State.mb_setMb_same]
    rw [mbPollAt_of_erasing hwait (by rw [show (v.setMb _ _).mode = _ from herased.mode]; exact hmode) herased.erasing] at hexec
    exact ⟨_, hexec, (if_neg hlock).mpr ⟨herased.opened, herased.erasing, herased.keys, herased.binds, herased.journal, herased.txns, hwait⟩⟩

/-! ### The end of the erase -/

theorem soloRole_role (s : State) : s.soloRole.role = .solo := by
  unfold State.soloRole
  extract_lets s1
  have h1 : s1.role = .solo := by
    unfold s1
    split
    · assumption
    · rfl
  exact h1

theorem toMode_role (s : State) (m : Mode) (cause detail : Nat) : (s.toMode m cause detail).role = s.role := by
  obtain ⟨since, r, p, o, ht⟩ := toMode_parts s m cause detail
  rw [ht]

theorem Spares.erasing {s₀ : State} (h : Spares s₀ s) : s.sys.erasing = s₀.sys.erasing := (congrArg Sys.erasing h.sys :)

/-- Debug is open, and nothing of the unit's role is left. -/
structure DebugOpen (t : State) : Prop where
  mode : t.mode = .opened
  role : t.role = .solo
  erasing : t.sys.erasing = false
  erased : t.bit R.SEC_STAT_ERASED = true

theorem debugOpen_of_spares {u v : State} (h : Spares u v) (hbit : u.bit R.SEC_STAT_ERASED = true) (hsys : u.sys.erasing = false) :
    DebugOpen (v.soloRole.toMode .opened 0x1E 0).mbPoll := by
  have h4 : Spares u (v.soloRole.toMode .opened 0x1E 0).mbPoll := h.soloRole.toMode.mbPoll
  have hmail := OnlyMail.mbPoll (v.soloRole.toMode .opened 0x1E 0)
  exact ⟨hmail.mode.trans (toMode_mode _ _ _ _), hmail.role.trans ((toMode_role _ _ _ _).trans (soloRole_role v)), h4.erasing.trans hsys,
    (h4.bit (f := R.SEC_STAT_ERASED)).trans hbit⟩

/-- The erase is complete. -/
def State.eraseEnded (s : State) : State := { s with sys := { s.sys with erasing := false } }.setBit R.SEC_STAT_ERASED true

/-- What follows the end of the erase once it is logged, in a state that no HALT holds. -/
def State.debugEntered (s : State) : State :=
  ((((if s.mode.fwd then s.leaveFwd.unpark 8 else s).stopEngines.dropFrames.calAbortAll.pinsOff).soloRole).toMode .opened 0x1E 0).mbPoll

theorem openDone_of_free (herasing : s.sys.erasing = true) (htrip : s.sys.tripped = false)
    (hm : (s.eraseEnded.log 0x0D (s.eraseEnded.reg A.SEC_STAT).toNat 0).mode ≠ .halt) :
    s.openDone = (s.eraseEnded.log 0x0D (s.eraseEnded.reg A.SEC_STAT).toNat 0).debugEntered := by
  have hgoes : ¬ (!s.sys.erasing || s.sys.tripped) = true := by
    rw [herasing, htrip]
    decide
  have hfree : ((s.eraseEnded.log 0x0D (s.eraseEnded.reg A.SEC_STAT).toNat 0).mode == .halt) = false := by
    simpa using hm
  refine (if_neg hgoes).trans (if_neg ?_)
  refine fun h => Bool.false_ne_true (hfree.symm.trans ?_)
  exact ((Bool.and_eq_true _ _).mp h).1

/-- In DOCK the end of the erase enters the mode OPEN. -/
theorem openDone_opens (hok : RegsOk s) (herasing : s.sys.erasing = true) (htrip : s.sys.tripped = false) (hm : s.mode = .dock) : DebugOpen s.openDone := by
  have hbit : s.eraseEnded.bit R.SEC_STAT_ERASED = true := State.bit_setBit_same _ R.SEC_STAT_ERASED rfl (by decide) true
  have hsys : s.eraseEnded.sys.erasing = false := rfl
  have hok1 : RegsOk s.eraseEnded := State.setBit_regsOk _ R.SEC_STAT_ERASED true hok
  have hm1 : s.eraseEnded.mode = .dock := hm
  have hm2 : (s.eraseEnded.log 0x0D (s.eraseEnded.reg A.SEC_STAT).toNat 0).mode = .dock := (OnlyBus.log _ _ _ _).mode.trans hm1
  rw [openDone_of_free herasing htrip (by rw [hm2]; decide)]
  generalize s.eraseEnded = u at *
  have h2 : Spares u (u.log 0x0D (u.reg A.SEC_STAT).toNat 0) := (Spares.refl hok1).log
  generalize u.log 0x0D (u.reg A.SEC_STAT).toNat 0 = v at *
  unfold State.debugEntered
  rw [hm2, show Mode.dock.fwd = false from rfl, if_neg Bool.false_ne_true]
  exact debugOpen_of_spares h2.stopEngines.dropFrames.calAbortAll.pinsOff hbit hsys

theorem openEraseComplete_answers (hok : RegsOk s) (herasing : s.sys.erasing = true) (htrip : s.sys.tripped = false) (hm : s.mode = .dock) :
    Answers .openEraseComplete s fun t => t.mode = .opened ∧ t.role = .solo ∧ t.sys.erasing = false ∧ t.bit R.SEC_STAT_ERASED = true := by
  have h := openDone_opens hok herasing htrip hm
  exact ⟨_, rfl, h.mode, h.role, h.erasing, h.erased⟩

/-! ### The statement -/

/-- Settles O31: each row is one record that is run at once; what its run does to the mode is read off the change of mode that ends it, and what the
erase leaves off the frame `Spares`. -/
theorem modeCommands : Obligations.ModeCommands := fun m _ =>
  ⟨fun hm ha => startCmd_replies m hm ha, fun _ hdoze ha => dockCmd_replies m hdoze ha, fun hdoze ha => dockCmd_waits m hdoze ha, fun ha => resetCmd_replies m ha,
    fun hm ha => haltCmd_replies m hm ha, fun _ hw hplan hmay hreq ha => prove_replies m hw hplan hmay hreq ha, fun hm hrun ha => proveAbort_replies m hm hrun ha,
    fun hok hstrap ha => openDebug_answers m hok hstrap ha, fun hok herasing htrip hm => openEraseComplete_answers hok herasing htrip hm⟩

end Sys2Proof.Machine
end

section
/-! ## The end of SETTLE -/

namespace Sys2Proof.Machine

variable {s₀ s : State} {n : Nat}

/-! ### The fields of the selection while TIME passes -/

/-- A selection of a domain, or the state of a candidate. -/
inductive SelFld : Fld → Prop
  | sel (d : Nat) : d < 8 → SelFld (R.REF_DSTAT_SEL d)
  | selv (d : Nat) : d < 8 → SelFld (R.REF_DSTAT_SELV d)
  | cstate (d k : Nat) : d < 8 → k < 16 → SelFld (R.REF_CSTAT_STATE d k)

/-- The address is none of the words that hold a field of the selection. -/
def OffSel (a : Nat) : Prop := a % 32 ≠ 0 ∧ a % 32 ≠ 12 ∨ a < 0x3801000 ∨ 0x3804000 ≤ a

theorem SelFld.place {f : Fld} (hf : SelFld f) : 0x3801000 ≤ f.addr ∧ f.addr < 0x3804000 ∧ (f.addr % 32 = 0 ∨ f.addr % 32 = 12 ∧ f.lo + f.width = 3) := by
  cases hf with
  | sel d hd =>
    unfold R.REF_DSTAT_SEL
    dsimp only
    omega
  | selv d hd =>
    unfold R.REF_DSTAT_SELV
    dsimp only
    omega
  | cstate d k hd hk =>
    unfold R.REF_CSTAT_STATE
    dsimp only
    omega

theorem SelFld.ne {f : Fld} {a : Nat} (hf : SelFld f) (ha : OffSel a) : f.addr ≠ a := by
  obtain ⟨hlo, hhi, hmod⟩ := hf.place
  rcases ha with ⟨h0, h12⟩ | ha | ha
  · rintro rfl
    rcases hmod with hmod | ⟨hmod, -⟩
    · exact h0 hmod
    · exact h12 hmod
  · omega
  · omega

theorem SelFld.unlogged {f : Fld} (hf : SelFld f) : Unlogged f.addr := by
  obtain ⟨hlo, hhi, -⟩ := hf.place
  refine ⟨by omega, .inr (by omega), fun h => ?_⟩
  have hlow : ∀ a ∈ [A.EVL_HEAD, A.EVL_RD, A.EVL_LOST, R.EVL_LOST_STICKY.addr, A.HUB_STAT, A.GLB_ISRC], a < 0x3801000 ∨ 0x3804000 ≤ a := by decide
  have := hlow _ h
  omega

/-- TIME has come to n; the references, their selection, the timing states, the PTP ports and the mode are as they were. -/
structure Paces (n : Nat) (s₀ s : State) : Prop where
  tb : s.tb = n
  refs : s.refs = s₀.refs
  ptps : s.ptps = s₀.ptps
  mode : s.mode = s₀.mode
  sys : s.sys = s₀.sys
  tstate : ∀ d, (s.dom d).tstate = (s₀.dom d).tstate
  sel : ∀ f, SelFld f → s.rd f = s₀.rd f

theorem Paces.refl (s : State) : Paces s.tb s s := ⟨rfl, rfl, rfl, rfl, rfl, fun _ => rfl, fun _ _ => rfl⟩

theorem Paces.ref (h : Paces n s₀ s) (d : Nat) : s.ref d = s₀.ref d := by
  unfold State.ref
  rw [h.refs]

theorem Paces.ptp (h : Paces n s₀ s) (p : Nat) : s.ptp p = s₀.ptp p := by
  unfold State.ptp
  rw [h.ptps]

/-- Any part outside the frame is set. -/
theorem Paces.parts {tins : Store Tin} {ivls : Store Ivl} {touts : Store Tout} {pcie : Pcie} {out : List Out} (h : Paces n s₀ s) :
    Paces n s₀ { s with tins := tins, ivls := ivls, touts := touts, pcie := pcie, out := out } :=
  ⟨h.tb, h.refs, h.ptps, h.mode, h.sys, h.tstate, h.sel⟩

theorem Paces.pass {m k : Nat} (h : Paces n s₀ s) (hk : k = m) : Paces m s₀ { s with tb := k } := ⟨hk, h.refs, h.ptps, h.mode, h.sys, h.tstate, h.sel⟩

theorem Paces.setReg {a : Nat} {w : Word} (h : Paces n s₀ s) (ha : OffSel a) : Paces n s₀ (s.setReg a w) where
  tb := h.tb
  refs := h.refs
  ptps := h.ptps
  mode := h.mode
  sys := h.sys
  tstate := h.tstate
  sel f hf := by
    rw [← h.sel f hf]
    unfold State.rd
    rw [State.reg_setReg_ne s (hf.ne ha)]

theorem Paces.setBit {f : Fld} {b : Bool} (h : Paces n s₀ s) (hf : OffSel f.addr) : Paces n s₀ (s.setBit f b) := h.setReg hf

theorem Paces.bus {t : State} (h : Paces n s₀ s) (hbus : OnlyBus s t) (hsel : ∀ f, SelFld f → t.rd f = s.rd f) : Paces n s₀ t := by
  obtain ⟨r, p, o, rfl⟩ := hbus
  exact ⟨h.tb, h.refs, h.ptps, h.mode, h.sys, h.tstate, fun f hf => (hsel f hf).trans (h.sel f hf)⟩

theorem Paces.syncVec {v : Nat} (h : Paces n s₀ s) : Paces n s₀ (s.syncVec v) :=
  h.bus (.syncVec s v) fun f hf => by
    unfold State.rd
    rw [reg_syncVec_ne hf.unlogged.below]

theorem Paces.setDom {d : Nat} {x : Domain} (h : Paces n s₀ s) (hx : x.tstate = (s.dom d).tstate) : Paces n s₀ (s.setDom d x) where
  tb := h.tb
  refs := h.refs
  ptps := h.ptps
  mode := h.mode
  sys := h.sys
  tstate j := by
    rw [← h.tstate j]
    by_cases hj : j = d
    · rw [hj, State.dom_setDom_same, hx]
    · rw [State.dom_setDom_ne s hj]
  sel := h.sel

theorem Paces.setTin {p : Nat} {x : Tin} (h : Paces n s₀ s) : Paces n s₀ (s.setTin p x) := h.parts
theorem Paces.setIvl {u : Nat} {x : Ivl} (h : Paces n s₀ s) : Paces n s₀ (s.setIvl u x) := h.parts
theorem Paces.setDue {p e : Nat} (h : Paces n s₀ s) : Paces n s₀ (s.setDue p e) := h.parts

theorem Paces.ite {c : Prop} {i : Decidable c} {t u : State} (ht : Paces n s₀ t) (hu : Paces n s₀ u) : Paces n s₀ (if c then t else u) := by
  split
  · exact ht
  · exact hu

theorem Paces.foldl {α : Type} {f : State → α → State} {l : List α} (h : Paces n s₀ s) (hf : ∀ u x, Paces n s₀ u → Paces n s₀ (f u x)) :
    Paces n s₀ (l.foldl f s) := by
  induction l generalizing s with
  | nil => exact h
  | cons x l ih => exact ih (hf s x h)

/-! ### Interval units and pins while TIME passes -/

theorem Paces.ivlPut {u : Nat} {r : Int × Nat} (h : Paces n s₀ s) : Paces n s₀ (s.ivlPut u r) := by
  have hstat : OffSel (A.IVL_STAT u) := .inl (by unfold A.IVL_STAT; omega)
  have hres : OffSel (A.IVL_RES_LO u) := .inl (by unfold A.IVL_RES_LO; omega)
  exact (((Paces.ite (h.setBit hstat) h).setReg hres).setBit hstat).setIvl

theorem Paces.ivlPair {u : Nat} {x : IvlEdge × Bool × Bool} (h : Paces n s₀ s) : Paces n s₀ (s.ivlPair u x) := by
  unfold State.ivlPair
  extract_lets e d V
  split
  · split
    · exact .ite h.ivlPut.setIvl h.ivlPut.setIvl
    · exact h.setIvl
  · split
    · exact h.ivlPut.setIvl
    · exact h.setIvl

theorem Paces.ivlTake {u : Nat} (h : Paces n s₀ s) : Paces n s₀ (s.ivlTake u) := .ite h ((h.foldl fun _ _ hu => hu.ivlPair).setIvl)
theorem Paces.ivlTakeAll (h : Paces n s₀ s) : Paces n s₀ s.ivlTakeAll := h.foldl fun _ _ hu => hu.ivlTake

theorem Paces.setCtr_tinLost {p v : Nat} (h : Paces n s₀ s) : Paces n s₀ (s.setCtr (.tinLost p) v) :=
  h.setReg (.inl (by unfold Ctr.tinLost R.TIN_LOST_COUNT; dsimp only; omega))

theorem Paces.overflowed_tinLost {p : Nat} (h : Paces n s₀ s) : Paces n s₀ (s.overflowed (.tinLost p)) := by
  have hs : OffSel (Ctr.tinLost p).sticky.addr := .inl (by unfold Ctr.tinLost R.TIN_STAT_STICKY; dsimp only; omega)
  exact .ite ((h.setBit hs).setBit (.inr (.inr (by decide)))).syncVec (h.setBit hs)

theorem Paces.count_tinLost {p : Nat} (h : Paces n s₀ s) : Paces n s₀ (s.count (.tinLost p)) := by
  unfold State.count State.countBy
  extract_lets v
  have hset : ∀ w, Paces n s₀ (s.setCtr (.tinLost p) w) := fun _ => h.setCtr_tinLost
  exact .ite h <| .ite (.ite h (.ite (hset _).overflowed_tinLost (hset _))) (.ite (hset _).overflowed_tinLost (hset _))

theorem Paces.tinEnter {p t : Nat} {r : TinRec} (h : Paces n s₀ s) : Paces n s₀ (s.tinEnter p t r) :=
  .ite (h.setTin.setBit (.inl (by unfold R.TIN_STAT_OVF; dsimp only; omega))).count_tinLost h.setTin.syncVec

theorem Paces.tinDeliver {p : Nat} {l : List TinRec} (h : Paces n s₀ s) : Paces n s₀ (s.tinDeliver p l) := by
  induction l generalizing s with
  | nil => exact h.setTin
  | cons r l ih => exact .ite h.setTin (ih h.tinEnter)

theorem Paces.tinDeliverAll (h : Paces n s₀ s) : Paces n s₀ s.tinDeliverAll := h.foldl fun _ _ hu => .ite hu hu.tinDeliver

/-! ### TIME -/

theorem tickMany_tstate {ppm m : Nat} {x : Domain × Bool} : (tickMany ppm m x).1.tstate = x.1.tstate := by
  induction m generalizing x with
  | zero => rfl
  | succ m ih =>
    unfold tickMany
    split
    · rfl
    · rw [ih]
      rfl

theorem offSel_clamp (d : Nat) : OffSel (R.DOM_STAT_RATE_CLAMP d).addr := .inl (by unfold R.DOM_STAT_RATE_CLAMP; dsimp only; omega)

theorem Paces.tickDom {d : Nat} (h : Paces n s₀ s) : Paces n s₀ (s.tickDom d) := by
  unfold State.tickDom
  have h1 : Paces n s₀ (s.setDom d (tickDomain (s.slewPpm d) (s.dom d)).1) := h.setDom rfl
  split
  next D c hp =>
    rw [hp] at h1
    exact .ite (h1.setBit (offSel_clamp d)) h1

theorem Paces.markEdges {s0 : State} (h : Paces n s₀ s) : Paces n s₀ (s0.markEdges s) := by
  unfold State.markEdges
  refine .foldl h fun _ _ hu => ?_
  extract_lets d
  split
  · exact hu.setDue
  · exact hu

theorem Paces.tick (h : Paces n s₀ s) (htime : s.sys.timebase = true) : Paces (n + 1) s₀ s.tick := by
  unfold State.tick
  extract_lets s0 s1
  have h0 : Paces n s₀ s0 := h.ivlTakeAll
  have h1 : Paces (n + 1) s₀ s1 := (h0.pass (congrArg (· + 1) h0.tb)).foldl fun _ _ hu => hu.tickDom
  rw [htime]
  exact h1.markEdges.tinDeliverAll

theorem Paces.passDoms {m : Nat} (h : Paces n s₀ s) : Paces (n + m) s₀ (s.passDoms m) := by
  unfold State.passDoms
  split
  next hm => rwa [hm]
  · refine .foldl (h.pass (congrArg (· + m) h.tb)) fun _ _ hu => ?_
    extract_lets r s1
    have h1 : Paces (n + m) s₀ s1 := hu.setDom tickMany_tstate
    exact .ite (h1.setBit (offSel_clamp _)) h1

theorem passN_zero (s : State) : s.passN 0 = s := if_pos (by simp)

theorem passN_stopped (htime : s.sys.timebase = false) (m : Nat) : s.passN m = s := if_pos (by simp [htime])

theorem passN_paces (htime : s.sys.timebase = true) (m : Nat) : Paces (s.tb + m) s (s.passN m) := by
  cases m with
  | zero =>
    rw [passN_zero]
    exact .refl s
  | succ m =>
    have h1 : Paces (s.tb + m) s (s.ivlTakeAll.passDoms m) := (Paces.refl s).ivlTakeAll.passDoms
    have h2 := h1.tick (h1.sys ▸ htime)
    unfold State.passN
    rw [htime, if_neg (by simp)]
    exact h2

/-! ### The judgement of a reference -/

theorem offSel_port {p a : Nat} (hp : p < 64) (ha : a < 0x1006000) : OffSel (a + portOff p) := .inr (.inl (by unfold portOff; omega))

theorem Paces.suspect {d k : Nat} {b : Bool} (h : Paces n s₀ s) : Paces n s₀ (s.setBit (R.REF_CSTAT_SUSPECT d k) b) :=
  h.bus (OnlyRegs.setBit s _ b).bus fun f hf => by
    have hmod : (R.REF_CSTAT_SUSPECT d k).addr % 32 = 12 := by unfold R.REF_CSTAT_SUSPECT; dsimp only; omega
    obtain ⟨-, -, hplace⟩ := hf.place
    by_cases ha : f.addr = (R.REF_CSTAT_SUSPECT d k).addr
    · have hbits : f.lo + f.width = 3 := by omega
      exact s.rd_wr_disjoint ha (Nat.le_of_ble_eq_true rfl) (.inr (hbits.trans_le (Nat.le_of_ble_eq_true rfl))) _
    · exact s.rd_wr_ne ha _

theorem Paces.log {code p0 p1 : Nat} (h : Paces n s₀ s) : Paces n s₀ (s.log code p0 p1) :=
  h.bus (.log s code p0 p1) fun _ hf => rd_log_ne hf.unlogged code p0 p1

theorem Paces.settleRef {p d k first last : Nat} (hp : p < 64) (h : Paces n s₀ s) : Paces n s₀ (s.settleRef p d k first last) := by
  have hstat : OffSel (0x1005028 + Machine.portOff p) := offSel_port hp (by decide)
  have hlatch : OffSel (0x100500C + Machine.portOff p) := offSel_port hp (by decide)
  have hhist : OffSel (R.REF_CHIST_SUSPECT d k).addr := .inl (by unfold R.REF_CHIST_SUSPECT; dsimp only; omega)
  unfold State.settleRef
  extract_lets J D tol
  exact .ite ((h.setReg hlatch).setBit hstat).log ((h.setBit hstat).suspect.setBit hhist).syncVec

theorem OnlyBus.settleRef (s : State) (p d k first last : Nat) : OnlyBus s (s.settleRef p d k first last) := by
  unfold State.settleRef
  extract_lets J D tol
  split
  · exact ((OnlyRegs.wr s _ _).trans (.setBit _ _ _)).bus.trans (.log _ _ _ _)
  · exact ((OnlyRegs.setBit s _ _).trans ((OnlyRegs.setBit _ _ _).trans (.setBit _ _ _))).bus.trans (.syncVec _ _)

/-! ### A domain that enters a timing state -/

theorem prvAbort_parts (s : State) : ∃ r p o P T, s.prvAbort = { s with regs := r, pcie := p, out := o, prv := P, twin := T } := by
  unfold State.prvAbort
  split
  · exact ⟨_, _, _, _, _, rfl⟩
  · extract_lets s1 T wait s2
    obtain ⟨r, p, o, hlog⟩ := OnlyBus.log s2 0x0A (s2.reg A.PRV_STAT).toNat 0
    exact ⟨r, p, o, _, _, hlog⟩

/-- The address is none that an abort of a proving run or a change of mode writes. -/
structure Unmoded (a : Nat) : Prop where
  unlogged : Unlogged a
  prv : a ≠ A.PRV_STAT
  twin : a ≠ A.TW_STAT

theorem reg_prvAbort_ne {a : Nat} (ha : Unmoded a) : s.prvAbort.reg a = s.reg a := by
  unfold State.prvAbort
  split
  · rfl
  · extract_lets s1 T wait s2
    have h1 : s1.reg a = s.reg a :=
      (State.reg_setBit_ne _ (f := R.TW_STAT_REVPEND) ha.twin false).trans <|
      (State.reg_setBit_ne _ (f := R.PRV_STAT_RUN) ha.prv false).trans (State.reg_wr_ne s (f := R.PRV_STAT_RESULT) ha.prv 3)
    exact (reg_log_ne ha.unlogged _ _ _).trans h1

theorem domState_parts (s : State) (d : Nat) (t : TState) (cause detail : Nat) :
    ∃ D R m r p o P T since, D.tstate = t ∧ R.gatedBy = (s.ref d).gatedBy ∧ s.domState d t cause detail =
      { (s.setDom d D).setRef d R with mode := m, regs := r, pcie := p, out := o, prv := P, twin := T, sys := { s.sys with fwdSince := since } } := by
  unfold State.domState
  extract_lets D R s1
  split
  · obtain ⟨since, r, p, o, h⟩ := toMode_parts s1 t.mode cause detail
    refine ⟨_, _, _, r, p, o, _, _, since, ?_, ?_, h⟩ <;> rfl
  · split
    · obtain ⟨r, p, o, P, T, habort⟩ := prvAbort_parts s1
      obtain ⟨since, r', p', o', h⟩ := toMode_parts s1.prvAbort t.mode 0x15 0
      rw [habort] at h ⊢
      refine ⟨_, _, _, r', p', o', P, T, since, ?_, ?_, h⟩ <;> rfl
    · refine ⟨_, _, _, _, _, _, _, _, _, ?_, ?_, Eq.refl s1⟩ <;> rfl

theorem reg_domState_ne {a d cause detail : Nat} {t : TState} (ha : Unmoded a) : (s.domState d t cause detail).reg a = s.reg a := by
  unfold State.domState
  extract_lets D R s1
  split
  · exact reg_toMode_ne ha.unlogged _ _ _
  · split
    · exact (reg_toMode_ne ha.unlogged _ _ _).trans (reg_prvAbort_ne ha)
    · rfl

/-- A timing state is no recovery. -/
theorem domState_recover {d cause detail : Nat} {t : TState} (hm : s.mode ≠ .recover) : (s.domState d t cause detail).mode ≠ .recover := by
  have ht : t.mode ≠ .recover := by cases t <;> decide
  unfold State.domState
  extract_lets D R s1
  split
  · rwa [toMode_mode]
  · split
    · rwa [toMode_mode]
    · exact hm

/-! ### The gate of a reference opens -/

/-- TIME, the PTP ports, the loss of REFCLK, whether the device recovers, and the registers that no change of mode writes are as they were. -/
structure Gates (s t : State) : Prop where
  tb : t.tb = s.tb
  ptps : t.ptps = s.ptps
  lost : t.sys.refclkLost = s.sys.refclkLost
  recover : t.mode = .recover ↔ s.mode = .recover
  regs : ∀ a, Unmoded a → t.reg a = s.reg a

theorem Gates.refl (s : State) : Gates s s := ⟨rfl, rfl, rfl, .rfl, fun _ _ => rfl⟩

theorem Gates.ptp {t : State} (h : Gates s t) (p : Nat) : t.ptp p = s.ptp p := by
  unfold State.ptp
  rw [h.ptps]

theorem Gates.trans {t u : State} (h : Gates s t) (k : Gates t u) : Gates s u :=
  ⟨k.tb.trans h.tb, k.ptps.trans h.ptps, k.lost.trans h.lost, k.recover.trans h.recover, fun a ha => (k.regs a ha).trans (h.regs a ha)⟩

theorem Gates.setRef {t : State} {d : Nat} {x : Ref} (h : Gates s t) : Gates s (t.setRef d x) := ⟨h.tb, h.ptps, h.lost, h.recover, h.regs⟩

theorem Gates.domState {d cause detail : Nat} {t : TState} (hm : s.mode ≠ .recover) : Gates s (s.domState d t cause detail) := by
  have hregs : ∀ a, Unmoded a → (s.domState d t cause detail).reg a = s.reg a := fun _ ha => reg_domState_ne ha
  have hrec : (s.domState d t cause detail).mode ≠ .recover := domState_recover hm
  obtain ⟨D, R, m, r, p, o, P, T, since, -, -, hs⟩ := domState_parts s d t cause detail
  rw [hs] at hregs hrec ⊢
  exact ⟨rfl, rfl, rfl, iff_of_false hrec hm, hregs⟩

/-- The gate of the reference of domain d is off. -/
def State.ungated (s : State) (d : Nat) : State := s.setRef d { s.ref d with gatedBy := none }

/-- The gate kept the domain in HOLDOVER, and nothing else does (Table 2-9). -/
def State.regains (s : State) (d k : Nat) : Bool := (s.dom d).tstate = .holdover && s.cstate d k = 4 && !s.sys.refclkLost && s.mode != .recover

theorem gateOff_of_ne {p d : Nat} (h : (s.ref d).gatedBy ≠ some p) : s.gateOff p d = s := if_neg h

theorem gateOff_of_none {p d : Nat} (h : (s.ref d).gatedBy = some p) (hsel : s.selOf d = none) : s.gateOff p d = s.ungated d := by
  have hsel' : (s.ungated d).selOf d = none := hsel
  refine (if_pos h).trans ?_
  change (match (s.ungated d).selOf d with | some k => _ | none => s.ungated d) = _
  rw [hsel']

theorem gateOff_of_some {p d k : Nat} (h : (s.ref d).gatedBy = some p) (hsel : s.selOf d = some k) :
    s.gateOff p d = if s.regains d k then ((s.ungated d).domState d .acquire 0x0E p).pllStart d else s.ungated d := by
  have hsel' : (s.ungated d).selOf d = some k := hsel
  refine (if_pos h).trans ?_
  change (match (s.ungated d).selOf d with | some k => _ | none => s.ungated d) = _
  rw [hsel']
  rfl

/-- What becomes of a state where the gate of domain d goes off: nothing, the gate alone, or the domain in ACQUIRE. -/
theorem gateOff_cases (s : State) (p d : Nat) :
    s.gateOff p d = s ∨ s.gateOff p d = s.ungated d ∨
      s.mode ≠ .recover ∧ s.gateOff p d = ((s.ungated d).domState d .acquire 0x0E p).pllStart d := by
  by_cases h : (s.ref d).gatedBy = some p
  · refine .inr ?_
    cases hsel : s.selOf d with
    | none => exact .inl (gateOff_of_none h hsel)
    | some k =>
      rw [gateOff_of_some h hsel]
      by_cases hreg : s.regains d k = true
      · have hm : s.mode ≠ .recover := bne_iff_ne.mp (Bool.and_eq_true_iff.mp hreg).2
        exact .inr ⟨hm, if_pos hreg⟩
      · exact .inl (if_neg hreg)
  · exact .inl (gateOff_of_ne h)

theorem Gates.gateOff (s : State) (p d : Nat) : Gates s (s.gateOff p d) := by
  have hoff : Gates s (s.ungated d) := (Gates.refl s).setRef
  rcases gateOff_cases s p d with h | h | ⟨hm, h⟩ <;> rw [h]
  · exact .refl s
  · exact hoff
  · exact (hoff.trans (Gates.domState hm)).setRef

theorem pllStart_gatedBy (s : State) (d : Nat) : ((s.pllStart d).ref d).gatedBy = (s.ref d).gatedBy := by
  unfold State.pllStart
  rw [State.ref_setRef_same]

theorem domState_gatedBy (s : State) (d : Nat) (t : TState) (cause detail : Nat) :
    ((s.domState d t cause detail).ref d).gatedBy = (s.ref d).gatedBy := by
  obtain ⟨D, R, m, r, p, o, P, T, since, -, hR, hs⟩ := domState_parts s d t cause detail
  rw [hs, ← hR]
  exact congrArg Ref.gatedBy (State.ref_setRef_same (s.setDom d D) d R)

theorem domState_ref_ne {d j cause detail : Nat} {t : TState} (hj : j ≠ d) : (s.domState d t cause detail).ref j = s.ref j := by
  obtain ⟨D, R, m, r, p, o, P, T, since, -, -, hs⟩ := domState_parts s d t cause detail
  rw [hs]
  exact State.ref_setRef_ne (s.setDom d D) hj R

theorem ungated_gatedBy (s : State) (d : Nat) : ((s.ungated d).ref d).gatedBy = none := by
  unfold State.ungated
  rw [State.ref_setRef_same]

theorem gateOff_gatedBy {p d : Nat} (h : (s.ref d).gatedBy = some p) : ((s.gateOff p d).ref d).gatedBy = none := by
  cases hsel : s.selOf d with
  | none =>
    rw [gateOff_of_none h hsel]
    exact ungated_gatedBy s d
  | some k =>
    rw [gateOff_of_some h hsel]
    split
    · exact (pllStart_gatedBy _ d).trans ((domState_gatedBy _ d _ _ _).trans (ungated_gatedBy s d))
    · exact ungated_gatedBy s d

theorem gateOff_acquires {p d k : Nat} (h : (s.ref d).gatedBy = some p) (hsel : s.selOf d = some k) (hreg : s.regains d k = true) :
    ((s.gateOff p d).dom d).tstate = .acquire := by
  rw [gateOff_of_some h hsel, if_pos hreg]
  exact (congrArg Domain.tstate (State.setRef_dom _ d _ d)).trans (Still.refl (s.ungated d)).domState.own

theorem gateOff_stays {p d k : Nat} (h : (s.ref d).gatedBy = some p) (hsel : s.selOf d = some k) (hreg : s.regains d k = false) :
    (s.gateOff p d).dom d = s.dom d := by
  rw [gateOff_of_some h hsel, hreg]
  rfl

/-! ### The domains beside the one whose gate goes off -/

/-- Domain j and its reference are as they were. -/
structure Beside (j : Nat) (s t : State) : Prop extends Gates s t where
  ref : t.ref j = s.ref j
  dom : t.dom j = s.dom j

theorem Beside.refl (j : Nat) (s : State) : Beside j s s := ⟨.refl s, rfl, rfl⟩

theorem Beside.trans {j : Nat} {t u : State} (h : Beside j s t) (k : Beside j t u) : Beside j s u :=
  ⟨h.toGates.trans k.toGates, k.ref.trans h.ref, k.dom.trans h.dom⟩

theorem Beside.gateOff (s : State) {p d j : Nat} (hj : j ≠ d) : Beside j s (s.gateOff p d) := by
  refine ⟨.gateOff s p d, ?_, ?_⟩ <;> rcases gateOff_cases s p d with h | h | ⟨-, h⟩ <;> rw [h]
  · exact State.ref_setRef_ne s hj _
  · exact (State.ref_setRef_ne _ hj _).trans ((domState_ref_ne hj).trans (State.ref_setRef_ne s hj _))
  · rfl
  · exact (Still.refl (s.ungated d)).domState.other j hj

theorem Beside.foldl_gateOff {p j : Nat} {l : List Nat} (hj : j ∉ l) (s : State) : Beside j s (l.foldl (fun s d => s.gateOff p d) s) := by
  induction l generalizing s with
  | nil => exact .refl j s
  | cons d l ih =>
    obtain ⟨hd, hl⟩ := not_or.mp (mt List.mem_cons.mpr hj)
    exact (Beside.gateOff s hd).trans (ih hl _)

theorem Gates.foldl_gateOff {p : Nat} (l : List Nat) (s : State) : Gates s (l.foldl (fun s d => s.gateOff p d) s) := by
  induction l generalizing s with
  | nil => exact .refl s
  | cons d l ih => exact (Gates.gateOff s p d).trans (ih _)

/-- Among all gates that go off, the one of domain d goes off once. -/
theorem foldl_gateOff_at {p d : Nat} {l : List Nat} (hl : l.Nodup) (hd : d ∈ l) (s : State) :
    ∃ u, Beside d s u ∧ Beside d (u.gateOff p d) (l.foldl (fun s d => s.gateOff p d) s) := by
  obtain ⟨l₁, l₂, rfl⟩ := List.append_of_mem hd
  obtain ⟨-, hnodup, hdisj⟩ := List.nodup_append.mp hl
  rw [List.foldl_append, List.foldl_cons]
  exact ⟨_, .foldl_gateOff (fun h => hdisj d h d (List.mem_cons_self ..) rfl) s, .foldl_gateOff (List.nodup_cons.mp hnodup).1 _⟩

theorem SelFld.unmoded {f : Fld} (hf : SelFld f) : Unmoded f.addr :=
  ⟨hf.unlogged, hf.ne (.inr (.inr (by decide))), hf.ne (.inr (.inr (by decide)))⟩

theorem Gates.sel {t : State} (h : Gates s t) (f : Fld) (hf : SelFld f) : t.rd f = s.rd f := by
  unfold State.rd
  rw [h.regs _ hf.unmoded]

theorem selOf_congr {t : State} {d : Nat} (hd : d < 8) (h : ∀ f, SelFld f → t.rd f = s.rd f) : t.selOf d = s.selOf d := by
  unfold State.selOf State.bit
  rw [h _ (.sel d hd), h _ (.selv d hd)]

theorem selOf_lt {d k : Nat} (h : s.selOf d = some k) : k < 16 := by
  obtain ⟨-, hk⟩ := Option.ite_none_right_eq_some.mp h
  rw [← Option.some.inj hk]
  exact Nat.mod_lt _ (Nat.le_of_ble_eq_true rfl)

/-! ### The end of SETTLE -/

/-- TIME has passed to the end of SETTLE, and the references that port p carries are judged. -/
def State.judged (s : State) (p first last : Nat) : State :=
  let s0 := s.passN (last + s.settleNs p - s.tb)
  (s0.carried p).foldl (fun s x => s.settleRef p x.1 x.2 first last) s0

/-- Port p no longer settles. -/
def State.pathFree (s : State) (p : Nat) : State := (s.setPtp p { s.ptp p with settle := none, dRtt := 0 }).setBit (R.PTP_PSTAT_PD_GATED p) false

theorem settleEnd_of_none {p : Nat} (h : (s.ptp p).settle = none) : s.settleEnd p = s := by
  unfold State.settleEnd
  rw [h]

theorem settleEnd_of_some {p first last : Nat} {base : Int} (h : (s.ptp p).settle = some (base, first, last)) :
    s.settleEnd p = (List.range 8).foldl (fun s d => s.gateOff p d) ((s.judged p first last).pathFree p) := by
  unfold State.settleEnd
  rw [h]
  rfl

theorem judged_paces {p : Nat} (hp : p < 64) (s : State) (first last : Nat) :
    ∃ n, (s.sys.timebase = true → n = max s.tb (last + s.settleNs p)) ∧ Paces n s (s.judged p first last) := by
  have hjudge : ∀ {n : Nat}, Paces n s (s.passN (last + s.settleNs p - s.tb)) → Paces n s (s.judged p first last) := fun h =>
    h.foldl fun _ _ hu => hu.settleRef hp
  by_cases htime : s.sys.timebase = true
  · exact ⟨_, fun _ => by omega, hjudge (passN_paces htime _)⟩
  · have h0 : s.passN (last + s.settleNs p - s.tb) = s := passN_stopped (Bool.eq_false_iff.mpr htime) _
    exact ⟨s.tb, fun h => absurd h htime, hjudge (h0.symm ▸ .refl s)⟩

/-- Where the seconds of SETTLE are over, no TIME passes, and the domains are as they were. -/
theorem judged_dom_of_past {p first last : Nat} (hpast : last + s.settleNs p ≤ s.tb) (d : Nat) : (s.judged p first last).dom d = s.dom d := by
  have h0 : s.passN (last + s.settleNs p - s.tb) = s := by
    rw [Nat.sub_eq_zero_of_le hpast]
    exact passN_zero s
  have hfold : ∀ (l : List (Nat × Nat)) (u : State), OnlyBus u (l.foldl (fun s x => s.settleRef p x.1 x.2 first last) u) := fun l => by
    induction l with
    | nil => exact .refl
    | cons x l ih => exact fun u => (OnlyBus.settleRef u p x.1 x.2 first last).trans (ih _)
  have hbus : OnlyBus s (s.judged p first last) := by
    unfold State.judged
    rw [h0]
    exact hfold _ s
  obtain ⟨r, q, o, h⟩ := hbus
  rw [h]
  rfl

theorem unmoded_pstat {p : Nat} (hp : p < 64) : Unmoded (R.PTP_PSTAT_PD_GATED p).addr := by
  have hlo : 0x1005028 ≤ (R.PTP_PSTAT_PD_GATED p).addr := Nat.le_add_right _ _
  have hhi : (R.PTP_PSTAT_PD_GATED p).addr < 0x3801000 := by
    unfold R.PTP_PSTAT_PD_GATED portOff
    dsimp only
    omega
  refine ⟨⟨by omega, .inr (by omega), fun h => ?_⟩, fun h => ?_, fun h => ?_⟩
  · have hlow : ∀ a ∈ [A.EVL_HEAD, A.EVL_RD, A.EVL_LOST, R.EVL_LOST_STICKY.addr, A.HUB_STAT, A.GLB_ISRC], a < 0x1005028 ∨ 0x3801000 ≤ a := by decide
    have := hlow _ h
    omega
  · exact absurd (h ▸ hhi) (by decide)
  · exact absurd (h ▸ hhi) (by decide)

theorem Paces.pathFree {p : Nat} (hp : p < 64) {f : Fld} (h : Paces n s₀ s) (hf : SelFld f) : (s.pathFree p).rd f = s₀.rd f :=
  (State.rd_wr_ne _ (hf.ne (offSel_port hp (by decide))) _).trans (h.sel f hf)

/-- What the end of SETTLE makes of domain d, whose gate it opens. -/
theorem settled_domain {p d : Nat} {u t : State} (hd : d < 8) (hpaces : Paces n s₀ s) (hp : p < 64) (hu : Beside d (s.pathFree p) u)
    (ht : Beside d (u.gateOff p d) t) (hgate : (s₀.ref d).gatedBy = some p) :
    (t.ref d).gatedBy = none ∧ ∀ k, (s₀.dom d).tstate = .holdover → s₀.selOf d = some k → s₀.cstate d k = 4 →
      (s₀.sys.refclkLost = false → s₀.mode ≠ .recover → (t.dom d).tstate = .acquire) ∧
      (s₀.sys.refclkLost = true ∨ s₀.mode = .recover → (t.dom d).tstate = .holdover) := by
  have hsel : ∀ f, SelFld f → u.rd f = s₀.rd f := fun f hf => (hu.sel f hf).trans (hpaces.pathFree hp hf)
  have href : u.ref d = s₀.ref d := hu.ref.trans (hpaces.ref d)
  have hgateU : (u.ref d).gatedBy = some p := by rw [href, hgate]
  refine ⟨by rw [ht.ref, gateOff_gatedBy hgateU], fun k hhold hsome hstate => ?_⟩
  have hsomeU : u.selOf d = some k := (selOf_congr hd hsel).trans hsome
  have hstateU : u.cstate d k = 4 := (hsel _ (.cstate d k hd (selOf_lt hsome))).trans hstate
  have hholdU : (u.dom d).tstate = .holdover := (congrArg Domain.tstate hu.dom).trans ((hpaces.tstate d).trans hhold)
  have hlostU : u.sys.refclkLost = s₀.sys.refclkLost := hu.lost.trans (congrArg Sys.refclkLost hpaces.sys)
  have hmodeU : u.mode = .recover ↔ s₀.mode = .recover := hu.recover.trans (by rw [← hpaces.mode]; rfl)
  rw [ht.dom]
  refine ⟨fun hlost hmode => ?_, fun hblock => ?_⟩
  · exact gateOff_acquires hgateU hsomeU (by simp [State.regains, hholdU, hstateU, hlostU, hlost, mt hmodeU.mp hmode])
  · have hreg : u.regains d k = false := by
      rcases hblock with hlost | hmode
      · simp [State.regains, hlostU, hlost]
      · simp [State.regains, hmodeU.mpr hmode]
    rw [gateOff_stays hgateU hsomeU hreg, hholdU]

/-! ### The statement -/

/-- Settles O49: TIME that passes and the judgement of the references keep the selection (`Paces`); each domain's gate then goes off once, beside all
others (`Beside`). -/
theorem pathDelaySettles : Obligations.PathDelaySettles := by
  refine fun p s => ⟨fun hnone => ⟨_, rfl, settleEnd_of_none hnone⟩, fun base first last hsome => ⟨_, rfl, ?_⟩⟩
  obtain ⟨n, hn, hpaces⟩ := judged_paces p.isLt s first last
  have hgates : Gates ((s.judged p first last).pathFree p) (s.settleEnd p) := settleEnd_of_some hsome ▸ .foldl_gateOff _ _
  have hptp : ∀ j, (s.settleEnd p).ptp j = ((s.judged p first last).setPtp p { (s.judged p first last).ptp p with settle := none, dRtt := 0 }).ptp j :=
    hgates.ptp
  refine ⟨?_, ?_, fun j hj => ?_, fun htime => ?_, fun d hd => ?_⟩
  · rw [hptp, State.ptp_setPtp_same]
  · unfold State.bit State.rd
    rw [hgates.regs _ (unmoded_pstat p.isLt)]
    exact State.bit_setBit_same _ (R.PTP_PSTAT_PD_GATED p) rfl (Nat.le_of_ble_eq_true rfl) false
  · rw [hptp, State.ptp_setPtp_ne _ hj]
    exact hpaces.ptp j
  · rw [hgates.tb, ← hn htime]
    exact hpaces.tb
  · obtain ⟨u, hu, ht⟩ := foldl_gateOff_at (p := p) List.nodup_range (List.mem_range.mpr hd) ((s.judged p first last).pathFree p)
    rw [← settleEnd_of_some hsome] at ht
    refine ⟨settled_domain hd hpaces p.isLt hu ht, fun hgate => ?_⟩
    have href : u.ref d = s.ref d := hu.ref.trans (hpaces.ref d)
    rw [gateOff_of_ne (by rwa [href])] at ht
    exact ⟨ht.ref.trans href, fun hpast => ht.dom.trans (hu.dom.trans (judged_dom_of_past hpast d))⟩

end Sys2Proof.Machine
end

section
/-! ## The frame `Spends`: what giving back memory, sending PFC and counting at a port leave -/

namespace Sys2Proof.Machine

variable {s₀ s t : State}

/-! ### Registers that no counter of a port writes -/

/-- What an increment does to the state: nothing, or the counter is set, and may have overflowed. -/
theorem countBy_cases (s : State) (c : Ctr) (n : Nat) :
    s.countBy c n = s ∨ ∃ v, s.countBy c n = s.setCtr c v ∨ s.countBy c n = (s.setCtr c v).overflowed c := by
  unfold State.countBy
  extract_lets v
  split
  · exact .inl rfl
  · split
    · split
      · exact .inl rfl
      · split
        · exact .inr ⟨_, .inr rfl⟩
        · exact .inr ⟨_, .inl rfl⟩
    · split
      · exact .inr ⟨_, .inr rfl⟩
      · exact .inr ⟨_, .inl rfl⟩

/-- An increment leaves every word but the counter's own, its sticky bit's, `HUB_STAT` and the pending bits of messages. -/
theorem reg_countBy_ne {c : Ctr} {n a : Nat} (hlo : a ≠ c.lo.addr) (hhi : a ≠ c.lo.addr + 4) (hsticky : a ≠ c.sticky.addr) (hhub : a ≠ A.HUB_STAT)
    (hbelow : a < 0x8003800) : (s.countBy c n).reg a = s.reg a := by
  have hset : ∀ v, (s.setCtr c v).reg a = s.reg a := fun v => by
    unfold State.setCtr
    extract_lets s1
    split
    · exact s.reg_wr_ne hlo _
    · exact (s1.reg_wr_ne (f := ctrHi c) hhi _).trans (s.reg_wr_ne hlo _)
  have hover : ∀ u : State, (u.overflowed c).reg a = u.reg a := fun u => by
    unfold State.overflowed
    extract_lets s1
    have h1 : s1.reg a = u.reg a := u.reg_setBit_ne hsticky true
    split
    · exact (reg_syncVec_ne hbelow 7).trans ((s1.reg_setBit_ne (f := R.HUB_STAT_WRAP) hhub true).trans h1)
    · exact h1
  rcases countBy_cases s c n with h | ⟨v, h | h⟩ <;> rw [h]
  · exact hset v
  · rw [hover, hset]

/-- The address is none of those that a counter of a port writes: the counters of an octet lie in the upper half of its block. -/
structure Uncounted (a : Nat) : Prop where
  place : a % 0x100000 < 0x8000
  hub : a ≠ A.HUB_STAT
  below : a < 0x8003800

theorem reg_countBy_port {a : Nat} (ha : Uncounted a) (p : Nat) {e : Nat} (he : e < 0x80) (n : Nat) : (s.countBy (.port p e) n).reg a = s.reg a := by
  obtain ⟨hplace, hhub, hbelow⟩ := ha
  refine reg_countBy_ne ?_ ?_ ?_ hhub hbelow <;>
  · simp only [Ctr.port, portCtrAddr]
    omega

/-! ### The frame -/

/-- Accounts, allotments, what stands of XOFF, what arrives of a frame, counters, lines and outputs may differ; all else is as it was. -/
structure Spends (s₀ s : State) : Prop where
  parts : ∃ r p o a e q m, s = { s₀ with regs := r, pcie := p, out := o, accts := a, egresses := e, egrQs := q, reasms := m }
  regs : ∀ a, Uncounted a → s.reg a = s₀.reg a
  egr : ∀ k, ∃ x, s.egr k = { s₀.egr k with xoff := x }
  queue : ∀ k, (s.egrQ k).q = (s₀.egrQ k).q
  reasm : ∀ k, ∃ x, s.reasm k = { s₀.reasm k with cur := x }

theorem Spends.refl (s : State) : Spends s s :=
  ⟨⟨_, _, _, _, _, _, _, rfl⟩, fun _ _ => rfl, fun _ => ⟨_, rfl⟩, fun _ => rfl, fun _ => ⟨_, rfl⟩⟩

theorem Spends.trans (h : Spends s₀ s) (k : Spends s t) : Spends s₀ t where
  parts := by
    obtain ⟨_, _, _, _, _, _, _, rfl⟩ := h.parts
    obtain ⟨_, _, _, _, _, _, _, rfl⟩ := k.parts
    exact ⟨_, _, _, _, _, _, _, rfl⟩
  regs a ha := (k.regs a ha).trans (h.regs a ha)
  egr j := by
    obtain ⟨x, hx⟩ := h.egr j
    obtain ⟨y, hy⟩ := k.egr j
    exact ⟨y, by rw [hy, hx]⟩
  queue j := (k.queue j).trans (h.queue j)
  reasm j := by
    obtain ⟨x, hx⟩ := h.reasm j
    obtain ⟨y, hy⟩ := k.reasm j
    exact ⟨y, by rw [hy, hx]⟩

theorem Spends.rd (h : Spends s₀ s) {f : Fld} (hf : Uncounted f.addr) : s.rd f = s₀.rd f := by
  unfold State.rd
  rw [h.regs _ hf]

theorem Spends.ite {c : Prop} {i : Decidable c} {u : State} (ht : Spends s₀ t) (hu : Spends s₀ u) : Spends s₀ (if c then t else u) := by
  split
  · exact ht
  · exact hu

theorem Spends.foldl {α : Type} {f : State → α → State} {l : List α} (h : Spends s₀ s) (hf : ∀ u, ∀ x ∈ l, Spends s₀ u → Spends s₀ (f u x)) :
    Spends s₀ (l.foldl f s) := by
  induction l generalizing s with
  | nil => exact h
  | cons x l ih => exact ih (hf s x List.mem_cons_self h) fun u y hy => hf u y (List.mem_cons_of_mem x hy)

/-! ### The operations -/

theorem Spends.emit {o : Out} (h : Spends s₀ s) : Spends s₀ (s.emit o) :=
  h.trans ⟨⟨_, _, _, _, _, _, _, rfl⟩, fun _ _ => rfl, fun _ => ⟨_, rfl⟩, fun _ => rfl, fun _ => ⟨_, rfl⟩⟩

theorem Spends.countBy {p e n : Nat} (h : Spends s₀ s) (he : e < 0x80 := by decide) : Spends s₀ (s.countBy (.port p e) n) := by
  refine h.trans ?_
  have hregs : ∀ a, Uncounted a → (s.countBy (.port p e) n).reg a = s.reg a := fun a ha => reg_countBy_port ha p he n
  obtain ⟨r, l, o, hc⟩ := OnlyBus.countBy s (.port p e) n
  rw [hc] at hregs ⊢
  exact ⟨⟨_, _, _, _, _, _, _, rfl⟩, hregs, fun _ => ⟨_, rfl⟩, fun _ => rfl, fun _ => ⟨_, rfl⟩⟩

theorem Spends.count {p e : Nat} (h : Spends s₀ s) (he : e < 0x80 := by decide) : Spends s₀ (s.count (.port p e)) := h.countBy he

theorem Spends.setAcct {k : Nat} {x : Acct} (h : Spends s₀ s) : Spends s₀ (s.setAcct k x) :=
  h.trans ⟨⟨_, _, _, _, _, _, _, rfl⟩, fun _ _ => rfl, fun _ => ⟨_, rfl⟩, fun _ => rfl, fun _ => ⟨_, rfl⟩⟩

theorem Spends.setXoff {p x : Nat} (h : Spends s₀ s) : Spends s₀ (s.setEgr p { s.egr p with xoff := x }) := by
  refine h.trans ⟨⟨_, _, _, _, _, _, _, rfl⟩, fun _ _ => rfl, fun j => ?_, fun _ => rfl, fun _ => ⟨_, rfl⟩⟩
  by_cases hj : j = p
  · rw [hj, State.egr_setEgr_same]
    exact ⟨_, rfl⟩
  · exact ⟨_, State.egr_setEgr_ne s hj _⟩

theorem Spends.freeUnits {k n : Nat} (h : Spends s₀ s) : Spends s₀ (s.freeUnits k n) := by
  refine h.trans ⟨⟨_, _, _, _, _, _, _, rfl⟩, fun _ _ => rfl, fun _ => ⟨_, rfl⟩, fun j => ?_, fun _ => ⟨_, rfl⟩⟩
  unfold State.freeUnits
  by_cases hj : j = k
  · rw [hj, State.egrQ_setEgrQ_same]
  · rw [State.egrQ_setEgrQ_ne s hj]

theorem Spends.setCur {k : Nat} {x : Option Part} (h : Spends s₀ s) : Spends s₀ (s.setReasm k { s.reasm k with cur := x }) := by
  refine h.trans ⟨⟨_, _, _, _, _, _, _, rfl⟩, fun _ _ => rfl, fun _ => ⟨_, rfl⟩, fun _ => rfl, fun j => ?_⟩
  by_cases hj : j = k
  · rw [hj, State.reasm_setReasm_same]
    exact ⟨_, rfl⟩
  · exact ⟨_, State.reasm_setReasm_ne s hj _⟩

theorem Spends.killPart {p src c id : Nat} (h : Spends s₀ s) : Spends s₀ (s.killPart p src c id) := by
  unfold State.killPart
  refine .foldl h fun _ _ _ hu => ?_
  split
  · exact .ite hu.setCur hu
  · exact hu

theorem Spends.pfcSend {p c : Nat} {on : Bool} (h : Spends s₀ s) (hc : c < 8) : Spends s₀ (s.pfcSend p c on) := by
  unfold State.pfcSend
  extract_lets pause quanta
  exact h.emit.count (by split <;> omega)

theorem Spends.xoffCheck {p c : Nat} (h : Spends s₀ s) (hc : c < 8) : Spends s₀ (s.xoffCheck p c) :=
  .ite (.ite h.setXoff (h.setXoff.pfcSend hc)) h

theorem Spends.freeFrame {f : Frame} (h : Spends s₀ s) : Spends s₀ (s.freeFrame f) :=
  h.setAcct.foldl fun _ k _ hu => .ite (hu.xoffCheck (Nat.mod_lt k (by decide))) hu

end Sys2Proof.Machine
end

section
/-! ## Slots, full bits and the reservation banks (R74, R85, R88, R89, R99) -/

namespace Sys2Proof.Machine

variable {s t : State}

/-! ### VOQs and transit stores -/

theorem noteBusy_parts (s : State) (busy : Bool) : ∃ w, s.noteBusy busy = { s with power := w } := by
  unfold State.noteBusy
  split
  · exact ⟨_, rfl⟩
  · exact ⟨_, rfl⟩

theorem setVoq_parts (s : State) (k : Nat) (x : Voq) : ∃ w, s.setVoq k x = { s with voqs := storeSet (fun _ => {}) s.voqs k x, power := w } :=
  noteBusy_parts _ _

theorem setInter_parts (s : State) (j : Nat) (x : Inter) : ∃ w, s.setInter j x = { s with inters := storeSet (fun _ => {}) s.inters j x, power := w } :=
  noteBusy_parts _ _

theorem voq_setVoq_same (s : State) (k : Nat) (x : Voq) : (s.setVoq k x).voq k = x := by
  obtain ⟨w, h⟩ := setVoq_parts s k x
  rw [h]
  exact storeGet_storeSet_same _ _ _ _

theorem voq_setVoq_ne (s : State) {j k : Nat} (h : j ≠ k) (x : Voq) : (s.setVoq k x).voq j = s.voq j := by
  obtain ⟨w, hs⟩ := setVoq_parts s k x
  rw [hs]
  exact storeGet_storeSet_ne _ _ h _

theorem inter_setInter_same (s : State) (j : Nat) (x : Inter) : (s.setInter j x).inter j = x := by
  obtain ⟨w, h⟩ := setInter_parts s j x
  rw [h]
  exact storeGet_storeSet_same _ _ _ _

theorem inter_setInter_ne (s : State) {i j : Nat} (h : i ≠ j) (x : Inter) : (s.setInter j x).inter i = s.inter i := by
  obtain ⟨w, hs⟩ := setInter_parts s j x
  rw [hs]
  exact storeGet_storeSet_ne _ _ h _

theorem voq_setInter (s : State) (j : Nat) (x : Inter) (k : Nat) : (s.setInter j x).voq k = s.voq k := by
  obtain ⟨w, h⟩ := setInter_parts s j x
  rw [h]
  rfl

theorem inter_setVoq (s : State) (k : Nat) (x : Voq) (j : Nat) : (s.setVoq k x).inter j = s.inter j := by
  obtain ⟨w, h⟩ := setVoq_parts s k x
  rw [h]
  rfl

theorem voqDrop_of_none {k : Nat} {gone : VEntry → Bool} (h : ∀ e ∈ (s.voq k).q, gone e = false) : s.voqDrop k gone = (s, 0) := by
  have hout : (s.voq k).q.filter (fun e => e.sent == 0 && gone e) = [] :=
    List.filter_eq_nil_iff.mpr fun e he => by rw [h e he, Bool.and_false]; exact Bool.false_ne_true
  unfold State.voqDrop
  extract_lets v out
  exact if_pos (List.isEmpty_iff.mpr hout)

/-! ### Slots in which nothing moves -/

theorem countBy_zero (s : State) (c : Ctr) : s.countBy c 0 = s := by
  unfold State.countBy
  exact if_pos rfl

/-- Where no cut-through frame exceeds its class MTU, none is discarded for it. -/
theorem mtuScan_of_none (h : ∀ k, ∀ e ∈ (s.voq k).q, s.overMtu e = false) : s.mtuScan = s := by
  refine foldl_eq_of_fixed fun v _ => ?_
  rw [voqDrop_of_none (h v.1)]
  exact countBy_zero s _

theorem stage2_of_empty {j : Nat} (h : (s.inter j).cells = []) (t : Nat) : s.stage2 t j = s := by
  have hnone : s.classOrder.findSome? (fun _ => (none : Option (Cell × List Cell))) = none := List.findSome?_eq_none_iff.mpr fun _ _ => rfl
  unfold State.stage2
  simp only [h, takeFirst, hnone]

/-- Nothing waits at port p. -/
def State.portEmpty (s : State) (p : Nat) : Prop := ∀ k < 520, (s.voq (520 * p + k)).q = []

theorem hasBytes_of_nil {k : Nat} (h : (s.voq k).q = []) (mc : Bool) : s.hasBytes k mc = false := by
  unfold State.hasBytes
  rw [h]

theorem portEmpty_voq {p d c : Nat} (h : s.portEmpty p) (hd : d < 64) (hc : c < 8) : s.hasBytes (voqKey p d c) false = false := by
  have hk := h (8 * d + c) (by omega)
  rw [← Nat.add_assoc] at hk
  exact hasBytes_of_nil hk false

theorem portEmpty_mc {p c : Nat} (h : s.portEmpty p) (hc : c < 8) : s.hasBytes (mcKey p c) true = false := by
  have hk := h (512 + c) (by omega)
  rw [← Nat.add_assoc] at hk
  exact hasBytes_of_nil hk true

theorem lt_of_mem_classOrder {c : Nat} (h : c ∈ s.classOrder) : c < 8 := by
  have hall : ∀ x ∈ [7, 6, 5, 4, 3, 2, 1, 0], x < 8 := by decide
  rcases List.mem_append.mp h with h | h
  · exact hall c (List.mem_filter.mp h).1
  · exact hall c (List.mem_filter.mp h).1

theorem mem_classOrder {c : Nat} (hc : c < 8) : c ∈ s.classOrder := by
  have hall : ∀ x < 8, x ∈ [7, 6, 5, 4, 3, 2, 1, 0] := by decide
  unfold State.classOrder
  extract_lets all
  rw [List.mem_append, List.mem_filter, List.mem_filter]
  by_cases h : s.sched c = true
  · exact .inl ⟨hall c hc, h⟩
  · exact .inr ⟨hall c hc, by simp [h]⟩

/-- The members of a class in the order of their turns, after the one last served (Table 3-5). -/
def turns (last : Nat) : List Nat := (List.range 65).map fun n => (last + 1 + n) % 65

theorem mem_turns {last m : Nat} : m ∈ turns last ↔ m < 65 := by
  unfold turns
  rw [List.mem_map]
  constructor
  · rintro ⟨n, -, rfl⟩
    omega
  · intro hm
    exact ⟨(m + 65 - (last + 1) % 65) % 65, List.mem_range.mpr (by omega), by omega⟩

/-- The member that fabric input i serves next, with its class (R85, step 2 of Table 3-5). -/
def State.nextServed (s : State) (t i : Nat) : Option (Nat × Nat) :=
  s.classOrder.findSome? fun c =>
    ((turns (storeGet (fun _ => 64) s.rr (8 * i + c))).find? (s.eligible (s.lanePort i) c ((i + t) % 64))).map fun m => (c, m)

theorem not_eligible_of_portEmpty {p c m : Nat} (h : s.portEmpty p) (hc : c < 8) (hm : m < 65) (j : Nat) : s.eligible p c j m = false := by
  unfold State.eligible
  split
  · rw [portEmpty_mc h hc, Bool.false_and]
  · rw [portEmpty_voq h (by omega) hc]
    simp only [Bool.false_and]

theorem nextServed_of_portEmpty {i : Nat} (h : s.portEmpty (s.lanePort i)) (t : Nat) : s.nextServed t i = none := by
  refine List.findSome?_eq_none_iff.mpr fun c hc => ?_
  rw [Option.map_eq_none_iff, List.find?_eq_none]
  intro m hm
  rw [not_eligible_of_portEmpty h (lt_of_mem_classOrder hc) (mem_turns.mp hm)]
  exact Bool.false_ne_true

/-- Member m of class c is the one that input i served last. -/
def State.served (s : State) (i c m : Nat) : State := { s with rr := storeSet (fun _ => 64) s.rr (8 * i + c) m }

/-- What stage 1 sends where no reservation holds. -/
def State.serveNext (s : State) (t i : Nat) (err : BitVec 64) : State :=
  match s.nextServed t i with
  | some (c, m) =>
    if m = 64 then (s.served i c m).sendCell (mcKey (s.lanePort i) c) (s.lanePort i) 0 c true none ((i + t) % 64) err
    else (s.served i c m).sendCell (voqKey (s.lanePort i) m c) (s.lanePort i) m c false none ((i + t) % 64) err
  | none => s

theorem stage1_eq (s : State) (t i : Nat) (err : BitVec 64) :
    s.stage1 t i err =
      match s.rsvEntry t i with
      | some (c, o) =>
        if !s.hasBytes (voqKey (s.lanePort i) (s.lanePort o) c) false || !s.portUp (s.lanePort o) then s.serveNext t i err
        else s.sendCell (voqKey (s.lanePort i) (s.lanePort o) c) (s.lanePort i) (s.lanePort o) c false (some o) ((i + t) % 64) err
      | none => s.serveNext t i err := rfl

theorem rsvEntry_lt {t i c o : Nat} (h : s.rsvEntry t i = some (c, o)) : c < 8 ∧ o < 64 := by
  unfold State.rsvEntry at h
  extract_lets w at h
  obtain ⟨-, h⟩ := Option.ite_none_right_eq_some.mp h
  cases h
  omega

theorem lanePort_le (s : State) (i : Nat) : s.lanePort i ≤ i := by
  unfold State.lanePort
  split <;> omega

/-- An input at whose port nothing waits sends nothing. -/
theorem stage1_of_portEmpty {i : Nat} (h : s.portEmpty (s.lanePort i)) (t : Nat) (err : BitVec 64) : s.stage1 t i err = s := by
  have hserve : s.serveNext t i err = s := by
    unfold State.serveNext
    rw [nextServed_of_portEmpty h]
  rw [stage1_eq, hserve]
  split
  next c o hrsv =>
    obtain ⟨hc, ho⟩ := rsvEntry_lt hrsv
    rw [portEmpty_voq h ((lanePort_le s o).trans_lt ho) hc]
    rfl
  · rfl

/-! ### A slot as a whole -/

/-- A slot passes, with what stages 2 and 1 made of the state. -/
def State.slotPassed (s : State) : State := { s with slot := s.slot + 1, slotTb := s.tb }

/-- Stage 2 and then stage 1 of every connection in the present slot (R74). -/
def State.slotMoved (s : State) (errs : List (Fin 64 × BitVec 64)) : State :=
  (List.range 64).foldl (fun u i => u.stage1 (s.slot % 64) i (errOf errs i)) ((List.range 64).foldl (fun u j => u.stage2 (s.slot % 64) j) s)

theorem fabricSlot_eq (hmode : s.mode.afterBoot = true) (hclk : s.clk.stopped = false) (hmtu : s.mtuScan = s) (errs : List (Fin 64 × BitVec 64)) :
    s.fabricSlot errs = (if s.fabricRuns then s.slotMoved errs else s).slotPassed := by
  unfold State.fabricSlot
  rw [hmtu]
  exact if_neg (by simp [hmode, hclk])

theorem slotMoved_eq (hinter : ∀ j, (s.inter j).cells = []) (errs : List (Fin 64 × BitVec 64)) :
    s.slotMoved errs = (List.range 64).foldl (fun u i => u.stage1 (s.slot % 64) i (errOf errs i)) s := by
  have h2 : (List.range 64).foldl (fun u j => u.stage2 (s.slot % 64) j) s = s := foldl_eq_of_fixed fun j _ => stage2_of_empty (hinter j) _
  unfold State.slotMoved
  rw [h2]

/-- R74: a slot in which nothing waits and nothing is on its way. -/
theorem fabricSlot_of_empty (hmode : s.mode.afterBoot = true) (hclk : s.clk.stopped = false) (hvoq : ∀ k, (s.voq k).q = [])
    (hinter : ∀ j, (s.inter j).cells = []) (errs : List (Fin 64 × BitVec 64)) : s.fabricSlot errs = s.slotPassed := by
  have hmtu : s.mtuScan = s := mtuScan_of_none fun k e he => absurd he (hvoq k ▸ List.not_mem_nil)
  have hmoved : s.slotMoved errs = s := by
    rw [slotMoved_eq hinter]
    exact foldl_eq_of_fixed fun i _ => stage1_of_portEmpty (fun k _ => hvoq _) _ _
  rw [fabricSlot_eq hmode hclk hmtu, hmoved, ite_self]

/-! ### The one frame that waits -/

/-- The cell of input i that carries the rest of the stream of `e`, to port d in class c. -/
def loneCell (i d c : Nat) (e : VEntry) : Cell :=
  let ps := [{ fnum := e.fnum, bytes := e.frame.stream - e.sent, head := if e.sent = 0 then some e.frame else none, tail := true, bad := e.frame.bad }]
  { src := i, dst := d, tc := c, mc := false, bitmap := e.bitmap, fnum := e.fnum, cidx := e.cells, first := firstHead ps 0, rsvOut := none, pieces := ps }

theorem takeBytes_lone {e : VEntry} {now : Nat} (hall : e.arrived now = e.frame.len) (hpos : 0 < e.frame.stream - e.sent) (hfit : e.frame.stream - e.sent ≤ 120) :
    takeBytes 120 now e.bitmap 120 [e] =
      ([{ fnum := e.fnum, bytes := e.frame.stream - e.sent, head := if e.sent = 0 then some e.frame else none, tail := true, bad := e.frame.bad }], [], [e.frame]) := by
  have hready : e.ready 120 now = e.frame.stream := if_pos hall
  unfold takeBytes
  rw [hready, Nat.min_eq_right hfit]
  simp [takeBytes, Nat.not_le.mpr (Nat.lt_of_sub_pos hpos)]

/-- The VOQ (i, d, c) is empty, and intermediate j holds the cell that carries the rest of `e` behind those it held. -/
def State.loneMoved (s : State) (i d c : Nat) (e : VEntry) (j : Nat) : State :=
  (s.setVoq (voqKey i d c) { s.voq (voqKey i d c) with q := [] }).setInter j { s.inter j with cells := (s.inter j).cells ++ [loneCell i d c e] }

theorem loneMoved_slot (s : State) (i d c : Nat) (e : VEntry) (j : Nat) : (s.loneMoved i d c e j).slot = s.slot := by
  unfold State.loneMoved
  obtain ⟨w, h1⟩ := setVoq_parts s (voqKey i d c) { s.voq (voqKey i d c) with q := [] }
  rw [h1]
  obtain ⟨w', h2⟩ := setInter_parts { s with voqs := storeSet (fun _ => {}) s.voqs (voqKey i d c) { s.voq (voqKey i d c) with q := [] }, power := w } j
    { s.inter j with cells := (s.inter j).cells ++ [loneCell i d c e] }
  rw [h2]

theorem loneMoved_voq_same (s : State) (i d c : Nat) (e : VEntry) (j : Nat) : ((s.loneMoved i d c e j).voq (voqKey i d c)).q = [] := by
  unfold State.loneMoved
  rw [voq_setInter, voq_setVoq_same]

theorem loneMoved_voq_ne {i d c k : Nat} (hk : k ≠ voqKey i d c) (e : VEntry) (j : Nat) : (s.loneMoved i d c e j).voq k = s.voq k := by
  unfold State.loneMoved
  rw [voq_setInter, voq_setVoq_ne s hk]

theorem loneMoved_cells (s : State) (i d c : Nat) (e : VEntry) (j : Nat) :
    ((s.loneMoved i d c e j).inter j).cells = (s.inter j).cells ++ [loneCell i d c e] := by
  unfold State.loneMoved
  rw [inter_setInter_same]

/-- The one frame of a VOQ is sent whole, and its memory given back. -/
theorem sendCell_lone {i d c : Nat} {e : VEntry} (hq : (s.voq (voqKey i d c)).q = [e]) (hall : e.arrived s.tb = e.frame.len)
    (hpos : 0 < e.frame.stream - e.sent) (hfit : e.frame.stream - e.sent ≤ 120) (j : Nat) :
    s.sendCell (voqKey i d c) i d c false none j 0 = (s.loneMoved i d c e j).freeFrame e.frame := by
  unfold State.sendCell
  simp only [hq, payload, Bool.false_eq_true, if_false, takeBytes_lone hall hpos hfit, inter_setVoq]
  rfl

/-- The one eligible member of the one class that has one is served next. -/
theorem nextServed_of_lone {t i c m : Nat} (hc : c < 8) (hm : m < 65) (helig : s.eligible (s.lanePort i) c ((i + t) % 64) m = true)
    (hother : ∀ c' < 8, ∀ m' < 65, s.eligible (s.lanePort i) c' ((i + t) % 64) m' = true → c' = c ∧ m' = m) : s.nextServed t i = some (c, m) := by
  have honly : ∀ c' ∈ s.classOrder, ∀ last x, ((turns last).find? (s.eligible (s.lanePort i) c' ((i + t) % 64))).map (fun m => (c', m)) = some x → x = (c, m) := by
    intro c' hc' last x hx
    obtain ⟨m', hfind, rfl⟩ := Option.map_eq_some_iff.mp hx
    obtain ⟨rfl, rfl⟩ := hother c' (lt_of_mem_classOrder hc') m' (mem_turns.mp (List.mem_of_find?_eq_some hfind)) (List.find?_some hfind)
    rfl
  cases h : s.nextServed t i with
  | some x =>
    obtain ⟨c', hc', hx⟩ := List.exists_of_findSome?_eq_some h
    rw [honly c' hc' _ x hx]
  | none =>
    have hnone := List.findSome?_eq_none_iff.mp h c (mem_classOrder hc)
    rw [Option.map_eq_none_iff, List.find?_eq_none] at hnone
    exact absurd helig (hnone m (mem_turns.mpr hm))

/-- One frame waits, stored whole and short enough for one cell, at input i for port d in class c, with nothing in its way. -/
structure LoneFrame (s : State) (i d c : Nat) (e : VEntry) : Prop where
  input : i < 64
  dst : d < 64
  cls : c < 8
  inter : ∀ j, s.inter j = {}
  others : ∀ k, k ≠ voqKey i d c → (s.voq k).q = []
  head : (s.voq (voqKey i d c)).q = [e]
  whole : e.frame.ct = false
  arrived : e.arrived s.tb = e.frame.len
  waits : 0 < e.frame.stream - e.sent
  fits : e.frame.stream - e.sent ≤ 120
  present : ∀ l, s.absent l = false
  up : s.portUp d = true
  room : s.egrFull = []
  unreserved : ∀ l < 64, s.rsvEntry (s.slot % 64) l = none

section
variable {i d c : Nat} {e : VEntry} (h : LoneFrame s i d c e)
include h

theorem LoneFrame.lanePort (l : Nat) : s.lanePort l = l := if_neg (by rw [h.present l]; exact Bool.false_ne_true)

theorem LoneFrame.mtuScan : s.mtuScan = s := by
  refine mtuScan_of_none fun k x hx => ?_
  by_cases hk : k = voqKey i d c
  · rw [hk, h.head] at hx
    rw [List.mem_singleton.mp hx, State.overMtu, h.whole, Bool.false_and]
  · rw [h.others k hk] at hx
    exact absurd hx List.not_mem_nil

/-- Every input but i is idle. -/
theorem LoneFrame.portEmpty {l : Nat} (hl : l ≠ i) : s.portEmpty l := by
  refine fun k hk => h.others _ ?_
  have := h.dst
  have := h.cls
  unfold voqKey
  omega

theorem LoneFrame.eligible (j : Nat) : s.eligible i c j d = true := by
  have hd := h.dst
  have hready : e.ready 120 s.tb = e.frame.stream := if_pos h.arrived
  have hbytes : s.hasBytes (voqKey i d c) false = true := by
    unfold State.hasBytes
    rw [h.head]
    exact decide_eq_true (hready ▸ Nat.lt_of_sub_pos h.waits)
  unfold State.eligible
  rw [if_neg (by omega), h.inter j, h.room, hbytes, h.up]
  rfl

theorem LoneFrame.eligible_only {j c' m : Nat} (hc : c' < 8) (hm : m < 65) (he : s.eligible i c' j m = true) : c' = c ∧ m = d := by
  have hd := h.dst
  have hcls := h.cls
  by_contra hne
  have hbytes : s.hasBytes (mcKey i c') true = false := hasBytes_of_nil (h.others _ (by unfold mcKey voqKey; omega)) true
  have hbytes' : m ≠ 64 → s.hasBytes (voqKey i m c') false = false := fun hm' => hasBytes_of_nil (h.others _ (by unfold voqKey; omega)) false
  unfold State.eligible at he
  split at he
  · simp [hbytes] at he
  · next hm' => simp [hbytes' hm'] at he

/-- Stage 1 of input i sends the frame (R85). -/
theorem LoneFrame.stage1 : s.stage1 (s.slot % 64) i 0 =
    (s.served i c d).sendCell (voqKey i d c) i d c false none ((i + s.slot % 64) % 64) 0 := by
  have hd := h.dst
  have hserved : s.nextServed (s.slot % 64) i = some (c, d) := by
    refine nextServed_of_lone h.cls (by omega) ?_ ?_ <;> rw [h.lanePort]
    · exact h.eligible _
    · exact fun c' hc m hm => h.eligible_only hc hm
  rw [stage1_eq, h.unreserved i h.input]
  unfold State.serveNext
  rw [hserved, h.lanePort]
  exact if_neg (by omega)

/-- Once the frame is sent nothing waits, and the intermediate that the slot joins to its input holds its cell. -/
theorem LoneFrame.sent {u : State} (hu : Spends ((s.served i c d).loneMoved i d c e ((i + s.slot % 64) % 64)) u) :
    u.slot = s.slot ∧ (∀ k, (u.voq k).q = []) ∧ (u.inter ((i + s.slot % 64) % 64)).cells = [loneCell i d c e] := by
  obtain ⟨_, _, _, _, _, _, _, rfl⟩ := hu.parts
  refine ⟨loneMoved_slot .., fun k => ?_, (loneMoved_cells ..).trans ?_⟩
  · by_cases hk : k = voqKey i d c
    · rw [hk]
      exact loneMoved_voq_same ..
    · exact (congrArg Voq.q (loneMoved_voq_ne hk e _)).trans (h.others k hk)
  · exact congrArg (fun x : Inter => x.cells ++ [loneCell i d c e]) (h.inter _)

/-- R85: the frame leaves its queue for the intermediate that the slot joins to its input. -/
theorem LoneFrame.fabricSlot (hmode : s.mode.afterBoot = true) (hruns : s.fabricRuns = true) :
    ((s.fabricSlot []).voq (voqKey i d c)).q = [] ∧ (s.fabricSlot []).slot = s.slot + 1 ∧
      ((s.fabricSlot []).inter ((i + s.slot % 64) % 64)).cells = [loneCell i d c e] := by
  have hclk : s.clk.stopped = false := by
    simpa using (Bool.and_eq_true_iff.mp hruns).2
  obtain ⟨hslot, hvoq, hcell⟩ := h.sent (.freeFrame (.refl _) (f := e.frame))
  rw [← sendCell_lone (s := s.served i c d) h.head h.arrived h.waits h.fits, ← h.stage1] at hslot hvoq hcell
  have hmoved : s.slotMoved [] = s.stage1 (s.slot % 64) i 0 := by
    rw [slotMoved_eq fun j => by rw [h.inter], foldl_range_eq_step h.input]
    · rfl
    · exact fun j hj => stage1_of_portEmpty (by rw [h.lanePort]; exact h.portEmpty hj.ne) _ _
    · exact fun j _ _ => stage1_of_portEmpty (fun k _ => hvoq _) _ _
  rw [fabricSlot_eq hmode hclk h.mtuScan, if_pos hruns, hmoved]
  exact ⟨hvoq _, congrArg (· + 1) hslot, hcell⟩

end

/-! ### The broadcast -/

/-- What holds at the start and is kept by each step, one further index each, holds when all are through. -/
theorem foldl_range_induct {β : Type} {P : Nat → β → Prop} {f : β → Nat → β} {b : β} {n : Nat} (h0 : P 0 b)
    (hstep : ∀ i < n, ∀ x, P i x → P (i + 1) (f x i)) : P n ((List.range n).foldl f b) := by
  induction n with
  | zero => exact h0
  | succ n ih =>
    rw [List.range_succ, List.foldl_append]
    exact hstep n (Nat.lt_succ_self n) _ (ih fun i hi => hstep i (hi.trans (Nat.lt_succ_self n)))

/-- The first n intermediates have computed their full bits; nothing else has changed that a broadcast reads. -/
structure Broadcasts (s : State) (n : Nat) (t : State) : Prop where
  parts : ∃ i w, t = { s with inters := i, power := w }
  inter : ∀ j, t.inter j = if j < n then s.interFull (s.inter j) else s.inter j

theorem Broadcasts.step {n : Nat} (h : Broadcasts s n t) : Broadcasts s (n + 1) (t.setInter n (t.interFull (t.inter n))) := by
  have hn : t.inter n = s.inter n := (h.inter n).trans (if_neg (Nat.lt_irrefl n))
  have hfull : t.interFull (s.inter n) = s.interFull (s.inter n) := by
    obtain ⟨_, _, rfl⟩ := h.parts
    rfl
  rw [hn, hfull]
  refine ⟨?_, fun j => ?_⟩
  · obtain ⟨w, ht⟩ := setInter_parts t n (s.interFull (s.inter n))
    rw [ht]
    obtain ⟨_, _, rfl⟩ := h.parts
    exact ⟨_, _, rfl⟩
  · by_cases hj : j = n
    · rw [hj, inter_setInter_same, if_pos (Nat.lt_succ_self n)]
    · rw [inter_setInter_ne t hj, h.inter j]
      exact if_congr (by omega) rfl rfl

/-- R88, R89: every intermediate and every egress queue has its full bits. -/
theorem broadcast_full (s : State) : (∀ j < 64, s.broadcast.inter j = s.interFull (s.inter j)) ∧
    (∀ k < 512, k ∈ s.broadcast.egrFull ↔ max 1 (s.rd (R.PORT_EGR_QMAX (k / 8))) ≤ (s.egrQ k).units) ∧ s.broadcast.regs = s.regs := by
  have h : Broadcasts s 64 ((List.range 64).foldl (fun s j => s.setInter j (s.interFull (s.inter j))) s) :=
    foldl_range_induct (P := Broadcasts s) ⟨⟨_, _, rfl⟩, fun _ => rfl⟩ fun _ _ _ hu => hu.step
  unfold State.broadcast
  extract_lets s1
  have h1 : Broadcasts s 64 s1 := h
  clear_value s1
  refine ⟨fun j hj => ?_, ?_⟩
  · refine Eq.trans ?_ ((h1.inter j).trans (if_pos hj))
    unfold State.inter
    rfl
  obtain ⟨_, _, rfl⟩ := h1.parts
  constructor
  · intro k hk
    rw [List.mem_filter, List.mem_range, decide_eq_true_eq]
    exact and_iff_right hk
  · rfl

/-- R74, R85, R88: slots and full bits. -/
theorem slotsMoveCells : Rules.SlotsMoveCells := by
  refine fun s hmode => ⟨fun hclk hvoq hinter errs => ⟨_, rfl, fabricSlot_of_empty hmode hclk hvoq hinter errs⟩, ?_, ⟨_, rfl, ?_⟩⟩
  · intro i d c e hi hd hc hruns hinter hothers hhead hwhole harrived hwaits hfits hpresent hup hroom hrsv
    have h : LoneFrame s i d c e := ⟨hi, hd, hc, hinter, hothers, hhead, hwhole, harrived, hwaits, hfits, hpresent, hup, hroom, hrsv⟩
    obtain ⟨hvoq, hslot, hcell⟩ := h.fabricSlot hmode hruns
    exact ⟨_, rfl, hvoq, hslot, _, hcell, rfl, rfl, rfl, rfl, rfl, rfl⟩
  · rw [if_pos hmode]
    exact broadcast_full s

/-! ### The reservation banks -/

theorem rsvSwap_of_not_due (h : s.rsvDue = false) : s.rsvSwap = s := if_pos (by rw [h]; rfl)

theorem rsvDue_of_request {n : Nat} (hpend : s.bit R.FAB_CTRL_RSV_PENDING = true) (hreq : s.rsvReq = some n) (hn : n < s.orbitsBegun)
    (hslot : s.slot % 64 = 0) : s.rsvDue = true := by
  unfold State.rsvDue
  rw [hpend, hreq, hslot]
  exact decide_eq_true hn

theorem rsvDue_waits (h : s.slot % 64 ≠ 0 ∨ s.rsvReq = some s.orbitsBegun) : s.rsvDue = false := by
  unfold State.rsvDue
  rcases h with h | h
  · rw [beq_false_of_ne h, Bool.and_false, Bool.false_and]
  · rw [h]
    simp

theorem bit_setBit_apart {f g : Fld} (ha : g.addr = f.addr) (hf : f.lo + f.width ≤ 32) (h : f.lo + f.width ≤ g.lo ∨ g.lo + g.width ≤ f.lo) (b : Bool) :
    (s.setBit f b).bit g = s.bit g := by
  unfold State.bit
  rw [rd_setBit_apart ha hf h]

theorem bit_setBit_ne {f g : Fld} (h : g.addr ≠ f.addr) (b : Bool) : (s.setBit f b).bit g = s.bit g := by
  unfold State.bit
  rw [rd_setBit_ne h]

/-- The registers once the other bank is active and the swap no longer pends. -/
def State.rsvBits (s : State) : State := (s.setBit R.FAB_CTRL_RSV_ACTIVE (!s.bit R.FAB_CTRL_RSV_ACTIVE)).setBit R.FAB_CTRL_RSV_PENDING false

/-- The swap has taken effect, and the entries `bad` of the bank that is now active are ignored. -/
def State.rsvTaken (s : State) (bad : List Nat) : State := { s.rsvBits with rsvReq := none, rsvIgnored := bad }

theorem rsvSwap_of_due (h : s.rsvDue = true) {bad : List Nat} (hbad : s.rsvCheck (!s.bit R.FAB_CTRL_RSV_ACTIVE) = bad) :
    s.rsvSwap = if bad.isEmpty then s.rsvTaken bad else (s.rsvTaken bad).setBit R.FAB_STAT_RSV_CONFLICT true := by
  subst hbad
  exact if_neg (by rw [h]; exact Bool.false_ne_true)

theorem rsvTaken_bit (s : State) (bad : List Nat) (f : Fld) : (s.rsvTaken bad).bit f = s.rsvBits.bit f := rfl
theorem rsvTaken_reg (s : State) (bad : List Nat) (a : Nat) : (s.rsvTaken bad).reg a = s.rsvBits.reg a := rfl

theorem rsvTaken_active (s : State) (bad : List Nat) : (s.rsvTaken bad).bit R.FAB_CTRL_RSV_ACTIVE = !s.bit R.FAB_CTRL_RSV_ACTIVE := by
  rw [rsvTaken_bit, State.rsvBits, bit_setBit_apart (f := R.FAB_CTRL_RSV_PENDING) (g := R.FAB_CTRL_RSV_ACTIVE) rfl (by decide) (by decide), State.bit_setBit_same s R.FAB_CTRL_RSV_ACTIVE rfl (by decide)]

theorem rsvTaken_pending (s : State) (bad : List Nat) : (s.rsvTaken bad).bit R.FAB_CTRL_RSV_PENDING = false := by
  rw [rsvTaken_bit, State.rsvBits, State.bit_setBit_same _ R.FAB_CTRL_RSV_PENDING rfl (by decide)]

theorem rsvTaken_reg_ne (s : State) (bad : List Nat) {a : Nat} (ha : a ≠ A.FAB_CTRL) : (s.rsvTaken bad).reg a = s.reg a := by
  rw [rsvTaken_reg, State.rsvBits, State.reg_setBit_ne _ (f := R.FAB_CTRL_RSV_PENDING) ha, State.reg_setBit_ne s (f := R.FAB_CTRL_RSV_ACTIVE) ha]

/-- R99: the reservation banks swap. -/
theorem reservationSwap : Rules.ReservationSwap := by
  refine fun s => ⟨⟨_, rfl, ?_⟩, fun n hpend hreq hn hslot => ⟨_, rfl, ?_⟩, fun h => ⟨_, rfl, rsvSwap_of_not_due (rsvDue_waits h)⟩⟩
  · have hbit : s.rsvRequest.bit = (s.setBit R.FAB_CTRL_RSV_PENDING true).bit := rfl
    refine ⟨?_, rfl, ?_, rfl, fun a ha => ?_⟩
    · rw [hbit, State.bit_setBit_same s R.FAB_CTRL_RSV_PENDING rfl (by decide)]
    · rw [hbit, bit_setBit_apart (f := R.FAB_CTRL_RSV_PENDING) (g := R.FAB_CTRL_RSV_ACTIVE) rfl (by decide) (by decide)]
    · exact State.reg_setBit_ne s (f := R.FAB_CTRL_RSV_PENDING) (mt List.mem_singleton.mpr ha) true
  · generalize hbad : s.rsvCheck (!s.bit R.FAB_CTRL_RSV_ACTIVE) = bad
    have hframe : ∀ a, a ∉ [A.FAB_CTRL, A.FAB_STAT] → (s.rsvTaken bad).reg a = s.reg a := fun a ha =>
      rsvTaken_reg_ne s bad fun he => ha (he ▸ List.mem_cons_self ..)
    rw [rsvSwap_of_due (rsvDue_of_request hpend hreq hn hslot) hbad]
    split
    next hempty => exact ⟨rsvTaken_active s bad, rsvTaken_pending s bad, rfl, rfl, fun h => absurd (List.isEmpty_iff.mp hempty) h, hframe⟩
    · refine ⟨?_, ?_, rfl, rfl, fun _ => ?_, fun a ha => ?_⟩
      · rw [bit_setBit_ne (by decide), rsvTaken_active]
      · rw [bit_setBit_ne (by decide), rsvTaken_pending]
      · rw [State.bit_setBit_same _ R.FAB_STAT_RSV_CONFLICT rfl (by decide)]
      · rw [State.reg_setBit_ne _ (f := R.FAB_STAT_RSV_CONFLICT) fun he : a = A.FAB_STAT => ha (he ▸ List.mem_cons_of_mem _ (List.mem_singleton_self _)), hframe a ha]

/-! ### The statement -/

/-- Settles O39: a slot in which nothing waits moves nothing, the one frame that waits is sent by the one input that has it (`LoneFrame`), a broadcast
reaches the intermediates one after another (`Broadcasts`), and the bank swap has its one instant (`rsvDue`). -/
theorem fabricSlots : Obligations.FabricSlots := ⟨slotsMoveCells, reservationSwap⟩

end Sys2Proof.Machine
end

section
/-! ## Cells that reach a port (R78, R91) -/

namespace Sys2Proof.Machine

-- The many short proofs are elaborated one after another: at once, each takes a thread with a stack of its own.
set_option Elab.async false

variable {s₀ s t : State}

/-! ### The frame of a piece that is taken -/

/-- The cells on their way to the outputs are as they were, and so is where a flushed frame's context stops. -/
structure Reassembles (s₀ s : State) : Prop where
  wires : s.wires = s₀.wires
  stop : ∀ k, (s.reasm k).stop = (s₀.reasm k).stop

theorem Reassembles.refl (s : State) : Reassembles s s := ⟨rfl, fun _ => rfl⟩

/-- Any part outside the frame is set. -/
theorem Reassembles.parts {regs : Store Word} {prv : Prv} {pcie : Pcie} {power : Power} {egrQs : Store EgrQ} {nextId : Nat} {egresses : Store Egress}
    {out : List Out} (h : Reassembles s₀ s) :
    Reassembles s₀
      { s with regs := regs, prv := prv, pcie := pcie, power := power, egrQs := egrQs, nextId := nextId, egresses := egresses, out := out } :=
  ⟨h.wires, h.stop⟩

theorem Reassembles.spends (h : Reassembles s₀ s) (k : Spends s t) : Reassembles s₀ t where
  wires := by
    obtain ⟨_, _, _, _, _, _, _, rfl⟩ := k.parts
    exact h.wires
  stop j := by
    obtain ⟨x, hx⟩ := k.reasm j
    rw [hx]
    exact h.stop j

theorem Reassembles.bus (h : Reassembles s₀ s) (k : OnlyBus s t) : Reassembles s₀ t := by
  obtain ⟨r, p, o, rfl⟩ := k
  exact h.parts

theorem Reassembles.ite {c : Prop} {i : Decidable c} {u : State} (ht : Reassembles s₀ t) (hu : Reassembles s₀ u) : Reassembles s₀ (if c then t else u) := by
  split
  · exact ht
  · exact hu

theorem Reassembles.ite_fst {α : Type} {c : Prop} {i : Decidable c} {p q : State × α} (hp : Reassembles s₀ p.1) (hq : Reassembles s₀ q.1) :
    Reassembles s₀ (if c then p else q).1 := by
  split
  · exact hp
  · exact hq

theorem Reassembles.fst {α : Type} {a : α} (h : Reassembles s₀ s) : Reassembles s₀ (s, a).1 := h

theorem Reassembles.of_fst {α : Type} {p : State × α} {a : α} (h : Reassembles s₀ p.1) (e : p = (s, a)) : Reassembles s₀ s := by
  rw [e] at h
  exact h

theorem Reassembles.foldl_fst {α β : Type} {f : State × β → α → State × β} {l : List α} {p : State × β} (h : Reassembles s₀ p.1)
    (hf : ∀ u x, Reassembles s₀ u.1 → Reassembles s₀ (f u x).1) : Reassembles s₀ (l.foldl f p).1 := by
  induction l generalizing p with
  | nil => exact h
  | cons x l ih => exact ih (hf p x h)

theorem Reassembles.count {c : Ctr} (h : Reassembles s₀ s) : Reassembles s₀ (s.count c) := h.bus (.count s c)
theorem Reassembles.setEgrQ {k : Nat} {x : EgrQ} (h : Reassembles s₀ s) : Reassembles s₀ (s.setEgrQ k x) := h.parts
theorem Reassembles.setEgr {p : Nat} {x : Egress} (h : Reassembles s₀ s) : Reassembles s₀ (s.setEgr p x) := h.parts
theorem Reassembles.freeUnits {k n : Nat} (h : Reassembles s₀ s) : Reassembles s₀ (s.freeUnits k n) := h.setEgrQ
theorem Reassembles.killPart {p src c id : Nat} (h : Reassembles s₀ s) : Reassembles s₀ (s.killPart p src c id) := h.spends (Spends.refl s).killPart
theorem Reassembles.setBit {f : Fld} {b : Bool} (h : Reassembles s₀ s) : Reassembles s₀ (s.setBit f b) := h.parts
theorem Reassembles.octExit {o : Nat} (h : Reassembles s₀ s) : Reassembles s₀ (s.octExit o) := .ite (.ite h.parts.setBit h.parts) h

theorem Reassembles.suspAbort {p ev : Nat} (h : Reassembles s₀ s) : Reassembles s₀ (s.suspAbort p ev) := by
  unfold State.suspAbort
  split
  · exact h
  · exact (h.setEgr.spends (Spends.refl _).emit).freeUnits.killPart.count

theorem Reassembles.txAbort {p ev : Nat} (h : Reassembles s₀ s) : Reassembles s₀ (s.txAbort p ev) := by
  unfold State.txAbort
  split
  · exact h
  · exact (h.setEgr.spends (Spends.refl _).emit).freeUnits.killPart.count

theorem Reassembles.sinkFrame {p : Nat} {f : Frame} {v : ProvTrailer} (h : Reassembles s₀ s) : Reassembles s₀ (s.sinkFrame p f v) := by
  unfold State.sinkFrame
  extract_lets i now claim s1 s2
  have h1 : Reassembles s₀ s1 := .ite h.count h
  have h2 : Reassembles s₀ s2 := h1.bus (OnlyRegs.setWords _ _ _).bus
  have h3 : Reassembles s₀ (s2.wr R.PRV_LOGPTR_NEXT (i + 1)) := h2.bus (OnlyRegs.wr s2 _ _).bus
  exact h3.count.parts

theorem Reassembles.partBegin {p c : Nat} {mc : Bool} {f : Frame} (h : Reassembles s₀ s) : Reassembles s₀ (s.partBegin p c mc f).1 :=
  .ite_fst h.count.fst h.setEgrQ.parts.fst

theorem Reassembles.partDone {p c : Nat} {x : Part} (h : Reassembles s₀ s) : Reassembles s₀ (s.partDone p c x) := by
  unfold State.partDone
  extract_lets k u s1 fin u'
  have h1 : Reassembles s₀ s1 := h.setEgrQ
  split
  · exact h
  · split
    · exact .ite h.txAbort (.ite h.suspAbort h.setEgrQ.freeUnits.count)
    · split
      · exact h1.setEgr.octExit
      · split
        · exact h.freeUnits.sinkFrame
        · exact .ite h.freeUnits.count h.setEgrQ.octExit

theorem Reassembles.takePiece {p c : Nat} {mc : Bool} {cur : Option Part} {x : Piece} (h : Reassembles s₀ s) : Reassembles s₀ (s.takePiece p c mc cur x).1 := by
  unfold State.takePiece
  split
  next hp =>
    have h1 := by
      refine Reassembles.of_fst (s₀ := s₀) ?_ hp
      split
      · exact h.partBegin.fst
      · exact h.fst
    split
    · exact h1.fst
    · exact .ite_fst h1.partDone.fst (.ite_fst h1.setEgrQ.fst h1.fst)

/-! ### A cell in its turn -/

theorem stopHere_of_none {k : Nat} (h : (s.reasm k).stop = none) (p c : Nat) : s.stopHere p k c = s := by
  unfold State.stopHere
  simp only [h]

/-- The pieces of a cell are taken one after another. -/
def State.takePieces (s : State) (p : Nat) (x : Cell) : State × Option Part :=
  x.pieces.foldl (fun acc pc => acc.1.takePiece p x.tc x.mc acc.2 pc) (s, (s.reasm (reasmKey p x.mc x.src x.tc)).cur)

theorem takeCell_eq (s : State) (p : Nat) (x : Cell) :
    s.takeCell p x =
      let k := reasmKey p x.mc x.src x.tc
      let u := (s.takePieces p x).1
      (u.setReasm k { u.reasm k with cur := (s.takePieces p x).2, expect := some (nextExpect x) }).stopHere p k x.tc := rfl

/-- R91: a cell that is taken leaves the paths behind stage 2 as they are, and its context expects the cell after it. -/
theorem takeCell_expect {p : Nat} {x : Cell} (hstop : (s.reasm (reasmKey p x.mc x.src x.tc)).stop = none) :
    (s.takeCell p x).wires = s.wires ∧ ((s.takeCell p x).reasm (reasmKey p x.mc x.src x.tc)).expect = some (nextExpect x) := by
  have htakes : Reassembles s (s.takePieces p x).1 := .foldl_fst (Reassembles.refl s).fst fun _ _ hu => hu.takePiece
  rw [takeCell_eq]
  extract_lets k u
  have hu : Reassembles s u := htakes
  have hnone : ((u.setReasm k { u.reasm k with cur := (s.takePieces p x).2, expect := some (nextExpect x) }).reasm k).stop = none := by
    rw [State.reasm_setReasm_same]
    exact (hu.stop k).trans hstop
  rw [stopHere_of_none hnone, State.reasm_setReasm_same]
  exact ⟨hu.wires, rfl⟩

/-- A cell in its turn, behind which none waits, is taken. -/
theorem cellIn_of_turn {p : Nat} {x : Cell} (hexpect : (s.reasm (reasmKey p x.mc x.src x.tc)).expect = some (x.fnum, x.cidx))
    (hwait : (s.reasm (reasmKey p x.mc x.src x.tc)).wait = []) : s.cellIn p x = s.takeCell p x := by
  unfold State.cellIn
  simp only [hexpect, if_true, hwait, List.length_nil]
  rfl

theorem cellArrive_of_bad {o : Nat} {x : Cell} {rest : List Cell} {err : BitVec 64} (hwire : s.wire o = x :: rest) (hbad : x.received err = none) :
    s.cellArrive o err = s.setWire o rest := by
  unfold State.cellArrive
  simp only [hwire, hbad]

theorem cellArrive_of_good {o : Nat} {x : Cell} {rest : List Cell} (hwire : s.wire o = x :: rest) :
    s.cellArrive o 0 = (s.setWire o rest).cellIn (s.lanePort o) x := by
  have hgood : x.received 0 = some x := if_pos rfl
  unfold State.cellArrive
  simp only [hwire, hgood]
  rfl

/-! ### A gap that nothing can close -/

/-- How many frames the gap of a context touches of which no further descriptor waits (R91): from the one expected to the last that waits. -/
def Reasm.touched (r : Reasm) : (Nat × Nat) × Nat :=
  let from' := r.expect.getD r.gapEnd
  let last := (r.wait.map fun y => (y.fnum, y.cidx)).foldl (fun a b => if cellLater b a then b else a) from'
  (last, (last.1 + 65536 - from'.1) % 65536 + 1)

theorem gapExpire_of_none {p : Nat} {mc : Bool} {src c : Nat} (hgap : (s.reasm (reasmKey p mc src c)).gap = true)
    (hcur : (s.reasm (reasmKey p mc src c)).cur = none) (hhead : earliestHead (s.reasm (reasmKey p mc src c)).wait = none)
    (hfull : s.egrFull.contains (8 * p + c) = false) (hpaused : (s.egr p).paused.testBit c = false) :
    s.gapExpire p mc src c =
      (s.setReasm (reasmKey p mc src c)
        { expect := none, cur := none, wait := [], gap := false, gapEnd := (s.reasm (reasmKey p mc src c)).touched.1 }).countBy (.port p 0x48)
        (s.reasm (reasmKey p mc src c)).touched.2 := by
  have hdrop : s.dropPart p c none 0x4A = s := rfl
  unfold State.gapExpire
  simp only [hgap, hfull, hpaused, hhead, hcur, hdrop]
  unfold Reasm.touched
  exact if_neg Bool.false_ne_true

/-- R91: the gap is given up: its context is empty, and the frames it touched are counted. -/
theorem gapExpire_empties {p : Nat} {mc : Bool} {src c : Nat} (hgap : (s.reasm (reasmKey p mc src c)).gap = true)
    (hcur : (s.reasm (reasmKey p mc src c)).cur = none) (hhead : earliestHead (s.reasm (reasmKey p mc src c)).wait = none)
    (hfull : s.egrFull.contains (8 * p + c) = false) (hpaused : (s.egr p).paused.testBit c = false) :
    ∃ g, (s.gapExpire p mc src c).reasm (reasmKey p mc src c) = { expect := none, cur := none, wait := [], gap := false, gapEnd := g } ∧
      ∃ n, 0 < n ∧ s.gapExpire p mc src c = { s with reasms := (s.gapExpire p mc src c).reasms }.countBy (.port p 0x48) n := by
  rw [gapExpire_of_none hgap hcur hhead hfull hpaused]
  have hpos : 0 < (s.reasm (reasmKey p mc src c)).touched.2 := Nat.succ_pos _
  generalize (s.reasm (reasmKey p mc src c)).touched = g at hpos
  refine ⟨g.1, ?_⟩
  generalize ({ expect := none, cur := none, wait := [], gap := false, gapEnd := g.1 } : Reasm) = r
  have hreasms : ((s.setReasm (reasmKey p mc src c) r).countBy (.port p 0x48) g.2).reasms = (s.setReasm (reasmKey p mc src c) r).reasms := by
    obtain ⟨_, _, _, hbus⟩ := OnlyBus.countBy (s.setReasm (reasmKey p mc src c) r) (.port p 0x48) g.2
    rw [hbus]
  unfold State.reasm
  rw [hreasms]
  exact ⟨State.reasm_setReasm_same s _ r, g.2, hpos, rfl⟩

/-! ### The statement -/

/-- Settles O40: what takes a cell in its turn leaves the wires and the stops of the contexts as they are (`Reassembles`); a bad cell only leaves its wire; a
gap without a descriptor behind it is given up whole. -/
theorem cellsAreReassembled : Obligations.CellsAreReassembled := by
  refine fun o x rest s hwire => ⟨fun err hbad => ⟨_, rfl, ?_⟩, fun hexpect hwait hstop => ⟨_, rfl, ?_⟩, fun p mc src c hgap hcur hhead hfull hpaused => ⟨_, rfl, ?_⟩⟩
  · rw [cellArrive_of_bad hwire hbad]
    exact ⟨State.wire_setWire_same s _ _, fun k hk => State.wire_setWire_ne s hk _, rfl⟩
  · rw [cellArrive_of_good hwire, cellIn_of_turn (s := s.setWire o rest) hexpect hwait]
    obtain ⟨hwires, hnext⟩ := takeCell_expect (s := s.setWire o rest) (p := s.lanePort o) (x := x) hstop
    refine ⟨?_, hnext⟩
    unfold State.wire
    rw [hwires]
    exact State.wire_setWire_same s _ _
  · obtain ⟨g, hreasm, hcount⟩ := gapExpire_empties hgap hcur hhead hfull hpaused
    exact ⟨congrArg Reasm.expect hreasm, congrArg Reasm.cur hreasm, congrArg Reasm.wait hreasm, congrArg Reasm.gap hreasm, hcount⟩

end Sys2Proof.Machine
end

section
/-! ## The age scan (R108) -/

namespace Sys2Proof.Machine

variable {s₀ s t : State} {m : Nat}

/-! ### The frame -/

/-- What the age scan reads is as it was, and of no frame that waits has a byte been sent. -/
structure Scans (s₀ s : State) : Prop where
  links : s.links = s₀.links
  domains : s.domains = s₀.domains
  orbit : s.orbit = s₀.orbit
  regs : ∀ a, Uncounted a → s.reg a = s₀.reg a
  unsent : ∀ k, ∀ e ∈ (s.voq k).q, e.sent = 0

/-- What the age scan leaves in egress queue k (R108). -/
def State.agedOut (s : State) (k : Nat) : List EFrame :=
  if s.portUp (k / 8) || s.ageLimit (k % 8) == 0 then (s.egrQ k).q else (s.egrQ k).q.filter fun e => !s.aged (k % 8) e.frame.stamp

/-- The egress queues below m have been scanned. -/
structure Scanned (m : Nat) (s₀ s : State) : Prop extends Scans s₀ s where
  queue : ∀ k, (s.egrQ k).q = if k < m then s₀.agedOut k else (s₀.egrQ k).q

theorem Scanned.spends (h : Scanned m s₀ s) (k : Spends s t) : Scanned m s₀ t where
  links := by
    obtain ⟨_, _, _, _, _, _, _, rfl⟩ := k.parts
    exact h.links
  domains := by
    obtain ⟨_, _, _, _, _, _, _, rfl⟩ := k.parts
    exact h.domains
  orbit := by
    obtain ⟨_, _, _, _, _, _, _, rfl⟩ := k.parts
    exact h.orbit
  regs a ha := (k.regs a ha).trans (h.regs a ha)
  unsent := by
    obtain ⟨_, _, _, _, _, _, _, rfl⟩ := k.parts
    exact h.unsent
  queue j := (k.queue j).trans (h.queue j)

theorem Scanned.setVoq {k : Nat} {x : Voq} (h : Scanned m s₀ s) (hx : ∀ e ∈ x.q, e.sent = 0) : Scanned m s₀ (s.setVoq k x) := by
  have hunsent : ∀ j, ∀ e ∈ ((s.setVoq k x).voq j).q, e.sent = 0 := fun j => by
    by_cases hj : j = k
    · rw [hj, voq_setVoq_same]
      exact hx
    · rw [voq_setVoq_ne s hj]
      exact h.unsent j
  obtain ⟨w, hs⟩ := setVoq_parts s k x
  rw [hs] at hunsent ⊢
  exact ⟨⟨h.links, h.domains, h.orbit, h.regs, hunsent⟩, h.queue⟩

theorem Scanned.foldl {α : Type} {f : State → α → State} {l : List α} (h : Scanned m s₀ s) (hf : ∀ u x, Scanned m s₀ u → Scanned m s₀ (f u x)) :
    Scanned m s₀ (l.foldl f s) := by
  induction l generalizing s with
  | nil => exact h
  | cons x l ih => exact ih (hf s x h)

theorem Scanned.foldl_fst {α β : Type} {f : State × β → α → State × β} {l : List α} {p : State × β} (h : Scanned m s₀ p.1)
    (hf : ∀ u x, Scanned m s₀ u.1 → Scanned m s₀ (f u x).1) : Scanned m s₀ (l.foldl f p).1 := by
  induction l generalizing p with
  | nil => exact h
  | cons x l ih => exact ih (hf p x h)

theorem Scanned.of_fst {α : Type} {p : State × α} {a : α} (h : Scanned m s₀ p.1) (e : p = (s, a)) : Scanned m s₀ s := by
  rw [e] at h
  exact h

theorem Scanned.voqDrop {k : Nat} {gone : VEntry → Bool} (h : Scanned m s₀ s) : Scanned m s₀ (s.voqDrop k gone).1 := by
  unfold State.voqDrop
  extract_lets v out base stay stay' s1
  have hstay : ∀ e ∈ stay', e.sent = 0 := fun e he => by
    obtain ⟨⟨x, i⟩, hx, rfl⟩ := List.mem_map.mp he
    exact h.unsent k x (List.mem_filter.mp (List.fst_mem_of_mem_zipIdx hx)).1
  split
  · exact h
  · exact (h.setVoq hstay).foldl fun u x hu => hu.spends (Spends.refl u).freeFrame

/-- No head of a VOQ has been sent in part, so that the frames of a VOQ leave it whole. -/
theorem Scanned.voqAge {p src c : Nat} (h : Scanned m s₀ s) : Scanned m s₀ (s.voqAge p src c).1 := by
  have hcut : s.voqCut p src c = (s, 0) := by
    unfold State.voqCut
    extract_lets v
    split
    next e l hq => exact if_pos (h.unsent (voqKey src p c) e (hq ▸ List.mem_cons_self ..))
    · rfl
  unfold State.voqAge
  rw [hcut]
  cases (s.voq (voqKey src p c)).q with
  | nil => exact h.voqDrop
  | cons e l =>
    simp only [ite_self]
    exact h.voqDrop

/-! ### What the scan reads -/

theorem Scans.link (h : Scans s₀ s) (p : Nat) : s.link p = s₀.link p := by
  unfold State.link
  rw [h.links]

theorem Scans.rd (h : Scans s₀ s) {f : Fld} (hf : Uncounted f.addr) : s.rd f = s₀.rd f := by
  unfold State.rd
  rw [h.regs _ hf]

theorem uncounted_octetOff : Uncounted R.GLB_BOOT_OCTET_OFF.addr := ⟨by decide, by decide, by decide⟩

theorem uncounted_ageLimit {c : Nat} (hc : c < 8) : Uncounted (R.FAB_AGE_LIMIT c).addr := by
  refine ⟨?_, ?_, ?_⟩ <;>
  · simp only [R.FAB_AGE_LIMIT, A.HUB_STAT]
    omega

theorem Scans.portUp (h : Scans s₀ s) (p : Nat) : s.portUp p = s₀.portUp p := by
  unfold State.portUp State.absent State.octOff
  rw [h.rd uncounted_octetOff, h.link, h.link]

theorem Scans.ageLimit (h : Scans s₀ s) {c : Nat} (hc : c < 8) : s.ageLimit c = s₀.ageLimit c := by
  unfold State.ageLimit
  rw [h.rd (uncounted_ageLimit hc)]

theorem Scans.aged (h : Scans s₀ s) {c : Nat} (hc : c < 8) (stamp : Nat) : s.aged c stamp = s₀.aged c stamp := by
  unfold State.aged State.age State.ageNow State.orbDom State.dom
  rw [h.ageLimit hc, h.orbit, h.domains]

/-! ### The scan -/

/-- A queue that the scan leaves as it is counts as scanned. -/
theorem Scanned.pass (h : Scanned m s₀ s) (hm : s₀.agedOut m = (s₀.egrQ m).q) : Scanned (m + 1) s₀ s where
  toScans := h.toScans
  queue k := by
    rw [h.queue k]
    by_cases hk : k = m
    · rw [hk, if_neg (Nat.lt_irrefl m), if_pos (Nat.lt_succ_self m), hm]
    · exact if_congr (by omega) rfl rfl

/-- A queue from which the aged frames go is scanned. -/
theorem Scanned.filter (h : Scanned m s₀ s) {x : EgrQ} (hx : x.q = s₀.agedOut m) : Scanned (m + 1) s₀ (s.setEgrQ m x) where
  toScans := ⟨h.links, h.domains, h.orbit, h.regs, h.unsent⟩
  queue k := by
    by_cases hk : k = m
    · rw [hk, State.egrQ_setEgrQ_same, if_pos (Nat.lt_succ_self m), hx]
    · rw [State.egrQ_setEgrQ_ne s hk, h.queue k]
      exact if_congr (by omega) rfl rfl

/-- R108: the scan of a port judges its eight queues one after another; those of a port that is up stay. -/
theorem Scanned.ageScanPort {p : Nat} (h : Scanned (8 * p) s₀ s) : Scanned (8 * (p + 1)) s₀ (s.ageScanPort p) := by
  have hdiv : ∀ c < 8, (8 * p + c) / 8 = p ∧ (8 * p + c) % 8 = c := fun c hc => by omega
  unfold State.ageScanPort
  split
  next hup =>
    rw [h.portUp] at hup
    have hpass : ∀ n ≤ 8, Scanned (8 * p + n) s₀ s := fun n hn => by
      induction n with
      | zero => exact h
      | succ n ih => exact (ih (by omega)).pass (if_pos (by rw [(hdiv n (by omega)).1, hup]; rfl))
    exact hpass 8 le_rfl
  next hup =>
    rw [h.portUp] at hup
    refine foldl_range_induct (P := fun n u => Scanned (8 * p + n) s₀ u) h fun c hc u hu => ?_
    obtain ⟨hp, hmod⟩ := hdiv c hc
    have hqueue : (u.egrQ (8 * p + c)).q = (s₀.egrQ (8 * p + c)).q := (hu.queue _).trans (if_neg (Nat.lt_irrefl _))
    split
    next hlimit =>
      refine hu.pass (if_pos ?_)
      rw [hmod, ← hu.ageLimit hc, hlimit]
      exact Bool.or_true _
    next hlimit =>
      have hout : s₀.agedOut (8 * p + c) = (s₀.egrQ (8 * p + c)).q.filter fun e => !s₀.aged c e.frame.stamp := by
        unfold State.agedOut
        rw [hp, hmod, if_neg]
        rw [← hu.ageLimit hc]
        simp [hup, hlimit]
      have hkeep : ((u.egrQ (8 * p + c)).q.filter fun e => !u.aged c e.frame.stamp) = s₀.agedOut (8 * p + c) := by
        rw [hout, hqueue]
        exact congrArg (List.filter · _) (funext fun e => by rw [hu.aged hc])
      extract_lets old keep q1 s1
      have h1 : Scanned (8 * p + c + 1) s₀ s1 :=
        (hu.filter (x := { u.egrQ (8 * p + c) with q := keep }) hkeep).foldl fun v e hv => hv.spends (Spends.refl v).freeUnits.killPart
      split
      next s2 n hs2 =>
        have h2 : Scanned (8 * p + c + 1) s₀ s2 := by
          refine Scanned.of_fst (.foldl_fst (p := (s1, 0)) h1 fun v src hv => ?_) hs2
          split
          next hdrop => exact hv.voqAge.of_fst hdrop
        exact h2.spends ((Spends.refl s2).countBy (by omega))

/-- R108: the age scan discards of each egress queue of a port that is down exactly the aged frames. -/
theorem ageScan_queue (hunsent : ∀ k, ∀ e ∈ (s.voq k).q, e.sent = 0) {k : Nat} (hk : k < 512) : (s.ageScan.egrQ k).q = s.agedOut k := by
  have h : Scanned (8 * 64) s s.ageScan := by
    refine foldl_range_induct (P := fun n u => Scanned (8 * n) s u) ?_ fun p _ u hu => hu.ageScanPort
    exact ⟨⟨rfl, rfl, rfl, fun _ _ => rfl, hunsent⟩, fun _ => rfl⟩
  exact (h.queue k).trans (if_pos hk)

end Sys2Proof.Machine
end

section
/-! ## Links that go down and come up (R102, R107, R381) -/

namespace Sys2Proof.Machine

-- The many short proofs are elaborated one after another: at once, each takes a thread with a stack of its own.
set_option Elab.async false

variable {s₀ s t : State} {p : Nat}

/-! ### The frame of a link that goes down -/

/-- The mode and the links are as they were, and port p sends nothing. -/
structure Silent (p : Nat) (s₀ s : State) : Prop where
  mode : s.mode = s₀.mode
  links : s.links = s₀.links
  tx : (s.egr p).tx = none
  susp : (s.egr p).susp = none

/-- Any part outside the frame is set. -/
theorem Silent.parts {regs : Store Word} {pcie : Pcie} {cals : Store (Option CalRun)} {trackers : Store Tracker} {power : Power} {voqs : Store Voq}
    {reasms : Store Reasm} {egrQs : Store EgrQ} {out : List Out} (h : Silent p s₀ s) :
    Silent p s₀
      { s with
        regs := regs, pcie := pcie, cals := cals, trackers := trackers, power := power, voqs := voqs, reasms := reasms, egrQs := egrQs, out := out } :=
  ⟨h.mode, h.links, h.tx, h.susp⟩

theorem Silent.spends (h : Silent p s₀ s) (k : Spends s t) : Silent p s₀ t where
  mode := by
    obtain ⟨_, _, _, _, _, _, _, rfl⟩ := k.parts
    exact h.mode
  links := by
    obtain ⟨_, _, _, _, _, _, _, rfl⟩ := k.parts
    exact h.links
  tx := by
    obtain ⟨x, hx⟩ := k.egr p
    rw [hx]
    exact h.tx
  susp := by
    obtain ⟨x, hx⟩ := k.egr p
    rw [hx]
    exact h.susp

theorem Silent.bus (h : Silent p s₀ s) (k : OnlyBus s t) : Silent p s₀ t := by
  obtain ⟨r, l, o, rfl⟩ := k
  exact h.parts

theorem Silent.ite {c : Prop} {i : Decidable c} {u : State} (ht : Silent p s₀ t) (hu : Silent p s₀ u) : Silent p s₀ (if c then t else u) := by
  split
  · exact ht
  · exact hu

theorem Silent.foldl {α : Type} {f : State → α → State} {l : List α} (h : Silent p s₀ s) (hf : ∀ u x, Silent p s₀ u → Silent p s₀ (f u x)) :
    Silent p s₀ (l.foldl f s) := by
  induction l generalizing s with
  | nil => exact h
  | cons x l ih => exact ih (hf s x h)

theorem Silent.foldl_fst {α β : Type} {f : State × β → α → State × β} {l : List α} {q : State × β} (h : Silent p s₀ q.1)
    (hf : ∀ u x, Silent p s₀ u.1 → Silent p s₀ (f u x).1) : Silent p s₀ (l.foldl f q).1 := by
  induction l generalizing q with
  | nil => exact h
  | cons x l ih => exact ih (hf q x h)

theorem Silent.ite_fst {α : Type} {c : Prop} {i : Decidable c} {q r : State × α} (hq : Silent p s₀ q.1) (hr : Silent p s₀ r.1) :
    Silent p s₀ (if c then q else r).1 := by
  split
  · exact hq
  · exact hr

theorem Silent.fst {α : Type} {a : α} (h : Silent p s₀ s) : Silent p s₀ (s, a).1 := h

theorem Silent.of_fst {α : Type} {q : State × α} {a : α} (h : Silent p s₀ q.1) (e : q = (s, a)) : Silent p s₀ s := by
  rw [e] at h
  exact h

theorem Silent.setDue {x : List Due} (h : Silent p s₀ s) : Silent p s₀ (s.setEgr p { s.egr p with due := x }) := by
  refine ⟨h.mode, h.links, ?_, ?_⟩ <;> rw [State.egr_setEgr_same]
  · exact h.tx
  · exact h.susp

theorem Silent.setVoq {k : Nat} {x : Voq} (h : Silent p s₀ s) : Silent p s₀ (s.setVoq k x) := by
  obtain ⟨w, hs⟩ := setVoq_parts s k x
  rw [hs]
  exact h.parts

theorem Silent.setEgrQ {k : Nat} {x : EgrQ} (h : Silent p s₀ s) : Silent p s₀ (s.setEgrQ k x) := h.parts
theorem Silent.setReasm {k : Nat} {x : Reasm} (h : Silent p s₀ s) : Silent p s₀ (s.setReasm k x) := h.parts
theorem Silent.wr {f : Fld} {v : Nat} (h : Silent p s₀ s) : Silent p s₀ (s.wr f v) := h.parts
theorem Silent.setBit {f : Fld} {b : Bool} (h : Silent p s₀ s) : Silent p s₀ (s.setBit f b) := h.wr
theorem Silent.setCal {g : Nat} {x : Option CalRun} (h : Silent p s₀ s) : Silent p s₀ (s.setCal g x) := h.parts
theorem Silent.countBy {c : Ctr} {n : Nat} (h : Silent p s₀ s) : Silent p s₀ (s.countBy c n) := h.bus (.countBy s c n)
theorem Silent.freeUnits {k n : Nat} (h : Silent p s₀ s) : Silent p s₀ (s.freeUnits k n) := h.setEgrQ
theorem Silent.killPart {q src c id : Nat} (h : Silent p s₀ s) : Silent p s₀ (s.killPart q src c id) := h.spends (Spends.refl s).killPart
theorem Silent.freeFrame {f : Frame} (h : Silent p s₀ s) : Silent p s₀ (s.freeFrame f) := h.spends (Spends.refl s).freeFrame
theorem Silent.rxBreak {q : Nat} (h : Silent p s₀ s) : Silent p s₀ (s.rxBreak q) := h.foldl fun _ _ hu => hu.setVoq
theorem Silent.trackerReset {q : Nat} (h : Silent p s₀ s) : Silent p s₀ (s.trackerReset q) := h.parts
theorem Silent.trainAsk {l : Nat} (h : Silent p s₀ s) : Silent p s₀ (s.trainAsk l) := .ite h h.parts

theorem Silent.txLose {o : Option Tx} (h : Silent p s₀ s) : Silent p s₀ (s.txLose p o) := by
  unfold State.txLose
  split
  · exact h
  · exact h.freeUnits.killPart.countBy

theorem Silent.calEnd {g : Nat} (h : Silent p s₀ s) : Silent p s₀ (s.calEnd g) := by
  have hback : ∀ c, Silent p s₀ (s.handBack g c) := fun c => .ite h.wr.wr.wr h
  unfold State.calEnd
  split
  · exact h
  · exact .ite (hback _).setCal.setBit.wr.parts.parts (hback _).setCal.setBit.wr.parts

theorem Silent.calLinkLost {c : Nat} (h : Silent p s₀ s) : Silent p s₀ (s.calLinkLost c) := by
  unfold State.calLinkLost
  split
  · exact .ite h.calEnd h
  · exact h

/-- What there is of a frame at a port that sends nothing leaves its queue. -/
theorem Silent.dropPart {c : Nat} {cur : Option Part} {ev : Nat} (h : Silent p s₀ s) : Silent p s₀ (s.dropPart p c cur ev) := by
  unfold State.dropPart
  cases cur with
  | none => exact h
  | some x =>
    simp only [h.tx, h.susp]
    exact .ite h h.setEgrQ.freeUnits

theorem Silent.stopHere {k c : Nat} (h : Silent p s₀ s) : Silent p s₀ (s.stopHere p k c) := by
  unfold State.stopHere
  extract_lets r
  split
  · exact .ite h.dropPart.setReasm h
  · exact h

theorem Silent.voqCut {src c : Nat} (h : Silent p s₀ s) : Silent p s₀ (s.voqCut p src c).1 := by
  unfold State.voqCut
  extract_lets v
  split
  · exact .ite_fst h.fst h.setVoq.freeFrame.setReasm.stopHere.fst
  · exact h.fst

theorem Silent.voqDrop {k : Nat} {gone : VEntry → Bool} (h : Silent p s₀ s) : Silent p s₀ (s.voqDrop k gone).1 :=
  .ite_fst h.fst ((h.setVoq.foldl fun _ _ hu => hu.freeFrame).fst)

theorem Silent.voqFlush {src c : Nat} (h : Silent p s₀ s) : Silent p s₀ (s.voqFlush p src c).1 := by
  unfold State.voqFlush
  split
  next hcut =>
    split
    next hdrop => exact ((h.voqCut.of_fst hcut).voqDrop.of_fst hdrop).fst

theorem Silent.egrFlush {q c : Nat} (h : Silent p s₀ s) : Silent p s₀ (s.egrFlush q c).1 :=
  (h.setEgrQ.foldl fun _ _ hu => hu.freeUnits.killPart).fst

/-! ### A link goes down -/

/-- Port p is down, and what it sent is given up. -/
def State.cutOff (s : State) (p : Nat) : State :=
  (s.setEgr p { s.egr p with tx := none, susp := none }).setLink p { s.link p with up := false }

theorem Silent.cutOff (s : State) (p : Nat) : Silent p (s.cutOff p) (s.cutOff p) := by
  have hegr : (s.cutOff p).egr p = { s.egr p with tx := none, susp := none } := State.egr_setEgr_same s p _
  exact ⟨rfl, rfl, by rw [hegr], by rw [hegr]⟩

/-- R107: what the loss of a link does beside cutting the port off leaves the mode and the links, and the port sends nothing. -/
theorem linkDown_silent (s : State) (p : Nat) (rx : Bool) : Silent p (s.cutOff p) (s.linkDown p rx) := by
  unfold State.linkDown
  extract_lets E E' s1 s2 s3
  have h1 : Silent p (s.cutOff p) s1 := .cutOff s p
  have h2 : Silent p (s.cutOff p) s2 := h1.txLose.txLose
  have h3 : Silent p (s.cutOff p) s3 := .calLinkLost (.trackerReset (.rxBreak (.ite h2.countBy h2)))
  refine .foldl h3 fun u c hu => ?_
  split
  · exact hu
  · split
    next hflush =>
      have h4 := hu.egrFlush.of_fst hflush
      split
      next hfold =>
        refine (Silent.setDue (.of_fst (.foldl_fst h4.fst fun v src hv => ?_) hfold)).countBy
        split
        next hvoq => exact hv.voqFlush.of_fst hvoq

/-- R107: a link that goes down loses its transmission, and its lanes ask for training again. -/
theorem linkDown_loses (rx : Bool) {t : State}
    (ht : (portLanes p (s.link p).mode).foldl State.trainAsk (s.linkDown p rx) = t) :
    (t.link p).up = false ∧ (t.link p).mode = (s.link p).mode ∧ (t.egr p).tx = none ∧ (t.egr p).susp = none ∧ (∀ k, k ≠ p → t.link k = s.link k) ∧
      t.mode = s.mode := by
  have h : Silent p (s.cutOff p) t := ht ▸ (linkDown_silent s p rx).foldl fun _ _ hu => hu.trainAsk
  have hlink : ∀ k, t.link k = (s.cutOff p).link k := fun k => by
    unfold State.link
    rw [h.links]
  have hcut : (s.cutOff p).link p = { s.link p with up := false } := State.link_setLink_same _ p _
  refine ⟨?_, ?_, h.tx, h.susp, fun k hk => ?_, h.mode⟩
  · rw [hlink, hcut]
  · rw [hlink, hcut]
  · rw [hlink]
    exact State.link_setLink_ne _ hk _

/-! ### The frame of a link that comes up -/

/-- The mode, the links, the pauses that port p obeys and its latency constants are as they were. -/
structure Rises (p : Nat) (s₀ s : State) : Prop where
  mode : s.mode = s₀.mode
  links : s.links = s₀.links
  paused : (s.egr p).paused = (s₀.egr p).paused
  lat : ∀ f ∈ [R.PTP_LAT_RX_PS p, R.PTP_LAT_TX_PS p], s.rd f = s₀.rd f

theorem Rises.refl (p : Nat) (s : State) : Rises p s s := ⟨rfl, rfl, rfl, fun _ _ => rfl⟩

/-- Any part outside the frame is set. -/
theorem Rises.parts {pcie : Pcie} {trackers : Store Tracker} {out : List Out} (h : Rises p s₀ s) :
    Rises p s₀ { s with pcie := pcie, trackers := trackers, out := out } := ⟨h.mode, h.links, h.paused, h.lat⟩

theorem uncounted_lat {p : Nat} {f : Fld} (hp : p < 64) (hf : f ∈ [R.PTP_LAT_RX_PS p, R.PTP_LAT_TX_PS p]) : Uncounted f.addr := by
  rcases List.mem_pair.mp hf with rfl | rfl <;> refine ⟨?_, ?_, ?_⟩ <;>
  · simp only [R.PTP_LAT_RX_PS, R.PTP_LAT_TX_PS, portOff, A.HUB_STAT]
    omega

theorem Rises.spends (hp : p < 64) (h : Rises p s₀ s) (k : Spends s t) : Rises p s₀ t where
  mode := by
    obtain ⟨_, _, _, _, _, _, _, rfl⟩ := k.parts
    exact h.mode
  links := by
    obtain ⟨_, _, _, _, _, _, _, rfl⟩ := k.parts
    exact h.links
  paused := by
    obtain ⟨x, hx⟩ := k.egr p
    rw [hx]
    exact h.paused
  lat f hf := (k.rd (uncounted_lat hp hf)).trans (h.lat f hf)

theorem Rises.ite {c : Prop} {i : Decidable c} {u : State} (ht : Rises p s₀ t) (hu : Rises p s₀ u) : Rises p s₀ (if c then t else u) := by
  split
  · exact ht
  · exact hu

/-- A field of the port whose word holds no latency constant is set. -/
theorem Rises.wr {a lo w v : Nat} (h : Rises p s₀ s) (ha : a ≠ 0x1005014 ∧ a ≠ 0x1005018 := by decide) : Rises p s₀ (s.wr ⟨a + portOff p, lo, w⟩ v) where
  mode := h.mode
  links := h.links
  paused := h.paused
  lat f hf := by
    refine (State.rd_wr_ne s ?_ v).trans (h.lat f hf)
    rcases List.mem_pair.mp hf with rfl | rfl <;>
    · simp only [R.PTP_LAT_RX_PS, R.PTP_LAT_TX_PS]
      omega

theorem Rises.setEgr {x : Egress} (h : Rises p s₀ s) (hx : x.paused = (s.egr p).paused := by rfl) : Rises p s₀ (s.setEgr p x) where
  mode := h.mode
  links := h.links
  paused := by rw [State.egr_setEgr_same, hx, h.paused]
  lat := h.lat

theorem Rises.setVerify {v n : Nat} (h : Rises p s₀ s) (k : Rises p s₀ t) : Rises p s₀ (t.setEgr p { s.egr p with verify := v, verifyTb := n }) :=
  k.setEgr (h.paused.trans k.paused.symm)

theorem Rises.mmVerify (h : Rises p s₀ s) : Rises p s₀ (s.mmVerify p) := by
  unfold State.mmVerify
  extract_lets E s1
  have h1 : Rises p s₀ s1 := .ite (h.setVerify h.wr).parts (h.setVerify h.wr)
  exact .ite h1 h1.wr

theorem Rises.clkobsAfter {u : State} (h : Rises p s₀ s) : Rises p s₀ (s.clkobsAfter u) := .ite h h.parts
theorem Rises.trackerReset (h : Rises p s₀ s) : Rises p s₀ (s.trackerReset p) := h.parts.wr

/-! ### A link comes up -/

/-- The credits of the port's shapers are brought up to date. -/
def State.accrued (s : State) (p : Nat) : State := (List.range 8).foldl (fun s c => s.setShaper (8 * p + c) (s.credits p c)) s

theorem accrued_parts (s : State) (p : Nat) : ∃ x, s.accrued p = { s with shapers := x } :=
  foldl_range_induct (P := fun _ u => ∃ x, u = { s with shapers := x }) ⟨_, rfl⟩ fun c _ u ⟨x, hu⟩ => ⟨_, by rw [hu]; rfl⟩

/-- Port p is up in the mode of `k` with its constants of Table 8-4, and obeys no pause. -/
def State.litUp (s : State) (p : Nat) (k : LinkKind) : State :=
  let s1 := (((s.setLink p { up := true, mode := LinkMode k }).trainDone p).wr (R.PTP_LAT_RX_PS p) (LinkLat k).1).wr (R.PTP_LAT_TX_PS p) (LinkLat k).2
  s1.setEgr p { s1.egr p with paused := 0 }

/-- Each lossless class of the port judges its XOFF again, and sends it again where it stands (R102). -/
def State.xoffAgain (s : State) (p : Nat) : State :=
  (List.range 8).foldl (fun s c => let t := s.xoffCheck p c; if (t.egr p).xoff.testBit c && t.lossless p c then t.pfcSend p c true else t) s

theorem linkUp_eq {k : LinkKind} (hk : LinkMode k ≠ .r100) (hoct : s.octOff (p / 8) = false) (n : Nat) :
    s.linkUp p k n = ((((s.accrued p).litUp p k).xoffAgain p).mmVerify p).clkobsAfter s := by
  have hlanes : portLanes p (LinkMode k) = [p] := if_neg hk
  have hrx : ∀ x, (x + if LinkMode k = .r100 then n else 0) = x := fun x => by rw [if_neg hk, Nat.add_zero]
  have hgo : ¬((LinkMode k = .r100 && p % 4 != 0) || s.octOff (p / 8)) = true := by simp [hk, hoct]
  unfold State.linkUp
  simp only [hgo, hlanes, hrx]
  rfl

theorem LinkMode_ne_r100 {k : LinkKind} (hk : k ≠ .r100rs) : LinkMode k ≠ .r100 := by
  cases k with
  | r100rs => exact absurd rfl hk
  | _ => exact PortMode.noConfusion

theorem litUp_link (s : State) (p : Nat) (k : LinkKind) : (s.litUp p k).link p = { up := true, mode := LinkMode k } :=
  State.link_setLink_same s p { up := true, mode := LinkMode k }

theorem litUp_link_ne (s : State) {j : Nat} (hj : j ≠ p) (k : LinkKind) : (s.litUp p k).link j = s.link j :=
  State.link_setLink_ne s hj { up := true, mode := LinkMode k }

theorem litUp_paused (s : State) (p : Nat) (k : LinkKind) : ((s.litUp p k).egr p).paused = 0 := by
  unfold State.litUp
  rw [State.egr_setEgr_same]

theorem rd_wr_lat (u : State) (p : Nat) (k : LinkKind) :
    let t := (u.wr (R.PTP_LAT_RX_PS p) (LinkLat k).1).wr (R.PTP_LAT_TX_PS p) (LinkLat k).2
    t.rd (R.PTP_LAT_RX_PS p) = (LinkLat k).1 ∧ t.rd (R.PTP_LAT_TX_PS p) = (LinkLat k).2 := by
  have hfit : (LinkLat k).1 < 2 ^ 32 ∧ (LinkLat k).2 < 2 ^ 32 := by cases k <;> decide
  have hwords : (R.PTP_LAT_RX_PS p).addr ≠ (R.PTP_LAT_TX_PS p).addr := by
    simp only [R.PTP_LAT_RX_PS, R.PTP_LAT_TX_PS]
    omega
  constructor
  · exact (State.rd_wr_ne _ hwords _).trans (rd_wr_of_lt (f := R.PTP_LAT_RX_PS p) (Nat.le_refl 32) hfit.1)
  · exact rd_wr_of_lt (f := R.PTP_LAT_TX_PS p) (Nat.le_refl 32) hfit.2

/-- Table 8-4: the constants are those of the kind of link. -/
theorem litUp_lat (s : State) (p : Nat) (k : LinkKind) :
    (s.litUp p k).rd (R.PTP_LAT_RX_PS p) = (LinkLat k).1 ∧ (s.litUp p k).rd (R.PTP_LAT_TX_PS p) = (LinkLat k).2 :=
  rd_wr_lat ((s.setLink p { up := true, mode := LinkMode k }).trainDone p) p k

theorem Spends.xoffAgain (s : State) (p : Nat) : Spends s (s.xoffAgain p) :=
  foldl_range_induct (P := fun _ u => Spends s u) (.refl s) fun c hc u hu => by
    have h1 : Spends s (u.xoffCheck p c) := hu.xoffCheck hc
    exact .ite (h1.pfcSend hc) h1

/-- R102, R107: a link that comes up takes its mode and its constants, and the port obeys no pause. -/
theorem linkUp_rises {k : LinkKind} (hp : p < 64) (hk : k ≠ .r100rs) (hoct : s.octOff (p / 8) = false) (n : Nat) :
    Rises p ((s.accrued p).litUp p k) ((s.linkUp p k n).trackerReset p) := by
  rw [linkUp_eq (LinkMode_ne_r100 hk) hoct]
  exact ((Rises.refl p _).spends hp (.xoffAgain _ p)).mmVerify.clkobsAfter.trackerReset

theorem execLinkUp_eq {p : Fin 64} (k : LinkKind) (n : Nat) (hfwd : s.mode.fwd = true) (hdoze : ((s.linkUp p k n).trackerReset p).mode ≠ .doze)
    (habsent : s.absent p = false) : execLinkUp p k n s = .next ((s.linkUp p k n).trackerReset p) := by
  have hruns : ¬(!(s.mode.fwd || s.mode == .recover) || s.absent p) = true := by simp [hfwd, habsent]
  have hwake : ((s.linkUp p k n).trackerReset p).wake 2 = (s.linkUp p k n).trackerReset p := if_pos hdoze
  unfold execLinkUp
  rw [if_neg hruns]
  simp only [hwake, ite_self]

/-! ### A lane tries its next mode -/

theorem execLaneModeTry_eq {p : Fin 64} (hstrap : s.sys.straps.getLsbD 5 = true) (hfwd : s.mode.fwd = true) (hdown : (s.link p).up = false)
    (hoct : s.octOff (p / 8) = false) :
    execLaneModeTry p s = .next (((s.setLink p { up := false, mode := (s.link p).mode.next }).trainDone p).trainAsk p) := by
  unfold execLaneModeTry
  rw [if_pos (by simp [hstrap, hfwd, hdown, hoct]), ← hdown]

theorem mem_trainWait_trainAsk (s : State) (l : Nat) (hl : s.power.trainGrant.contains l = false) : l ∈ (s.trainAsk l).power.trainWait := by
  unfold State.trainAsk
  split
  next hin =>
    rw [hl, Bool.or_false] at hin
    exact List.contains_iff_mem.mp hin
  next => exact List.mem_append_right _ (List.mem_singleton_self l)

theorem trainAsk_trainDone_parts (s : State) (l : Nat) : ∃ x, (s.trainDone l).trainAsk l = { s with power := x } := by
  unfold State.trainAsk
  split
  · exact ⟨_, rfl⟩
  · exact ⟨_, rfl⟩

theorem trainGrant_trainDone (s : State) (l : Nat) : (s.trainDone l).power.trainGrant.contains l = false := by
  simp [State.trainDone]

/-! ### The statement -/

/-- Settles O42: the frames of a link that goes down and of one that comes up, and the walk of the age scan over the egress queues. -/
theorem linksAndAgeing : Obligations.LinksAndAgeing := by
  intro p s
  refine ⟨fun rx hup => ?_, fun k n hfwd hdoze habsent hoct hk => ?_, fun hstrap hfwd hdown hoct => ?_, fun hunsent => ?_⟩
  · exact ⟨_, congrArg Host.Outcome.next (if_pos hup), linkDown_loses rx rfl⟩
  · have h := linkUp_rises (s := s) p.isLt hk hoct n
    have hlink : ∀ j, ((s.linkUp p k n).trackerReset p).link j = ((s.accrued p).litUp p k).link j := fun j => by
      unfold State.link
      rw [h.links]
    obtain ⟨x, hacc⟩ := accrued_parts s p
    have hmode : ((s.linkUp p k n).trackerReset p).mode = s.mode := h.mode.trans (by rw [hacc]; rfl)
    obtain ⟨hrx, htx⟩ := litUp_lat (s.accrued p) p k
    refine ⟨_, execLinkUp_eq k n hfwd (hmode ▸ hdoze) (habsent p), ?_, ?_, ?_, ?_, fun j hj => ?_⟩
    · exact (hlink p).trans (litUp_link _ p k)
    · exact h.paused.trans (litUp_paused _ p k)
    · exact (h.lat _ (.head _)).trans hrx
    · exact (h.lat _ (.tail _ (.head _))).trans htx
    · rw [hlink, litUp_link_ne _ hj, hacc]
      rfl
  · refine ⟨_, execLaneModeTry_eq hstrap hfwd hdown hoct, ?_⟩
    have hlink := s.link_setLink_same p { up := false, mode := (s.link p).mode.next }
    have hparts : ∃ x, s.setLink p { up := false, mode := (s.link p).mode.next } = { s with links := x } := ⟨_, rfl⟩
    generalize s.setLink p { up := false, mode := (s.link p).mode.next } = u at hlink hparts ⊢
    have hmem := mem_trainWait_trainAsk (u.trainDone p) p (trainGrant_trainDone u p)
    obtain ⟨y, hy⟩ := trainAsk_trainDone_parts u p
    rw [hy] at hmem ⊢
    obtain ⟨x, rfl⟩ := hparts
    exact ⟨hlink, hmem, rfl⟩
  · exact ⟨_, rfl, fun _ hk => ageScan_queue hunsent hk⟩

end Sys2Proof.Machine
end

section
/-! ## Flow control that is received and sent (R100, R101) -/

namespace Sys2Proof.Machine

-- The many short proofs are elaborated one after another: at once, each takes a thread with a stack of its own.
set_option Elab.async false

variable {s₀ s t : State} {p : Nat}

/-! ### Sets of classes as numbers -/

/-- The bits of a number whose clear bit c is set by an addition. -/
theorem testBit_add_two_pow {x c : Nat} (hc : x.testBit c = false) (k : Nat) : (x + 2 ^ c).testBit k = if k = c then true else x.testBit k := by
  induction c generalizing x k with
  | zero =>
    rw [Nat.testBit_zero, decide_eq_false_iff_not] at hc
    cases k with
    | zero =>
      have hodd : (x + 1) % 2 = 1 := by omega
      simp [Nat.testBit_zero, hodd]
    | succ k =>
      have hhalf : (x + 1) / 2 = x / 2 := by omega
      simp [Nat.testBit_succ, hhalf]
  | succ c ih =>
    rw [Nat.testBit_succ] at hc
    have hhalf : (x + 2 ^ (c + 1)) / 2 = x / 2 + 2 ^ c := by omega
    cases k with
    | zero =>
      have hodd : (x + 2 ^ (c + 1)) % 2 = x % 2 := by omega
      simp [Nat.testBit_zero, hodd]
    | succ k => simp [Nat.testBit_succ, hhalf, ih hc]

/-- The bits of a number whose set bit c is cleared by a subtraction. -/
theorem testBit_sub_two_pow {x c : Nat} (hc : x.testBit c = true) (k : Nat) : (x - 2 ^ c).testBit k = if k = c then false else x.testBit k := by
  have hge : 2 ^ c ≤ x := Nat.ge_two_pow_of_testBit hc
  obtain ⟨y, rfl⟩ := Nat.exists_eq_add_of_le hge
  rw [Nat.testBit_two_pow_add_eq, Bool.not_eq_true'] at hc
  rw [Nat.add_sub_cancel_left, Nat.add_comm, testBit_add_two_pow hc]
  by_cases hk : k = c
  · simp [hk, hc]
  · simp [hk]

/-! ### Outputs -/

theorem mem_out_syncVec {o : Out} (h : o ∈ s.out) (v : Nat) : o ∈ (s.syncVec v).out := by
  have hdeliver : ∀ u : State, o ∈ u.out → o ∈ (u.deliver v).out := fun u hu => by
    unfold State.deliver
    split
    · exact hu
    · split
      · exact hu
      · exact List.mem_cons_of_mem _ hu
  unfold State.syncVec
  extract_lets was P
  split
  · split
    · exact h
    · exact hdeliver _ h
  · split
    · exact h
    · exact h

/-- An increment takes no output back. -/
theorem mem_out_countBy {o : Out} (h : o ∈ s.out) (c : Ctr) (n : Nat) : o ∈ (s.countBy c n).out := by
  have hset : ∀ v, (s.setCtr c v).out = s.out := fun v => by
    unfold State.setCtr
    extract_lets s1
    split
    · rfl
    · rfl
  rcases countBy_cases s c n with hc | ⟨v, hc | hc⟩ <;> rw [hc]
  · exact h
  · rwa [hset]
  · unfold State.overflowed
    extract_lets s1
    have h1 : o ∈ s1.out := by rwa [State.setBit_out, hset]
    split
    · exact mem_out_syncVec (s := s1.setBit R.HUB_STAT_WRAP true) h1 7
    · exact h1

/-! ### A received PFC frame -/

/-- The frame is counted: its octets, and each class it names. -/
def State.pfcCounted (s : State) (p : Nat) (stop resume : BitVec 8) : State :=
  (List.range 8).foldl (fun s c => if stop.toNat.testBit c || resume.toNat.testBit c then s.count (.port p (0x28 + c)) else s)
    ((s.count (.port p 0x38)).countBy (.port p 0x39) 64)

/-- One class does what the frame says of it, where it obeys PFC. -/
def State.pfcObeyed (p : Nat) (stop resume : BitVec 8) (s : State) (c : Nat) : State :=
  let E := s.egr p
  if !s.obeys p false c then s
  else if stop.toNat.testBit c then (if E.paused.testBit c then s else s.setEgr p { E with paused := E.paused + 2 ^ c })
  else if resume.toNat.testBit c && E.paused.testBit c then s.setEgr p { E with paused := E.paused - 2 ^ c }
  else s

theorem pfcReceive_eq (hfwd : s.mode.fwd = true) (hup : s.portUp p = true) (stop resume : BitVec 8) :
    s.pfcReceive p false stop resume = (List.range 8).foldl (State.pfcObeyed p stop resume) (s.pfcCounted p stop resume) := by
  unfold State.pfcReceive
  rw [if_neg (by simp [hfwd, hup])]
  rfl

theorem uncounted_fwd (hp : p < 64) : Uncounted (R.PORT_FWD_PFC_RX p).addr := by
  refine ⟨?_, ?_, ?_⟩ <;>
  · simp only [R.PORT_FWD_PFC_RX, portOff, A.HUB_STAT]
    omega

theorem pfcCounted_bus (s : State) (p : Nat) (stop resume : BitVec 8) : OnlyBus s (s.pfcCounted p stop resume) :=
  foldl_range_induct (P := fun _ u => OnlyBus s u) ((OnlyBus.count s _).trans (.countBy _ _ _)) fun c _ u hu => by
    split
    · exact hu.trans (.count u _)
    · exact hu

theorem pfcCounted_spends (s : State) (p : Nat) (stop resume : BitVec 8) : Spends s (s.pfcCounted p stop resume) :=
  foldl_range_induct (P := fun _ u => Spends s u) (Spends.refl s).count.countBy fun c hc u hu => .ite (hu.count (by omega)) hu

/-- Whether a class is stopped after a frame, where it was stopped before as `old` says (R101). -/
def stoppedAfter (stop resume : BitVec 8) (rx : Nat) (c : Nat) (old : Bool) : Bool :=
  if rx.testBit c then stop.getLsbD c || (old && !resume.getLsbD c) else old

/-- The pauses of port p for the classes below n are those after the frame; nothing but the pauses of port p differs. -/
structure Obeyed (p : Nat) (stop resume : BitVec 8) (n : Nat) (s₀ s : State) : Prop where
  parts : ∃ e, s = { s₀ with egresses := e }
  other : ∀ k, k ≠ p → s.egr k = s₀.egr k
  paused : ∀ c, (s.egr p).paused.testBit c =
    if c < n then stoppedAfter stop resume (s₀.rd (R.PORT_FWD_PFC_RX p)) c ((s₀.egr p).paused.testBit c) else (s₀.egr p).paused.testBit c

variable {stop resume : BitVec 8} {n : Nat}

theorem Obeyed.refl (p : Nat) (stop resume : BitVec 8) (s : State) : Obeyed p stop resume 0 s s := ⟨⟨_, rfl⟩, fun _ _ => rfl, fun _ => rfl⟩

/-- Class n keeps its pause, as the frame says. -/
theorem Obeyed.keep (h : Obeyed p stop resume n s₀ s)
    (hn : stoppedAfter stop resume (s₀.rd (R.PORT_FWD_PFC_RX p)) n ((s₀.egr p).paused.testBit n) = (s₀.egr p).paused.testBit n) :
    Obeyed p stop resume (n + 1) s₀ s := by
  refine ⟨h.parts, h.other, fun c => ?_⟩
  rw [h.paused c]
  by_cases hc : c = n
  · rw [hc, if_neg (Nat.lt_irrefl n), if_pos (Nat.lt_succ_self n), hn]
  · simp only [Nat.lt_succ_iff_lt_or_eq, hc, or_false]

/-- The pause of class n becomes what the frame says, and of no other class. -/
theorem Obeyed.set {b : Bool} {x : Nat} (h : Obeyed p stop resume n s₀ s) (hx : ∀ k, x.testBit k = if k = n then b else (s.egr p).paused.testBit k)
    (hn : stoppedAfter stop resume (s₀.rd (R.PORT_FWD_PFC_RX p)) n ((s₀.egr p).paused.testBit n) = b) :
    Obeyed p stop resume (n + 1) s₀ (s.setEgr p { s.egr p with paused := x }) := by
  refine ⟨?_, fun k hk => ?_, fun c => ?_⟩
  · obtain ⟨e, rfl⟩ := h.parts
    exact ⟨_, rfl⟩
  · rw [State.egr_setEgr_ne s hk]
    exact h.other k hk
  · rw [State.egr_setEgr_same, hx, h.paused c]
    by_cases hc : c = n
    · rw [if_pos hc, hc, if_pos (Nat.lt_succ_self n), hn]
    · simp only [Nat.lt_succ_iff_lt_or_eq, hc, or_false, if_false]

theorem Obeyed.step (h : Obeyed p stop resume n s₀ s) : Obeyed p stop resume (n + 1) s₀ (s.pfcObeyed p stop resume n) := by
  have hrx : s.obeys p false n = (s₀.rd (R.PORT_FWD_PFC_RX p)).testBit n := by
    obtain ⟨e, rfl⟩ := h.parts
    rfl
  have hold : (s.egr p).paused.testBit n = (s₀.egr p).paused.testBit n := (h.paused n).trans (if_neg (Nat.lt_irrefl n))
  unfold State.pfcObeyed
  simp only [hrx, hold, BitVec.testBit_toNat]
  cases hobeys : (s₀.rd (R.PORT_FWD_PFC_RX p)).testBit n with
  | false => exact h.keep (by simp [stoppedAfter, hobeys])
  | true =>
    have hafter : ∀ old, stoppedAfter stop resume (s₀.rd (R.PORT_FWD_PFC_RX p)) n old = (stop.getLsbD n || (old && !resume.getLsbD n)) :=
      fun _ => if_pos hobeys
    cases hpaused : (s₀.egr p).paused.testBit n with
    | false =>
      cases hstop : stop.getLsbD n with
      | false => simpa using h.keep (by simp [hafter, hstop, hpaused])
      | true => simpa using h.set (testBit_add_two_pow (hold.trans hpaused)) (by simp [hafter, hstop])
    | true =>
      cases hstop : stop.getLsbD n with
      | true => simpa using h.keep (by simp [hafter, hstop, hpaused])
      | false =>
        cases hresume : resume.getLsbD n with
        | false => simpa using h.keep (by simp [hafter, hstop, hpaused, hresume])
        | true => simpa using h.set (testBit_sub_two_pow (hold.trans hpaused)) (by simp [hafter, hstop, hpaused, hresume])

/-- R101: a received PFC frame stops and starts the classes that obey it, and only those. -/
theorem pfcReceive_obeyed (hfwd : s.mode.fwd = true) (hup : s.portUp p = true) (stop resume : BitVec 8) :
    Obeyed p stop resume 8 (s.pfcCounted p stop resume) (s.pfcReceive p false stop resume) := by
  rw [pfcReceive_eq hfwd hup]
  exact foldl_range_induct (P := fun n u => Obeyed p stop resume n (s.pfcCounted p stop resume) u) (.refl p stop resume _) fun _ _ _ hu => hu.step

/-! ### XOFF that is repeated -/

theorem mem_out_pfcSend (hclass : s.rd (R.PORT_FWD_PFC_TX p) ≠ 0) (c : Nat) :
    .pfc p (2 ^ c) false (max 1 (s.rd (R.PORT_PFC_QUANTA p))) ∈ (s.pfcSend p c true).out := by
  have hpause : (s.rd (R.PORT_FWD_PFC_TX p) == 0) = false := beq_eq_false_iff_ne.mpr hclass
  unfold State.pfcSend State.count
  refine mem_out_countBy ?_ _ _
  rw [hpause]
  exact List.mem_cons_self

theorem OnlyBus.pfcSend (s : State) (p c : Nat) (on : Bool) : OnlyBus s (s.pfcSend p c on) := (OnlyBus.emit s _).trans (.count _ _)

/-! ### The statement -/

/-- R100, R101: the part of O38 on PFC. -/
theorem flowControl : Rules.FlowControl := by
  intro p s
  refine ⟨fun stop resume hfwd hup => ?_, fun c hpaused => ?_, fun c hxoff hup hclass => ?_⟩
  · obtain ⟨r, l, o, hbus⟩ := pfcCounted_bus s p stop resume
    have hrx : (s.pfcCounted p stop resume).rd (R.PORT_FWD_PFC_RX p) = s.rd (R.PORT_FWD_PFC_RX p) :=
      (pfcCounted_spends s p stop resume).rd (uncounted_fwd p.isLt)
    obtain ⟨⟨e, hparts⟩, hother, hafter⟩ := pfcReceive_obeyed hfwd hup stop resume
    have hegr : ∀ k, (s.pfcCounted p stop resume).egr k = s.egr k := fun k => by rw [hbus]; rfl
    refine ⟨_, rfl, fun c hc => ?_, fun k hk => (hother k hk).trans (hegr k), ?_, ?_⟩
    · rw [hafter c, if_pos hc, hrx, hegr]
      rfl
    · rw [hparts, hbus]
    · rw [hparts, hbus]
  · have hbits := testBit_sub_two_pow hpaused
    refine ⟨_, congrArg Host.Outcome.next (if_pos hpaused), ?_, fun k hk => ?_, rfl⟩
    · rw [State.egr_setEgr_same, hbits, if_pos rfl]
    · rw [State.egr_setEgr_same, hbits, if_neg hk]
  · have hrepeat : ((s.egr p).xoff.testBit c && s.portUp p) = true := by rw [hxoff, hup]; rfl
    exact ⟨_, congrArg Host.Outcome.next (if_pos hrepeat), mem_out_pfcSend hclass c, .pfcSend s p c true⟩

end Sys2Proof.Machine
end

section
/-! ## The reset of a recovery function (R304) -/

namespace Sys2Proof.Machine

-- The many short proofs are elaborated one after another: at once, each takes a thread with a stack of its own.
set_option Elab.async false

variable {s₀ s t : State}

/-! ### The frame of TIME that passes -/

/-- The histories of the recovery functions, and every register below those of the time domains, are as they were. -/
structure Passes (s₀ s : State) : Prop where
  seqHists : s.seqHists = s₀.seqHists
  regs : ∀ a < 0x2800000, s.reg a = s₀.reg a

theorem Passes.refl (s : State) : Passes s s := ⟨rfl, fun _ _ => rfl⟩

/-- Any part outside the frame is set. -/
theorem Passes.parts {tb : Nat} {domains : Store Domain} {tins : Store Tin} {ivls : Store Ivl} {touts : Store Tout} (h : Passes s₀ s) :
    Passes s₀ { s with tb := tb, domains := domains, tins := tins, ivls := ivls, touts := touts } := ⟨h.seqHists, h.regs⟩

theorem Passes.setReg {a : Nat} {w : Word} (h : Passes s₀ s) (ha : 0x2800000 ≤ a) : Passes s₀ (s.setReg a w) :=
  ⟨h.seqHists, fun b hb => (s.reg_setReg_ne (Nat.ne_of_lt (Nat.lt_of_lt_of_le hb ha)) w).trans (h.regs b hb)⟩

theorem Passes.setBit {f : Fld} {b : Bool} (h : Passes s₀ s) (hf : 0x2800000 ≤ f.addr) : Passes s₀ (s.setBit f b) := h.setReg hf

theorem Passes.bus (h : Passes s₀ s) (hbus : OnlyBus s t) (hregs : ∀ a < 0x2800000, t.reg a = s.reg a) : Passes s₀ t := by
  obtain ⟨r, p, o, rfl⟩ := hbus
  exact ⟨h.seqHists, fun a ha => (hregs a ha).trans (h.regs a ha)⟩

theorem Passes.syncVec {v : Nat} (h : Passes s₀ s) : Passes s₀ (s.syncVec v) := h.bus (.syncVec s v) fun _ ha => reg_syncVec_ne (by omega) v

theorem Passes.setDom {d : Nat} {x : Domain} (h : Passes s₀ s) : Passes s₀ (s.setDom d x) := h.parts
theorem Passes.setTin {p : Nat} {x : Tin} (h : Passes s₀ s) : Passes s₀ (s.setTin p x) := h.parts
theorem Passes.setIvl {u : Nat} {x : Ivl} (h : Passes s₀ s) : Passes s₀ (s.setIvl u x) := h.parts

theorem Passes.ite {c : Prop} {i : Decidable c} {u : State} (ht : Passes s₀ t) (hu : Passes s₀ u) : Passes s₀ (if c then t else u) := by
  split
  · exact ht
  · exact hu

theorem Passes.foldl {α : Type} {f : State → α → State} {l : List α} (h : Passes s₀ s) (hf : ∀ u x, Passes s₀ u → Passes s₀ (f u x)) :
    Passes s₀ (l.foldl f s) := by
  induction l generalizing s with
  | nil => exact h
  | cons x l ih => exact ih (hf s x h)

/-! ### Interval units and pins -/

theorem Passes.ivlPut {u : Nat} {r : Int × Nat} (h : Passes s₀ s) : Passes s₀ (s.ivlPut u r) := by
  have hstat : 0x2800000 ≤ A.IVL_STAT u := by unfold A.IVL_STAT; omega
  have hres : 0x2800000 ≤ A.IVL_RES_LO u := by unfold A.IVL_RES_LO; omega
  exact (((Passes.ite (h.setBit hstat) h).setReg hres).setBit hstat).setIvl

theorem Passes.ivlPair {u : Nat} {x : IvlEdge × Bool × Bool} (h : Passes s₀ s) : Passes s₀ (s.ivlPair u x) := by
  unfold State.ivlPair
  extract_lets e d V
  split
  · split
    · exact .ite h.ivlPut.setIvl h.ivlPut.setIvl
    · exact h.setIvl
  · split
    · exact h.ivlPut.setIvl
    · exact h.setIvl

theorem Passes.ivlTakeAll (h : Passes s₀ s) : Passes s₀ s.ivlTakeAll :=
  h.foldl fun _ _ hu => .ite hu ((hu.foldl fun _ _ hv => hv.ivlPair).setIvl)

theorem Passes.count_tinLost {p : Nat} (h : Passes s₀ s) : Passes s₀ (s.count (.tinLost p)) :=
  h.bus (.count s _) fun a ha => by
    refine reg_countBy_ne ?_ ?_ ?_ ?_ (by omega) <;>
    · simp only [Ctr.tinLost, R.TIN_LOST_COUNT, R.TIN_STAT_STICKY, A.HUB_STAT]
      omega

theorem Passes.tinEnter {p t : Nat} {r : TinRec} (h : Passes s₀ s) : Passes s₀ (s.tinEnter p t r) :=
  .ite (h.setTin.setBit (by unfold R.TIN_STAT_OVF; dsimp only; omega)).count_tinLost h.setTin.syncVec

theorem Passes.tinDeliver {p : Nat} {l : List TinRec} (h : Passes s₀ s) : Passes s₀ (s.tinDeliver p l) := by
  induction l generalizing s with
  | nil => exact h.setTin
  | cons r l ih => exact .ite h.setTin (ih h.tinEnter)

/-! ### TIME -/

theorem clamp_above (d : Nat) : 0x2800000 ≤ (R.DOM_STAT_RATE_CLAMP d).addr := by
  unfold R.DOM_STAT_RATE_CLAMP
  dsimp only
  omega

theorem Passes.tickDom {d : Nat} (h : Passes s₀ s) : Passes s₀ (s.tickDom d) := by
  unfold State.tickDom
  split
  exact .ite (h.setDom.setBit (clamp_above d)) h.setDom

theorem Passes.markEdges {u : State} (h : Passes s₀ s) : Passes s₀ (u.markEdges s) := by
  unfold State.markEdges
  refine .foldl h fun _ _ hv => ?_
  extract_lets d
  split
  · exact hv.parts
  · exact hv

theorem Passes.tick (h : Passes s₀ s) : Passes s₀ s.tick := by
  unfold State.tick
  extract_lets s0 s1
  have h1 : Passes s₀ s1 := h.ivlTakeAll.parts.foldl fun _ _ hu => hu.tickDom
  exact .ite h (h1.markEdges.foldl fun _ _ hu => .ite hu hu.tinDeliver)

theorem Passes.passDoms {m : Nat} (h : Passes s₀ s) : Passes s₀ (s.passDoms m) := by
  unfold State.passDoms
  refine .ite h (h.parts.foldl fun _ d hu => ?_)
  extract_lets r s1
  exact .ite (hu.setDom.setBit (clamp_above d)) hu.setDom

theorem Passes.passN (s : State) (m : Nat) : Passes s (s.passN m) := .ite (.refl s) (Passes.refl s).ivlTakeAll.passDoms.tick

/-! ### A recovery function takes the next frame -/

/-- A saturating counter of one word that stays below its largest value counts one. -/
theorem ctr_count_sat {c : Ctr} (hsat : c.sat = true) (hhi : c.hiBits = 0) (hfit : c.lo.lo + c.lo.width ≤ 32) (hw : c.lo.width = 32)
    (hv : s.ctr c + 1 < 4294967295) : (s.count c).ctr c = s.ctr c + 1 := by
  have hlimit : ctrLimit c - 1 = 4294967295 := by simp [ctrLimit, hhi, hw]
  have hhigh : ∀ u : State, u.ctr c = u.rd c.lo := fun u => by
    have hempty : u.rd (ctrHi c) = 0 := by simp [State.rd, Fld.get, ctrHi, hhi, Nat.mod_one]
    unfold State.ctr
    rw [hempty, Nat.mul_zero, Nat.add_zero]
  have hcount : s.count c = s.wr c.lo (s.ctr c + 1) := by
    unfold State.count State.countBy
    simp only [hsat, hlimit]
    rw [if_neg Nat.one_ne_zero, if_pos trivial, if_neg (by omega), if_neg (by omega)]
    unfold State.setCtr
    rw [if_pos hhi, Nat.mod_eq_of_lt (by omega)]
  rw [hcount, hhigh, rd_wr_of_lt hfit (by rw [hw]; omega)]

theorem takeAny_reg (s : State) (f a : Nat) : (s.takeAny f).reg a = ((s.setBit (R.SREC1_TAKEANY f) true).count (.srec f 5)).reg a := by
  unfold State.takeAny
  rw [State.setSeqHist_reg]

theorem takeAny_bit (s : State) (f : Nat) (hf : f < 4096) : (s.takeAny f).bit (R.SREC1_TAKEANY f) = true := by
  have hrd : (s.takeAny f).rd (R.SREC1_TAKEANY f) = (s.setBit (R.SREC1_TAKEANY f) true).rd (R.SREC1_TAKEANY f) := by
    unfold State.rd
    rw [takeAny_reg, State.count, reg_countBy_ne] <;>
    · simp only [R.SREC1_TAKEANY, Ctr.srec, A.HUB_STAT]
      omega
  unfold State.bit
  rw [hrd]
  exact State.bit_setBit_same s (R.SREC1_TAKEANY f) rfl (Nat.le_of_ble_eq_true rfl) true

theorem ctr_srec_setBit (s : State) {f : Nat} (hf : f < 4096) (b : Bool) : (s.setBit (R.SREC1_TAKEANY f) b).ctr (.srec f 5) = s.ctr (.srec f 5) := by
  have hlo : (Ctr.srec f 5).lo.addr ≠ (R.SREC1_TAKEANY f).addr := by
    simp only [R.SREC1_TAKEANY, Ctr.srec]
    omega
  have hhi : (ctrHi (.srec f 5)).addr ≠ (R.SREC1_TAKEANY f).addr := by
    simp only [R.SREC1_TAKEANY, Ctr.srec, ctrHi]
    omega
  unfold State.ctr
  rw [rd_setBit_ne hlo, rd_setBit_ne hhi]

theorem ctr_srec_takeAny (s : State) (f : Nat) :
    (s.takeAny f).ctr (.srec f 5) = ((s.setBit (R.SREC1_TAKEANY f) true).count (.srec f 5)).ctr (.srec f 5) := by
  unfold State.ctr State.rd
  rw [takeAny_reg, takeAny_reg]

theorem takeAny_ctr {f : Nat} (hf : f < 4096) (hv : s.ctr (.srec f 5) + 1 < 4294967295) : (s.takeAny f).ctr (.srec f 5) = s.ctr (.srec f 5) + 1 := by
  rw [← ctr_srec_setBit s hf true] at hv ⊢
  rw [ctr_srec_takeAny]
  exact ctr_count_sat (c := .srec f 5) rfl rfl (Nat.le_refl 32) rfl hv

theorem OnlyBus.tb_seqHists (h : OnlyBus s t) : t.tb = s.tb ∧ t.seqHists = s.seqHists := by
  obtain ⟨r, p, o, rfl⟩ := h
  exact ⟨rfl, rfl⟩

/-- Counting the reset leaves TIME and the histories. -/
theorem takeAny_parts (s : State) (f : Nat) :
    ∃ u : State, u.tb = s.tb ∧ u.seqHists = s.seqHists ∧ s.takeAny f = u.setSeqHist f { s.seqHist f with timer := s.tb } := by
  obtain ⟨htb, hseq⟩ := ((OnlyRegs.setBit s (R.SREC1_TAKEANY f) true).bus.trans (.count _ (.srec f 5))).tb_seqHists
  exact ⟨_, htb, hseq, rfl⟩

theorem takeAny_tb (s : State) (f : Nat) : (s.takeAny f).tb = s.tb := by
  obtain ⟨u, htb, -, h⟩ := takeAny_parts s f
  rw [h]
  exact htb

theorem takeAny_seqHist_same (s : State) (f : Nat) : (s.takeAny f).seqHist f = { s.seqHist f with timer := s.tb } := by
  obtain ⟨u, -, -, h⟩ := takeAny_parts s f
  rw [h, State.seqHist_setSeqHist_same]

theorem takeAny_seqHist_ne (s : State) {f g : Nat} (hg : g ≠ f) : (s.takeAny f).seqHist g = s.seqHist g := by
  obtain ⟨u, -, hseq, h⟩ := takeAny_parts s f
  rw [h, State.seqHist_setSeqHist_ne u hg]
  unfold State.seqHist
  rw [hseq]

theorem Passes.ctr_srec {f k : Nat} (h : Passes s₀ s) (hf : f < 4096) (hk : k < 8) : s.ctr (.srec f k) = s₀.ctr (.srec f k) := by
  have hrd : ∀ g : Fld, g.addr < 0x2800000 → s.rd g = s₀.rd g := fun g hg => by
    unfold State.rd
    rw [h.regs _ hg]
  unfold State.ctr
  rw [hrd, hrd] <;>
  · simp only [Ctr.srec, ctrHi]
    split <;> omega

/-! ### The statement -/

theorem execSeqResetTimeout_waits {f : Fin 4096} (h : s.bit (R.SREC1_TAKEANY f) = true ∨ s.bit (R.SREC0_VALID f) = false ∨ s.rd (R.SREC0_RESET f) = 0) :
    execSeqResetTimeout f s = .next s := by
  unfold execSeqResetTimeout
  rw [if_neg]
  rcases h with h | h | h <;> simp [h]

/-- R304: the part of O38 on the reset of a recovery function. -/
theorem sequenceReset : Rules.SequenceReset := by
  intro f s
  refine ⟨fun hvalid hreset htake => ?_, fun h => ⟨s, execSeqResetTimeout_waits h, rfl⟩⟩
  have hruns : (s.bit (R.SREC0_VALID f) && s.rd (R.SREC0_RESET f) != 0 && !s.bit (R.SREC1_TAKEANY f)) = true := by simp [hvalid, hreset, htake]
  have hpass := Passes.passN s ((s.seqHist f).timer + s.rd (R.SREC0_RESET f) * 1000000 - s.tb)
  have htb : s.sys.timebase = true →
      (s.passN ((s.seqHist f).timer + s.rd (R.SREC0_RESET f) * 1000000 - s.tb)).tb = max s.tb ((s.seqHist f).timer + s.rd (R.SREC0_RESET f) * 1000000) := fun htime => by
    rw [(passN_paces htime _).tb]
    omega
  refine ⟨_, congrArg Host.Outcome.next (if_pos hruns), ?_⟩
  generalize s.passN ((s.seqHist f).timer + s.rd (R.SREC0_RESET f) * 1000000 - s.tb) = u at hpass htb ⊢
  have hctr := hpass.ctr_srec f.isLt (k := 5) (by decide)
  refine ⟨takeAny_bit u f f.isLt, ?_, fun htime => ?_, fun hv => ?_, fun g hg => ?_⟩
  · rw [takeAny_seqHist_same, takeAny_tb]
  · rw [takeAny_tb, htb htime]
  · rw [takeAny_ctr f.isLt (hctr ▸ hv), hctr]
  · rw [takeAny_seqHist_ne u hg]
    unfold State.seqHist
    rw [hpass.seqHists]

/-- Settles O38: the pauses of a port class by class, and the TIME that passes up to the reset of a recovery function. -/
theorem flowAndSequence : Obligations.FlowAndSequence := ⟨flowControl, sequenceReset⟩

end Sys2Proof.Machine
end

section
/-! ## Records of class C, and the transaction that a message commits (R366, R374) -/

namespace Sys2Proof.Machine

variable {s u : State} {p op : Nat} {ws res : List Word} {cs : List Change} {objs : List Nat} {M M' : Msg} {last : Bool}

/-! ### A record that stages -/

/-- The message whose first record, of operation `op`, has staged `cs` under sequence number `n`. -/
def stagedMsg (n op : Nat) (res : List Word) (cs : List Change) (objs : List Nat) : Msg :=
  { seq := n, recs := [(op, St.OK, res)], changes := cs, objs := objs }

theorem stageRec_first (hstage : (s.nextSeq p).1.stage op [] [] ws = .ok (cs, res, objs)) :
    s.stageRec p op {} ws = ((s.nextSeq p).1, stagedMsg (s.rd R.MB_STATUS_NEXTSEQ) op res cs objs) := by
  have htake : (if ({} : Msg).seq = 0 && !({} : Msg).noSeq then
      (let r := s.nextSeq p; (r.1, { ({} : Msg) with seq := r.2 })) else (s, ({} : Msg))) = ((s.nextSeq p).1, { seq := s.rd R.MB_STATUS_NEXTSEQ }) := rfl
  unfold State.stageRec
  rw [htake]
  dsimp only
  rw [hstage]
  rfl

theorem stageRec_later (hseq : M.seq ≠ 0) (hstage : s.stage op M.changes M.objs ws = .ok (cs, res, objs)) :
    s.stageRec p op M ws = (s, { M.put op St.OK res with changes := M.changes ++ cs, objs := objs }) := by
  unfold State.stageRec
  simp only [hseq, hstage, decide_false, Bool.false_and, Bool.false_eq_true, if_false]

/-- An accepted record of class C is staged, and its message ends with it or stays under way. -/
theorem recIn_stages (hop : opClass op = 4) (hform : M.formBad op last = false) (hfail : M.fail = none) (hacc : s.accept p op = St.OK)
    (hstage : s.stageRec p op M ws = (u, M')) :
    s.recIn p op last M ws = if last then u.finish p M' else u.setMb p { u.mb p with msg := some M' } := by
  have hvoid : M.void = false := by simp [Msg.void, hfail]
  unfold State.recIn
  simp only [hvoid, hform, hfail, hacc, hop, hstage, Option.isSome_none, Bool.false_eq_true, if_false, if_true, ne_eq, not_true]

/-- The first record of a message may be any of class C, but a STREAM_EDIT may not be its last. -/
theorem formBad_first (hop : opClass op = 4) (hedit : last = true → op ≠ 0x22) : ({} : Msg).formBad op last = false := by
  cases last with
  | false => simp [Msg.formBad, hop]
  | true => simp [Msg.formBad, hop, hedit rfl]

/-! ### The staged whole -/

theorem judgeWhole_of_rules
    (hrules : ∀ o ∈ [0x20, 0x28, 0x29, 0x23], (M.lastOf o).isSome = true → wholeRule (s.shadow M.changes) M.changes o = none) : s.judgeWhole M = M := by
  have hfind : ([0x20, 0x28, 0x29, 0x23].find? fun o => (M.lastOf o).isSome && (wholeRule (s.shadow M.changes) M.changes o).isSome) = none := by
    rw [List.find?_eq_none]
    intro o ho hbad
    rw [Bool.and_eq_true] at hbad
    simp [hrules o ho hbad.1] at hbad
  unfold State.judgeWhole
  simp only [hfind]

theorem finish_commits (hseq : M.seq ≠ 0) (hfail : M.fail = none) (hwhole : s.judgeWhole M = M) : s.finish p M = s.commit p M := by
  unfold State.finish
  simp [hseq, hfail, hwhole]

/-- A message of one record holds no other operation. -/
theorem lastOf_stagedMsg {n o : Nat} (h : ((stagedMsg n op res cs objs).lastOf o).isSome = true) : o = op := by
  have hop : op = o := by simpa [Msg.lastOf, stagedMsg] using h
  exact hop.symm

/-! ### The commit -/

/-- `t` differs from `s` in gate lists that wait, and in registers of ports. -/
def OnlyPending (s t : State) : Prop := (∃ r g, t = { s with regs := r, gpends := g }) ∧ ∀ a, 0x1800000 ≤ a → t.reg a = s.reg a

theorem OnlyPending.refl (s : State) : OnlyPending s s := ⟨⟨_, _, rfl⟩, fun _ _ => rfl⟩

theorem OnlyPending.trans {t : State} (h : OnlyPending s u) (k : OnlyPending u t) : OnlyPending s t := by
  obtain ⟨⟨r, g, rfl⟩, hreg⟩ := h
  obtain ⟨⟨r', g', rfl⟩, hreg'⟩ := k
  exact ⟨⟨_, _, rfl⟩, fun a ha => (hreg' a ha).trans (hreg a ha)⟩

theorem OnlyPending.commitGlist (s : State) (hp : p < 64) (l : GateList) : OnlyPending s (s.commitGlist p l) := by
  have hne : ∀ a, 0x1800000 ≤ a → a ≠ A.PORT_GLIST p := fun a ha => by
    unfold A.PORT_GLIST portOff
    omega
  have hset : ∀ (v : State) (f : Fld), f.addr = A.PORT_GLIST p → OnlyPending v (v.setBit f true) := fun v f hf =>
    ⟨⟨_, _, rfl⟩, fun a ha => v.reg_setBit_ne (hf ▸ hne a ha) true⟩
  unfold State.commitGlist
  extract_lets past s1
  have h1 : OnlyPending s s1 :=
    .trans (u := s.setGpend p (some { l with past := past })) ⟨⟨_, _, rfl⟩, fun _ _ => rfl⟩ (hset _ (R.PORT_GLIST_PEND p) rfl)
  split
  · exact h1.trans (hset s1 (R.PORT_GLIST_PAST p) rfl)
  · exact h1

theorem OnlyPending.commitGlists (gs : List (Nat × GateList)) (hgs : ∀ x ∈ gs, x.1 < 64) (s : State) :
    OnlyPending s (gs.foldl (fun s x => s.commitGlist x.1 x.2) s) := by
  induction gs generalizing s with
  | nil => exact .refl s
  | cons x gs ih =>
    rw [List.forall_mem_cons] at hgs
    exact (OnlyPending.commitGlist s hgs.1 x.2).trans (ih hgs.2 _)

/-- `t` is `s` with partner p's message `M` committed: its transaction is the last that waits, and the message waits for its close. -/
structure Commits (p : Nat) (M : Msg) (s t : State) : Prop where
  txns : t.txns = s.txns ++ [{ partner := p, seq := M.seq, changes := M.changes, tb := s.tb, loading := !(glistsOf M.changes).isEmpty }]
  journal : t.journal = s.journal
  wait : (t.mb p).wait = some 0
  regs : ∀ a, 0x1800000 ≤ a → t.reg a = s.reg a
  parts : glistsOf M.changes = [] → t = { s with mbs := t.mbs, txns := t.txns }

theorem commit_commits (hports : ∀ x ∈ glistsOf M.changes, x.1 < 64) : Commits p M s (s.commit p M) := by
  obtain ⟨v, hv, hnone, hcommit⟩ : ∃ v, OnlyPending s v ∧ (glistsOf M.changes = [] → v = s) ∧
      s.commit p M = { v.setMb p { v.mb p with msg := some M, wait := some 0 } with
        txns := v.txns ++ [{ partner := p, seq := M.seq, changes := M.changes, tb := v.tb, loading := !(glistsOf M.changes).isEmpty }] } :=
    ⟨_, .commitGlists _ hports s, fun hnone => by rw [hnone]; rfl, rfl⟩
  have hmb := State.mb_setMb_same v p { v.mb p with msg := some M, wait := some 0 }
  rw [hcommit]
  refine ⟨?_, ?_, congrArg Mb.wait hmb, hv.2, fun hempty => ?_⟩
  · obtain ⟨⟨r, g, rfl⟩, -⟩ := hv
    rfl
  · obtain ⟨⟨r, g, rfl⟩, -⟩ := hv
    rfl
  · rw [hnone hempty]
    rfl

/-! ### The sequence number -/

/-- A new transaction is the journal's newest entry, in progress, and the number moves on. -/
theorem nextSeq_parts (p : Nat) (hseq : s.rd R.MB_STATUS_NEXTSEQ ≠ 0) :
    ∃ j, (s.nextSeq p).1 = { s.wr R.MB_STATUS_NEXTSEQ (if s.rd R.MB_STATUS_NEXTSEQ = 65535 then 1 else s.rd R.MB_STATUS_NEXTSEQ + 1) with
      journal := (s.rd R.MB_STATUS_NEXTSEQ, p, 3) :: j } := by
  refine ⟨(s.journal.filter (·.1 != s.rd R.MB_STATUS_NEXTSEQ)).take 255, ?_⟩
  unfold State.nextSeq State.jot
  dsimp only
  rw [if_neg hseq]
  rfl

end Sys2Proof.Machine
end

section
/-! ## What commands of class C stage (R143, R193, R195, R295, R375), and that gate lists are of ports that exist -/

namespace Sys2Proof.Machine

variable {s : State} {α ε : Type} {P : α → Prop} {r r' : Except ε α} {w : Word} {ws : List Word} {acc : List Change} {mine : List Change} {objs : List Nat} {op : Nat}

/-! ### What a command that stages may answer -/

/-- What `r` answers, if it answers, satisfies `P`. -/
def Yields (P : α → Prop) (r : Except ε α) : Prop := ∀ x, r = .ok x → P x

theorem Yields.ok {x : α} (h : P x) : Yields P (.ok x : Except ε α) := by
  intro y hy
  cases hy
  exact h

theorem Yields.error (e : ε) : Yields P (.error e : Except ε α) := fun _ h => nomatch h
theorem Yields.fail (st : Nat) : Yields P (fail st) := .error _
theorem Yields.refuse (why : Nat) : Yields P (refuse why) := .error _

theorem Yields.ite {c : Prop} [Decidable c] (h : Yields P r) (h' : Yields P r') : Yields P (if c then r else r') := by
  split
  · exact h
  · exact h'

/-- A gate list that is staged is of a port below 64. -/
def Change.PortOk : Change → Prop
  | .glist p _ => p < 64
  | _ => True

/-- Every gate list among the changes is of a port below 64. -/
abbrev PortsOk (cs : List Change) : Prop := ∀ c ∈ cs, c.PortOk

theorem ports_of_portsOk {cs : List Change} (h : PortsOk cs) : ∀ x ∈ glistsOf cs, x.1 < 64 := by
  intro x hx
  obtain ⟨c, hc, hcx⟩ := List.mem_filterMap.mp hx
  have hok := h c hc
  cases c with
  | glist p l =>
    cases hcx
    exact hok
  | _ => nomatch hcx

/-! ### Items -/

theorem regItem_portOk (s : State) (op a : Nat) (m v : Word) : Yields Change.PortOk (s.regItem op a m v) := by
  unfold State.regItem
  split
  · exact .fail _
  · exact .ite (.fail _) <| .ite (.fail _) <| .ite (.refuse _) <| .ite (.refuse _) (.ok trivial)

theorem dsetItem_portOk (s : State) (h : Word) (ws : List Word) : Yields Change.PortOk (s.dsetItem h ws) := by
  unfold State.dsetItem
  extract_lets n d p id
  refine .ite (.fail _) ?_
  split
  · exact .fail _
  · exact .fail _
  · exact .ite (.fail _) <| .ite (.ok trivial) (.fail _)

theorem stageItems_portsOk {n : Nat} (hacc : PortsOk acc) : Yields PortsOk (State.stageItems op n s ws acc) := by
  induction n generalizing s ws acc with
  | zero => exact .fail _
  | succ n ih =>
    cases ws with
    | nil => exact .ok fun c hc => hacc c (List.mem_reverse.mp hc)
    | cons h t =>
      have hnext : ∀ {c : Change}, c.PortOk → PortsOk (c :: acc) := fun hc => List.forall_mem_cons.mpr ⟨hc, hacc⟩
      unfold State.stageItems
      extract_lets kind nw
      refine .ite ?_ (.ite (.ite (.fail _) ?_) (.fail _))
      · split
        · split
          next hc => exact ih (hnext (regItem_portOk _ _ _ _ _ _ hc))
          next => exact .error _
        · exact .fail _
      · split
        next hc => exact ih (hnext (dsetItem_portOk _ _ _ _ hc))
        next => exact .error _

/-! ### Commands -/

theorem stageGrid_portsOk (ws : List Word) : Yields (fun r => PortsOk r.1) (stageGrid ws) := by
  unfold stageGrid
  extract_lets w ns frac al
  exact .ite (.fail _) <| .ite (.fail _) (.ok (List.forall_mem_singleton.mpr trivial))

theorem stageLoad_portsOk (s : State) (mine : List Change) (ws : List Word) : Yields (fun r => PortsOk r.1) (s.stageLoad mine ws) := by
  unfold State.stageLoad
  extract_lets h e first last addr n c
  exact .ite (.fail _) <| .ite (.fail _) <| .ite (.fail _) <| .ite (.fail _) <| .ite (.fail _) <| .ite (.fail _) <|
    .ok (List.forall_mem_singleton.mpr trivial)

theorem stageSwap_portsOk (s : State) (ws : List Word) : Yields (fun r => PortsOk r.1) (s.stageSwap ws) := by
  unfold State.stageSwap
  extract_lets m es
  exact .ite (.fail _) <| .ite (.fail _) <| .ite (.fail _) <| .ite (.fail _) (.ok (List.forall_mem_singleton.mpr trivial))

theorem stageGlist_portsOk (s : State) (ws : List Word) : Yields (fun r => PortsOk r.1) (s.stageGlist ws) := by
  unfold State.stageGlist
  extract_lets h n p mul
  refine .ite (.fail _) <| .ite (.fail _) <| .ite (.fail _) ?_
  split
  · exact .fail _
  · extract_lets l
    exact .ite (.fail _) <| .ite (.fail _) <| .ite (.refuse _) <| .ite (.refuse _) <|
      .ok (List.forall_mem_singleton.mpr (Nat.mod_lt _ (by decide)))

theorem stageAdjust_portsOk (s : State) (ws : List Word) : Yields (fun r => PortsOk r.1) (s.stageAdjust ws) := by
  unfold State.stageAdjust
  extract_lets h d op lo hi m
  exact .ite (.fail _) <| .ite (.fail _) <|
    .ite (.ite (.fail _) <| .ite (.refuse _) (.ok (List.forall_mem_singleton.mpr trivial))) <|
    .ite (.fail _) (.ok (List.forall_mem_singleton.mpr trivial))

theorem stageLoop_portsOk (ws : List Word) : Yields (fun r => PortsOk r.1) (stageLoop ws) := by
  unfold stageLoop
  exact .ite (.fail _) <| .ite (.fail _) (.ok (List.forall_mem_singleton.mpr trivial))

/-- Of the records of class C but STREAM_EDIT, GATE_LIST_SET alone stages gate lists, and its port has six bits. -/
theorem stage_portsOk (hedit : op ≠ 0x22) : Yields (fun r => PortsOk r.1) (s.stage op mine objs ws) := by
  unfold State.stage
  extract_lets sh plain
  have hplain : ∀ r, Yields (fun r => PortsOk r.1) r → Yields (fun r => PortsOk r.1) (plain r) := fun r hr => by
    cases r with
    | ok x => exact .ok (hr x rfl)
    | error e => exact .error e
  split
  · exact absurd rfl hedit
  · exact .ite (.ok (List.forall_mem_singleton.mpr trivial)) (.fail _)
  · exact hplain _ (stageGrid_portsOk _)
  · exact hplain _ (stageLoad_portsOk _ _ _)
  · exact hplain _ (stageSwap_portsOk _ _)
  · exact hplain _ (stageGlist_portsOk _ _)
  · exact hplain _ (stageAdjust_portsOk _ _)
  · exact hplain _ (stageLoop_portsOk _)
  · split
    next hcs => exact .ite (.fail _) (.ok (stageItems_portsOk (List.forall_mem_nil _) _ hcs))
    next => exact .error _

end Sys2Proof.Machine
end

section
/-! ## What the grid, swap and domain commands stage (R143, R193, R195, R295, R375) -/

namespace Sys2Proof.Machine

variable {s : State} {objs : List Nat} {w : Word}

/-! ### Words whose reserved bits are clear -/

/-- Without its three lowest bits a word is the multiple of eight at or below it. -/
theorem and_aboveThree_toNat (w : Word) : (w &&& 0xFFFFFFF8#32).toNat = 8 * (w.toNat / 8) := by
  have hbits : ∀ i < 32, (0xFFFFFFF8#32).getLsbD i = decide (3 ≤ i) := by decide
  have hshift : w &&& 0xFFFFFFF8#32 = (w >>> 3) <<< 3 := by
    apply BitVec.eq_of_getLsbD_eq
    intro i hi
    rw [BitVec.getLsbD_and, hbits i hi, BitVec.getLsbD_shiftLeft, BitVec.getLsbD_ushiftRight]
    by_cases h3 : 3 ≤ i
    · simp [h3, hi, Nat.not_lt.mpr h3]
    · simp [h3, Nat.lt_of_not_le h3]
  rw [hshift, BitVec.toNat_shiftLeft, BitVec.toNat_ushiftRight, Nat.shiftRight_eq_div_pow, Nat.shiftLeft_eq]
  have := w.isLt
  omega

theorem lt_eight_of_clear (h : w &&& 0xFFFFFFF8#32 = 0#32) : w.toNat < 8 := by
  have hw := and_aboveThree_toNat w
  rw [h, BitVec.toNat_zero] at hw
  omega

/-- Reserved bits that are among clear ones are clear. -/
theorem clear_of_subset {a b : Word} (h : w &&& a = 0#32) (hab : a &&& b = b) : w &&& b = 0#32 := by
  rw [← hab, ← BitVec.and_assoc, h, BitVec.zero_and]

/-! ### ORBIT_SET -/

/-- The bits of the grid's registers that are not reserved, but for `ORB_PERIOD_NS` and `ORB_ALIGN_NS` (Table 5-15). -/
theorem descRw_grid : (descRw A.ORB_CFG).getD 0 = 7 ∧ (descRw (A.ORB_CFG + 8)).getD 0 = 0xFFFFFFFF ∧ (descRw (A.ORB_CFG + 12)).getD 0 = 0xFFFFFFFF ∧
    (descRw (A.ORB_CFG + 16)).getD 0 = 0xFFFF ∧ (descRw (A.ORB_CFG + 24)).getD 0 = 0xFFFFFFFF := by decide

theorem stageGrid_inRange {ns frac lo hi an af : Word} (hw : w &&& 0xFFFFFFF8#32 = 0#32) (hlow : 31250 ≤ ns.toNat) (hhigh : ns.toNat < 1000000000)
    (hhi : hi.toNat < 65536) (han : an.toNat < 1000000000) (hns : ns &&& ~~~((descRw (A.ORB_CFG + 4)).getD 0) = 0)
    (hanClear : an &&& ~~~((descRw (A.ORB_CFG + 20)).getD 0) = 0) :
    stageGrid [w, ns, frac, lo, hi, an, af] =
      .ok ([.grid { dom := w.toNat, period := ns.toNat * 4294967296 + frac.toNat
                    align := ((lo.toNat + 4294967296 * hi.toNat) * 1000000000 + an.toNat) * 4294967296 + af.toNat }], []) := by
  obtain ⟨h0, h8, h12, h16, h24⟩ := descRw_grid
  have hclear : ((List.range 7).all fun k =>
      [w, ns, frac, lo, hi, an, af].getD k 0 &&& ~~~((descRw (A.ORB_CFG + 4 * k)).getD 0) == 0) = true := by
    rw [List.all_eq_true]
    intro k hk
    rw [beq_iff_eq]
    have hk7 : k < 7 := List.mem_range.mp hk
    interval_cases k
    · exact h0 ▸ hw
    · exact hns
    · exact h8 ▸ clear_ones frac
    · exact h12 ▸ clear_ones lo
    · exact h16 ▸ clear_of_lt 16 hhi (by decide)
    · exact hanClear
    · exact h24 ▸ clear_ones af
  have hdom : w.toNat % 8 = w.toNat := Nat.mod_eq_of_lt (lt_eight_of_clear hw)
  have hperiod : min 1000000000 (max 31250 ns.toNat) = ns.toNat := by omega
  have hfrac : ns.toNat ≠ 1000000000 := hhigh.ne
  have hsec : hi.toNat % 65536 = hi.toNat := Nat.mod_eq_of_lt hhi
  have halign : min 999999999 an.toNat = an.toNat := by omega
  unfold stageGrid
  rw [if_neg (by simp)]
  extract_lets word period fraction align
  rw [if_neg (by rw [hclear]; decide)]
  simp only [align, fraction, period, word, List.getD_cons_zero, List.getD_cons_succ, hdom, hperiod, hsec, halign, if_neg hfrac]

/-! ### ORBIT_SWAP -/

theorem stageSwap_ready (hw : w.toNat < 512) (hready : ∀ e < 9, w.toNat.testBit e = true → (s.eng e).swap = none ∧ s.imageOk e = true) :
    s.stageSwap [w] = .ok ([.swap w.toNat], [0, 0]) := by
  have hnamed : ∀ e ∈ (List.range 9).filter w.toNat.testBit, (s.eng e).swap = none ∧ s.imageOk e = true := fun e he => by
    rw [List.mem_filter, List.mem_range] at he
    exact hready e he.1 he.2
  have hfree : ((List.range 9).filter w.toNat.testBit).any (fun e => (s.eng e).swap.isSome) = false :=
    List.any_eq_false.mpr fun e he => by simp [(hnamed e he).1]
  have hwhole : ((List.range 9).filter w.toNat.testBit).any (fun e => !s.imageOk e) = false :=
    List.any_eq_false.mpr fun e he => by simp [(hnamed e he).2]
  unfold State.stageSwap
  simp [hfree, hwhole, Nat.not_le.mpr hw]

/-! ### Domains -/

/-- DOMAIN_ADJUST of a rate, the loop being open. -/
theorem stageAdjust_rate {lo hi : Word} (hw : w &&& 0xFFFFFFF8#32 = 0x20#32) (hhi : hi.toNat < 65536) (hopen : (s.dom (w.toNat % 8)).hostLoop = true) :
    s.stageAdjust [w, lo, hi, 0, 0] = .ok ([.adjust (w.toNat % 8) 2 (rateOfBits (hi.toNat * 4294967296 + lo.toNat))], []) := by
  have hclear : w &&& 0xFFFFFFC8#32 = 0#32 := by
    rw [show 0xFFFFFFC8#32 = 0xFFFFFFF8#32 &&& 0xFFFFFFC8#32 from rfl, ← BitVec.and_assoc, hw]
    rfl
  have hop : w.toNat / 16 % 4 = 2 := by
    have h := and_aboveThree_toNat w
    rw [hw, show (0x20#32).toNat = 32 from rfl] at h
    omega
  unfold State.stageAdjust
  simp [hclear, hop, hopen, Nat.not_le.mpr hhi]

/-- DOMAIN_ADJUST of an offset with its sign bit set. -/
theorem stageAdjust_back {lo ns : Word} (hw : w &&& 0xFFFFFFF8#32 = 0#32) (hns : ns.toNat < 1000000000) :
    s.stageAdjust [w, lo, 0x40000000, ns, 0] = .ok ([.adjust w.toNat 0 (-(((lo.toNat * 1000000000 + ns.toNat) * 65536 : Nat) : Int))], []) := by
  have hlt := lt_eight_of_clear hw
  have hclear : w &&& 0xFFFFFFC8#32 = 0#32 := clear_of_subset hw rfl
  have hdom : w.toNat % 8 = w.toNat := Nat.mod_eq_of_lt hlt
  have hop : w.toNat / 16 % 4 = 0 := by omega
  have htime : wordsNs lo 0x40000000#32 ns = lo.toNat * 1000000000 + ns.toNat := rfl
  unfold State.stageAdjust
  simp [hclear, hop, hdom, htime, Nat.not_le.mpr hns]

theorem stageLoop_clear (hw : w &&& 0xFFFFFEF8#32 = 0#32) : stageLoop [w] = .ok ([.loop (w.toNat % 8) (w.getLsbD 8)], []) := by
  unfold stageLoop
  simp [hw]

/-! ### The statement -/

/-- R375, R143, R193, R195, R295: the part of O34 on what the grid, swap and domain commands stage. -/
theorem stagedChanges : Rules.StagedChanges := by
  intro s objs w
  refine ⟨fun ns frac lo hi an af hw hlow hhigh hhi han hns hanClear => ?_, fun hw hready => ?_, fun lo hi hw hhi hopen => ?_, fun lo ns hw hns => ?_,
    fun hw => ?_, rfl⟩
  · simp only [State.stage, stageGrid_inRange hw hlow hhigh hhi han hns hanClear]
  · simp only [State.stage, stageSwap_ready hw hready]
  · simp only [State.stage, stageAdjust_rate hw hhi hopen]
  · simp only [State.stage, stageAdjust_back hw hns]
  · simp only [State.stage, stageLoop_clear hw]

end Sys2Proof.Machine
end

section
/-! ## Class C commands are committed, and stream edits together (R133, R366, R374) -/

namespace Sys2Proof.Machine

variable {s : State} {m : MbCmd} {op : Nat} {ws : List Word}

/-! ### The rows of class C -/

theorem stagedRows_classC : ∀ x ∈ stagedRows, opClass x.2.1 = 4 ∧ x.2.1 ≠ 0x22 := by decide

theorem exec_stagedRow :
    ∀ x ∈ stagedRows, ∀ (m : MbCmd) (s : State), exec (x.1 m) s = .next (s.record m.partner x.2.1 m.last (x.2.2 m).words) := by
  simp only [stagedRows, List.forall_mem_cons]
  exact ⟨fun _ _ => rfl, fun _ _ => rfl, fun _ _ => rfl, fun _ _ => rfl, fun _ _ => rfl, fun _ _ => rfl, fun _ _ => rfl, fun _ _ => rfl,
    fun _ _ => rfl, fun _ _ => rfl, fun _ _ => rfl, fun _ _ => rfl, fun _ _ => rfl, fun _ _ => rfl, fun _ _ => rfl, fun _ _ => rfl, List.forall_mem_nil _⟩

/-! ### A message of one record -/

/-- A record of class C that is a message of its own, stages and meets the rules of the whole commits what it has staged. -/
theorem record_commits {p : Nat} {cs : List Change} {res : List Word} {objs : List Nat} (hop : opClass op = 4) (hedit : op ≠ 0x22) (hfree : FreeBox s p)
    (hacc : s.accept p op = St.OK) (hseq : s.rd R.MB_STATUS_NEXTSEQ ≠ 0) (hstage : (s.nextSeq p).1.stage op [] [] ws = .ok (cs, res, objs))
    (hwhole : wholeRule ((s.nextSeq p).1.shadow cs) cs op = none) :
    s.record p op true ws = (s.nextSeq p).1.commit p (stagedMsg (s.rd R.MB_STATUS_NEXTSEQ) op res cs objs) := by
  have hjudge : (s.nextSeq p).1.judgeWhole (stagedMsg (s.rd R.MB_STATUS_NEXTSEQ) op res cs objs) = stagedMsg (s.rd R.MB_STATUS_NEXTSEQ) op res cs objs :=
    judgeWhole_of_rules fun o _ ho => by
      rw [lastOf_stagedMsg ho]
      exact hwhole
  rw [record_of_free hfree, recIn_stages hop (formBad_first hop fun _ => hedit) rfl hacc (stageRec_first hstage), if_pos rfl, finish_commits hseq rfl hjudge]

/-- R366: the part of O34 on class C commands that are committed. -/
theorem classCCommandsCommit : Rules.ClassCCommandsCommit := by
  intro x hx m s cs res objs hlast hfree hacc hseq hstage hwhole
  obtain ⟨hop, hedit⟩ := stagedRows_classC x hx
  have hports : ∀ x ∈ glistsOf cs, x.1 < 64 := ports_of_portsOk (stage_portsOk hedit _ hstage)
  have hexec := exec_stagedRow x hx m s
  rw [hlast, record_commits hop hedit hfree hacc hseq hstage hwhole] at hexec
  obtain ⟨j, hnext⟩ := nextSeq_parts m.partner.val hseq
  have hcommits := commit_commits (s := (s.nextSeq m.partner).1) (p := m.partner) (M := stagedMsg (s.rd R.MB_STATUS_NEXTSEQ) x.2.1 res cs objs) hports
  generalize (s.nextSeq m.partner).1.commit m.partner (stagedMsg (s.rd R.MB_STATUS_NEXTSEQ) x.2.1 res cs objs) = t at hexec hcommits
  rw [hnext] at hcommits
  have hlt : s.rd R.MB_STATUS_NEXTSEQ < 65536 := Nat.mod_lt _ (by decide)
  refine ⟨t, hexec, hcommits.txns, congrArg List.head? hcommits.journal, hcommits.wait, ?_, fun hnone => ⟨?_, fun a ha => ?_⟩⟩
  · have hfits : (if s.rd R.MB_STATUS_NEXTSEQ = 65535 then 1 else s.rd R.MB_STATUS_NEXTSEQ + 1) < 65536 := by
      split <;> omega
    exact (congrArg R.MB_STATUS_NEXTSEQ.get (hcommits.regs _ (by decide))).trans (rd_wr_of_lt (by decide) hfits)
  · have hparts := hcommits.parts hnone
    generalize t.mbs = b, t.txns = l at hparts ⊢
    rw [hparts]
    rfl
  · rw [hcommits.parts hnone]
    exact s.reg_wr_ne (f := R.MB_STATUS_NEXTSEQ) (List.ne_of_not_mem_cons ha) _

/-! ### Stream edits -/

/-- A STREAM_EDIT that is not its message's last record leaves its changes in the message under way. -/
theorem record_edits {p : Nat} {cs : List Change} {res : List Word} {objs : List Nat} (hfree : FreeBox s p) (hacc : s.accept p 0x22 = St.OK)
    (hstage : (s.nextSeq p).1.stage 0x22 [] [] ws = .ok (cs, res, objs)) :
    s.record p 0x22 false ws =
      (s.nextSeq p).1.setMb p { (s.nextSeq p).1.mb p with msg := some (stagedMsg (s.rd R.MB_STATUS_NEXTSEQ) 0x22 res cs objs) } := by
  rw [record_of_free hfree, recIn_stages rfl (formBad_first rfl fun h => absurd h Bool.false_ne_true) rfl hacc (stageRec_first hstage), if_neg Bool.false_ne_true]

theorem nextSeq_txns (s : State) (p : Nat) : (s.nextSeq p).1.txns = s.txns := by
  unfold State.nextSeq State.jot
  dsimp only
  split <;> rfl

/-- A row of STREAM_EDIT whose message goes on commits nothing, and its message holds what it has staged under the next sequence number. -/
theorem streamEdit_stages {i : Instr} {cs : List Change} {res : List Word} {objs : List Nat} (hrow : exec i s = .next (s.record m.partner 0x22 m.last ws))
    (hlast : m.last = false) (hfree : FreeBox s m.partner) (hacc : s.accept m.partner 0x22 = St.OK)
    (hstage : (s.nextSeq m.partner).1.stage 0x22 [] [] ws = .ok (cs, res, objs)) :
    Answers i s fun t => t.txns = s.txns ∧ ∃ M, (t.mb m.partner).msg = some M ∧ M.changes = cs ∧ M.objs = objs ∧ M.fail = none ∧
      M.seq = s.rd R.MB_STATUS_NEXTSEQ ∧ M.recs = [(0x22, St.OK, res)] := by
  rw [hlast, record_edits hfree hacc hstage] at hrow
  exact ⟨_, hrow, nextSeq_txns s _, _, congrArg Mb.msg (State.mb_setMb_same _ _ _), rfl, rfl, rfl, rfl, rfl⟩

/-- The message that STREAM_COMMIT ends. -/
def Msg.streamCommitted (M : Msg) : Msg :=
  { M.put 0x23 St.OK [.ofNat M.objs.length] with changes := M.changes ++ [.commit], objs := M.objs }

/-- STREAM_COMMIT commits the message under way, if its staged whole meets the rules. -/
theorem record_streamCommits {p : Nat} {M : Msg} (hserves : s.mbServes = true) (hmsg : (s.mb p).msg = some M) (hwait : (s.mb p).wait = none)
    (hrelay : (s.mb p).relayed = none) (hacc : s.accept p 0x23 = St.OK) (hcls : M.cls = 4) (hfail : M.fail = none) (hseq : M.seq ≠ 0)
    (hwhole : ∀ o ∈ [0x20, 0x28, 0x29, 0x23], wholeRule (s.shadow (M.changes ++ [.commit])) (M.changes ++ [.commit]) o = none) :
    s.record p 0x23 true [] = s.commit p M.streamCommitted := by
  have hform : M.formBad 0x23 true = false := by simp [Msg.formBad, hcls, opClass]
  have hok : M.streamCommitted.fail = none := by simp [Msg.streamCommitted, Msg.put, hfail]
  have hrec : s.record p 0x23 true [] = s.recIn p 0x23 true M [] := by simp [State.record, hserves, hmsg, hwait, hrelay]
  rw [hrec, recIn_stages rfl hform hfail hacc (stageRec_later hseq rfl), if_pos rfl]
  exact finish_commits hseq hok (judgeWhole_of_rules fun o ho _ => hwhole o ho)

theorem glistsOf_commit {cs : List Change} (h : glistsOf cs = []) : glistsOf (cs ++ [.commit]) = [] := by
  unfold glistsOf at h ⊢
  rw [List.filterMap_append, h]
  rfl

/-- R133, R374: the part of O34 on stream edits. -/
theorem streamEditsCommitTogether : Rules.StreamEditsCommitTogether := by
  intro m s
  refine ⟨?_, fun M hlast hwords hserves hmsg hwait hrelay hacc hcls hfail hseq hglists hwhole => ?_⟩
  · rw [List.forall_mem_cons, List.forall_mem_singleton]
    exact ⟨fun cs res objs => streamEdit_stages rfl, fun cs res objs => streamEdit_stages rfl⟩
  · have hnone : glistsOf M.streamCommitted.changes = [] := glistsOf_commit hglists
    have hexec : exec (.streamCommit m) s = .next (s.record m.partner 0x23 m.last m.words) := rfl
    have hcommits := commit_commits (s := s) (p := m.partner) (M := M.streamCommitted) (by simp [hnone])
    rw [hlast, hwords, record_streamCommits hserves hmsg hwait hrelay hacc hcls hfail hseq hwhole] at hexec
    refine ⟨_, hexec, ?_, hcommits.wait⟩
    rw [hcommits.txns, hnone]
    rfl

/-- Settles O34: an accepted class C command commits what it has staged as one numbered transaction, and a STREAM_COMMIT all edits of its message. -/
theorem transactionsAreStaged : Obligations.TransactionsAreStaged := ⟨classCCommandsCommit, stagedChanges, streamEditsCommitTogether⟩

end Sys2Proof.Machine
end

section
/-! ## The words of the engines (R156, R159, Tables 5-7 to 5-11, 5-13) -/

namespace Sys2Proof

/-! ### One bit of a word, and fields as numbers -/

theorem ofBool_bitAt (w : BitVec 64) (k : Nat) : BitVec.ofBool (bitAt w k) = bitsAt w k 1 := by
  refine BitVec.eq_of_getLsbD_eq fun i hi => ?_
  obtain rfl : i = 0 := Nat.lt_one_iff.mp hi
  rw [BitVec.getLsbD_ofBool, BitVec.getLsbD_extractLsb']
  simp

theorem getLsbD_append_above {m n k : Nat} (x : BitVec m) (y : BitVec n) (h : n ≤ k) : (x ++ y).getLsbD k = x.getLsbD (k - n) := by
  rw [BitVec.getLsbD_append, if_neg (by simpa using h)]

theorem getLsbD_append_ofBool {m : Nat} (x : BitVec m) (b : Bool) : (x ++ BitVec.ofBool b).getLsbD 0 = b := by
  rw [BitVec.getLsbD_append, if_pos (by decide), BitVec.getLsbD_ofBool]
  simp

/-! ### Every format is read back from its word -/

theorem fields_encodePlain (op : BitVec 6) (a : PlainArgs) : bitsAt (encodePlain op a) 58 6 = op ∧ decodePlain (encodePlain op a) = a := by
  simp (disch := decide) only [encodePlain, decodePlain, bitsAt, BitVec.extractLsb'_append_eq_of_le, BitVec.extractLsb'_append_eq_of_add_le,
    BitVec.extractLsb'_eq_self, Nat.reduceSub, and_self]

theorem fields_encodeAlu (fn : BitVec 4) (a : AluArgs) :
    bitsAt (encodeAlu fn a) 58 6 = 4#6 ∧ bitsAt (encodeAlu fn a) 54 4 = fn ∧ decodeAluArgs (encodeAlu fn a) = a := by
  simp (disch := decide) only [encodeAlu, decodeAluArgs, bitsAt, bitAt, BitVec.extractLsb'_append_eq_of_le, BitVec.extractLsb'_append_eq_of_add_le,
    BitVec.extractLsb'_eq_self, getLsbD_append_above, getLsbD_append_ofBool, Nat.reduceSub, and_self]

theorem fields_encodeBr (cc : BitVec 4) (a : BrArgs) :
    bitsAt (encodeBr cc a) 58 6 = 8#6 ∧ bitsAt (encodeBr cc a) 54 4 = cc ∧ decodeBrArgs (encodeBr cc a) = a := by
  simp (disch := decide) only [encodeBr, decodeBrArgs, bitsAt, bitAt, BitVec.extractLsb'_append_eq_of_le, BitVec.extractLsb'_append_eq_of_add_le,
    BitVec.extractLsb'_eq_self, getLsbD_append_above, getLsbD_append_ofBool, Nat.reduceSub, and_self]

theorem fields_encodeLd (h : Bool) (a : LdArgs) :
    bitsAt (encodeLd h a) 58 6 = 0x0C#6 ∧ bitAt (encodeLd h a) 45 = h ∧ decodeLdArgs (encodeLd h a) = a := by
  simp (disch := decide) only [encodeLd, decodeLdArgs, bitsAt, bitAt, BitVec.extractLsb'_append_eq_of_le, BitVec.extractLsb'_append_eq_of_add_le,
    BitVec.extractLsb'_eq_self, getLsbD_append_above, getLsbD_append_ofBool, Nat.reduceSub, and_self]

theorem fields_encodeAct (op : BitVec 6) (go : BitVec 4) (orr : Bool) (p : BitVec 23) (off : BitVec 30) :
    bitsAt (encodeAct op go orr p off) 58 6 = op ∧ bitsAt (encodeAct op go orr p off) 54 4 = go ∧ bitAt (encodeAct op go orr p off) 53 = orr ∧
      bitsAt (encodeAct op go orr p off) 0 30 = off := by
  simp (disch := decide) only [encodeAct, bitsAt, bitAt, BitVec.extractLsb'_append_eq_of_le, BitVec.extractLsb'_append_eq_of_add_le,
    BitVec.extractLsb'_eq_self, getLsbD_append_above, getLsbD_append_ofBool, Nat.reduceSub, and_self]

/-- What lies in the `PARAM` field of an action word. -/
theorem bitsAt_encodeAct_param (op : BitVec 6) (go : BitVec 4) (orr : Bool) (p : BitVec 23) (off : BitVec 30) {lo n : Nat} (h : 30 ≤ lo) (h' : lo - 30 + n ≤ 23) :
    bitsAt (encodeAct op go orr p off) lo n = p.extractLsb' (lo - 30) n := by
  unfold bitsAt encodeAct
  rw [BitVec.extractLsb'_append_eq_of_le h, BitVec.extractLsb'_append_eq_of_add_le h']

theorem bitAt_encodeAct_param (op : BitVec 6) (go : BitVec 4) (orr : Bool) (p : BitVec 23) (off : BitVec 30) {k : Nat} (h : 30 ≤ k) (h' : k - 30 < 23) :
    bitAt (encodeAct op go orr p off) k = p.getLsbD (k - 30) := by
  unfold bitAt encodeAct
  rw [getLsbD_append_above _ _ h, BitVec.getLsbD_append, if_pos (by simpa using h')]

theorem fields_encodeMovi (a : MoviArgs) :
    bitsAt (5#6 ++ a.rsv1 ++ a.gd ++ a.rsv2 ++ a.imm) 58 6 = 5#6 ∧ decodeMoviArgs (5#6 ++ a.rsv1 ++ a.gd ++ a.rsv2 ++ a.imm) = a := by
  simp (disch := decide) only [decodeMoviArgs, bitsAt, BitVec.extractLsb'_append_eq_of_le, BitVec.extractLsb'_append_eq_of_add_le,
    BitVec.extractLsb'_eq_self, Nat.reduceSub, and_self]

theorem fields_encodeDbnz (a : DbnzArgs) :
    bitsAt (9#6 ++ a.rsv1 ++ a.ga ++ a.rsv2 ++ a.tgt ++ a.rsv3) 58 6 = 9#6 ∧ decodeDbnzArgs (9#6 ++ a.rsv1 ++ a.ga ++ a.rsv2 ++ a.tgt ++ a.rsv3) = a := by
  simp (disch := decide) only [decodeDbnzArgs, bitsAt, BitVec.extractLsb'_append_eq_of_le, BitVec.extractLsb'_append_eq_of_add_le,
    BitVec.extractLsb'_eq_self, Nat.reduceSub, and_self]

theorem fields_encodeCall (a : CallArgs) :
    bitsAt (0x0A#6 ++ a.rsv1 ++ a.tgt ++ a.rsv2) 58 6 = 0x0A#6 ∧ decodeCallArgs (0x0A#6 ++ a.rsv1 ++ a.tgt ++ a.rsv2) = a := by
  simp (disch := decide) only [decodeCallArgs, bitsAt, BitVec.extractLsb'_append_eq_of_le, BitVec.extractLsb'_append_eq_of_add_le,
    BitVec.extractLsb'_eq_self, Nat.reduceSub, and_self]

theorem fields_encodeGet (a : GetArgs) :
    bitsAt (0x10#6 ++ a.rsv1 ++ a.gd ++ a.rsv2 ++ a.sel) 58 6 = 0x10#6 ∧ decodeGetArgs (0x10#6 ++ a.rsv1 ++ a.gd ++ a.rsv2 ++ a.sel) = a := by
  simp (disch := decide) only [decodeGetArgs, bitsAt, BitVec.extractLsb'_append_eq_of_le, BitVec.extractLsb'_append_eq_of_add_le,
    BitVec.extractLsb'_eq_self, Nat.reduceSub, and_self]

theorem fields_encodePut (a : PutArgs) :
    bitsAt (0x11#6 ++ a.rsv1 ++ a.ga ++ a.rsv2 ++ a.sel) 58 6 = 0x11#6 ∧ decodePutArgs (0x11#6 ++ a.rsv1 ++ a.ga ++ a.rsv2 ++ a.sel) = a := by
  simp (disch := decide) only [decodePutArgs, bitsAt, BitVec.extractLsb'_append_eq_of_le, BitVec.extractLsb'_append_eq_of_add_le,
    BitVec.extractLsb'_eq_self, Nat.reduceSub, and_self]

theorem fields_encodeEvt (a : EvtArgs) :
    bitsAt (0x12#6 ++ a.rsv ++ BitVec.ofBool a.int ++ a.code) 58 6 = 0x12#6 ∧ decodeEvtArgs (0x12#6 ++ a.rsv ++ BitVec.ofBool a.int ++ a.code) = a := by
  simp (disch := decide) only [decodeEvtArgs, bitsAt, bitAt, BitVec.extractLsb'_append_eq_of_le, BitVec.extractLsb'_append_eq_of_add_le,
    BitVec.extractLsb'_eq_self, getLsbD_append_above, getLsbD_append_ofBool, Nat.reduceSub, and_self]

theorem decodeGateArgs_encode (op : BitVec 6) (a : GateArgs) : decodeGateArgs (encodeAct op a.go a.orr (a.port ++ a.state ++ a.hold ++ a.rsv) a.off) = a := by
  simp (disch := decide) only [decodeGateArgs, fields_encodeAct, bitsAt_encodeAct_param, BitVec.extractLsb'_append_eq_of_le, BitVec.extractLsb'_append_eq_of_add_le,
    BitVec.extractLsb'_eq_self, Nat.reduceSub]

theorem decodeSgateArgs_encode (op : BitVec 6) (a : SgateArgs) : decodeSgateArgs (encodeAct op a.go a.orr (a.handle ++ BitVec.ofBool a.opn ++ a.rsv) a.off) = a := by
  simp (disch := decide) only [decodeSgateArgs, fields_encodeAct, bitsAt_encodeAct_param, bitAt_encodeAct_param, BitVec.extractLsb'_append_eq_of_le, BitVec.extractLsb'_append_eq_of_add_le,
    BitVec.extractLsb'_eq_self, getLsbD_append_above, getLsbD_append_ofBool, Nat.reduceSub]

theorem decodeLaunchArgs_encode (op : BitVec 6) (a : LaunchArgs) : decodeLaunchArgs (encodeAct op a.go a.orr (a.port ++ a.cls ++ a.rsv) a.off) = a := by
  simp (disch := decide) only [decodeLaunchArgs, fields_encodeAct, bitsAt_encodeAct_param, BitVec.extractLsb'_append_eq_of_le, BitVec.extractLsb'_append_eq_of_add_le,
    BitVec.extractLsb'_eq_self, Nat.reduceSub]

theorem decodeInjArgs_encode (op : BitVec 6) (a : InjArgs) : decodeInjArgs (encodeAct op a.go a.orr (a.port ++ a.tmpl ++ a.rsv) a.off) = a := by
  simp (disch := decide) only [decodeInjArgs, fields_encodeAct, bitsAt_encodeAct_param, BitVec.extractLsb'_append_eq_of_le, BitVec.extractLsb'_append_eq_of_add_le,
    BitVec.extractLsb'_eq_self, Nat.reduceSub]

theorem decodeToutArgs_encode (op : BitVec 6) (a : ToutArgs) :
    decodeToutArgs (encodeAct op a.go a.orr (a.pin ++ BitVec.ofBool a.lvl ++ a.fine ++ BitVec.ofBool a.fr ++ a.rsv) a.off) = a := by
  simp (disch := decide) only [decodeToutArgs, fields_encodeAct, bitsAt_encodeAct_param, bitAt_encodeAct_param, BitVec.extractLsb'_append_eq_of_le, BitVec.extractLsb'_append_eq_of_add_le,
    BitVec.extractLsb'_eq_self, getLsbD_append_above, getLsbD_append_ofBool, Nat.reduceSub]

theorem decodeCaptArgs_encode (op : BitVec 6) (a : CaptArgs) : decodeCaptArgs (encodeAct op a.go a.orr (a.dom ++ a.slot ++ a.rsv) a.off) = a := by
  simp (disch := decide) only [decodeCaptArgs, fields_encodeAct, bitsAt_encodeAct_param, BitVec.extractLsb'_append_eq_of_le, BitVec.extractLsb'_append_eq_of_add_le,
    BitVec.extractLsb'_eq_self, Nat.reduceSub]

theorem decodeMarkArgs_encode (op : BitVec 6) (a : MarkArgs) : decodeMarkArgs (encodeAct op a.go a.orr (a.group ++ a.rsv) a.off) = a := by
  simp (disch := decide) only [decodeMarkArgs, fields_encodeAct, bitsAt_encodeAct_param, BitVec.extractLsb'_append_eq_of_le, BitVec.extractLsb'_append_eq_of_add_le,
    BitVec.extractLsb'_eq_self, Nat.reduceSub]

theorem decodeRswapArgs_encode (op : BitVec 6) (a : RswapArgs) : decodeRswapArgs (encodeAct op a.go a.orr (a.rsv) a.off) = a := by
  simp (disch := decide) only [decodeRswapArgs, fields_encodeAct, bitsAt_encodeAct_param, BitVec.extractLsb'_eq_self, Nat.reduceSub]

/-- R156: the part of O3 on words that are read. -/
theorem engineWordsAreRead (i : Instr) (e : Fin 9) (w : BitVec 64) (h : encodeEngine i = some (e, w)) : decodeEngine e w = .ok i := by
  cases i
  case nop | endRun | ret => cases h; simp [decodeEngine, fields_encodePlain]
  case add | sub | andOp | orOp | xorOp | shl | shr | sar | mul | minu | maxu =>
    cases h; simp [decodeEngine, decodeAlu, fields_encodeAlu]
  case jmp | beq | bne | bltu | bgeu | blts | bges | bany | bnone => cases h; simp [decodeEngine, decodeBr, fields_encodeBr]
  case movi => cases h; simp [decodeEngine, fields_encodeMovi]
  case dbnz => cases h; simp [decodeEngine, fields_encodeDbnz]
  case call => cases h; simp [decodeEngine, fields_encodeCall]
  case ldL | ldH => cases h; simp only [decodeEngine, fields_encodeLd]; rfl
  case get => cases h; simp [decodeEngine, fields_encodeGet]
  case put => cases h; simp [decodeEngine, fields_encodePut]
  case evt => cases h; simp [decodeEngine, fields_encodeEvt]
  case gate => cases h; simp [decodeEngine, fields_encodeAct, decodeGateArgs_encode]
  case sgate => cases h; simp [decodeEngine, fields_encodeAct, decodeSgateArgs_encode]
  case launch => cases h; simp [decodeEngine, fields_encodeAct, decodeLaunchArgs_encode]
  case inj => cases h; simp [decodeEngine, fields_encodeAct, decodeInjArgs_encode]
  case tout => cases h; simp [decodeEngine, fields_encodeAct, decodeToutArgs_encode]
  case capt => cases h; simp [decodeEngine, fields_encodeAct, decodeCaptArgs_encode]
  case mark => cases h; simp [decodeEngine, fields_encodeAct, decodeMarkArgs_encode]
  case rswap => cases h; simp [decodeEngine, fields_encodeAct, decodeRswapArgs_encode]
  all_goals nomatch h

/-! ### Every word is put together from its fields again -/

theorem some_word {e : Fin 9} {v w : BitVec 64} (h : v = w) : some (e, v) = some (e, w) := h ▸ rfl

theorem bitsAt_eq_of_toNat {w : BitVec 64} {lo n k : Nat} (h : (bitsAt w lo n).toNat = k) : bitsAt w lo n = BitVec.ofNat n k := by
  rw [← h, BitVec.ofNat_toNat, BitVec.setWidth_eq]

variable {w : BitVec 64}

theorem encodePlain_decode {op : BitVec 6} (h : bitsAt w 58 6 = op) :
    encodePlain op (decodePlain w) = w := by
  rw [← h]
  simp (disch := decide) only [encodePlain, decodePlain, bitsAt, BitVec.extractLsb'_append_extractLsb'_eq_extractLsb', BitVec.extractLsb'_eq_self]

theorem encodeAlu_decode {fn : BitVec 4} (h : bitsAt w 58 6 = 4#6) (hf : bitsAt w 54 4 = fn) : encodeAlu fn (decodeAluArgs w) = w := by
  unfold encodeAlu
  rw [← h, ← hf]
  simp (disch := decide) only [decodeAluArgs, ofBool_bitAt, bitsAt, BitVec.extractLsb'_append_extractLsb'_eq_extractLsb', BitVec.extractLsb'_eq_self]

theorem encodeBr_decode {cc : BitVec 4} (h : bitsAt w 58 6 = 8#6) (hc : bitsAt w 54 4 = cc) : encodeBr cc (decodeBrArgs w) = w := by
  unfold encodeBr
  rw [← h, ← hc]
  simp (disch := decide) only [decodeBrArgs, ofBool_bitAt, bitsAt, BitVec.extractLsb'_append_extractLsb'_eq_extractLsb', BitVec.extractLsb'_eq_self]

theorem encodeLd_decode {b : Bool} (h : bitsAt w 58 6 = 0x0C#6) (hb : bitAt w 45 = b) : encodeLd b (decodeLdArgs w) = w := by
  unfold encodeLd
  rw [← h, ← hb]
  simp (disch := decide) only [decodeLdArgs, ofBool_bitAt, bitsAt, BitVec.extractLsb'_append_extractLsb'_eq_extractLsb', BitVec.extractLsb'_eq_self]

theorem encodeAct_decode {op : BitVec 6} {p : BitVec 23} (h : bitsAt w 58 6 = op) (hp : p = bitsAt w 30 23) :
    encodeAct op (bitsAt w 54 4) (bitAt w 53) p (bitsAt w 0 30) = w := by
  unfold encodeAct
  rw [← h, hp]
  simp (disch := decide) only [ofBool_bitAt, bitsAt, BitVec.extractLsb'_append_extractLsb'_eq_extractLsb', BitVec.extractLsb'_eq_self]

theorem encodeMovi_decode (h : bitsAt w 58 6 = 5#6) :
    5#6 ++ (decodeMoviArgs w).rsv1 ++ (decodeMoviArgs w).gd ++ (decodeMoviArgs w).rsv2 ++ (decodeMoviArgs w).imm = w := by
  rw [← h]
  simp (disch := decide) only [decodeMoviArgs, bitsAt, BitVec.extractLsb'_append_extractLsb'_eq_extractLsb', BitVec.extractLsb'_eq_self]

theorem encodeDbnz_decode (h : bitsAt w 58 6 = 9#6) :
    9#6 ++ (decodeDbnzArgs w).rsv1 ++ (decodeDbnzArgs w).ga ++ (decodeDbnzArgs w).rsv2 ++ (decodeDbnzArgs w).tgt ++ (decodeDbnzArgs w).rsv3 = w := by
  rw [← h]
  simp (disch := decide) only [decodeDbnzArgs, bitsAt, BitVec.extractLsb'_append_extractLsb'_eq_extractLsb', BitVec.extractLsb'_eq_self]

theorem encodeCall_decode (h : bitsAt w 58 6 = 0x0A#6) :
    0x0A#6 ++ (decodeCallArgs w).rsv1 ++ (decodeCallArgs w).tgt ++ (decodeCallArgs w).rsv2 = w := by
  rw [← h]
  simp (disch := decide) only [decodeCallArgs, bitsAt, BitVec.extractLsb'_append_extractLsb'_eq_extractLsb', BitVec.extractLsb'_eq_self]

theorem encodeGet_decode (h : bitsAt w 58 6 = 0x10#6) :
    0x10#6 ++ (decodeGetArgs w).rsv1 ++ (decodeGetArgs w).gd ++ (decodeGetArgs w).rsv2 ++ (decodeGetArgs w).sel = w := by
  rw [← h]
  simp (disch := decide) only [decodeGetArgs, bitsAt, BitVec.extractLsb'_append_extractLsb'_eq_extractLsb', BitVec.extractLsb'_eq_self]

theorem encodePut_decode (h : bitsAt w 58 6 = 0x11#6) :
    0x11#6 ++ (decodePutArgs w).rsv1 ++ (decodePutArgs w).ga ++ (decodePutArgs w).rsv2 ++ (decodePutArgs w).sel = w := by
  rw [← h]
  simp (disch := decide) only [decodePutArgs, bitsAt, BitVec.extractLsb'_append_extractLsb'_eq_extractLsb', BitVec.extractLsb'_eq_self]

theorem encodeEvt_decode (h : bitsAt w 58 6 = 0x12#6) :
    0x12#6 ++ (decodeEvtArgs w).rsv ++ BitVec.ofBool (decodeEvtArgs w).int ++ (decodeEvtArgs w).code = w := by
  rw [← h]
  simp (disch := decide) only [decodeEvtArgs, ofBool_bitAt, bitsAt, BitVec.extractLsb'_append_extractLsb'_eq_extractLsb', BitVec.extractLsb'_eq_self]

theorem param_decodeGate : (decodeGateArgs w).port ++ (decodeGateArgs w).state ++ (decodeGateArgs w).hold ++ (decodeGateArgs w).rsv = bitsAt w 30 23 := by
  simp (disch := decide) only [decodeGateArgs, bitsAt, BitVec.extractLsb'_append_extractLsb'_eq_extractLsb']

theorem param_decodeSgate : (decodeSgateArgs w).handle ++ BitVec.ofBool (decodeSgateArgs w).opn ++ (decodeSgateArgs w).rsv = bitsAt w 30 23 := by
  simp (disch := decide) only [decodeSgateArgs, ofBool_bitAt, bitsAt, BitVec.extractLsb'_append_extractLsb'_eq_extractLsb']

theorem param_decodeLaunch : (decodeLaunchArgs w).port ++ (decodeLaunchArgs w).cls ++ (decodeLaunchArgs w).rsv = bitsAt w 30 23 := by
  simp (disch := decide) only [decodeLaunchArgs, bitsAt, BitVec.extractLsb'_append_extractLsb'_eq_extractLsb']

theorem param_decodeInj : (decodeInjArgs w).port ++ (decodeInjArgs w).tmpl ++ (decodeInjArgs w).rsv = bitsAt w 30 23 := by
  simp (disch := decide) only [decodeInjArgs, bitsAt, BitVec.extractLsb'_append_extractLsb'_eq_extractLsb']

theorem param_decodeTout :
    (decodeToutArgs w).pin ++ BitVec.ofBool (decodeToutArgs w).lvl ++ (decodeToutArgs w).fine ++ BitVec.ofBool (decodeToutArgs w).fr ++ (decodeToutArgs w).rsv = bitsAt w 30 23 := by
  simp (disch := decide) only [decodeToutArgs, ofBool_bitAt, bitsAt, BitVec.extractLsb'_append_extractLsb'_eq_extractLsb']

theorem param_decodeCapt : (decodeCaptArgs w).dom ++ (decodeCaptArgs w).slot ++ (decodeCaptArgs w).rsv = bitsAt w 30 23 := by
  simp (disch := decide) only [decodeCaptArgs, bitsAt, BitVec.extractLsb'_append_extractLsb'_eq_extractLsb']

theorem param_decodeMark : (decodeMarkArgs w).group ++ (decodeMarkArgs w).rsv = bitsAt w 30 23 := by
  simp (disch := decide) only [decodeMarkArgs, bitsAt, BitVec.extractLsb'_append_extractLsb'_eq_extractLsb']

theorem encodeEngine_decodeAlu {e : Fin 9} {i : Instr} (hop : bitsAt w 58 6 = 4#6) (h : decodeAlu e w = .ok i) : encodeEngine i = some (e, w) := by
  unfold decodeAlu at h
  split at h
  case h_12 => nomatch h
  all_goals
    next hf =>
      cases h
      exact some_word (encodeAlu_decode hop (bitsAt_eq_of_toNat hf))

theorem encodeEngine_decodeBr {e : Fin 9} {i : Instr} (hop : bitsAt w 58 6 = 8#6) (h : decodeBr e w = .ok i) : encodeEngine i = some (e, w) := by
  unfold decodeBr at h
  split at h
  case h_10 => nomatch h
  all_goals
    next hc =>
      cases h
      exact some_word (encodeBr_decode hop (bitsAt_eq_of_toNat hc))


/-- R156: the part of O3 on words that spell an instruction. -/
theorem engineDecodingLosesNoBit (i : Instr) (e : Fin 9) (w : BitVec 64) (h : decodeEngine e w = .ok i) : encodeEngine i = some (e, w) := by
  unfold decodeEngine at h
  split at h
  case h_3 hop => exact encodeEngine_decodeAlu (bitsAt_eq_of_toNat hop) h
  case h_5 hop => exact encodeEngine_decodeBr (bitsAt_eq_of_toNat hop) h
  case h_9 hop =>
    cases hb : bitAt w 45 <;> rw [hb] at h <;> cases h <;> exact some_word (encodeLd_decode (bitsAt_eq_of_toNat hop) hb)
  case h_1 hop => cases h; exact some_word (encodePlain_decode (bitsAt_eq_of_toNat hop))
  case h_2 hop => cases h; exact some_word (encodePlain_decode (bitsAt_eq_of_toNat hop))
  case h_4 hop => cases h; exact some_word (encodeMovi_decode (bitsAt_eq_of_toNat hop))
  case h_6 hop => cases h; exact some_word (encodeDbnz_decode (bitsAt_eq_of_toNat hop))
  case h_7 hop => cases h; exact some_word (encodeCall_decode (bitsAt_eq_of_toNat hop))
  case h_8 hop => cases h; exact some_word (encodePlain_decode (bitsAt_eq_of_toNat hop))
  case h_10 hop => cases h; exact some_word (encodeGet_decode (bitsAt_eq_of_toNat hop))
  case h_11 hop => cases h; exact some_word (encodePut_decode (bitsAt_eq_of_toNat hop))
  case h_12 hop => cases h; exact some_word (encodeEvt_decode (bitsAt_eq_of_toNat hop))
  case h_13 hop => cases h; exact some_word (encodeAct_decode (bitsAt_eq_of_toNat hop) param_decodeGate)
  case h_14 hop => cases h; exact some_word (encodeAct_decode (bitsAt_eq_of_toNat hop) param_decodeSgate)
  case h_15 hop => cases h; exact some_word (encodeAct_decode (bitsAt_eq_of_toNat hop) param_decodeLaunch)
  case h_16 hop => cases h; exact some_word (encodeAct_decode (bitsAt_eq_of_toNat hop) param_decodeInj)
  case h_17 hop => cases h; exact some_word (encodeAct_decode (bitsAt_eq_of_toNat hop) param_decodeTout)
  case h_18 hop => cases h; exact some_word (encodeAct_decode (bitsAt_eq_of_toNat hop) param_decodeCapt)
  case h_19 hop => cases h; exact some_word (encodeAct_decode (bitsAt_eq_of_toNat hop) param_decodeMark)
  case h_20 hop => cases h; exact some_word (encodeAct_decode (bitsAt_eq_of_toNat hop) rfl)
  case h_21 => nomatch h

/-- Settles O3: each format's fields are read back from its word, and a word is put together from its fields again. -/
theorem engineWordsRoundTrip : Obligations.EngineWordsRoundTrip := ⟨engineWordsAreRead, engineDecodingLosesNoBit⟩

end Sys2Proof
end

section
/-! ## Which words spell an instruction, and the code of each that spells none (R159, Table 5-13) -/

namespace Sys2Proof

variable {e : Fin 9} {w : BitVec 64}

/-- The opcodes that Table 5-8 and Table 5-11 define. -/
def definedOps : List Nat :=
  [0x00, 0x01, 0x04, 0x05, 0x08, 0x09, 0x0A, 0x0B, 0x0C, 0x10, 0x11, 0x12, 0x20, 0x21, 0x22, 0x23, 0x24, 0x25, 0x26, 0x27]

/-- The functions of ALU and the conditions of BR that Tables 5-9 and 5-10 leave out. -/
def IllegalFn (op fn : Nat) : Prop := (op = 4 ∧ 11 ≤ fn) ∨ (op = 8 ∧ 9 ≤ fn)

theorem decodeAlu_cases : ((bitsAt w 54 4).toNat < 11 ∧ ∃ i, decodeAlu e w = .ok i) ∨ (11 ≤ (bitsAt w 54 4).toNat ∧ decodeAlu e w = .error 2) := by
  unfold decodeAlu
  split
  case h_12 => exact .inr ⟨by simp only [imp_false] at *; omega, rfl⟩
  all_goals exact .inl ⟨by omega, _, rfl⟩

theorem decodeBr_cases : ((bitsAt w 54 4).toNat < 9 ∧ ∃ i, decodeBr e w = .ok i) ∨ (9 ≤ (bitsAt w 54 4).toNat ∧ decodeBr e w = .error 2) := by
  unfold decodeBr
  split
  case h_10 => exact .inr ⟨by simp only [imp_false] at *; omega, rfl⟩
  all_goals exact .inl ⟨by omega, _, rfl⟩

/-- A word has an opcode that is not defined, or a function or condition that is illegal, or it spells an instruction. -/
theorem decodeEngine_cases (e : Fin 9) (w : BitVec 64) :
    ((bitsAt w 58 6).toNat ∉ definedOps ∧ decodeEngine e w = .error 1) ∨
    ((bitsAt w 58 6).toNat ∈ definedOps ∧ IllegalFn (bitsAt w 58 6).toNat (bitsAt w 54 4).toNat ∧ decodeEngine e w = .error 2) ∨
    ((bitsAt w 58 6).toNat ∈ definedOps ∧ ¬ IllegalFn (bitsAt w 58 6).toNat (bitsAt w 54 4).toNat ∧ ∃ i, decodeEngine e w = .ok i) := by
  unfold decodeEngine IllegalFn
  split
  case h_3 hop =>
    rw [hop]
    rcases decodeAlu_cases (e := e) (w := w) with ⟨hf, h⟩ | ⟨hf, h⟩
    · exact .inr (.inr ⟨by decide, by omega, h⟩)
    · exact .inr (.inl ⟨by decide, by omega, h⟩)
  case h_5 hop =>
    rw [hop]
    rcases decodeBr_cases (e := e) (w := w) with ⟨hf, h⟩ | ⟨hf, h⟩
    · exact .inr (.inr ⟨by decide, by omega, h⟩)
    · exact .inr (.inl ⟨by decide, by omega, h⟩)
  case h_21 => exact .inl ⟨by simp_all [definedOps], rfl⟩
  all_goals
    next hop =>
      rw [hop]
      exact .inr (.inr ⟨by decide, by omega, _, rfl⟩)

/-- R159, Table 5-13: the part of O4 on words that spell no instruction. -/
theorem illegalWordsByCode : Rules.IllegalWordsByCode := by
  intro e w
  show (decodeEngine e w = .error 1 ↔ ¬ (bitsAt w 58 6).toNat ∈ definedOps) ∧
    (decodeEngine e w = .error 2 ↔ IllegalFn (bitsAt w 58 6).toNat (bitsAt w 54 4).toNat) ∧
    ((∃ i, decodeEngine e w = .ok i) ↔ (bitsAt w 58 6).toNat ∈ definedOps ∧ ¬ IllegalFn (bitsAt w 58 6).toNat (bitsAt w 54 4).toNat)
  have hcases := decodeEngine_cases e w
  generalize (bitsAt w 58 6).toNat = op, (bitsAt w 54 4).toNat = fn at hcases ⊢
  rcases hcases with ⟨hd, h⟩ | ⟨hd, hf, h⟩ | ⟨hd, hf, i, h⟩
  · have hf : ¬ IllegalFn op fn := by
      rintro (⟨rfl, -⟩ | ⟨rfl, -⟩) <;> exact hd (by decide)
    simp [h, hd, hf]
  · simp [h, hd, hf]
  · simp [h, hd, hf]

/-- R156: the part of O4 on words written out from the formats. -/
theorem engineWordsByTable : Rules.EngineWordsByTable := ⟨rfl, rfl, rfl, rfl, rfl, rfl, rfl⟩

/-- Settles O4: the words of the tables evaluate to their instructions, and a word that spells none is of one of two kinds. -/
theorem engineWordsOfTheTables : Obligations.EngineWordsOfTheTables := ⟨engineWordsByTable, illegalWordsByCode⟩

end Sys2Proof
end

section
/-! ## What the instructions of an engine do (R157, Tables 5-8 to 5-12) -/

namespace Sys2Proof.Machine

/-! ### ALU (Table 5-9) -/

/-- An ALU instruction whose function agrees with `f`. -/
theorem aluResult_of {mk : Fin 9 → AluArgs → Instr} {n : Nat} {f : Word → Word → Word} (g : Word → Word → Word)
    (hexec : ∀ e w s, exec (mk e w) s = .next (s.issue e 4 w.legal (aluRes w n g))) (hg : ∀ a b, g a b = f a b) : AluResult mk n f := by
  obtain rfl : g = f := funext fun a => funext fun b => hg a b
  intro e w s hI hw
  refine ⟨_, hexec e w s, ?_⟩
  rw [hw]
  exact s.issue_seq e 4 _ _ n hI rfl fun l => rfl

theorem add_eq_ofNat (a b : Word) : a + b = Word.ofNat (a.toNat + b.toNat) := BitVec.eq_of_toNat_eq (by simp)
theorem mul_eq_ofNat (a b : Word) : a * b = Word.ofNat (a.toNat * b.toNat) := BitVec.eq_of_toNat_eq (by simp)
theorem sub_eq_ofInt (a b : Word) : a - b = BitVec.ofInt 32 ((a.toNat : Int) - (b.toNat : Int)) := by
  refine BitVec.eq_of_toNat_eq ?_
  rw [BitVec.toNat_sub, BitVec.toNat_ofInt]
  omega

theorem shiftLeft_eq_mul (a : Word) (k : Nat) : a <<< k = Word.ofNat (a.toNat * 2 ^ k) :=
  BitVec.eq_of_toNat_eq (by rw [BitVec.toNat_shiftLeft, Nat.shiftLeft_eq, BitVec.toNat_ofNat])

theorem ushiftRight_eq_div (a : Word) (k : Nat) : a >>> k = Word.ofNat (a.toNat / 2 ^ k) :=
  BitVec.eq_of_toNat_eq (by
    rw [BitVec.toNat_ushiftRight, Nat.shiftRight_eq_div_pow, BitVec.toNat_ofNat, Nat.mod_eq_of_lt ((Nat.div_le_self _ _).trans_lt a.isLt)])

theorem sshiftRight_eq_div (a : Word) (k : Nat) : a.sshiftRight k = BitVec.ofInt 32 (a.toInt / 2 ^ k) := by
  rw [BitVec.sshiftRight, Int.shiftRight_eq_div_pow]
  norm_cast

theorem minu_eq_ofNat (a b : Word) : (if a.toNat ≤ b.toNat then a else b) = Word.ofNat (min a.toNat b.toNat) := by
  split
  next h => rw [min_eq_left h, Word.ofNat, BitVec.ofNat_toNat, BitVec.setWidth_eq]
  next h => rw [min_eq_right (Nat.le_of_not_le h), Word.ofNat, BitVec.ofNat_toNat, BitVec.setWidth_eq]

theorem maxu_eq_ofNat (a b : Word) : (if a.toNat ≤ b.toNat then b else a) = Word.ofNat (max a.toNat b.toNat) := by
  split
  next h => rw [max_eq_right h, Word.ofNat, BitVec.ofNat_toNat, BitVec.setWidth_eq]
  next h => rw [max_eq_left (Nat.le_of_not_le h), Word.ofNat, BitVec.ofNat_toNat, BitVec.setWidth_eq]

/-- Table 5-9: the part of O5 on ALU instructions. -/
theorem aluFunctions : Rules.AluFunctions where
  left := aluResult_of _ (fun _ _ _ => rfl) add_eq_ofNat
  right.left := aluResult_of _ (fun _ _ _ => rfl) sub_eq_ofInt
  right.right := ⟨aluResult_of _ (fun _ _ _ => rfl) fun _ _ => rfl, aluResult_of _ (fun _ _ _ => rfl) fun _ _ => rfl,
    aluResult_of _ (fun _ _ _ => rfl) fun _ _ => rfl, aluResult_of _ (fun _ _ _ => rfl) fun a _ => shiftLeft_eq_mul a _,
    aluResult_of _ (fun _ _ _ => rfl) fun a _ => ushiftRight_eq_div a _, aluResult_of _ (fun _ _ _ => rfl) fun a _ => sshiftRight_eq_div a _,
    aluResult_of _ (fun _ _ _ => rfl) mul_eq_ofNat, aluResult_of _ (fun _ _ _ => rfl) minu_eq_ofNat,
    aluResult_of _ (fun _ _ _ => rfl) maxu_eq_ofNat⟩

/-! ### Data -/

theorem Engine.getVal_toNat (E : Engine) (sel : BitVec 8) :
    E.getVal sel.toNat = if sel = 0x0C then Word.ofNat (1024 - E.filling.length) else if sel = 0x0D then Word.ofNat E.cyc
      else storeGet (fun _ => 0) E.inputs sel.toNat := by
  simp only [Engine.getVal, ← BitVec.toNat_inj]
  rfl

/-- Tables 5-8 and 5-12: the part of O5 on NOP, MOVI, LD, GET and PUT. -/
theorem dataInstructions : Rules.DataInstructions := by
  intro e s hI
  refine ⟨fun w hw => ?_, fun w hw => ?_, fun w hw => ⟨?_, ?_⟩, fun w hw => ?_, fun w hw => ?_⟩ <;> refine ⟨_, rfl, ?_⟩ <;> rw [hw]
  · exact s.issue_seq e 0 _ _ 1 hI rfl fun l => rfl
  · exact s.issue_seq e 5 _ _ 1 hI rfl fun l => rfl
  · rw [State.bankWord, BitVec.extractLsb'_append_eq_right]
    exact s.issue_seq e 0x0C _ _ 2 hI rfl fun l => rfl
  · rw [State.bankWord, BitVec.extractLsb'_append_eq_left]
    exact s.issue_seq e 0x0C _ _ 2 hI rfl fun l => rfl
  · rw [← Engine.getVal_toNat]
    exact s.issue_seq e 0x10 _ _ 2 hI rfl fun l => rfl
  · exact s.issue_seq e 0x11 _ _ 1 hI rfl fun l => rfl

/-- Settles O5: each instruction issues and goes on at the next address (`State.issue_seq`), with the arithmetic of its function. -/
theorem computeInstructions : Obligations.ComputeInstructions := ⟨aluFunctions, dataInstructions⟩

end Sys2Proof.Machine
end

section
/-! ## Branches, calls and returns (R157, Tables 5-8 and 5-10) -/

namespace Sys2Proof.Machine

/-- A branch whose condition is decided by `cb`: it jumps where `cb` holds, and goes on at the next address where not. -/
theorem branchResult_of {mk : Fin 9 → BrArgs → Instr} {c : Word → Word → Prop} (cb : Word → Word → Bool)
    (hexec : ∀ e w s, exec (mk e w) s = .next (s.issue e 8 w.legal (brRes w cb))) (hc : ∀ a b, cb a b = true ↔ c a b) : BranchResult mk c := by
  intro e w s hI hw
  refine ⟨fun hjump => ⟨_, hexec e w s, ?_⟩, fun hnot hpc => ⟨_, hexec e w s, ?_⟩⟩ <;> rw [hw]
  · have hb := (hc _ _).mpr hjump
    exact s.issue_jump e 8 _ (s.eng e) 2 _ hI fun l => if_pos hb
  · have hb := mt (hc _ _).mp hnot
    exact s.issue_seq e 8 _ (s.eng e) 1 ⟨hI, hpc⟩ rfl fun l => if_neg hb

theorem dbnz_jumps {e : Fin 9} {w : DbnzArgs} {s : State} (hI : (s.eng e).canIssue = true) (hw : w.legal = true) (h : (s.eng e).getG w.ga ≠ 1) :
    Answers (.dbnz e w) s fun t =>
      EngBecomes s t e { ((s.eng e).setG w.ga ((s.eng e).getG w.ga - 1)) with cyc := (s.eng e).cyc + 2, pc := w.tgt.toNat } := by
  refine ⟨_, rfl, ?_⟩
  rw [hw]
  exact s.issue_jump e 9 _ _ 2 _ hI fun l => if_neg (sub_ne_zero.mpr h)

theorem dbnz_ends {e : Fin 9} {w : DbnzArgs} {s : State} (hI : Issues s e) (hw : w.legal = true) (h : (s.eng e).getG w.ga = 1) :
    Answers (.dbnz e w) s fun t => EngBecomes s t e { ((s.eng e).setG w.ga 0) with cyc := (s.eng e).cyc + 1, pc := (s.eng e).pc + 1 } := by
  have h0 : (s.eng e).getG w.ga - 1 = 0 := sub_eq_zero.mpr h
  refine ⟨_, rfl, ?_⟩
  rw [hw, ← h0]
  exact s.issue_seq e 9 _ _ 1 hI rfl fun l => if_pos h0

/-- Table 5-10 and DBNZ: the part of O6 on branches. -/
theorem branchConditions : Rules.BranchConditions := by
  refine ⟨fun e w s hI hw => ⟨_, rfl, ?_⟩, branchResult_of _ (fun _ _ _ => rfl) fun _ _ => beq_iff_eq,
    branchResult_of _ (fun _ _ _ => rfl) fun _ _ => bne_iff_ne, branchResult_of _ (fun _ _ _ => rfl) fun _ _ => BitVec.ult_iff_lt.trans Iff.rfl,
    branchResult_of _ (fun _ _ _ => rfl) fun a b => ?_, branchResult_of _ (fun _ _ _ => rfl) fun a b => ?_,
    branchResult_of _ (fun _ _ _ => rfl) fun a b => ?_, branchResult_of _ (fun _ _ _ => rfl) fun _ _ => bne_iff_ne,
    branchResult_of _ (fun _ _ _ => rfl) fun _ _ => beq_iff_eq, fun e w s hI hw => ⟨dbnz_jumps hI hw, fun h hpc => dbnz_ends ⟨hI, hpc⟩ hw h⟩⟩
  · rw [hw]
    exact s.issue_jump e 8 _ (s.eng e) 2 _ hI fun l => rfl
  · simp [BitVec.ult]
  · exact BitVec.slt_iff_toInt_lt
  · simp [BitVec.slt]

/-- Table 5-8: the part of O6 on CALL and RET. -/
theorem callAndReturn : Rules.CallAndReturn := by
  refine ⟨fun e w s hI hw hroom => ⟨_, rfl, ?_⟩, fun e w s a r hI hw hstack => ⟨_, rfl, ?_⟩⟩ <;> rw [hw]
  · exact s.issue_jump e 0x0A _ { s.eng e with stack := ((s.eng e).pc + 1) % 4096 :: (s.eng e).stack } 2 _ hI fun l => if_neg (Nat.not_le.mpr hroom)
  · refine s.issue_jump e 0x0B _ { s.eng e with stack := r } 2 a hI fun l => ?_
    simp only [retRes, hstack]

/-- Settles O6: each of them goes on at the next address or at one of its own (`State.issue_seq`, `State.issue_jump`). -/
theorem controlFlow : Obligations.ControlFlow := ⟨branchConditions, callAndReturn⟩

end Sys2Proof.Machine
end

section
/-! ## Actions that are put on the list (R147, R158, Table 5-11) -/

namespace Sys2Proof.Machine

/-- An instruction is tagged only where its engine is sampled and has no tagged action in flight (R403). -/
theorem State.sampleIssue_tag (s : State) (e op : Nat) (h : (s.eng e).tagged = true ∨ s.sampling e = false) : (s.sampleIssue e op).2 = none := by
  unfold State.sampleIssue
  rcases h with h | h
  · cases hs : s.sampling e <;> simp [h]
  · simp [h]

/-- Parts that the issue of an instruction leaves. -/
theorem State.sampleIssue_of_unsampled (s : State) (e op : Nat) (h : s.sampling e = false) : (s.sampleIssue e op).1 = s := by
  unfold State.sampleIssue
  simp [h]

/-- A permitted action that the list has room for, within the period and on a port that is present, is put at the end of the list. -/
theorem State.issueAct_lists (s : State) (e : Fin 9) (op : Nat) (port : Option Nat) (off : Engine → Nat) (k : ActKind) (hI : Issues s e)
    (hroom : (s.eng e).filling.length < 1024) (hoff : off (s.eng e) / 64 + 1 ≤ s.periodNs) (hport : ∀ p, port = some p → s.absent p = false) :
    ∃ tag, ((s.eng e).tagged = true ∨ s.sampling e = false → tag = none) ∧
      EngBecomes s (s.issueAct e op true true port off k) e
        { s.eng e with cyc := (s.eng e).cyc + 1, pc := (s.eng e).pc + 1, filling := (s.eng e).filling ++ [⟨off (s.eng e), k, false, tag⟩] } := by
  obtain ⟨hc, hp⟩ := hI
  refine ⟨(s.sampleIssue e op).2, s.sampleIssue_tag e op, ?_⟩
  obtain ⟨l, hl⟩ := s.sampleIssue_eng e op
  unfold State.issueAct
  simp only [hc, Bool.not_true, Bool.false_eq_true, if_false]
  rw [if_neg (Nat.not_le.mpr hroom), if_neg (by omega), if_neg]
  case hnc =>
    split
    next p => simp [hport p rfl]
    next => exact Bool.false_ne_true
  unfold State.advance
  simp only [hl, State.eng_setEng_same]
  rw [if_neg hp]
  refine ⟨⟨l, (s.eng e).tagged || (s.sampleIssue e op).2.isSome, ?_⟩, fun j hj => ?_, ?_, fun hs => ?_⟩
  · rw [State.eng_setEng_same]
  · rw [State.eng_setEng_ne _ hj, State.eng_setEng_ne _ hj, State.eng_setEng_ne _ hj, s.sampleIssue_other e op j hj]
  · exact OnlyEng.eq ((((OnlyEng.sampleIssue s e op).trans (OnlyEng.setEng _ _ _)).trans (OnlyEng.setEng _ _ _)).trans (OnlyEng.setEng _ _ _))
  · rw [s.sampleIssue_of_unsampled e op hs]
    simp only [State.setEng_regs, State.setEng_pcie, State.setEng_out, and_self]

theorem actionIssued_of {s : State} {e : Fin 9} {c : Instr} {op : Nat} {legal ok : Bool} {port : Option Nat} {off : Engine → Nat} {k : ActKind} (hI : Issues s e)
    (hexec : exec c s = .next (s.issueAct e op legal ok port off k)) (hlegal : legal = true) (hok : ok = true) : ActionIssued s e c port (off (s.eng e)) k := by
  intro hroom hoff hport
  subst hlegal hok
  obtain ⟨tag, htag, hbecomes⟩ := s.issueAct_lists e op port off k hI hroom hoff hport
  exact ⟨_, hexec, tag, htag, hbecomes⟩

/-- Settles O8: an action that its engine may issue is put on the list (`State.issueAct_lists`). -/
theorem actionsAreListed : Obligations.ActionsAreListed := by
  intro e s hI
  refine ⟨fun w hw hp => ?_, fun w hw => ?_, fun w hw hp => ?_, fun w hw hp => ?_, fun w hw he => ?_, fun w hw => ?_, fun w hw => ?_, fun w hw he => ?_⟩
  · exact actionIssued_of (off := fun E => E.actOff w.orr w.go w.off) hI rfl hw (beq_iff_eq.mpr hp)
  · exact actionIssued_of (off := fun E => E.actOff w.orr w.go w.off) hI rfl hw rfl
  · exact actionIssued_of (off := fun E => E.actOff w.orr w.go w.off) hI rfl hw (beq_iff_eq.mpr hp)
  · refine actionIssued_of (off := fun E => E.actOff w.orr w.go w.off) hI rfl hw ?_
    rcases hp with rfl | hp
    · rfl
    · simp [ownPort, hp]
  · exact actionIssued_of (off := fun E => E.toutOff w) hI rfl hw (he ▸ rfl)
  · exact actionIssued_of (off := fun E => E.actOff w.orr w.go w.off) hI rfl hw rfl
  · exact actionIssued_of (off := fun E => E.actOff w.orr w.go w.off) hI rfl hw rfl
  · exact actionIssued_of (off := fun E => E.actOff w.orr w.go w.off) hI rfl hw (he ▸ rfl)

end Sys2Proof.Machine
end

section
/-! ## Engines set one after another, and swap requests (R153) -/

namespace Sys2Proof.Machine

/-- `t` differs from `s` in engines only. -/
def OnlyEngines (s t : State) : Prop := ∃ en, t = { s with engines := en }

theorem OnlyEngines.refl (s : State) : OnlyEngines s s := ⟨_, rfl⟩
theorem OnlyEngines.trans {s t u : State} (h : OnlyEngines s t) (k : OnlyEngines t u) : OnlyEngines s u := by
  obtain ⟨en, rfl⟩ := h
  obtain ⟨en', rfl⟩ := k
  exact ⟨en', rfl⟩
theorem OnlyEngines.setEng (s : State) (e : Nat) (E : Engine) : OnlyEngines s (s.setEng e E) := ⟨_, rfl⟩
theorem OnlyEngines.eq {s t : State} (h : OnlyEngines s t) : t = { s with engines := t.engines } := by
  obtain ⟨en, rfl⟩ := h
  rfl
theorem OnlyEngines.tb {s t : State} (h : OnlyEngines s t) : t.tb = s.tb := by
  obtain ⟨en, rfl⟩ := h
  rfl

/-- In every state that differs from `s` in engines only, `f` sets engine e to what `φ` makes of it, or leaves all as it is where `φ` leaves
the engine. -/
def SetsEngine (s : State) (f : State → Nat → State) (φ : Nat → Engine → Engine) : Prop :=
  ∀ u e, OnlyEngines s u → f u e = u.setEng e (φ e (u.eng e)) ∨ (f u e = u ∧ φ e (u.eng e) = u.eng e)

variable {s u : State} {f : State → Nat → State} {φ : Nat → Engine → Engine}

/-- One engine is set, and nothing else. -/
theorem SetsEngine.step (h : SetsEngine s f φ) (hu : OnlyEngines s u) (e : Nat) :
    OnlyEngines s (f u e) ∧ (f u e).eng e = φ e (u.eng e) ∧ ∀ k, k ≠ e → (f u e).eng k = u.eng k := by
  rcases h u e hu with h | ⟨h, hφ⟩ <;> rw [h]
  · exact ⟨hu.trans (.setEng u _ _), State.eng_setEng_same _ _ _, fun k hk => State.eng_setEng_ne _ hk _⟩
  · exact ⟨hu, hφ.symm, fun _ _ => rfl⟩

/-- Each engine of a list is set once, and nothing else. -/
theorem SetsEngine.foldl (h : SetsEngine s f φ) {l : List Nat} (hl : l.Nodup) (hu : OnlyEngines s u) :
    OnlyEngines s (l.foldl f u) ∧ ∀ e, (l.foldl f u).eng e = if e ∈ l then φ e (u.eng e) else u.eng e := by
  induction l generalizing u with
  | nil => exact ⟨hu, fun e => (if_neg List.not_mem_nil).symm⟩
  | cons k l ih =>
    obtain ⟨hk, hl⟩ := List.nodup_cons.mp hl
    obtain ⟨hstep, hsame, hother⟩ := h.step hu k
    obtain ⟨hfold, heng⟩ := ih hl hstep
    refine ⟨hfold, fun e => (heng e).trans ?_⟩
    by_cases he : e = k
    · subst he
      rw [if_neg hk, hsame, if_pos List.mem_cons_self]
    · rw [hother e he]
      simp [he]

/-- Each of the nine engines is set once, and nothing else. -/
theorem SetsEngine.nine (h : SetsEngine s f φ) :
    OnlyEngines s ((List.range 9).foldl f s) ∧ ∀ e < 9, ((List.range 9).foldl f s).eng e = φ e (s.eng e) := by
  obtain ⟨honly, heng⟩ := h.foldl (List.nodup_range (n := 9)) (.refl s)
  exact ⟨honly, fun e he => (heng e).trans (if_pos (List.mem_range.mpr he))⟩

/-- What a request makes of an engine. -/
def Engine.swapRequested (v : Word) (tb e : Nat) (E : Engine) : Engine :=
  if v.getLsbD e = true ∧ E.swap = none then { E with swap := some tb } else E

theorem setsEngine_swapReq (v : Word) (s : State) :
    SetsEngine s (fun s e => if v.getLsbD e then s.swapReq e else s) (Engine.swapRequested v s.tb) := by
  intro u e hu
  unfold State.swapReq Engine.swapRequested
  rw [← hu.tb]
  beta_reduce
  cases v.getLsbD e
  · simp
  · cases (u.eng e).swap <;> simp

/-- Settles O10: the engines are set one after another (`SetsEngine.nine`), each as the request makes of it. -/
theorem swapRequests : Obligations.SwapRequests := by
  intro v s
  obtain ⟨honly, heng⟩ := (setsEngine_swapReq v s).nine
  refine ⟨_, rfl, fun e he => ⟨fun hv hn => (heng e he).trans (if_pos ⟨hv, hn⟩), fun hno => (heng e he).trans (if_neg ?_)⟩, honly.eq⟩
  rintro ⟨hv, hn⟩
  rcases hno with hno | hno
  · exact Bool.false_ne_true (hno.symm.trans hv)
  · exact hno hn

end Sys2Proof.Machine
end

section
/-! ## Runs that stop: faults, overruns and the clearing of a fault (R146, R156, R159, R160, Table 5-13) -/

namespace Sys2Proof.Machine

variable {s t u : State} {e : Nat}

/-- A field's value is a matter of its word. -/
theorem rd_of_reg_eq {f : Fld} (h : t.reg f.addr = s.reg f.addr) : t.rd f = s.rd f := congrArg f.get h

theorem bit_of_reg_eq {f : Fld} (h : t.reg f.addr = s.reg f.addr) : t.bit f = s.bit f := congrArg (· == 1) (rd_of_reg_eq h)

/-! ### The counters of an engine -/

theorem reg_overflowed_ne {c : Ctr} {a : Nat} (hsticky : a ≠ c.sticky.addr) (hhub : a ≠ A.HUB_STAT) (hbelow : a < 0x8003800) :
    (s.overflowed c).reg a = s.reg a := by
  unfold State.overflowed
  extract_lets s1
  have h1 : s1.reg a = s.reg a := s.reg_setBit_ne hsticky true
  split
  · exact (reg_syncVec_ne hbelow 7).trans ((s1.reg_setBit_ne (f := R.HUB_STAT_WRAP) hhub true).trans h1)
  · exact h1

/-- An engine's counter of one word is that word. -/
theorem ctr_eng {k : Nat} (hk : k ≠ 0) (s : State) (e : Nat) : s.ctr (.eng e k) = (s.reg (Ctr.eng e k).lo.addr).toNat := by
  have hlt := (s.reg (Ctr.eng e k).lo.addr).isLt
  have hhi : s.rd (ctrHi (.eng e k)) = 0 := by simp [State.rd, Fld.get, ctrHi, Ctr.eng, hk, Nat.mod_one]
  have hlo : s.rd (Ctr.eng e k).lo = (s.reg (Ctr.eng e k).lo.addr).toNat / 2 ^ 0 % 2 ^ 32 := rfl
  unfold State.ctr
  omega

theorem ctr_setCtr_eng {k v : Nat} (hk : k ≠ 0) (hv : v < 4294967296) (s : State) (e : Nat) : (s.setCtr (.eng e k) v).ctr (.eng e k) = v := by
  have hset : s.setCtr (.eng e k) v = s.wr (Ctr.eng e k).lo v := by
    unfold State.setCtr
    rw [if_pos (by simp [Ctr.eng, hk]), Nat.mod_eq_of_lt hv]
  have hrd : (s.wr (Ctr.eng e k).lo v).rd (Ctr.eng e k).lo = v := rd_wr_of_lt (f := (Ctr.eng e k).lo) (Nat.le_refl 32) hv
  have hlo : (s.wr (Ctr.eng e k).lo v).rd (Ctr.eng e k).lo = ((s.wr (Ctr.eng e k).lo v).reg (Ctr.eng e k).lo.addr).toNat / 2 ^ 0 % 2 ^ 32 := rfl
  have hlt := ((s.wr (Ctr.eng e k).lo v).reg (Ctr.eng e k).lo.addr).isLt
  rw [hset, ctr_eng hk]
  omega

theorem ctr_overflowed_eng {k : Nat} (hk : k ≠ 0) (hk' : k < 11) (he : e < 9) : (s.overflowed (.eng e k)).ctr (.eng e k) = s.ctr (.eng e k) := by
  rw [ctr_eng hk, ctr_eng hk, reg_overflowed_ne] <;>
  · simp only [Ctr.eng, if_neg hk, A.HUB_STAT]
    split <;> omega

/-- A saturating counter of an engine counts one, up to its largest value (R389). -/
theorem ctr_count_eng {k : Nat} (hk : k ≠ 0) (hk' : k < 11) (he : e < 9) :
    (s.count (.eng e k)).ctr (.eng e k) = min (s.ctr (.eng e k) + 1) 0xFFFFFFFF := by
  have hsat : (Ctr.eng e k).sat = true := by simpa [Ctr.eng] using hk
  have hlimit : ctrLimit (.eng e k) - 1 = 0xFFFFFFFF := by simp [ctrLimit, Ctr.eng, hk]
  have hle : s.ctr (.eng e k) ≤ 0xFFFFFFFF := by
    have := (s.reg (Ctr.eng e k).lo.addr).isLt
    rw [ctr_eng hk]
    omega
  unfold State.count State.countBy
  simp only [hsat, hlimit, Nat.one_ne_zero, if_true, if_false]
  split
  next hmax => omega
  · split
    · rw [ctr_overflowed_eng hk hk' he, ctr_setCtr_eng hk (by omega)]
      omega
    · rw [ctr_setCtr_eng hk (by omega)]
      omega

/-! ### What sampling leaves -/

theorem reg_putSample {a : Nat} (ha : a < 0x6000000) (ws : List Word) : (s.putSample ws).reg a = s.reg a := by
  unfold State.putSample
  extract_lets size wr
  split
  · rfl
  · split
    · refine reg_countBy_ne ?_ ?_ ?_ ?_ (by omega) <;>
      · simp only [Ctr.smpLost, R.SMP_LOST_COUNT, A.HUB_STICKY, A.HUB_STAT]
        omega
    · exact s.reg_wr_ne (f := R.SMP_WR_INDEX) (by simp only [R.SMP_WR_INDEX]; omega) _

/-- What sampling leaves: of engine e all but whether a tagged action is in flight, every other engine, and the registers below the hub's. -/
structure Sampled (e : Nat) (s t : State) : Prop where
  self : ∃ g, t.eng e = { s.eng e with tagged := g }
  other : ∀ k, k ≠ e → t.eng k = s.eng k
  reg : ∀ a < 0x6000000, t.reg a = s.reg a

theorem Sampled.refl (e : Nat) (s : State) : Sampled e s s := ⟨⟨_, rfl⟩, fun _ _ => rfl, fun _ _ => rfl⟩

theorem Sampled.trans (h : Sampled e s t) (k : Sampled e t u) : Sampled e s u := by
  obtain ⟨g, hg⟩ := h.self
  obtain ⟨g', hg'⟩ := k.self
  exact ⟨⟨g', by rw [hg', hg]⟩, fun j hj => (k.other j hj).trans (h.other j hj), fun a ha => (k.reg a ha).trans (h.reg a ha)⟩

theorem sampled_putSample (e : Nat) (s : State) (ws : List Word) : Sampled e s (s.putSample ws) where
  self := ⟨_, (OnlyBus.putSample s ws).eng e⟩
  other k _ := (OnlyBus.putSample s ws).eng k
  reg _ ha := reg_putSample ha ws

theorem sampled_sampleDone (e : Nat) (s : State) (t : Option Tag) : Sampled e s (s.sampleDone e t) := by
  cases t with
  | none => exact .refl e s
  | some t => exact sampled_putSample e s _

theorem sampled_sampleAct (e : Nat) (s : State) (a : Act) (disc : Option Nat) (x : Int) : Sampled e s (s.sampleAct e a disc x) := by
  unfold State.sampleAct
  split
  · exact .refl e s
  · have htag : Sampled e s (s.setEng e { s.eng e with tagged := false }) :=
      ⟨⟨false, State.eng_setEng_same _ _ _⟩, fun k hk => State.eng_setEng_ne _ hk _, fun _ _ => rfl⟩
    exact htag.trans (sampled_putSample e _ _)

theorem sampled_sampleDiscard (e : Nat) (s : State) (c : Nat) (l : List Act) : Sampled e s (s.sampleDiscard e c l) := by
  unfold State.sampleDiscard
  induction l generalizing s with
  | nil => exact .refl e s
  | cons a l ih => exact (sampled_sampleAct e s a _ _).trans (ih _)

/-! ### A run that stops -/

/-- The words of engine e that stopping its run may write, and every word from the hub's on. -/
structure KeptByStop (e a : Nat) : Prop where
  below : a < 0x6000000
  maxcyc : a ≠ A.ENG_MAXCYC e
  discarded : a ≠ (Ctr.eng e 3).lo.addr
  above : a ≠ (Ctr.eng e 3).lo.addr + 4
  sticky : a ≠ (Ctr.eng e 3).sticky.addr

/-- What a stopped run leaves: its registers are those at its start, its actions, PUT writes and stack are gone. -/
structure Stopped (e : Nat) (s t : State) : Prop where
  self : ∃ g, t.eng e = { s.eng e with running := false, filling := [], puts := [], g := (s.eng e).gSave, stack := [], ovr := true, tagged := g }
  other : ∀ k, k ≠ e → t.eng k = s.eng k
  reg : ∀ a, KeptByStop e a → t.reg a = s.reg a

theorem stopped_abandonRun (s : State) (e cyc : Nat) : Stopped e s (s.abandonRun e cyc) := by
  unfold State.abandonRun
  extract_lets E s1 E1
  have hd : Sampled e s (s.sampleDiscard e 1 E.filling) := sampled_sampleDiscard e s 1 _
  obtain ⟨g, hg⟩ := hd.self
  have heng : ∀ k, s1.eng k = (s.sampleDiscard e 1 E.filling).eng k := fun k => by
    rw [← (OnlyBus.countBy (s.sampleDiscard e 1 E.filling) (.eng e 3) E.filling.length).eng k]
    unfold s1 State.noteCyc
    split
    · exact State.wr_eng _ _ _ k
    · rfl
  have hreg : ∀ a, KeptByStop e a → s1.reg a = s.reg a := fun a ha => by
    obtain ⟨hbelow, hmax, hlo, hhi, hsticky⟩ := ha
    have hcount : ((s.sampleDiscard e 1 E.filling).countBy (.eng e 3) E.filling.length).reg a = s.reg a :=
      (reg_countBy_ne hlo hhi hsticky (by simp only [A.HUB_STAT]; omega) (by omega)).trans (hd.reg a hbelow)
    rw [← hcount]
    unfold s1 State.noteCyc
    split
    · exact State.reg_wr_ne _ hmax _
    · rfl
  have hself : E1 = { s.eng e with tagged := g } := (heng e).trans hg
  refine ⟨⟨g, ?_⟩, fun k hk => ?_, fun a ha => (State.setEng_reg s1 e _ a).trans (hreg a ha)⟩
  · rw [State.eng_setEng_same, hself]
  · rw [State.eng_setEng_ne _ hk, heng, hd.other k hk]

theorem keptByStop_out {k : Nat} (he : e < 9) (hk : k < 4) : KeptByStop e (A.ENG_OUT e k) := by
  constructor <;> simp only [A.ENG_OUT, A.ENG_MAXCYC, Ctr.eng] <;> omega

theorem keptByStop_ctrl (he : e < 9) : KeptByStop e (A.ENG_CTRL e) := by
  constructor <;> simp only [A.ENG_CTRL, A.ENG_MAXCYC, Ctr.eng] <;> omega

theorem keptByStop_overruns (he : e < 9) : KeptByStop e (Ctr.eng e 1).lo.addr := by
  constructor <;> simp [A.ENG_MAXCYC, Ctr.eng] <;> omega

/-- An increment of a counter of engine e leaves every word outside the engine's counters and below the hub's. -/
theorem reg_count_eng {k a : Nat} (ha : a < 0x50010C0 + 0x100 * e) (he : e < 9) : (s.count (.eng e k)).reg a = s.reg a := by
  refine reg_countBy_ne ?_ ?_ ?_ ?_ (by omega) <;>
  · simp only [Ctr.eng, A.HUB_STAT]
    omega

/-! ### Faults (R160) -/

/-- The three fields of `ENG_STAT` that a fault writes lie apart from each other. -/
theorem engStat_of_fault (s : State) (e fpc : Nat) {code : Nat} (hcode : code < 16) {t : State}
    (ht : t.reg (A.ENG_STAT e) = (((s.setBit (R.ENG_STAT_FAULT e) true).wr (R.ENG_STAT_FCODE e) code).wr (R.ENG_STAT_FPC e) fpc).reg (A.ENG_STAT e)) :
    t.bit (R.ENG_STAT_FAULT e) = true ∧ t.rd (R.ENG_STAT_FCODE e) = code ∧ t.rd (R.ENG_STAT_FPC e) = fpc % 4096 := by
  have hrd : ∀ f : Fld, f.addr = A.ENG_STAT e →
      t.rd f = (((s.setBit (R.ENG_STAT_FAULT e) true).wr (R.ENG_STAT_FCODE e) code).wr (R.ENG_STAT_FPC e) fpc).rd f := fun f hf => by
    exact rd_of_reg_eq (hf ▸ ht)
  refine ⟨?_, ?_, ?_⟩
  · unfold State.bit
    rw [hrd _ rfl, State.rd_wr_disjoint (f := R.ENG_STAT_FPC e) (g := R.ENG_STAT_FAULT e) _ rfl (by decide : 16 + 12 ≤ 32) (.inr (by decide : 2 + 1 ≤ 16)),
      State.rd_wr_disjoint (f := R.ENG_STAT_FCODE e) (g := R.ENG_STAT_FAULT e) _ rfl (by decide : 4 + 4 ≤ 32) (.inr (by decide : 2 + 1 ≤ 4))]
    exact State.bit_setBit_same s (R.ENG_STAT_FAULT e) rfl (by decide : 2 < 32) true
  · rw [hrd _ rfl, State.rd_wr_disjoint (f := R.ENG_STAT_FPC e) (g := R.ENG_STAT_FCODE e) _ rfl (by decide : 16 + 12 ≤ 32) (.inr (by decide : 4 + 4 ≤ 16))]
    exact rd_wr_of_lt (f := R.ENG_STAT_FCODE e) (by decide : 4 + 4 ≤ 32) hcode
  · rw [hrd _ rfl]
    exact State.rd_wr_same _ (R.ENG_STAT_FPC e) (by decide : 16 + 12 ≤ 32) fpc

/-- What a fault leaves of the state in which it comes. -/
structure Faulted (e code fpc : Nat) (s t : State) : Prop where
  self : ∃ g, t.eng e = { s.eng e with running := false, filling := [], puts := [], g := (s.eng e).gSave, stack := [], ovr := true, tagged := g,
                                       held := if s.bit (R.ENG_CTRL_FAULT_RESTART e) then (s.eng e).held else true }
  other : ∀ k, k ≠ e → t.eng k = s.eng k
  out : ∀ k < 4, t.reg (A.ENG_OUT e k) = s.reg (A.ENG_OUT e k)
  fault : t.bit (R.ENG_STAT_FAULT e) = true
  code : t.rd (R.ENG_STAT_FCODE e) = code
  fpc : t.rd (R.ENG_STAT_FPC e) = fpc % 4096

theorem faulted_engFault (s : State) {e code : Nat} (he : e < 9) (hcode : code < 16) (fpc : Nat) : Faulted e code fpc s (s.engFault e code fpc) := by
  unfold State.engFault
  extract_lets s1 s2 E2 s3
  have hstop := stopped_abandonRun s e (s.eng e).cyc
  obtain ⟨g, hg⟩ := hstop.self
  have heng2 : ∀ k, s2.eng k = (s.abandonRun e (s.eng e).cyc).eng k := fun k => by
    unfold s2
    rw [State.wr_eng, State.wr_eng, State.setBit_eng]
    exact (OnlyBus.count (s.abandonRun e (s.eng e).cyc) (.eng e 2)).eng k
  have hreg2 : ∀ a, KeptByStop e a → a < 0x50010C0 + 0x100 * e → a ≠ A.ENG_STAT e → s2.reg a = s.reg a := fun a ha hlow hne =>
    (((State.reg_wr_ne _ (f := R.ENG_STAT_FPC e) hne _).trans (State.reg_wr_ne _ (f := R.ENG_STAT_FCODE e) hne _)).trans
      (State.reg_setBit_ne _ (f := R.ENG_STAT_FAULT e) hne _)).trans ((reg_count_eng hlow he).trans (hstop.reg a ha))
  have hrestart : s2.bit (R.ENG_CTRL_FAULT_RESTART e) = s.bit (R.ENG_CTRL_FAULT_RESTART e) :=
    bit_of_reg_eq (f := R.ENG_CTRL_FAULT_RESTART e)
      (hreg2 (A.ENG_CTRL e) (keptByStop_ctrl he) (by unfold A.ENG_CTRL; omega) (by unfold A.ENG_CTRL A.ENG_STAT; omega))
  have hreg3 : ∀ a, s3.reg a = s2.reg a := fun a => by
    unfold s3
    split
    · rfl
    · exact State.setEng_reg s2 e _ a
  have hother3 : ∀ k, k ≠ e → s3.eng k = s.eng k := fun k hk => by
    refine Eq.trans ?_ ((heng2 k).trans (hstop.other k hk))
    unfold s3
    split
    · rfl
    · exact State.eng_setEng_ne s2 hk _
  have hself3 : s3.eng e =
      { s.eng e with running := false, filling := [], puts := [], g := (s.eng e).gSave, stack := [], ovr := true, tagged := g,
                     held := if s.bit (R.ENG_CTRL_FAULT_RESTART e) then (s.eng e).held else true } := by
    unfold s3
    rw [hrestart]
    split
    · rw [heng2, hg]
    · rw [State.eng_setEng_same]
      unfold E2
      rw [heng2, hg]
  have hstat : s3.reg (A.ENG_STAT e) = _ := hreg3 (A.ENG_STAT e)
  clear_value s3
  have hsync := OnlyBus.syncVec s3 (48 + e)
  have hregs : ∀ a < 0x8003800, (s3.syncVec (48 + e)).reg a = s3.reg a := fun a ha => reg_syncVec_ne ha _
  obtain ⟨hfault, hfcode, hfpc⟩ := engStat_of_fault s1 e fpc hcode ((hregs (A.ENG_STAT e) (by unfold A.ENG_STAT; omega)).trans hstat)
  refine ⟨⟨g, (hsync.eng e).trans hself3⟩, fun k hk => (hsync.eng k).trans (hother3 k hk), fun k hk => ?_, hfault, hfcode, hfpc⟩
  rw [hregs _ (by unfold A.ENG_OUT; omega), hreg3]
  exact hreg2 _ (keptByStop_out he hk) (by unfold A.ENG_OUT; omega) (by unfold A.ENG_OUT A.ENG_STAT; omega)

/-- What a fault of the run of engine e reads of a state is what it would read of `s`. -/
structure InRun (e : Nat) (s u : State) : Prop where
  gSave : (u.eng e).gSave = (s.eng e).gSave
  pendList : (u.eng e).pendList = (s.eng e).pendList
  exec : (u.eng e).exec = (s.eng e).exec
  held : (u.eng e).held = (s.eng e).held
  other : ∀ k, k ≠ e → u.eng k = s.eng k
  reg : ∀ a < 0x6000000, u.reg a = s.reg a

theorem InRun.refl (e : Nat) (s : State) : InRun e s s := ⟨rfl, rfl, rfl, rfl, fun _ _ => rfl, fun _ _ => rfl⟩

theorem InRun.sampled (h : InRun e s t) (k : Sampled e t u) : InRun e s u := by
  obtain ⟨g, hg⟩ := k.self
  refine ⟨?_, ?_, ?_, ?_, fun j hj => (k.other j hj).trans (h.other j hj), fun a ha => (k.reg a ha).trans (h.reg a ha)⟩
  · rw [hg]; exact h.gSave
  · rw [hg]; exact h.pendList
  · rw [hg]; exact h.exec
  · rw [hg]; exact h.held

/-- A change of engine e that keeps the fields concerned. -/
theorem InRun.setEng (h : InRun e s t) {E : Engine} (hgSave : E.gSave = (t.eng e).gSave) (hpend : E.pendList = (t.eng e).pendList) (hexec : E.exec = (t.eng e).exec)
    (hheld : E.held = (t.eng e).held) : InRun e s (t.setEng e E) := by
  refine ⟨?_, ?_, ?_, ?_, fun j hj => (State.eng_setEng_ne _ hj _).trans (h.other j hj), fun a ha => (State.setEng_reg t e _ a).trans (h.reg a ha)⟩ <;>
    rw [State.eng_setEng_same]
  · exact hgSave.trans h.gSave
  · exact hpend.trans h.pendList
  · exact hexec.trans h.exec
  · exact hheld.trans h.held

theorem inRun_sampleIssue (s : State) (e op : Nat) : InRun e s (s.sampleIssue e op).1 := by
  rcases s.sampleIssue_cases e op with ⟨_, h⟩ | ⟨_, l, h⟩
  · rw [h]
    exact .refl e s
  · rw [h]
    exact (InRun.refl e s).setEng rfl rfl rfl rfl

/-- A command that ends in a fault of engine e's run, whatever it did to the run before. -/
theorem runFaults_of {c : Instr} {e : Fin 9} {code fpc : Nat} (hu : InRun e s u) (hcode : code < 16) (hfpc : fpc % 4096 = (s.eng e).pc % 4096)
    (hexec : exec c s = .next (u.engFault e code fpc)) : RunFaults c s e code := by
  obtain ⟨⟨g, hself⟩, hother, hout, hfault, hfcode, hfp⟩ := faulted_engFault u e.isLt hcode fpc
  refine ⟨_, hexec, ⟨?_, ?_, ?_, ?_, ?_, ?_, ?_, ?_, fun k hk => (hother k hk).trans (hu.other k hk), fun k hk => (hout k hk).trans (hu.reg _ ?_)⟩,
    hfault, hfcode, hfp.trans hfpc, ?_⟩
  case refine_9 => unfold A.ENG_OUT; omega
  all_goals rw [hself]
  · exact hu.gSave
  · exact hu.pendList
  · exact hu.exec
  · dsimp only
    rw [hu.held, bit_of_reg_eq (f := R.ENG_CTRL_FAULT_RESTART e) (hu.reg _ (by simp only [R.ENG_CTRL_FAULT_RESTART]; omega))]

/-! ### Which words and actions fault (Table 5-13) -/

section
variable {c : Instr} {e : Fin 9} {op : Nat} (hI : (s.eng e).canIssue = true)
include hI

theorem runFaults_illegal {legal : Bool} {f : Engine → EngRes} (hlegal : legal = false) (hexec : exec c s = .next (s.issue e op legal f)) : RunFaults c s e 2 := by
  refine runFaults_of (.refl e s) (by decide) rfl (hexec.trans ?_)
  simp [State.issue, hI, hlegal]

theorem runFaults_illegalAct {legal ok : Bool} {port : Option Nat} {off : Engine → Nat} {k : ActKind} (hlegal : legal = false)
    (hexec : exec c s = .next (s.issueAct e op legal ok port off k)) : RunFaults c s e 2 := by
  refine runFaults_of (.refl e s) (by decide) rfl (hexec.trans ?_)
  simp [State.issueAct, hI, hlegal]

theorem runFaults_forbidden {legal ok : Bool} {port : Option Nat} {off : Engine → Nat} {k : ActKind} (hlegal : legal = true) (hok : ok = false)
    (hexec : exec c s = .next (s.issueAct e op legal ok port off k)) : RunFaults c s e 3 := by
  refine runFaults_of (.refl e s) (by decide) rfl (hexec.trans ?_)
  simp [State.issueAct, hI, hlegal, hok]

/-- An instruction that finds a fault once it is issued. -/
theorem runFaults_found {legal : Bool} {f : Engine → EngRes} {code : Nat} (hcode : code < 16) (hlegal : legal = true)
    (hf : ∀ l, f { s.eng e with lfsr := l } = .fault code) (hexec : exec c s = .next (s.issue e op legal f)) : RunFaults c s e code := by
  refine runFaults_of (inRun_sampleIssue s e op) hcode rfl (hexec.trans ?_)
  obtain ⟨l, hl⟩ := s.sampleIssue_eng e op
  simp only [State.issue, hI, hlegal, hl, hf, Bool.not_true, Bool.false_eq_true, if_false]

/-- An instruction at the last word that goes on at the next address. -/
theorem runFaults_past {legal : Bool} {f : Engine → EngRes} {E : Engine} {n : Nat} (hlegal : legal = true) (hlast : (s.eng e).pc = 4095)
    (hf : ∀ l, f { s.eng e with lfsr := l } = .seq { E with lfsr := l } n) (hpc : E.pc = (s.eng e).pc) (hgSave : E.gSave = (s.eng e).gSave)
    (hpend : E.pendList = (s.eng e).pendList) (hex : E.exec = (s.eng e).exec) (hheld : E.held = (s.eng e).held)
    (hexec : exec c s = .next (s.issue e op legal f)) : RunFaults c s e 6 := by
  obtain ⟨l, hl⟩ := s.sampleIssue_eng e op
  have hset : InRun e s ((s.sampleIssue e op).1.setEng e { E with lfsr := l, cyc := (s.eng e).cyc + n }) :=
    (inRun_sampleIssue s e op).setEng (by rw [hl]; exact hgSave) (by rw [hl]; exact hpend) (by rw [hl]; exact hex) (by rw [hl]; exact hheld)
  have hdone := sampled_sampleDone e ((s.sampleIssue e op).1.setEng e { E with lfsr := l, cyc := (s.eng e).cyc + n }) (s.sampleIssue e op).2
  have hend : ((((s.sampleIssue e op).1.setEng e { E with lfsr := l, cyc := (s.eng e).cyc + n }).sampleDone e (s.sampleIssue e op).2).eng e).pc = 4095 := by
    obtain ⟨g, hg⟩ := hdone.self
    rw [hg, State.eng_setEng_same]
    exact hpc.trans hlast
  refine runFaults_of (hset.sampled hdone) (by decide) (by rw [hlast]) (hexec.trans ?_)
  simp only [State.issue, hI, hlegal, hl, hf, Bool.not_true, Bool.false_eq_true, if_false, State.advance, hend, if_true]

end

/-- Table 5-13: the part of O9 on faults. -/
theorem engineFaults : Rules.EngineFaults := by
  intro e s hI
  refine ⟨fun w hw => ?_, fun w hw => ?_, fun w hw => runFaults_illegal hI hw rfl, fun w hw => runFaults_illegal hI (by simp [GetArgs.legal, hw]) rfl,
    fun w hw => runFaults_illegalAct hI (by simp [GateArgs.legal, hw]) rfl, fun w hw => runFaults_illegalAct hI (by simp [SgateArgs.legal, hw]) rfl,
    fun w hw hp => runFaults_forbidden hI hw (beq_eq_false_iff_ne.mpr hp) rfl, fun w hw hp => runFaults_forbidden hI hw (beq_eq_false_iff_ne.mpr hp) rfl,
    fun w hw he => runFaults_forbidden hI hw ?_ rfl, fun w hw he => runFaults_forbidden hI hw ?_ rfl,
    fun w hw hfull => runFaults_found hI (by decide) hw (fun l => if_pos hfull) rfl,
    fun w hw hempty => runFaults_found hI (by decide) hw (fun l => by simp only [retRes, hempty]) rfl,
    fun w hw hlast => runFaults_past (E := (s.eng e).setG w.gd w.imm) hI hw hlast (fun l => rfl) rfl rfl rfl rfl rfl rfl⟩
  · simp only [List.forall_mem_cons]
    exact ⟨runFaults_illegal hI hw rfl, runFaults_illegal hI hw rfl, runFaults_illegal hI hw rfl, runFaults_illegal hI hw rfl, runFaults_illegal hI hw rfl,
      runFaults_illegal hI hw rfl, runFaults_illegal hI hw rfl, runFaults_illegal hI hw rfl, runFaults_illegal hI hw rfl, runFaults_illegal hI hw rfl,
      runFaults_illegal hI hw rfl, fun _ h => nomatch h⟩
  · simp only [List.forall_mem_cons]
    exact ⟨runFaults_illegal hI hw rfl, runFaults_illegal hI hw rfl, runFaults_illegal hI hw rfl, runFaults_illegal hI hw rfl, runFaults_illegal hI hw rfl,
      runFaults_illegal hI hw rfl, runFaults_illegal hI hw rfl, runFaults_illegal hI hw rfl, fun _ h => nomatch h⟩
  · exact beq_eq_false_iff_ne.mpr fun h => he (Fin.ext h)
  · exact beq_eq_false_iff_ne.mpr fun h => he (Fin.ext h)

/-! ### Overruns and the clearing of a fault (R146, R160) -/

theorem RunStopped.of_stopped {e : Fin 9} (h : Stopped e s u) (heng : ∀ k, t.eng k = u.eng k) (hout : ∀ k < 4, t.reg (A.ENG_OUT e k) = u.reg (A.ENG_OUT e k)) :
    RunStopped s t e ∧ (t.eng e).held = (s.eng e).held := by
  obtain ⟨g, hself⟩ := h.self
  have ht := (heng e).trans hself
  refine ⟨⟨?_, ?_, ?_, ?_, ?_, ?_, ?_, ?_, fun k hk => (heng k).trans (h.other k hk), fun k hk => (hout k hk).trans (h.reg _ (keptByStop_out e.isLt hk))⟩, ?_⟩ <;>
    rw [ht]

/-- R146: the part of O9 on overruns. -/
theorem overrunStopsTheRun : Rules.OverrunStopsTheRun := by
  intro e s
  refine ⟨fun hrun => ⟨_, congrArg Host.Outcome.next (if_pos hrun), ?_⟩, fun hrun => ⟨_, congrArg Host.Outcome.next (if_neg (by simp [hrun])), rfl⟩⟩
  have hstop := stopped_abandonRun s e (s.eng e).budget
  generalize s.abandonRun e (s.eng e).budget = u at hstop
  have hcounted : ∀ k, ((u.count (.eng e 1)).setBit (R.ENG_STAT_OVR e) true).eng k = u.eng k := fun k =>
    (State.setBit_eng _ _ _ k).trans ((OnlyBus.count u (.eng e 1)).eng k)
  have hreg : ∀ a, a ≠ A.ENG_STAT e → ((u.count (.eng e 1)).setBit (R.ENG_STAT_OVR e) true).reg a = (u.count (.eng e 1)).reg a := fun a ha =>
    State.reg_setBit_ne _ (f := R.ENG_STAT_OVR e) ha true
  obtain ⟨hstopped, hheld⟩ := RunStopped.of_stopped (t := (u.count (.eng e 1)).setBit (R.ENG_STAT_OVR e) true) hstop hcounted fun k hk =>
    (hreg _ (by unfold A.ENG_OUT A.ENG_STAT; omega)).trans (reg_count_eng (by unfold A.ENG_OUT; omega) e.isLt)
  refine ⟨hstopped, hheld, State.bit_setBit_same _ (R.ENG_STAT_OVR e) rfl (by decide : 3 < 32) true, ?_⟩
  rw [ctr_eng one_ne_zero, hreg _ (by simp [Ctr.eng, A.ENG_STAT]; omega), ← ctr_eng one_ne_zero,
    ctr_count_eng one_ne_zero (by decide) e.isLt, ctr_eng one_ne_zero, hstop.reg _ (keptByStop_overruns e.isLt),
    ← ctr_eng one_ne_zero]

/-- Judging a vector's line writes the word of its pending bit at most. -/
theorem reg_syncVec_apart {v a : Nat} (ha : a ≠ (pbaFld v).addr) (s : State) : (s.syncVec v).reg a = s.reg a := by
  have hdeliver : ∀ u : State, (u.deliver v).reg a = u.reg a := fun u => by
    unfold State.deliver
    split
    · rfl
    · split <;> exact State.reg_setBit_ne u ha _
  unfold State.syncVec
  extract_lets was p
  split
  · split
    · rfl
    · exact hdeliver _
  · split
    · exact State.reg_setBit_ne _ ha false
    · rfl

theorem pbaFld_addr_eng (he : e < 9) : (pbaFld (48 + e)).addr = 0x8003804 := by
  simp only [pbaFld]
  omega

/-- R160: the part of O9 on the clearing of a fault. -/
theorem faultClearResumes : Rules.FaultClearResumes := by
  intro e s
  refine ⟨_, rfl, ?_⟩
  unfold State.faultClear
  extract_lets E s1
  have hs1 : s1 = if s.bit (R.ENG_STAT_FAULT e) = true ∧ (s.eng e).held = true ∧ s.rd (R.ENG_STAT_FCODE e) ≠ 7 then
      s.setEng e { s.eng e with resumeFrom := some s.tb } else s := by
    simp only [s1, E, Bool.and_eq_true, bne_iff_ne, and_assoc]
  have honly : OnlyEng s s1 := by
    rw [hs1]
    split
    · exact OnlyEng.setEng s _ _
    · exact OnlyEng.refl s
  have hother : ∀ k, k ≠ e.val → s1.eng k = s.eng k := fun k hk => by
    rw [hs1]
    split
    · exact State.eng_setEng_ne s hk _
    · rfl
  have hreg : ∀ a, s1.reg a = s.reg a := fun a => by
    rw [hs1]
    split
    · exact State.setEng_reg s e _ a
    · rfl
  have heng : ∀ k, ((s1.setBit (R.ENG_STAT_FAULT e) false).syncVec (48 + e)).eng k = s1.eng k := fun k =>
    ((OnlyBus.syncVec _ (48 + e)).eng k).trans (State.setBit_eng s1 _ _ k)
  have hstat : A.ENG_STAT e ≠ (pbaFld (48 + e)).addr := by
    rw [pbaFld_addr_eng e.isLt]
    unfold A.ENG_STAT
    omega
  refine ⟨?_, fun hfault hheld hcode => ?_, fun hnot => ?_, fun k hk => (heng k).trans (hother k hk), fun a ha hpba => ?_, ?_⟩
  · exact (bit_of_reg_eq (f := R.ENG_STAT_FAULT e) (reg_syncVec_apart hstat _)).trans
      (State.bit_setBit_same s1 (R.ENG_STAT_FAULT e) rfl (by decide : 2 < 32) false)
  · rw [heng, hs1, if_pos ⟨hfault, hheld, hcode⟩, State.eng_setEng_same]
  · rw [heng, hs1, if_neg]
    rintro ⟨hfault, hheld, hcode⟩
    simp [hfault, hheld, hcode] at hnot
  · rw [reg_syncVec_apart (by rw [pbaFld_addr_eng e.isLt]; exact hpba), State.reg_setBit_ne s1 (f := R.ENG_STAT_FAULT e) ha false, hreg]
  · exact OnlyEng.eq ((honly.trans (OnlyRegs.setBit _ _ _).bus.onlyEng).trans (OnlyBus.syncVec _ _).onlyEng)

/-- Settles O9: a stopped run is undone (`Stopped`), whether a fault or its budget stops it; the rest is what the words of `ENG_STAT` say. -/
theorem engineStops : Obligations.EngineStops := ⟨engineFaults, overrunStopsTheRun, faultClearResumes⟩

end Sys2Proof.Machine
end

section
/-! ## Actions take effect (R148 to R150, Table 5-3) -/

namespace Sys2Proof.Machine

variable {s t u : State} {e : Nat} {a : Act} {rest : List Act}

/-! ### The head of a list is taken -/

/-- Engine e's head action is off the list, and its effect has not come yet. -/
def State.headOff (s : State) (e : Nat) (rest : List Act) : State :=
  s.setEng e { s.eng e with exec := rest, fired := (s.tb, s.firedNow e + 1) }

@[simp] theorem State.headOff_tb (s : State) (e : Nat) (rest : List Act) : (s.headOff e rest).tb = s.tb := rfl

theorem takeAct_of_exec (h : (s.eng e).exec = a :: rest) : s.takeAct e = (s.headOff e rest).doAct e a := by
  unfold State.takeAct
  rw [h]
  rfl

/-- What an action's effect leaves of the engines and of the time. -/
structure EngKept (e : Nat) (s t : State) : Prop where
  self : ∃ g, t.eng e = { s.eng e with tagged := g }
  other : ∀ k, k ≠ e → t.eng k = s.eng k
  tb : t.tb = s.tb

theorem EngKept.refl (e : Nat) (s : State) : EngKept e s s := ⟨⟨_, rfl⟩, fun _ _ => rfl, rfl⟩

theorem EngKept.trans (h : EngKept e s t) (k : EngKept e t u) : EngKept e s u := by
  obtain ⟨g, hg⟩ := h.self
  obtain ⟨g', hg'⟩ := k.self
  exact ⟨⟨g', by rw [hg', hg]⟩, fun j hj => (k.other j hj).trans (h.other j hj), k.tb.trans h.tb⟩

theorem EngKept.of_eq (heng : ∀ k, t.eng k = s.eng k) (htb : t.tb = s.tb) : EngKept e s t := ⟨⟨_, heng e⟩, fun k _ => heng k, htb⟩

theorem EngKept.bus (h : OnlyBus s t) : EngKept e s t := .of_eq h.eng (by obtain ⟨_, _, _, rfl⟩ := h; rfl)

/-- The action took effect: besides the engine's tag, its sample record is all. -/
structure Acted (e : Nat) (s t : State) : Prop where
  only : OnlyEng s t
  sampled : Sampled e s t

theorem acted_acted (s : State) (e : Nat) (a : Act) : Acted e s (s.acted e a) := ⟨OnlyEng.sampleAct s e a _ _, sampled_sampleAct e s a _ _⟩

theorem Acted.kept (h : Acted e s t) : EngKept e s t := ⟨h.sampled.self, h.sampled.other, by rw [h.only.eq]⟩

theorem Acted.rd (h : Acted e s t) {f : Fld} (hf : f.addr < 0x6000000) : t.rd f = s.rd f := rd_of_reg_eq (h.sampled.reg _ hf)

theorem effect_of_headDue {e : Fin 9} {op : Nat} (hdue : HeadDue s e a rest) (hop : a.kind.op = op) (hkept : EngKept e (s.headOff e rest) ((s.headOff e rest).doAct e a)) :
    s.effect e op = (s.headOff e rest).doAct e a := by
  obtain ⟨hexec, hact⟩ := hdue
  have hlist : (((s.headOff e rest).doAct e a).eng e).exec = rest := by
    obtain ⟨g, hg⟩ := hkept.self
    rw [hg, State.headOff, State.eng_setEng_same]
  have hsome : ¬ decide ((s.eng e).exec.length ≤ rest.length) = true := by simp [hexec]
  have hdone : decide ((((s.headOff e rest).doAct e a).eng e).exec.length ≤ rest.length) = true := by simp [hlist]
  unfold State.effect
  rw [hexec]
  dsimp only
  rw [if_neg (not_not.mpr hop), State.runActs, if_neg hsome, hact]
  dsimp only
  rw [takeAct_of_exec hexec, State.runActs, if_pos hdone]

theorem headTaken_of {e : Fin 9} (h : EngKept e (s.headOff e rest) t) : HeadTaken s t e rest := by
  obtain ⟨g, hg⟩ := h.self
  refine ⟨?_, ?_, ?_, h.tb, fun k hk => (h.other k hk).trans (State.eng_setEng_ne s hk _)⟩ <;> rw [hg, State.headOff, State.eng_setEng_same]

/-- A command that lets the head action of an engine take effect. -/
theorem answers_effect {c : Instr} {e : Fin 9} {op : Nat} {P : State → Prop} (hexec : exec c s = .next (s.effect e op)) (hdue : HeadDue s e a rest) (hop : a.kind.op = op)
    (hdo : (s.headOff e rest).doAct e a = t) (hkept : EngKept e (s.headOff e rest) t) (hP : P t) : Answers c s fun t => HeadTaken s t e rest ∧ P t := by
  subst hdo
  exact ⟨_, hexec.trans (congrArg Host.Outcome.next (effect_of_headDue hdue hop hkept)), headTaken_of hkept, hP⟩

end Sys2Proof.Machine
end

section
/-! ## The gates of a port at an action (R121, R171, Table 5-3) -/

namespace Sys2Proof.Machine

variable {s t u : State} {e p : Nat}

/-- Port p's gates have moved so far: its due launches may be fewer, port counters and launch slots tell of them, no word of gate states has changed. -/
structure GatesMove (p : Nat) (s t : State) : Prop where
  parts : ∃ g r l o, t = { s with egresses := g, regs := r, pcie := l, out := o }
  due : ∀ d ∈ (t.egr p).due, d ∈ (s.egr p).due
  gstat : ∀ q < 64, t.reg (A.PORT_GSTAT q) = s.reg (A.PORT_GSTAT q)

theorem GatesMove.refl (p : Nat) (s : State) : GatesMove p s s := ⟨⟨_, _, _, _, rfl⟩, fun _ h => h, fun _ _ => rfl⟩

theorem GatesMove.trans (h : GatesMove p s t) (k : GatesMove p t u) : GatesMove p s u := by
  obtain ⟨⟨_, _, _, _, rfl⟩, hdue, hreg⟩ := h
  obtain ⟨⟨_, _, _, _, rfl⟩, kdue, kreg⟩ := k
  exact ⟨⟨_, _, _, _, rfl⟩, fun d hd => hdue d (kdue d hd), fun q hq => (kreg q hq).trans (hreg q hq)⟩

theorem GatesMove.eng (h : GatesMove p s t) (k : Nat) : t.eng k = s.eng k := by
  obtain ⟨⟨_, _, _, _, rfl⟩, _, _⟩ := h
  rfl

theorem GatesMove.tb (h : GatesMove p s t) : t.tb = s.tb := by
  obtain ⟨⟨_, _, _, _, rfl⟩, _, _⟩ := h
  rfl

theorem gatesMove_setEgr (s : State) {x : Egress} (hx : ∀ d ∈ x.due, d ∈ (s.egr p).due) : GatesMove p s (s.setEgr p x) :=
  ⟨⟨_, s.regs, s.pcie, s.out, rfl⟩, fun d hd => hx d (by rwa [State.egr_setEgr_same] at hd), fun _ _ => rfl⟩

theorem gatesMove_bus (h : OnlyBus s t) (hreg : ∀ q < 64, t.reg (A.PORT_GSTAT q) = s.reg (A.PORT_GSTAT q)) : GatesMove p s t := by
  have hegr := h.egr p
  obtain ⟨r, l, o, rfl⟩ := h
  exact ⟨⟨_, r, l, o, rfl⟩, fun d hd => hegr ▸ hd, hreg⟩

theorem uncounted_gstat {q : Nat} (hq : q < 64) : Uncounted (A.PORT_GSTAT q) := by
  constructor <;> simp only [A.PORT_GSTAT, portOff, A.HUB_STAT] <;> omega

theorem gatesMove_lapseBit (s : State) (k : Nat) : GatesMove p s (s.setBit (R.HLS3_LAPSE p k) true) :=
  gatesMove_bus (OnlyRegs.setBit s _ true).bus fun q _ => State.reg_setBit_ne s (by unfold A.PORT_GSTAT portOff R.HLS3_LAPSE; dsimp only; omega) true

/-- The launch slots of the launches `l` say that they lapsed. -/
def State.noteLapses (s : State) (p : Nat) (l : List Due) : State :=
  l.foldl (fun s d => match d.slot with | some k => s.setBit (R.HLS3_LAPSE p k) true | none => s) s

theorem gatesMove_noteLapses (s : State) (l : List Due) : GatesMove p s (s.noteLapses p l) := by
  induction l generalizing s with
  | nil => exact .refl p s
  | cons d l ih =>
    refine GatesMove.trans ?_ (ih _)
    dsimp only
    split
    · exact gatesMove_lapseBit s _
    · exact .refl p s

/-- A class lapses: none of its launches is due afterwards. -/
theorem gatesMove_lapse (s : State) (p c : Nat) : GatesMove p s (s.lapse p c) ∧ ∀ d ∈ ((s.lapse p c).egr p).due, d.cls ≠ some c := by
  unfold State.lapse
  extract_lets gone E s1 s2
  have h1 : GatesMove p s s1 := gatesMove_setEgr s fun d hd => List.mem_of_mem_filter hd
  have h2 : GatesMove p s1 s2 := gatesMove_bus (OnlyBus.countBy s1 _ _) fun q hq => reg_countBy_port (uncounted_gstat hq) p (by decide) _
  have h3 : GatesMove p s2 (s2.noteLapses p gone) := gatesMove_noteLapses s2 gone
  refine ⟨(h1.trans h2).trans h3, fun d hd => ?_⟩
  have hd1 : d ∈ (s1.egr p).due := h2.due d (h3.due d hd)
  rw [State.egr_setEgr_same] at hd1
  exact bne_iff_ne.mp (List.mem_filter.mp hd1).2

/-- One class's gate takes its state: its due launches lapse where it closes, and its opening is noted where it opens. -/
def State.moveGate (s : State) (p old st c : Nat) : State :=
  if old.testBit c && !st.testBit c then s.lapse p c
  else if !old.testBit c && st.testBit c then s.setEgr p { s.egr p with opened := storeSet (fun _ => 0) (s.egr p).opened c (s.orbDom.sf : Int) }
  else s

theorem gatesMove_moveGate (s : State) (p old st c : Nat) : GatesMove p s (s.moveGate p old st c) ∧
    ∀ d ∈ ((s.moveGate p old st c).egr p).due, d.cls = some c → old.testBit c = true → st.testBit c = true := by
  unfold State.moveGate
  split
  next hcloses =>
    obtain ⟨hmove, hgone⟩ := gatesMove_lapse s p c
    exact ⟨hmove, fun d hd hc => absurd hc (hgone d hd)⟩
  next hnot =>
    have hopen : old.testBit c = true → st.testBit c = true := by simpa using hnot
    split
    · exact ⟨gatesMove_setEgr s fun d hd => hd, fun _ _ _ => hopen⟩
    · exact ⟨.refl p s, fun _ _ _ => hopen⟩

theorem gatesMove_foldl (l : List Nat) (s : State) (p old st : Nat) : GatesMove p s (l.foldl (fun s c => s.moveGate p old st c) s) ∧
    ∀ c ∈ l, ∀ d ∈ ((l.foldl (fun s c => s.moveGate p old st c) s).egr p).due, d.cls = some c → old.testBit c = true → st.testBit c = true := by
  induction l generalizing s with
  | nil => exact ⟨.refl p s, fun c hc => nomatch hc⟩
  | cons c l ih =>
    obtain ⟨hmove, hclosed⟩ := gatesMove_moveGate s p old st c
    obtain ⟨hrest, hcloseds⟩ := ih (s.moveGate p old st c)
    refine ⟨hmove.trans hrest, fun c' hc' => ?_⟩
    rcases List.mem_cons.mp hc' with rfl | hc'
    · exact fun d hd => hclosed d (hrest.due d hd)
    · exact hcloseds c' hc'

/-- A frame in transmission is cut at most: nothing else changes. -/
theorem cutEarliest_cases (s : State) (p : Nat) : s.cutEarliest p = s ∨ ∃ x, s.cutEarliest p = s.setEgr p { s.egr p with tx := x } := by
  unfold State.cutEarliest
  cases (s.egr p).tx with
  | none => exact .inl rfl
  | some x =>
    dsimp only
    exact (em _).elim (fun h => .inr ⟨_, if_pos h⟩) fun h => .inl (if_neg h)

/-- What setting a port's gates leaves and does. -/
structure GatesSet (p st : Nat) (s t : State) : Prop where
  eng : ∀ k, t.eng k = s.eng k
  tb : t.tb = s.tb
  state : t.rd (R.PORT_GSTAT_STATE p) = st
  other : ∀ q < 64, q ≠ p → t.rd (R.PORT_GSTAT_STATE q) = s.rd (R.PORT_GSTAT_STATE q)
  due : ∀ d ∈ (t.egr p).due, ∀ c, d.cls = some c → c < 8 → (s.rd (R.PORT_GSTAT_STATE p)).testBit c = true → st.testBit c = true

/-- The hold of a port takes what is asked of it. -/
def State.setHold (s : State) (p hold : Nat) : State :=
  if hold = 1 && s.mmActive p then s.setBit (R.PORT_GSTAT_HOLD p) true else if hold = 2 then s.setBit (R.PORT_GSTAT_HOLD p) false else s

theorem setHold_cases (s : State) (p hold : Nat) : s.setHold p hold = s ∨ ∃ b, s.setHold p hold = s.setBit (R.PORT_GSTAT_HOLD p) b := by
  unfold State.setHold
  split
  · exact .inr ⟨_, rfl⟩
  · split
    · exact .inr ⟨_, rfl⟩
    · exact .inl rfl

/-- The frame in transmission of a port gives way where its gate or the hold asks for it. -/
def State.giveWay (s : State) (p : Nat) : State :=
  match (s.egr p).tx with
  | some x => if x.pre && (s.held p || !s.gateOpen p x.cls) then s.cutEarliest p else s
  | none => s

theorem giveWay_cases (s : State) (p : Nat) : s.giveWay p = s ∨ ∃ x, s.giveWay p = s.setEgr p { s.egr p with tx := x } := by
  unfold State.giveWay
  split
  · split
    · exact cutEarliest_cases s p
    · exact .inl rfl
  · exact .inl rfl

theorem setGates_eq (s : State) (p st hold : Nat) : s.setGates p st hold =
    ((((List.range 8).foldl (fun u c => u.moveGate p (s.rd (R.PORT_GSTAT_STATE p)) st c) s).wr (R.PORT_GSTAT_STATE p) st).setHold p hold).giveWay p := rfl

theorem gatesSet_setGates {st : Nat} (hst : st < 256) (s : State) (p hold : Nat) : GatesSet p st s (s.setGates p st hold) := by
  rw [setGates_eq]
  obtain ⟨hmove, hclosed⟩ := gatesMove_foldl (List.range 8) s p (s.rd (R.PORT_GSTAT_STATE p)) st
  generalize (List.range 8).foldl (fun u c => u.moveGate p (s.rd (R.PORT_GSTAT_STATE p)) st c) s = s1 at hmove hclosed
  have h1 : GatesSet p st s (s1.wr (R.PORT_GSTAT_STATE p) st) := by
    refine ⟨fun k => (State.wr_eng s1 _ st k).trans (hmove.eng k), hmove.tb, rd_wr_of_lt (f := R.PORT_GSTAT_STATE p) (by decide : 0 + 8 ≤ 32) hst, fun q hq hne => ?_,
      fun d hd c hc hlt => hclosed c (List.mem_range.mpr hlt) d hd hc⟩
    refine (State.rd_wr_ne s1 (g := R.PORT_GSTAT_STATE q) ?_ st).trans (rd_of_reg_eq (f := R.PORT_GSTAT_STATE q) (hmove.gstat q hq))
    simp only [R.PORT_GSTAT_STATE, portOff]
    omega
  generalize s1.wr (R.PORT_GSTAT_STATE p) st = s2 at h1
  have h2 : GatesSet p st s (s2.setHold p hold) := by
    rcases setHold_cases s2 p hold with h | ⟨b, h⟩ <;> rw [h]
    · exact h1
    · refine ⟨fun k => (State.setBit_eng s2 _ b k).trans (h1.eng k), h1.tb,
        (rd_setBit_apart (f := R.PORT_GSTAT_HOLD p) (g := R.PORT_GSTAT_STATE p) rfl (by decide : 8 + 1 ≤ 32) (.inr (by decide : 0 + 8 ≤ 8)) b).trans h1.state,
        fun q hq hne => ?_, h1.due⟩
      refine (rd_setBit_ne (f := R.PORT_GSTAT_HOLD p) (g := R.PORT_GSTAT_STATE q) ?_ b).trans (h1.other q hq hne)
      simp only [R.PORT_GSTAT_STATE, R.PORT_GSTAT_HOLD, portOff]
      omega
  generalize s2.setHold p hold = s3 at h2
  rcases giveWay_cases s3 p with h | ⟨x, h⟩ <;> rw [h]
  · exact h2
  · exact ⟨h2.eng, h2.tb, h2.state, h2.other, fun d hd => h2.due d (by rwa [State.egr_setEgr_same] at hd)⟩

end Sys2Proof.Machine
end

section
/-! ## Stream gates, captures and the bank swap at an action (Table 5-3) -/

namespace Sys2Proof.Machine

variable {s t u : State} {e : Nat} {a : Act} {rest : List Act}

/-! ### The stream gate -/

/-- Stream gate h stands as asked, and every other gate of its word as before. -/
theorem sgateState_setSgate (s : State) (h : Nat) (b : Bool) (j : Nat) :
    ((s.setSgate h b).reg (A.SG_STATE (h / 32))).getLsbD j = if j = h % 32 then b else (s.reg (A.SG_STATE (h / 32))).getLsbD j := by
  have hk : h % 32 < 32 := Nat.mod_lt _ (by decide)
  unfold State.setSgate
  extract_lets f
  split
  next hsame =>
    have hb : (s.reg (A.SG_STATE (h / 32))).getLsbD (h % 32) = b := (bit_eq_getLsbD s _ _).symm.trans (beq_iff_eq.mp hsame)
    split
    next hj => rw [hj, hb]
    next => rfl
  next =>
    change ((s.setBit f b).reg (A.SG_STATE (h / 32))).getLsbD j = _
    split
    next hj => exact hj ▸ getLsbD_setBit_same s _ hk b
    next hne => exact getLsbD_setBit_ne s _ hk hne b

theorem kept_setSgate (s : State) (e h : Nat) (b : Bool) : EngKept e s (s.setSgate h b) := by
  unfold State.setSgate
  extract_lets f
  split
  · exact .refl e s
  · exact .of_eq (fun k => State.setBit_eng s f b k) rfl

/-! ### Captures -/

theorem onlyRegs_setWords (s : State) (a : Nat) (ws : List Word) : OnlyRegs s (s.setWords a ws) := by
  induction ws generalizing s a with
  | nil => exact OnlyRegs.refl s
  | cons w ws ih => exact (OnlyRegs.setReg s a w).trans (ih _ _)

/-- The words of a capture: the domain's time, the domain and the Orbit's number, each in its place (Table 5-16). -/
theorem capture_words (s : State) {d : Nat} (hd : d < 8) (e k : Nat) :
    (s.capture e d k).reg (A.ENG_CAPT0 e k) = .ofNat (timeSec (s.dom d).time) ∧
      ((s.capture e d k).reg (A.ENG_CAPT0 e k + 4)).toNat = timeSec (s.dom d).time / 2 ^ 32 % 2 ^ 16 + d * 2 ^ 16 + 2 ^ 31 ∧
      ((s.capture e d k).reg (A.ENG_CAPT0 e k + 8)).toNat = timeNs (s.dom d).time ∧
      ((s.capture e d k).reg (A.ENG_CAPT0 e k + 12)).toNat = timeFrac (s.dom d).time + s.orbNum % 2 ^ 16 * 2 ^ 16 := by
  have hns : timeNs (s.dom d).time < 1000000000 := by
    unfold timeNs secUnit nsUnit
    omega
  have hfrac : timeFrac (s.dom d).time < 65536 := by
    unfold timeFrac nsUnit
    omega
  unfold State.capture
  extract_lets T
  refine ⟨reg_setWords_get (s := s) (k := 0) (by simp), ?_, ?_, ?_⟩
  · rw [reg_setWords_get (s := s) (k := 1) (by simp)]
    simp only [List.getElem_cons_succ, List.getElem_cons_zero, BitVec.toNat_ofNat, T]
    omega
  · rw [reg_setWords_get (s := s) (k := 2) (by simp)]
    simp only [List.getElem_cons_succ, List.getElem_cons_zero, BitVec.toNat_ofNat, T]
    omega
  · rw [reg_setWords_get (s := s) (k := 3) (by simp)]
    simp only [List.getElem_cons_succ, List.getElem_cons_zero, BitVec.toNat_ofNat, T]
    omega

/-! ### GATE, SGATE, CAPT and RSWAP -/

theorem Acted.egresses (h : Acted e s t) : t.egresses = s.egresses := by rw [h.only.eq]
theorem Acted.rsvReq (h : Acted e s t) : t.rsvReq = s.rsvReq := by rw [h.only.eq]
theorem Acted.egr (h : Acted e s t) (p : Nat) : t.egr p = s.egr p := by
  unfold State.egr
  rw [h.egresses]
theorem Acted.reg (h : Acted e s t) {a : Nat} (ha : a < 0x6000000) : t.reg a = s.reg a := h.sampled.reg a ha

/-- GATE, SGATE, CAPT and RSWAP: the part of O11 on what they do. -/
theorem gateCaptureAndSwapActions : Rules.GateCaptureAndSwapActions := by
  intro e s a rest hdue
  refine ⟨fun p st hold hp hst hkind _ => ?_, fun h b hh hkind => ?_, fun d k hd hk hkind => ?_, fun hkind => ?_⟩
  · have hset := gatesSet_setGates hst (s.headOff e rest) p hold
    have hact := acted_acted ((s.headOff e rest).setGates p st hold) e a
    have haddr : ∀ q < 64, (R.PORT_GSTAT_STATE q).addr < 0x6000000 := fun q hq => by
      simp only [R.PORT_GSTAT_STATE, portOff]
      omega
    refine answers_effect rfl hdue (by rw [hkind]; rfl) (by rw [State.doAct, hkind]) ((EngKept.of_eq hset.eng hset.tb).trans hact.kept)
      ⟨(hact.rd (haddr p hp)).trans hset.state, fun q hq hne => (hact.rd (haddr q hq)).trans (hset.other q hq hne), fun d hd => hset.due d ?_⟩
    rwa [hact.egr] at hd
  · have hact := acted_acted ((s.headOff e rest).setSgate h b) e a
    have haddr : A.SG_STATE (h / 32) < 0x6000000 := by
      unfold A.SG_STATE
      omega
    refine answers_effect rfl hdue (by rw [hkind]; rfl) (by rw [State.doAct, hkind]) ((kept_setSgate _ e h b).trans hact.kept) ⟨?_, fun j _ hne => ?_⟩ <;>
      rw [hact.reg haddr, sgateState_setSgate]
    · exact if_pos rfl
    · exact if_neg hne
  · have hact := acted_acted ((s.headOff e rest).capture e d k) e a
    have haddr : A.ENG_CAPT0 e k + 12 < 0x6000000 := by
      unfold A.ENG_CAPT0
      omega
    have hreg : ∀ i ≤ 12, (((s.headOff e rest).capture e d k).acted e a).reg (A.ENG_CAPT0 e k + i) = ((s.headOff e rest).capture e d k).reg (A.ENG_CAPT0 e k + i) :=
      fun i hi => hact.reg (by omega)
    obtain ⟨h0, h1, h2, h3⟩ := capture_words (s.headOff e rest) hd e k
    refine answers_effect rfl hdue (by rw [hkind]; rfl) (by rw [State.doAct, hkind]) ((EngKept.bus (onlyRegs_setWords _ _ _).bus).trans hact.kept) ⟨?_, ?_, ?_, ?_⟩
    · exact (hreg 0 (by decide)).trans h0
    · rw [hreg 4 (by decide), h1]
      rfl
    · rw [hreg 8 (by decide), h2]
      rfl
    · rw [hreg 12 (by decide), h3]
      rfl
  · have hact := acted_acted (s.headOff e rest).rsvRequest e a
    refine answers_effect rfl hdue (by rw [hkind]; rfl) (by rw [State.doAct, hkind])
      ((EngKept.of_eq (t := (s.headOff e rest).rsvRequest) (State.setBit_eng (s.headOff e rest) R.FAB_CTRL_RSV_PENDING true) rfl).trans hact.kept) ⟨hact.rsvReq, ?_⟩
    exact (bit_of_reg_eq (f := R.FAB_CTRL_RSV_PENDING) (hact.reg (by decide))).trans
      (State.bit_setBit_same (s.headOff e rest) R.FAB_CTRL_RSV_PENDING rfl (by decide) true)

end Sys2Proof.Machine
end

section
/-! ## Launches and injections at an action (R149, R171, R330) -/

namespace Sys2Proof.Machine

variable {s t u : State} {e p : Nat} {a : Act} {rest : List Act}

theorem insertDue_perm (d : Due) (l : List Due) : (insertDue d l).Perm (d :: l) := by
  induction l with
  | nil => exact .refl _
  | cons b l ih =>
    unfold insertDue
    split
    · exact .refl _
    · exact (ih.cons b).trans (.swap d b l)

theorem length_insertDue (d : Due) (l : List Due) : (insertDue d l).length = l.length + 1 := (insertDue_perm d l).length_eq

theorem length_filter_insertDue {f : Due → Bool} {d : Due} (hd : f d = true) (l : List Due) : ((insertDue d l).filter f).length = (l.filter f).length + 1 := by
  rw [((insertDue_perm d l).filter f).length_eq, List.filter_cons_of_pos hd, List.length_cons]

/-- A frame of port p becomes due. -/
def State.withDue (s : State) (p : Nat) (d : Due) : State := s.setEgr p { s.egr p with due := insertDue d (s.egr p).due }

theorem kept_withDue (s : State) (e p : Nat) (d : Due) : EngKept e s (s.withDue p d) := .of_eq (fun _ => rfl) rfl

theorem egr_withDue_same (s : State) (p : Nat) (d : Due) : (s.withDue p d).egr p = { s.egr p with due := insertDue d (s.egr p).due } := s.egr_setEgr_same _ _

theorem egr_withDue_ne (s : State) {q : Nat} (h : q ≠ p) (d : Due) : (s.withDue p d).egr q = s.egr q := s.egr_setEgr_ne h _

/-- The frames that are due for a class of a port. -/
def State.dueOf (s : State) (p c : Nat) : List Due := (s.egr p).due.filter (·.cls == some c)

/-- A launch that finds a frame makes it due. -/
theorem launch_of_room {c : Nat} {slot : Option Nat} {prio : Nat} (hsends : s.sends p = true) (hroom : (s.dueOf p c).length < (s.egrQ (8 * p + c)).q.length) :
    s.launch p c slot prio = (s.withDue p { cls := some c, slot := slot, tb := s.tb, prio := prio }, true) := by
  unfold State.dueOf at hroom
  unfold State.launch
  exact if_neg (by simpa [hsends] using hroom)

theorem launch_of_none {c : Nat} {slot : Option Nat} {prio : Nat} (hnone : (s.egrQ (8 * p + c)).q.length ≤ (s.dueOf p c).length) :
    s.launch p c slot prio = (s, false) := by
  unfold State.dueOf at hnone
  unfold State.launch
  exact if_pos (by simpa using Or.inr hnone)

theorem launchAct_of_room {c : Nat} (hmode : s.mode ≠ .recover) (hsends : s.sends p = true) (hroom : (s.dueOf p c).length < (s.egrQ (8 * p + c)).q.length) :
    s.launchAct e p c a = (s.withDue p { cls := some c, slot := none, tb := s.tb, prio := e }).acted e a := by
  unfold State.launchAct
  rw [if_neg hmode, launch_of_room hsends hroom]

theorem launchAct_of_none {c : Nat} (hmode : s.mode ≠ .recover) (hnone : (s.egrQ (8 * p + c)).q.length ≤ (s.dueOf p c).length) :
    s.launchAct e p c a = (s.count (.eng e 8)).acted e a := by
  unfold State.launchAct
  rw [if_neg hmode, launch_of_none hnone]

/-- The frame that an injection makes due. -/
def State.injDue (s : State) (e p k : Nat) (a : Act) : Due := { cls := none, inj := some (s.provFrame p k (actAt s.orbit.start a)), tb := s.tb, prio := e }

/-- Template k stands among those injected. -/
def State.injectedWith (s : State) (k : Nat) : Prv := { s.prv with injected := if s.prv.injected.contains k then s.prv.injected else k :: s.prv.injected }

theorem mem_injectedWith (s : State) (k : Nat) : k ∈ (s.injectedWith k).injected := by
  unfold State.injectedWith
  dsimp only
  split
  next h => exact List.contains_iff_mem.mp h
  next => exact List.mem_cons_self

theorem inject_of_valid {k : Nat} (hmode : s.mode = .proving) (hvalid : s.bit (R.TMPL0_VALID k) = true) (hplain : s.bit (R.TMPL0_PCLAIM k) = false)
    (hsends : s.sends p = true) :
    s.inject e p k a = { (s.withDue p (s.injDue e p k a)).acted e a with prv := s.injectedWith k } := by
  unfold State.inject
  rw [if_neg (by rw [hmode]; decide), if_neg (not_not.mpr hmode), if_neg (by simp [hvalid, hsends]), if_neg (by simp [hplain])]
  rfl

theorem doAct_launch {c : Nat} (h : a.kind = .launch p c) : s.doAct e a = s.launchAct e p c a := by
  unfold State.doAct
  rw [h]

theorem doAct_inj {k : Nat} (h : a.kind = .inj p k) : s.doAct e a = s.inject e p k a := by
  unfold State.doAct
  rw [h]

theorem EngKept.setPrv (h : EngKept e s t) (x : Prv) : EngKept e s { t with prv := x } := ⟨h.self, h.other, h.tb⟩

/-- LAUNCH and INJ: the part of O11 on what they do. -/
theorem launchAndInjectActions : Rules.LaunchAndInjectActions := by
  intro e s a rest hdue
  refine ⟨fun p c hp hc hkind hsends hmode => ⟨fun hroom => ?_, fun hnone => ?_⟩, fun p k hp hkind hmode hvalid hplain hsends => ?_⟩
  · have hact := acted_acted ((s.headOff e rest).withDue p { cls := some c, slot := none, tb := (s.headOff e rest).tb, prio := e }) e a
    refine answers_effect rfl hdue (by rw [hkind]; rfl) ((doAct_launch hkind).trans (launchAct_of_room hmode hsends hroom))
      ((kept_withDue _ _ _ _).trans hact.kept) ⟨?_, fun q hq => ?_, ?_⟩
    · rw [hact.egr, egr_withDue_same]
      exact length_filter_insertDue (by simp) _
    · rw [hact.egr, egr_withDue_ne _ hq]
      rfl
    · rw [hact.egr, egr_withDue_same]
      rfl
  · have hact := acted_acted ((s.headOff e rest).count (.eng e 8)) e a
    refine answers_effect rfl hdue (by rw [hkind]; rfl) ((doAct_launch hkind).trans (launchAct_of_none hmode hnone))
      ((EngKept.bus (OnlyBus.count _ _)).trans hact.kept) ⟨?_, ?_⟩
    · have haddr : (Ctr.eng e 8).lo.addr < 0x6000000 := by
        simp [Ctr.eng]
        omega
      rw [ctr_eng (by decide), hact.reg haddr, ← ctr_eng (by decide), ctr_count_eng (by decide) (by decide) e.isLt, ctr_eng (by decide), ctr_eng (by decide)]
      rfl
    · rw [hact.egresses]
      obtain ⟨_, _, _, hbus⟩ := OnlyBus.count (s.headOff e rest) (.eng e 8)
      rw [hbus]
      rfl
  · have hact := acted_acted ((s.headOff e rest).withDue p ((s.headOff e rest).injDue e p k a)) e a
    refine answers_effect rfl hdue (by rw [hkind]; rfl) ((doAct_inj hkind).trans (inject_of_valid hmode hvalid hplain hsends))
      (((kept_withDue _ _ _ _).trans hact.kept).setPrv _) ⟨mem_injectedWith (s.headOff e rest) k, rfl, ?_, fun q hq => ?_⟩
    · refine (congrArg (fun x : Egress => x.due.length) ((hact.egr p).trans (egr_withDue_same _ _ _))).trans ?_
      exact length_insertDue _ _
    · exact (hact.egr q).trans (egr_withDue_ne _ hq _)

end Sys2Proof.Machine
end

section
/-! ## Pins and marks at an action (R148, R149, R205, R400) -/

namespace Sys2Proof.Machine

variable {s t u : State} {e p : Nat} {a : Act} {rest : List Act} {lvl : Bool}

/-! ### What sampling emits comes on top -/

theorem mem_out_putSample {o : Out} (h : o ∈ s.out) (ws : List Word) : o ∈ (s.putSample ws).out := by
  unfold State.putSample
  extract_lets size wr
  split
  · exact h
  · split
    · exact mem_out_countBy h _ 1
    · exact List.mem_cons_of_mem _ h

theorem mem_out_acted {o : Out} (h : o ∈ s.out) (e : Nat) (a : Act) : o ∈ (s.acted e a).out := by
  unfold State.acted State.sampleAct
  split
  · exact h
  · exact mem_out_putSample (s := s.setEng e _) h _

theorem Acted.hub (h : Acted e s t) : t.hub = s.hub := by rw [h.only.eq]
theorem Acted.touts (h : Acted e s t) : t.touts = s.touts := by rw [h.only.eq]

theorem tout_of_touts (h : t.touts = s.touts) (p : Nat) : t.tout p = s.tout p := by
  unfold State.tout
  rw [h]

/-! ### An edge of an ENGINE pin -/

/-- Units of 1/64 ns of one TIME cycle at most, back from the end of the cycle. -/
theorem back64_le_of_within (s : State) (d x : Nat) (h : x < ((nsUnit : Nat) + (s.dom d).rate).toNat ∨ ((nsUnit : Nat) + (s.dom d).rate).toNat = 0) :
    s.back64 d x ≤ 64 := by
  unfold State.back64
  extract_lets adv
  have hx : x < adv ∨ adv = 0 := h
  clear_value adv
  rcases hx with hx | rfl
  · exact Nat.le_of_lt_succ ((Nat.div_lt_iff_lt_mul (by omega)).mpr (by omega))
  · simp

/-- How far back in time the level of action `a` changes. -/
def State.slipBack (s : State) (a : Act) : Nat :=
  let late := ((s.orbDom.time : Int) - actAt s.orbit.start a).toNat
  s.back64 s.orbit.grid.dom (if a.slip then late % ((nsUnit : Nat) + s.orbDom.rate).toNat else late)

theorem slipBack_le (h : a.slip = true ∨ (s.orbDom.time : Int) - actAt s.orbit.start a < (nsUnit : Int) + s.orbDom.rate) : s.slipBack a ≤ 64 := by
  unfold State.slipBack
  extract_lets late
  refine back64_le_of_within s _ _ ?_
  change _ < ((nsUnit : Nat) + s.orbDom.rate).toNat ∨ ((nsUnit : Nat) + s.orbDom.rate).toNat = 0
  rcases Nat.eq_zero_or_pos ((nsUnit : Nat) + s.orbDom.rate).toNat with h0 | hpos
  · exact .inr h0
  · left
    split
    · exact Nat.mod_lt _ hpos
    next hslip =>
      have hlate := h.resolve_left hslip
      omega

/-- The level of pin p changes at `at64`. -/
def State.edge (s : State) (p : Nat) (lvl : Bool) (at64 : Nat) : State :=
  ((s.setTout p { s.tout p with level := lvl, lastEdge := some at64 }).emit (.pin p ((s.tout p).cfg.out lvl) at64)).noteLoop p at64

theorem drive_of_apart {at64 : Nat} (hlevel : (s.tout p).level ≠ lvl) (hlast : ∀ x, (s.tout p).lastEdge = some x → x + 256 ≤ at64) :
    s.drive p lvl at64 = (s.edge p lvl at64, false) := by
  unfold State.drive
  extract_lets T
  rw [if_neg hlevel, if_neg]
  · rfl
  · split
    next x hx => simpa using hlast x hx
    next => exact Bool.false_ne_true

/-- A claim's rise is noted where the pin rises. -/
def State.risen (s : State) (p : Nat) (lvl : Bool) (at64 : Nat) : State :=
  if lvl && s.mode.pinsMove && !(s.tout p).level then s.noteRise (Fin.ofNat 8 p) at64 else s

/-- A rise that is noted is noted of the twin link. -/
theorem risen_cases (s : State) (p : Nat) (lvl : Bool) (at64 : Nat) : ∃ x, s.risen p lvl at64 = { s with twin := x } := by
  unfold State.risen State.noteRise
  split
  · extract_lets c back
    split
    · exact ⟨_, rfl⟩
    · exact ⟨_, rfl⟩
  · exact ⟨_, rfl⟩

theorem noteLoop_cases (s : State) (p at64 : Nat) : ∃ x, s.noteLoop p at64 = { s with prv := x } := by
  unfold State.noteLoop
  split
  · exact ⟨_, rfl⟩
  · exact ⟨_, rfl⟩

theorem toutAct_of_apart (hmode : (s.tout p).cfg.mode = 2) (hmove : s.mode.pinsMove = true) (hmuted : lvl = true → s.muted p = false)
    (hlevel : (s.tout p).level ≠ lvl) (hlast : ∀ x, (s.tout p).lastEdge = some x → x + 256 ≤ 64 * s.tb - s.slipBack a) :
    s.toutAct e p lvl a = ((s.risen p lvl (64 * s.tb - s.slipBack a)).edge p lvl (64 * s.tb - s.slipBack a)).acted e a := by
  obtain ⟨x, hx⟩ := risen_cases s p lvl (64 * s.tb - s.slipBack a)
  have htout : (s.risen p lvl (64 * s.tb - s.slipBack a)).tout p = s.tout p := by
    rw [hx]
    rfl
  have hdrive := drive_of_apart (s := s.risen p lvl (64 * s.tb - s.slipBack a)) (by rwa [htout]) (fun y hy => hlast y (by rwa [htout] at hy))
  unfold State.toutAct
  extract_lets late at64 s0
  rw [if_neg (not_not.mpr hmode), if_neg (by cases lvl <;> simp [hmove, hmuted])]
  have hs0 : s0.drive p lvl at64 = ((s.risen p lvl (64 * s.tb - s.slipBack a)).edge p lvl (64 * s.tb - s.slipBack a), false) := hdrive
  rw [hs0]

/-- What the edge of an ENGINE pin leaves and does. -/
structure Edged (e p at64 : Nat) (lvl : Bool) (s t : State) : Prop where
  kept : EngKept e s t
  pin : t.tout p = { s.tout p with level := lvl, lastEdge := some at64 }
  other : ∀ q, q ≠ p → t.tout q = s.tout q
  out : Out.pin p ((s.tout p).cfg.out lvl) at64 ∈ t.out

theorem edged_edge (s : State) (e p at64 : Nat) (lvl : Bool) : Edged e p at64 lvl s (s.edge p lvl at64) := by
  unfold State.edge
  generalize hx : ({ s.tout p with level := lvl, lastEdge := some at64 } : Tout) = x
  obtain ⟨y, hy⟩ := noteLoop_cases ((s.setTout p x).emit (.pin p ((s.tout p).cfg.out lvl) at64)) p at64
  rw [hy]
  exact ⟨.of_eq (fun _ => rfl) rfl, (s.tout_setTout_same p x).trans hx.symm, fun q hq => s.tout_setTout_ne hq x, List.mem_cons_self⟩

theorem Edged.of_twin {x : Twin} {at64 : Nat} (h : Edged e p at64 lvl { s with twin := x } t) : Edged e p at64 lvl s t :=
  ⟨⟨h.kept.self, h.kept.other, h.kept.tb⟩, h.pin, h.other, h.out⟩

theorem Edged.acted {at64 : Nat} (h : Edged e p at64 lvl s t) (a : Act) : Edged e p at64 lvl s (t.acted e a) := by
  have hact := acted_acted t e a
  have htout : ∀ q, (t.acted e a).tout q = t.tout q := tout_of_touts hact.touts
  exact ⟨h.kept.trans hact.kept, (htout p).trans h.pin, fun q hq => (htout q).trans (h.other q hq), mem_out_acted h.out e a⟩

theorem edged_risen (s : State) (e p at64 : Nat) (lvl : Bool) : Edged e p at64 lvl s ((s.risen p lvl at64).edge p lvl at64) := by
  obtain ⟨x, hx⟩ := risen_cases s p lvl at64
  rw [hx]
  exact (edged_edge { s with twin := x } e p at64 lvl).of_twin

theorem doAct_tout (h : a.kind = .tout p lvl) : s.doAct e a = s.toutAct e p lvl a := by
  unfold State.doAct
  rw [h]

/-! ### Marks -/

theorem hubMark_of_free {g : Nat} (hg : g < 64) (hlatches : s.hubLatches = true) (hfree : ∀ d ∈ s.hub.dumps, d.1 ≠ some g) :
    s.hubMark g = s.hubLatch (some g) [g] := by
  unfold State.hubMark
  rw [if_neg (Nat.not_le.mpr hg), if_neg (by simp [hlatches]), if_neg]
  simp only [List.any_eq_true, beq_iff_eq, not_exists, not_and]
  exact hfree

theorem doAct_mark {g : Nat} (h : a.kind = .mark g) : s.doAct e a = (s.hubMark g).acted e a := by
  unfold State.doAct
  rw [h]

/-- TOUT and MARK: the part of O11 on what they do. -/
theorem toutAndMarkActions : Rules.ToutAndMarkActions := by
  intro e s a rest hdue
  refine ⟨fun p lvl hp hkind hmode hmove hmuted hlevel hlast hslip => ?_, fun g hg hkind hlatches hfree => ?_⟩
  · have hback : (s.headOff e rest).slipBack a ≤ 64 := slipBack_le hslip
    have hedge := (edged_risen (s.headOff e rest) e p (64 * (s.headOff e rest).tb - (s.headOff e rest).slipBack a) lvl).acted a
    refine answers_effect rfl hdue (by rw [hkind]; rfl)
      ((doAct_tout hkind).trans (toutAct_of_apart hmode hmove hmuted hlevel fun x hx => ?_)) hedge.kept ⟨?_, ?_, ⟨_, ?_, Nat.sub_le _ _, ?_, hedge.out⟩, hedge.other⟩
    · have hx := hlast x hx
      rw [State.headOff_tb]
      omega
    · exact congrArg Tout.level hedge.pin
    · rw [hedge.pin]
      rfl
    · exact congrArg Tout.lastEdge hedge.pin
    · omega
  · have hact := acted_acted ((s.headOff e rest).hubLatch (some g) [g]) e a
    refine answers_effect rfl hdue (by rw [hkind]; rfl)
      ((doAct_mark hkind).trans (congrArg (State.acted · e a) (hubMark_of_free (s := s.headOff e rest) hg hlatches hfree)))
      ((EngKept.of_eq (s := s.headOff e rest) (t := (s.headOff e rest).hubLatch (some g) [g]) (fun _ => rfl) rfl).trans hact.kept) ⟨?_, ?_⟩
    · rw [hact.hub]
      rfl
    · rw [hact.hub]
      exact ⟨_, rfl⟩

/-- Settles O11: the action at the head is the one that takes effect (`effect_of_headDue`), and does what its kind says. -/
theorem actionsTakeEffect : Obligations.ActionsTakeEffect := ⟨gateCaptureAndSwapActions, launchAndInjectActions, toutAndMarkActions⟩

end Sys2Proof.Machine
end

section
/-! ## Sealed lists and loaded gate lists (R145, R184) -/

namespace Sys2Proof.Machine

variable {s₀ s t : State}

/-! ### While TIME passes -/

/-- Engines, Orbits and the steps that wait are as they were. -/
structure TimeOnly (s₀ s : State) : Prop where
  engines : s.engines = s₀.engines
  orbit : s.orbit = s₀.orbit
  step : ∀ d, (s.dom d).step = (s₀.dom d).step

theorem TimeOnly.refl (s : State) : TimeOnly s s := ⟨rfl, rfl, fun _ => rfl⟩

/-- Any other part is changed. -/
theorem TimeOnly.upd (h : TimeOnly s₀ s) (he : t.engines = s.engines := by rfl) (ho : t.orbit = s.orbit := by rfl) (hd : t.domains = s.domains := by rfl) :
    TimeOnly s₀ t :=
  ⟨he.trans h.engines, ho.trans h.orbit, fun d => (congrArg (fun D => (storeGet (fun _ => ({} : Domain)) D d).step) hd).trans (h.step d)⟩

theorem TimeOnly.bus (h : TimeOnly s₀ s) (k : OnlyBus s t) : TimeOnly s₀ t := by
  obtain ⟨_, _, _, rfl⟩ := k
  exact h.upd

theorem TimeOnly.setBit {f : Fld} {b : Bool} (h : TimeOnly s₀ s) : TimeOnly s₀ (s.setBit f b) := h.upd

theorem TimeOnly.setDom {d : Nat} {x : Domain} (h : TimeOnly s₀ s) (hx : x.step = (s.dom d).step) : TimeOnly s₀ (s.setDom d x) := by
  refine ⟨h.engines, h.orbit, fun k => ?_⟩
  by_cases hk : k = d
  · rw [hk, State.dom_setDom_same, hx, h.step]
  · rw [State.dom_setDom_ne s hk, h.step]

theorem TimeOnly.ite {c : Prop} {i : Decidable c} {u : State} (ht : TimeOnly s₀ t) (hu : TimeOnly s₀ u) : TimeOnly s₀ (if c then t else u) := by
  split
  · exact ht
  · exact hu

theorem TimeOnly.foldl {α : Type} {f : State → α → State} {l : List α} (h : TimeOnly s₀ s) (hf : ∀ u x, TimeOnly s₀ u → TimeOnly s₀ (f u x)) :
    TimeOnly s₀ (l.foldl f s) := by
  induction l generalizing s with
  | nil => exact h
  | cons x l ih => exact ih (hf s x h)

theorem TimeOnly.setIvl {u : Nat} {x : Ivl} (h : TimeOnly s₀ s) : TimeOnly s₀ (s.setIvl u x) := h.upd
theorem TimeOnly.setReg {a : Nat} {w : Word} (h : TimeOnly s₀ s) : TimeOnly s₀ (s.setReg a w) := h.upd

theorem TimeOnly.ivlPut {u : Nat} {r : Int × Nat} (h : TimeOnly s₀ s) : TimeOnly s₀ (s.ivlPut u r) := 
  (TimeOnly.ite h.setBit h).setReg.setBit.setIvl

theorem TimeOnly.ivlPair {u : Nat} {x : IvlEdge × Bool × Bool} (h : TimeOnly s₀ s) : TimeOnly s₀ (s.ivlPair u x) := by
  unfold State.ivlPair
  extract_lets e d V
  split
  · split
    · exact .ite h.ivlPut.setIvl h.ivlPut.setIvl
    · exact h.upd
  · split
    · exact h.ivlPut.setIvl
    · exact h.upd

theorem TimeOnly.ivlTake {u : Nat} (h : TimeOnly s₀ s) : TimeOnly s₀ (s.ivlTake u) := .ite h (h.foldl fun _ _ hv => hv.ivlPair).setIvl
theorem TimeOnly.ivlTakeAll (h : TimeOnly s₀ s) : TimeOnly s₀ s.ivlTakeAll := h.foldl fun _ _ hu => hu.ivlTake

theorem TimeOnly.setTin {p : Nat} {x : Tin} (h : TimeOnly s₀ s) : TimeOnly s₀ (s.setTin p x) := h.upd

theorem TimeOnly.tinEnter {p t : Nat} {r : TinRec} (h : TimeOnly s₀ s) : TimeOnly s₀ (s.tinEnter p t r) :=
  .ite (h.setTin.setBit.bus (.count _ _)) (h.setTin.bus (.syncVec _ _))

theorem TimeOnly.tinDeliver {p : Nat} {l : List TinRec} (h : TimeOnly s₀ s) : TimeOnly s₀ (s.tinDeliver p l) := by
  induction l generalizing s with
  | nil => exact h.setTin
  | cons r l ih => exact .ite h.setTin (ih h.tinEnter)

theorem TimeOnly.markEdges {u : State} (h : TimeOnly s₀ s) : TimeOnly s₀ (u.markEdges s) := by
  unfold State.markEdges
  refine .foldl h fun _ _ hv => ?_
  extract_lets d
  split
  · exact hv.upd
  · exact hv

theorem tickDomain_step (ppm : Nat) (D : Domain) : (tickDomain ppm D).1.step = D.step := rfl

theorem tickMany_step (ppm n : Nat) (x : Domain × Bool) : (tickMany ppm n x).1.step = x.1.step := by
  induction n generalizing x with
  | zero => rfl
  | succ n ih =>
    unfold tickMany
    split
    · rfl
    · exact (ih _).trans (tickDomain_step ppm _)

theorem TimeOnly.tickDom {d : Nat} (h : TimeOnly s₀ s) : TimeOnly s₀ (s.tickDom d) := by
  unfold State.tickDom
  have hset : TimeOnly s₀ (s.setDom d (tickDomain (s.slewPpm d) (s.dom d)).1) := h.setDom (tickDomain_step _ _)
  split
  next D c hp =>
    rw [hp] at hset
    exact .ite hset.setBit hset

theorem TimeOnly.tick (h : TimeOnly s₀ s) : TimeOnly s₀ s.tick := by
  unfold State.tick
  extract_lets s0 s1
  have h0 : TimeOnly s₀ { s0 with tb := s0.tb + 1 } := h.ivlTakeAll.upd
  have h1 : TimeOnly s₀ s1 := h0.foldl fun _ _ hu => hu.tickDom
  exact .ite h (h1.markEdges.foldl fun _ _ hu => .ite hu hu.tinDeliver)

theorem TimeOnly.passDoms {n : Nat} (h : TimeOnly s₀ s) : TimeOnly s₀ (s.passDoms n) := by
  unfold State.passDoms
  refine .ite h (TimeOnly.foldl (s := { s with tb := s.tb + n }) h.upd fun u d hu => ?_)
  extract_lets r s1
  have h1 : TimeOnly s₀ s1 := hu.setDom (tickMany_step _ _ _)
  exact .ite h1.setBit h1

theorem TimeOnly.passN (s : State) (n : Nat) : TimeOnly s (s.passN n) := .ite (.refl s) (TimeOnly.refl s).ivlTakeAll.passDoms.tick

theorem TimeOnly.passTo (s : State) (d : Nat) (x : Int) : TimeOnly s (s.passTo d x) := .passN s _

/-! ### The seal (R145) -/

/-- What the seal makes of an engine. -/
def Engine.sealedAt (E : Engine) : Engine := if E.running then E else { E with sealed := true }

theorem setsEngine_seal (s : State) :
    SetsEngine s (fun s e => if (s.eng e).running then s else s.setEng e { s.eng e with sealed := true }) fun _ => Engine.sealedAt := by
  intro u e _
  unfold Engine.sealedAt
  by_cases hrun : (u.eng e).running = true
  · exact .inr ⟨if_pos hrun, if_pos hrun⟩
  · exact .inl ((if_neg hrun).trans (congrArg (u.setEng e) (if_neg hrun).symm))

/-- R145: the part of O13 on the seal. -/
theorem listSeal : Rules.ListSeal := by
  refine fun s => ⟨fun hbegun => ⟨_, rfl, fun e he => ?_⟩, fun hbegun => ⟨_, rfl, ?_⟩⟩ <;> unfold State.listSeal
  · rw [if_neg (by simp [hbegun])]
    have hpass := TimeOnly.passTo s s.orbit.grid.dom (s.orbit.next * 65536 - ((64 * nsUnit : Nat) : Int))
    have heng : (s.passTo s.orbit.grid.dom (s.orbit.next * 65536 - ((64 * nsUnit : Nat) : Int))).eng e = s.eng e := by
      unfold State.eng
      rw [hpass.engines]
    exact ((setsEngine_seal _).nine.2 e he).trans (congrArg Engine.sealedAt heng)
  · exact if_pos (by simp [hbegun])

/-! ### Gate lists that the firmware has loaded (R184) -/

theorem glistLoad_go (s : State) {pre post : List Txn} {x : Txn} (hpre : ∀ y ∈ pre, y.loading = false) (hx : x.loading = true) :
    State.glistLoad.go s (pre ++ x :: post) = pre ++ { x with loading := false, tb := s.tb } :: post := by
  induction pre with
  | nil => exact if_pos hx
  | cons y pre ih =>
    obtain ⟨hy, hpre⟩ := List.forall_mem_cons.mp hpre
    refine (if_neg ?_).trans (congrArg (y :: ·) (ih hpre))
    rw [hy]
    exact Bool.false_ne_true

/-- R184: the part of O13 on the loading of a compiled program. -/
theorem gateListLoadEndsStaging : Rules.GateListLoadEndsStaging := by
  intro s pre post x htxns hpre hx
  refine ⟨_, rfl, ?_⟩
  unfold State.glistLoad
  rw [htxns, glistLoad_go s hpre hx]

end Sys2Proof.Machine
end

section
/-! ## Over the end of an Orbit its timetable and its domains' steps stay (R140) -/

namespace Sys2Proof.Machine

-- As for `Keeps`: the many short proofs are elaborated one after another.
set_option Elab.async false

variable {q : Bool} {s₀ s t : State}

/-! ### The frame -/

/-- The start of this Orbit and of the next, the grid and whether the Orbit is stretched are as they were; with `q`, so is what would change them: a grid
written, and the steps of the domains that wait. -/
structure OnPlan (q : Bool) (s₀ s : State) : Prop where
  start : s.orbit.start = s₀.orbit.start
  next : s.orbit.next = s₀.orbit.next
  grid : s.orbit.grid = s₀.orbit.grid
  stretched : s.orbit.stretched = s₀.orbit.stretched
  written : q = true → s.orbit.gridWrite = s₀.orbit.gridWrite
  step : q = true → ∀ d, (s.dom d).step = (s₀.dom d).step

theorem OnPlan.refl (q : Bool) (s : State) : OnPlan q s s := ⟨rfl, rfl, rfl, rfl, fun _ => rfl, fun _ _ => rfl⟩

theorem OnPlan.trans (h : OnPlan q s₀ s) (k : OnPlan q s t) : OnPlan q s₀ t where
  start := k.start.trans h.start
  next := k.next.trans h.next
  grid := k.grid.trans h.grid
  stretched := k.stretched.trans h.stretched
  written hq := (k.written hq).trans (h.written hq)
  step hq d := (k.step hq d).trans (h.step hq d)

theorem OnPlan.still (h : OnPlan q s₀ s) (k : Still s t) : OnPlan q s₀ t := by
  refine h.trans ⟨by rw [k.orbit], by rw [k.orbit], by rw [k.orbit], by rw [k.orbit], fun _ => by rw [k.orbit], fun _ d => ?_⟩
  rw [k.dom]

/-- Any part but the Orbits' and the domains' is changed. -/
theorem OnPlan.upd (h : OnPlan q s₀ s) (k : Still s t := by exact .parts) : OnPlan q s₀ t := h.still k

theorem OnPlan.time (h : OnPlan q s₀ s) (k : TimeOnly s t) : OnPlan q s₀ t :=
  h.trans ⟨by rw [k.orbit], by rw [k.orbit], by rw [k.orbit], by rw [k.orbit], fun _ => by rw [k.orbit], fun _ => k.step⟩

theorem OnPlan.setReg {a : Nat} {w : Word} (h : OnPlan q s₀ s) : OnPlan q s₀ (s.setReg a w) := h.still (Still.refl s).setReg

theorem OnPlan.setDom {d : Nat} {x : Domain} (h : OnPlan q s₀ s) (hx : x.step = (s.dom d).step := by rfl) : OnPlan q s₀ (s.setDom d x) := by
  refine h.trans ⟨rfl, rfl, rfl, rfl, fun _ => rfl, fun _ k => ?_⟩
  by_cases hk : k = d
  · rw [hk, State.dom_setDom_same, hx]
  · rw [State.dom_setDom_ne s hk]

theorem OnPlan.ite {c : Prop} {i : Decidable c} {u : State} (ht : OnPlan q s₀ t) (hu : OnPlan q s₀ u) : OnPlan q s₀ (if c then t else u) := by
  split
  · exact ht
  · exact hu

theorem OnPlan.foldl {α : Type} {f : State → α → State} {l : List α} (h : OnPlan q s₀ s) (hf : ∀ u x, OnPlan q s₀ u → OnPlan q s₀ (f u x)) :
    OnPlan q s₀ (l.foldl f s) := by
  induction l generalizing s with
  | nil => exact h
  | cons x l ih => exact ih (hf s x h)

theorem OnPlan.of_fst {α : Type} {p : State × α} {a : α} (h : OnPlan q s₀ p.1) (e : p = (s, a)) : OnPlan q s₀ s := by
  rw [e] at h
  exact h

/-! ### What an Orbit's end does -/

theorem OnPlan.wr {f : Fld} {v : Nat} (h : OnPlan q s₀ s) : OnPlan q s₀ (s.wr f v) := h.setReg
theorem OnPlan.setBit {f : Fld} {b : Bool} (h : OnPlan q s₀ s) : OnPlan q s₀ (s.setBit f b) := h.wr
theorem OnPlan.setEng {e : Nat} {x : Engine} (h : OnPlan q s₀ s) : OnPlan q s₀ (s.setEng e x) := h.still (Still.refl s).setEng
theorem OnPlan.syncVec {v : Nat} (h : OnPlan q s₀ s) : OnPlan q s₀ (s.syncVec v) := h.still (Still.refl s).syncVec
theorem OnPlan.countBy {c : Ctr} {n : Nat} (h : OnPlan q s₀ s) : OnPlan q s₀ (s.countBy c n) := h.still (Still.refl s).countBy
theorem OnPlan.count {c : Ctr} (h : OnPlan q s₀ s) : OnPlan q s₀ (s.count c) := h.still (Still.refl s).count
theorem OnPlan.setWords {a : Nat} {ws : List Word} (h : OnPlan q s₀ s) : OnPlan q s₀ (s.setWords a ws) := h.still (Still.refl s).setWords

theorem OnPlan.drive {p : Nat} {l : Bool} {at64 : Nat} (h : OnPlan q s₀ s) : OnPlan q s₀ (s.drive p l at64).1 := h.still (Still.refl s).drive
theorem OnPlan.noteRise {p : Fin 8} {at64 : Nat} (h : OnPlan q s₀ s) : OnPlan q s₀ (s.noteRise p at64) := h.still (Still.refl s).noteRise
theorem OnPlan.passN {n : Nat} (h : OnPlan q s₀ s) : OnPlan q s₀ (s.passN n) := h.time (.passN s n)
theorem OnPlan.passTo {d : Nat} {t : Int} (h : OnPlan q s₀ s) : OnPlan q s₀ (s.passTo d t) := h.passN
theorem OnPlan.setEgr {p : Nat} {x : Egress} (h : OnPlan q s₀ s) : OnPlan q s₀ (s.setEgr p x) := h.still (Still.refl s).setEgr
theorem OnPlan.rsvRequest (h : OnPlan q s₀ s) : OnPlan q s₀ s.rsvRequest := h.setBit.upd

theorem OnPlan.cutEarliest {p : Nat} (h : OnPlan q s₀ s) : OnPlan q s₀ (s.cutEarliest p) := by
  unfold State.cutEarliest
  extract_lets u
  split
  · exact .ite h.setEgr h
  · exact h

theorem OnPlan.launch {p c : Nat} {slot : Option Nat} {prio : Nat} (h : OnPlan q s₀ s) :
    OnPlan q s₀ (s.launch p c slot prio).1 := h.still (Still.refl s).launch

theorem OnPlan.lapse {p c : Nat} (h : OnPlan q s₀ s) : OnPlan q s₀ (s.lapse p c) := by
  unfold State.lapse
  extract_lets gone u s1 s2
  have h1 : OnPlan q s₀ s1 := h.setEgr
  have h2 : OnPlan q s₀ s2 := h1.countBy
  refine .foldl h2 fun _ _ hu => ?_
  split
  · exact hu.setBit
  · exact hu

theorem OnPlan.setGates {p st hold : Nat} (h : OnPlan q s₀ s) : OnPlan q s₀ (s.setGates p st hold) := by
  unfold State.setGates
  extract_lets old s1 s2 s3
  have h1 : OnPlan q s₀ s1 := h.foldl fun _ _ hu => .ite hu.lapse (.ite hu.setEgr hu)
  have h2 : OnPlan q s₀ s2 := h1.wr
  have h3 : OnPlan q s₀ s3 := .ite h2.setBit (.ite h2.setBit h2)
  split
  · exact .ite h3.cutEarliest h3
  · exact h3

theorem OnPlan.sampleAct {e : Nat} {a : Act} {disc : Option Nat} {actual : Int} (h : OnPlan q s₀ s) :
    OnPlan q s₀ (s.sampleAct e a disc actual) := h.still (Still.refl s).sampleAct

theorem OnPlan.injFail (h : OnPlan q s₀ s) : OnPlan q s₀ s.injFail := h.upd

theorem OnPlan.slipAll {e : Nat} (h : OnPlan q s₀ s) : OnPlan q s₀ (s.slipAll e) := by
  unfold State.slipAll
  extract_lets E late s1
  have h1 : OnPlan q s₀ s1 := h.setEng.countBy
  exact .ite h (.ite h1.injFail h1)

theorem OnPlan.acted {e : Nat} {a : Act} (h : OnPlan q s₀ s) : OnPlan q s₀ (s.acted e a) := h.sampleAct

theorem OnPlan.inject {e p t : Nat} {a : Act} (h : OnPlan q s₀ s) : OnPlan q s₀ (s.inject e p t a) :=
  .ite h.count.sampleAct <|
  .ite h.count.sampleAct.injFail <|
  .ite h.count.acted.injFail (.ite h.count.sampleAct.injFail h.setEgr.acted.upd)

theorem OnPlan.setSgate {h' : Nat} {b : Bool} (h : OnPlan q s₀ s) : OnPlan q s₀ (s.setSgate h' b) := .ite h h.setBit.upd

theorem OnPlan.toutAct {e p : Nat} {lvl : Bool} {a : Act} (h : OnPlan q s₀ s) : OnPlan q s₀ (s.toutAct e p lvl a) := by
  unfold State.toutAct
  extract_lets late at64 s0
  have h0 : OnPlan q s₀ s0 := .ite h.noteRise h
  split
  · exact h.count.sampleAct
  · split
    · exact h0.acted
    · split
      next hp => exact (h0.drive.of_fst hp).count.sampleAct
      next hp => exact (h0.drive.of_fst hp).acted

theorem OnPlan.capture {e d k : Nat} (h : OnPlan q s₀ s) : OnPlan q s₀ (s.capture e d k) := h.setWords

theorem OnPlan.hubLatch {mark : Option Nat} {gs : List Nat} (h : OnPlan q s₀ s) : OnPlan q s₀ (s.hubLatch mark gs) := by
  unfold State.hubLatch
  extract_lets u s1 u'
  have h1 : OnPlan q s₀ s1 := h.upd
  exact h1.upd

theorem OnPlan.hubMark {g : Nat} (h : OnPlan q s₀ s) : OnPlan q s₀ (s.hubMark g) :=
  .ite h.setBit.syncVec <|
  .ite h (.ite h.count h.hubLatch)

theorem OnPlan.launchAct {e p c : Nat} {a : Act} (h : OnPlan q s₀ s) : OnPlan q s₀ (s.launchAct e p c a) := by
  unfold State.launchAct
  split
  · exact h.count.sampleAct
  · split
    next hp => exact (h.launch.of_fst hp).acted
    next hp => exact (h.launch.of_fst hp).count.acted

theorem OnPlan.doAct {e : Nat} {a : Act} (h : OnPlan q s₀ s) : OnPlan q s₀ (s.doAct e a) := by
  unfold State.doAct
  split
  · exact h.setGates.acted
  · exact h.setSgate.acted
  · exact h.launchAct
  · exact h.inject
  · exact h.toutAct
  · exact h.capture.acted
  · exact h.hubMark.acted
  · exact h.rsvRequest.acted

theorem OnPlan.takeAct {e : Nat} (h : OnPlan q s₀ s) : OnPlan q s₀ (s.takeAct e) := by
  unfold State.takeAct
  extract_lets u
  split
  · exact h
  · exact h.setEng.doAct

theorem OnPlan.slipDue (h : OnPlan q s₀ s) : OnPlan q s₀ s.slipDue := h.foldl fun _ _ hu => hu.slipAll

theorem OnPlan.runActs {stop : State → Bool} {n : Nat} (h : OnPlan q s₀ s) : OnPlan q s₀ (s.runActs stop n) := by
  induction n generalizing s with
  | zero => exact h
  | succ n ih =>
    unfold State.runActs
    split
    · exact h
    · split
      · exact ih h.takeAct
      · split
        · exact ih h.slipDue.passN
        · exact h

theorem OnPlan.flush (h : OnPlan q s₀ s) : OnPlan q s₀ s.flush := h.runActs
theorem OnPlan.prvSeqs (h : OnPlan q s₀ s) : OnPlan q s₀ s.prvSeqs := h.still (Still.refl s).prvSeqs
theorem OnPlan.overrun {e : Nat} (h : OnPlan q s₀ s) : OnPlan q s₀ (s.overrun e) := h.still (Still.refl s).overrun
theorem OnPlan.orbitEnd (h : OnPlan q s₀ s) : OnPlan q s₀ s.orbitEnd := h.flush.passTo.prvSeqs.foldl fun _ _ hu => hu.overrun

end Sys2Proof.Machine
end

section
/-! ## What an Orbit start does besides leaves the timetable (R140) -/

namespace Sys2Proof.Machine

-- As for `Keeps`: the many short proofs are elaborated one after another.
set_option Elab.async false

variable {s₀ s t : State}

/-! ### The frame -/

theorem OnPlan.of_orbit (h : OnPlan false s₀ s) (ho : t.orbit = s.orbit) : OnPlan false s₀ t :=
  h.trans ⟨by rw [ho], by rw [ho], by rw [ho], by rw [ho], nofun, nofun⟩

/-- A domain is set, be it to a step. -/
theorem OnPlan.anyDom {d : Nat} {x : Domain} (h : OnPlan false s₀ s) : OnPlan false s₀ (s.setDom d x) := h.of_orbit rfl

theorem OnPlan.setTout {p : Nat} {x : Tout} (h : OnPlan false s₀ s) : OnPlan false s₀ (s.setTout p x) := h.upd
theorem OnPlan.setIvl {u : Nat} {x : Ivl} (h : OnPlan false s₀ s) : OnPlan false s₀ (s.setIvl u x) := h.upd
theorem OnPlan.ivlTake {u : Nat} (h : OnPlan false s₀ s) : OnPlan false s₀ (s.ivlTake u) := h.time (TimeOnly.refl s).ivlTake

theorem OnPlan.mapRegs {f : Nat → Word → Word} (h : OnPlan false s₀ s) : OnPlan false s₀ { s with regs := storeMap resetWord f s.regs } := h.of_orbit rfl

/-- A grid is written, and waits. -/
theorem OnPlan.setGridWrite {x : Option Nat} (h : OnPlan false s₀ s) : OnPlan false s₀ { s with orbit := { s.orbit with gridWrite := x } } :=
  h.trans ⟨rfl, rfl, rfl, rfl, nofun, nofun⟩

theorem OnPlan.ite_fst {α : Type} {c : Prop} {i : Decidable c} {p q : State × α} (hp : OnPlan false s₀ p.1) (hq : OnPlan false s₀ q.1) :
    OnPlan false s₀ (if c then p else q).1 := by
  split
  · exact hp
  · exact hq

theorem OnPlan.fst {α : Type} {a : α} (h : OnPlan false s₀ s) : OnPlan false s₀ (s, a).1 := h

/-! ### Outputs, logs, modes -/

theorem OnPlan.emit {o : Out} (h : OnPlan false s₀ s) : OnPlan false s₀ (s.emit o) := h.still (Still.refl s).emit
theorem OnPlan.deliver {v : Nat} (h : OnPlan false s₀ s) : OnPlan false s₀ (s.deliver v) := h.still (Still.refl s).deliver
theorem OnPlan.setCtr {c : Ctr} {v : Nat} (h : OnPlan false s₀ s) : OnPlan false s₀ (s.setCtr c v) := h.still (Still.refl s).setCtr
theorem OnPlan.log {code p0 p1 : Nat} (h : OnPlan false s₀ s) : OnPlan false s₀ (s.log code p0 p1) := h.still (Still.refl s).log
theorem OnPlan.toMode {m : Mode} {cause detail : Nat} (h : OnPlan false s₀ s) : OnPlan false s₀ (s.toMode m cause detail) := h.still (Still.refl s).toMode
theorem OnPlan.ctrHold {c : Ctr} {v : Word} (h : OnPlan false s₀ s) : OnPlan false s₀ (s.ctrHold c v) := h.upd
theorem OnPlan.ctrWriteLow {c : Ctr} {v : Word} (h : OnPlan false s₀ s) : OnPlan false s₀ (s.ctrWriteLow c v) := h.setCtr.upd
theorem OnPlan.twHist {k : Nat} (h : OnPlan false s₀ s) : OnPlan false s₀ (s.twHist k) := h.setBit.syncVec
theorem OnPlan.setRole {r : Role} {claim : Nat} (h : OnPlan false s₀ s) : OnPlan false s₀ (s.setRole r claim) := h.still (Still.refl s).setRole
theorem OnPlan.prvAbort (h : OnPlan false s₀ s) : OnPlan false s₀ s.prvAbort := .ite h.upd h.wr.setBit.setBit.upd.log

/-! ### Domains, pins and triggers -/

theorem OnPlan.setRate {d : Nat} {r : Int} (h : OnPlan false s₀ s) : OnPlan false s₀ (s.setRate d r) := .ite h.setDom h.setDom.setBit

theorem OnPlan.adjust {d : Nat} {δ : Int} (h : OnPlan false s₀ s) : OnPlan false s₀ (s.adjust d δ).1 :=
  .ite_fst h.fst <|
  .ite_fst h.anyDom.fst (.ite_fst h.anyDom.fst h.setBit.syncVec.fst)

theorem OnPlan.ivlDrop {u : Nat} (h : OnPlan false s₀ s) : OnPlan false s₀ (s.ivlDrop u) := h.setIvl
theorem OnPlan.noteLoop {p at64 : Nat} (h : OnPlan false s₀ s) : OnPlan false s₀ (s.noteLoop p at64) := h.still (Still.refl s).noteLoop

theorem OnPlan.takeCfg {p : Nat} {c : ToutCfg} {kept : Bool} {at64 : Nat} (h : OnPlan false s₀ s) : OnPlan false s₀ (s.takeCfg p c kept at64) := by
  unfold State.takeCfg
  extract_lets T s1 l s2 u t
  have h1 : OnPlan false s₀ s1 := h.setTout
  have h2 : OnPlan false s₀ s2 := .ite h1.noteRise h1
  exact .ite h2.setTout h2.setTout.emit.noteLoop

theorem OnPlan.applyCfg {p : Nat} (h : OnPlan false s₀ s) : OnPlan false s₀ (s.applyCfg p) := by
  unfold State.applyCfg
  extract_lets T s1 u
  have h1 : OnPlan false s₀ s1 := h.setTout
  split
  · exact .ite (.ite h1.setTout h1.takeCfg) h
  · exact h

theorem OnPlan.pinsOff (h : OnPlan false s₀ s) : OnPlan false s₀ s.pinsOff := h.still (Still.refl s).pinsOff

theorem OnPlan.markStart (h : OnPlan false s₀ s) : OnPlan false s₀ s.markStart := by
  unfold State.markStart
  refine .foldl h fun _ _ hu => ?_
  extract_lets T t back
  split
  · exact hu.setTout
  · exact hu

theorem OnPlan.ignoreWrite {d : Nat} (h : OnPlan false s₀ s) : OnPlan false s₀ (s.ignoreWrite d) := h.setBit
theorem OnPlan.rateLoWrite {d : Nat} {v : Word} (h : OnPlan false s₀ s) : OnPlan false s₀ (s.rateLoWrite d v) := .ite h.setDom h.ignoreWrite
theorem OnPlan.rateHiWrite {d : Nat} {v : Word} (h : OnPlan false s₀ s) : OnPlan false s₀ (s.rateHiWrite d v) := .ite h.setDom.setRate h.ignoreWrite

theorem OnPlan.stepReqWrite {d : Nat} {v : Word} (h : OnPlan false s₀ s) : OnPlan false s₀ (s.stepReqWrite d v) :=
  .ite h.ignoreWrite (.ite h.setReg.adjust h.setReg)

theorem OnPlan.snapRequest (h : OnPlan false s₀ s) : OnPlan false s₀ s.snapRequest := .ite h h.setBit.upd

theorem OnPlan.trgWrite {k : Nat} {v : Word} (h : OnPlan false s₀ s) : OnPlan false s₀ (s.trgWrite k v) :=
  .ite (.ite h h.setReg.upd.syncVec) h.setReg.upd.syncVec

/-! ### Calibration and trackers -/

theorem OnPlan.setCal {g : Nat} {x : Option CalRun} (h : OnPlan false s₀ s) : OnPlan false s₀ (s.setCal g x) := h.upd
theorem OnPlan.calAsk {g : Nat} (h : OnPlan false s₀ s) : OnPlan false s₀ (s.calAsk g) := .ite h.upd h
theorem OnPlan.calPend {c : Nat} (h : OnPlan false s₀ s) : OnPlan false s₀ (s.calPend c) := .ite h h.setBit.calAsk
theorem OnPlan.calScan {k : Nat} (h : OnPlan false s₀ s) : OnPlan false s₀ (s.calScan k) := h.foldl fun _ _ hu => .ite hu.calPend hu
theorem OnPlan.handBack {g c : Nat} (h : OnPlan false s₀ s) : OnPlan false s₀ (s.handBack g c) := .ite h.wr.wr.wr h

theorem OnPlan.calEnd {g : Nat} (h : OnPlan false s₀ s) : OnPlan false s₀ (s.calEnd g) := by
  unfold State.calEnd
  split
  · exact h
  · exact h.handBack.setCal.setBit.wr.upd.calAsk

theorem OnPlan.calAbort {g : Nat} (h : OnPlan false s₀ s) : OnPlan false s₀ (s.calAbort g) := h.calEnd

theorem OnPlan.calPinTaken (h : OnPlan false s₀ s) : OnPlan false s₀ s.calPinTaken := by
  unfold State.calPinTaken
  split
  · exact .ite h.calAbort h
  · exact h

theorem OnPlan.setTracker {p : Nat} {x : Tracker} (h : OnPlan false s₀ s) : OnPlan false s₀ (s.setTracker p x) := h.upd
theorem OnPlan.trackerReset {p : Nat} (h : OnPlan false s₀ s) : OnPlan false s₀ (s.trackerReset p) := h.setTracker.setBit

/-! ### Clocks and power -/

theorem OnPlan.applyClk (h : OnPlan false s₀ s) : OnPlan false s₀ s.applyClk := by
  unfold State.applyClk
  extract_lets u
  split
  · exact .ite h.upd h
  · exact h

theorem OnPlan.coreStop (h : OnPlan false s₀ s) : OnPlan false s₀ s.coreStop := h.upd

theorem OnPlan.lvfWrite {v : Word} (h : OnPlan false s₀ s) : OnPlan false s₀ (s.lvfWrite v) := by
  unfold State.lvfWrite
  extract_lets en pt s1 mv up u s2
  have h1 : OnPlan false s₀ s1 := h.setBit.wr
  have h2 : OnPlan false s₀ s2 := h1.upd
  exact .ite h.setBit <|
    .ite h (.ite h2.wr.setBit h2.coreStop)

theorem OnPlan.lvfAck (h : OnPlan false s₀ s) : OnPlan false s₀ s.lvfAck := by
  unfold State.lvfAck
  extract_lets s1
  have h1 : OnPlan false s₀ s1 := h.setBit
  split
  · exact h
  · split
    · exact h1.coreStop
    · exact h1

theorem OnPlan.clkobsOut (h : OnPlan false s₀ s) : OnPlan false s₀ s.clkobsOut := h.emit
theorem OnPlan.clkobsWrite {v : Word} (h : OnPlan false s₀ s) : OnPlan false s₀ (s.clkobsWrite v) := .ite h.setReg h.setReg.clkobsOut
theorem OnPlan.clkobsAfter {s0 : State} (h : OnPlan false s₀ s) : OnPlan false s₀ (s.clkobsAfter s0) := .ite h h.clkobsOut
theorem OnPlan.setOct {o v : Nat} (h : OnPlan false s₀ s) : OnPlan false s₀ (s.setOct o v) := h.wr
theorem OnPlan.octExit {o : Nat} (h : OnPlan false s₀ s) : OnPlan false s₀ (s.octExit o) := .ite (.ite h.upd.setBit h.upd) h

theorem OnPlan.unpark {bits : Nat} (h : OnPlan false s₀ s) : OnPlan false s₀ (s.unpark bits) :=
  .ite h ((h.setReg.setBit.setBit.upd.foldl fun _ _ hu => .ite hu.octExit hu).syncVec)

theorem OnPlan.wake {bits : Nat} (h : OnPlan false s₀ s) : OnPlan false s₀ (s.wake bits) := .ite h h.unpark.toMode
theorem OnPlan.ltrOct {o : Nat} (h : OnPlan false s₀ s) : OnPlan false s₀ (s.ltrOct o) := .ite h.octExit (.ite h.wake h)
theorem OnPlan.ltrDev (h : OnPlan false s₀ s) : OnPlan false s₀ s.ltrDev := .ite h.wake h

/-! ### Ports, streams and launch slots -/

theorem OnPlan.pfcSend {p c : Nat} {on : Bool} (h : OnPlan false s₀ s) : OnPlan false s₀ (s.pfcSend p c on) := h.emit.count
theorem OnPlan.xoffCheck {p c : Nat} (h : OnPlan false s₀ s) : OnPlan false s₀ (s.xoffCheck p c) := .ite (.ite h.setEgr h.setEgr.pfcSend) h
theorem OnPlan.xoffScan {o : Nat} (h : OnPlan false s₀ s) : OnPlan false s₀ (s.xoffScan o) := h.foldl fun _ _ hu => .ite hu.xoffCheck hu
theorem OnPlan.setSeqHist {f : Nat} {x : SeqHist} (h : OnPlan false s₀ s) : OnPlan false s₀ (s.setSeqHist f x) := h.upd
theorem OnPlan.takeAny {f : Nat} (h : OnPlan false s₀ s) : OnPlan false s₀ (s.takeAny f) := h.setBit.count.setSeqHist
theorem OnPlan.setBucket {x : Nat} {b : Bucket} (h : OnPlan false s₀ s) : OnPlan false s₀ (s.setBucket x b) := h.upd
theorem OnPlan.bucketFull {x : Nat} (h : OnPlan false s₀ s) : OnPlan false s₀ (s.bucketFull x) := h.setBucket

theorem OnPlan.mmVerify {p : Nat} (h : OnPlan false s₀ s) : OnPlan false s₀ (s.mmVerify p) := by
  unfold State.mmVerify
  extract_lets u s1
  have h1 : OnPlan false s₀ s1 := .ite h.wr.setEgr.emit h.wr.setEgr
  exact .ite h1 h1.setBit

theorem OnPlan.setShaper {k : Nat} {x : Shaper} (h : OnPlan false s₀ s) : OnPlan false s₀ (s.setShaper k x) := h.upd

theorem OnPlan.sampleDiscard {e cause : Nat} {as : List Act} (h : OnPlan false s₀ s) :
    OnPlan false s₀ (s.sampleDiscard e cause as) := h.still (Still.refl s).sampleDiscard

theorem OnPlan.noteCyc {e cyc : Nat} (h : OnPlan false s₀ s) : OnPlan false s₀ (s.noteCyc e cyc) := h.still (Still.refl s).noteCyc
theorem OnPlan.setHlsLate {p k : Nat} {b : Bool} (h : OnPlan false s₀ s) : OnPlan false s₀ (s.setHlsLate p k b) := h.still (Still.refl s).setHlsLate

theorem OnPlan.hlsWrite {p k : Nat} {v : Word} (h : OnPlan false s₀ s) : OnPlan false s₀ (s.hlsWrite p k v) :=
  .ite (.ite h h.setReg.setHlsLate) h.setReg.setHlsLate

/-! ### The counter hub -/

theorem OnPlan.hubPeriodic (h : OnPlan false s₀ s) : OnPlan false s₀ s.hubPeriodic := .ite h (.ite h.upd.count h.hubLatch)
theorem OnPlan.hubTake (h : OnPlan false s₀ s) : OnPlan false s₀ s.hubTake := .ite h h.upd.wr
theorem OnPlan.smpWrite {v : Word} (h : OnPlan false s₀ s) : OnPlan false s₀ (s.smpWrite v) := .ite h.setReg (h.setReg.foldl fun _ _ hu => hu.setEng)

/-! ### References -/

theorem OnPlan.setRef {d : Nat} {x : Ref} (h : OnPlan false s₀ s) : OnPlan false s₀ (s.setRef d x) := h.upd
theorem OnPlan.setCand {d k : Nat} {x : Cand} (h : OnPlan false s₀ s) : OnPlan false s₀ (s.setCand d k x) := h.upd
theorem OnPlan.candReset {d k : Nat} (h : OnPlan false s₀ s) : OnPlan false s₀ (s.candReset d k) := h.setCand

theorem OnPlan.candTo {d k st : Nat} (h : OnPlan false s₀ s) : OnPlan false s₀ (s.candTo d k st) := by
  unfold State.candTo
  extract_lets s1 u
  have h1 : OnPlan false s₀ s1 := h.wr
  split
  · exact h
  · split
    · exact h1.candReset
    · exact h1.setBit.candReset
    · exact h1.setCand
    · exact h1.setBit.setBit.syncVec
    · exact h1.setBit.setBit.syncVec
    · exact h1.setBit.setCand
    · exact h1

theorem OnPlan.domState {d : Nat} {t : TState} {cause detail : Nat} (h : OnPlan false s₀ s) : OnPlan false s₀ (s.domState d t cause detail) := by
  unfold State.domState
  extract_lets D R s1
  have h1 : OnPlan false s₀ s1 := h.setDom.setRef
  exact .ite h1.toMode (.ite h1.prvAbort.toMode h1)

theorem OnPlan.deselect {d : Nat} (h : OnPlan false s₀ s) : OnPlan false s₀ (s.deselect d) := by
  unfold State.deselect
  extract_lets s1
  have h1 : OnPlan false s₀ s1 := h.setBit.setBit.wr
  split
  · exact h.setBit
  · exact (OnPlan.ite h1.candTo h1).setRef

theorem OnPlan.enterHoldover {d cause detail : Nat} {compute keep : Bool} (h : OnPlan false s₀ s) :
    OnPlan false s₀ (s.enterHoldover d cause detail compute keep) := by
  unfold State.enterHoldover
  extract_lets held w valid rate s1 u s2 unq u' s3 s4 s5 h' s6
  have h1 : OnPlan false s₀ s1 := .domState (.ite h h.deselect)
  have h2 : OnPlan false s₀ s2 := h1.setRef
  clear_value s2
  have h3 : OnPlan false s₀ s3 := h2.setDom
  have h4 : OnPlan false s₀ s4 := h3.setBit
  have h5 : OnPlan false s₀ s5 := .ite h4.setBit h4
  have h6 : OnPlan false s₀ s6 := .ite h5 h5.setRate.wr.wr.wr
  exact h6.syncVec

theorem OnPlan.loseRef {d cause detail : Nat} (h : OnPlan false s₀ s) : OnPlan false s₀ (s.loseRef d cause detail) := by
  unfold State.loseRef
  split
  · exact h.enterHoldover
  · exact .ite h.enterHoldover h.deselect.domState
  · exact h.deselect
  · exact h.deselect

theorem OnPlan.pllStart {d : Nat} (h : OnPlan false s₀ s) : OnPlan false s₀ (s.pllStart d) := h.setRef

theorem OnPlan.request {d k : Nat} {δ : Int} (h : OnPlan false s₀ s) : OnPlan false s₀ (s.request d k δ).1 := by
  unfold State.request
  split
  next hp => exact (h.adjust.of_fst hp).candTo.fst
  next hp => exact (h.adjust.of_fst hp).fst

theorem OnPlan.follow {d k : Nat} (h : OnPlan false s₀ s) : OnPlan false s₀ (s.follow d k) := by
  unfold State.follow
  extract_lets old s1 s2 s3
  have h1 : OnPlan false s₀ s1 := by
    unfold s1
    split
    · exact .ite h.candTo h
    · exact h
  have h2 : OnPlan false s₀ s2 := h1.setBit.wr.candTo.setBit
  have h3 : OnPlan false s₀ s3 := h2.setBit.count.log
  exact .ite h h3.syncVec

theorem OnPlan.selectCand {d k : Nat} {force : Bool} (h : OnPlan false s₀ s) : OnPlan false s₀ (s.selectCand d k force).1 := by
  unfold State.selectCand
  extract_lets zero s1 u s2 a b s1' s2' D u' a' b'
  have h1 : OnPlan false s₀ s1 := .domState (.ite h.follow.setCand h.follow)
  have h2 : OnPlan false s₀ s2 := h1.setRef.pllStart
  have h1' : OnPlan false s₀ s1' := .ite h.follow.setCand h.follow
  have h2' : OnPlan false s₀ s2' := .ite h1'.domState h1'
  clear_value s2'
  split
  · exact .ite_fst h2.fst h2.request
  · exact .ite_fst h2.fst h2.request
  · exact .ite_fst h2'.setRef.setDom.fst h2'.setRef.request
  · exact .ite_fst h2'.setRef.setDom.fst h2'.setRef.request

/-! ### Engines' requests and mailboxes -/

theorem OnPlan.swapReq {e : Nat} (h : OnPlan false s₀ s) : OnPlan false s₀ (s.swapReq e) := .ite h h.setEng
theorem OnPlan.faultClear {e : Nat} (h : OnPlan false s₀ s) : OnPlan false s₀ (s.faultClear e) := (OnPlan.ite h.setEng h).setBit.syncVec
theorem OnPlan.setMb {p : Nat} {x : Mb} (h : OnPlan false s₀ s) : OnPlan false s₀ (s.setMb p x) := h.upd
theorem OnPlan.mbFill {p : Nat} {ws : List Word} (h : OnPlan false s₀ s) : OnPlan false s₀ (s.mbFill p ws) := h.mapRegs.setWords.setBit.syncVec

theorem OnPlan.mbPost {p : Nat} {ws : List Word} (h : OnPlan false s₀ s) : OnPlan false s₀ (s.mbPost p ws) :=
  .ite h.emit <|
  .ite h.emit (.ite h.setMb h.mbFill)

theorem OnPlan.mbClose {p : Nat} (h : OnPlan false s₀ s) : OnPlan false s₀ (s.mbClose p) := by
  unfold State.mbClose
  extract_lets u
  split
  · exact h
  · exact h.setMb.mbPost

theorem OnPlan.mbComplete {p st : Nat} {res : List Word} (h : OnPlan false s₀ s) : OnPlan false s₀ (s.mbComplete p st res) := by
  unfold State.mbComplete
  extract_lets op u
  split
  · exact h
  · exact h.setMb.mbClose

theorem OnPlan.mbPollAt {p : Nat} (h : OnPlan false s₀ s) : OnPlan false s₀ (s.mbPollAt p) := by
  unfold State.mbPollAt
  split
  · exact .ite h.mbComplete (.ite h h.mbComplete)
  · exact .ite h.mbComplete (.ite h h.mbComplete)
  · exact .ite h.mbComplete (.ite h h.mbComplete)
  · exact h

theorem OnPlan.mbPoll (h : OnPlan false s₀ s) : OnPlan false s₀ s.mbPoll := h.foldl fun _ _ hu => hu.mbPollAt

/-! ### Warm resets -/

theorem OnPlan.soloRole (h : OnPlan false s₀ s) : OnPlan false s₀ s.soloRole := h.still (Still.refl s).soloRole
theorem OnPlan.strapRegs (h : OnPlan false s₀ s) : OnPlan false s₀ s.strapRegs := h.still (Still.refl s).strapRegs

theorem OnPlan.afterWarm (h : OnPlan false s₀ s) : OnPlan false s₀ s.afterWarm := h.of_orbit rfl

theorem OnPlan.warmReset {src : Nat} (h : OnPlan false s₀ s) : OnPlan false s₀ (s.warmReset src) := by
  unfold State.warmReset
  extract_lets s1 s2
  have h1 : OnPlan false s₀ s1 := h.toMode.pinsOff.emit.soloRole
  have h2 : OnPlan false s₀ s2 := h1.afterWarm.strapRegs.wr
  exact .ite h <|
    .ite h.log (.ite h2.setBit h2)

theorem OnPlan.resetWrite {v : Word} (h : OnPlan false s₀ s) : OnPlan false s₀ (s.resetWrite v) := .ite h (.ite h.warmReset h.wr)

/-! ### Following, proving and roles -/

theorem OnPlan.startFollow {d : Nat} (h : OnPlan false s₀ s) : OnPlan false s₀ (s.startFollow d) := by
  unfold State.startFollow
  extract_lets s1 u s2
  have h1 : OnPlan false s₀ s1 := h.deselect.setBit
  have h2 : OnPlan false s₀ s2 := h1.setRef
  split
  · exact h2.domState
  · exact h2.domState
  · exact h2
  · exact h2

theorem OnPlan.stopFollow {d : Nat} (h : OnPlan false s₀ s) : OnPlan false s₀ (s.stopFollow d) := by
  unfold State.stopFollow
  extract_lets k s1 u u' s2 s3 u''
  have h1 : OnPlan false s₀ s1 := h.setBit
  have hu : OnPlan false s₀ u := h1.setBit
  have h2 : OnPlan false s₀ s2 := .ite hu.upd h1
  have h3 : OnPlan false s₀ s3 := by
    unfold s3
    split
    · exact h2.selectCand
    · exact h2.loseRef
  exact h3.upd

theorem OnPlan.refollow (h : OnPlan false s₀ s) : OnPlan false s₀ s.refollow := by
  unfold State.refollow
  refine .foldl h fun _ _ hu => ?_
  exact .ite (.ite hu hu.stopFollow) <|
    .ite hu.startFollow hu

theorem OnPlan.alignJudge (h : OnPlan false s₀ s) : OnPlan false s₀ s.alignJudge := by
  unfold State.alignJudge
  extract_lets d T ok near s1 al s2 u
  have h1 : OnPlan false s₀ s1 := h.upd
  have h2 : OnPlan false s₀ s2 := h1.setBit
  exact .ite h2.upd h2

theorem OnPlan.prvEnd (h : OnPlan false s₀ s) : OnPlan false s₀ s.prvEnd := by
  unfold State.prvEnd
  extract_lets plan pass r s1 s2 u T T1 s3 s4
  have h1 : OnPlan false s₀ s1 := h.wr.setBit
  have h2 : OnPlan false s₀ s2 := .ite (.ite h1.setBit h1) h1.twHist
  have h3 : OnPlan false s₀ s3 := h2.upd
  have h4 : OnPlan false s₀ s4 := .ite h3.setBit h3
  exact h4.log.toMode

theorem OnPlan.prvFrom {k : Nat} (h : OnPlan false s₀ s) : OnPlan false s₀ (s.prvFrom k) :=
  .ite h.upd <|
  .ite h.upd <|
  .ite h.upd (.ite h.setBit.prvEnd h.prvEnd)

theorem OnPlan.prvEnter {plan cause detail : Nat} {revert : Bool} (h : OnPlan false s₀ s) : OnPlan false s₀ (s.prvEnter plan cause detail revert) :=
  (h.wr.wr.setBit.foldl fun _ _ hu => hu.wr).upd.toMode.prvFrom

theorem OnPlan.prvOrbit (h : OnPlan false s₀ s) : OnPlan false s₀ s.prvOrbit := by
  unfold State.prvOrbit
  extract_lets u
  split
  · exact h
  · split
    · exact h.upd.prvEnter
    · split
      · exact .ite h.upd.prvEnter h
      · exact h

theorem OnPlan.provWithdraw (h : OnPlan false s₀ s) : OnPlan false s₀ s.provWithdraw := .ite h.upd h

theorem OnPlan.abortRun (h : OnPlan false s₀ s) : OnPlan false s₀ s.abortRun := by
  unfold State.abortRun
  extract_lets s1
  have h1 : OnPlan false s₀ s1 := h.prvAbort
  exact .ite h1.toMode h1

theorem OnPlan.takeRole {r : Role} {claim : Nat} {orphan : Bool} (h : OnPlan false s₀ s) : OnPlan false s₀ (s.takeRole r claim orphan) :=
  (OnPlan.ite h.wr h.abortRun.setRole).setBit.upd.setBit

theorem OnPlan.cometTake (h : OnPlan false s₀ s) : OnPlan false s₀ s.cometTake := by
  unfold State.cometTake
  refine .foldl h fun _ _ hu => ?_
  extract_lets d s1
  have h1 : OnPlan false s₀ s1 := .ite hu.twHist hu
  exact .ite h1.wr h1

theorem OnPlan.eclipse {revert : Bool} (h : OnPlan false s₀ s) : OnPlan false s₀ (s.eclipse revert) := by
  unfold State.eclipse
  extract_lets gen c s1 s2
  have h1 : OnPlan false s₀ s1 := h.takeRole.cometTake.refollow
  have h2 : OnPlan false s₀ s2 := .ite h1.log.twHist h1.count.log.twHist
  exact h2.wr.wake

theorem OnPlan.roleOrbit (h : OnPlan false s₀ s) : OnPlan false s₀ s.roleOrbit := by
  unfold State.roleOrbit
  extract_lets u s0
  have h0 : OnPlan false s₀ s0 := h.upd
  split
  · exact h0
  · exact h0.eclipse
  · exact h0.eclipse
  · exact h0.takeRole
  · extract_lets s1 s2 u u' s3
    have h1 : OnPlan false s₀ s1 := h0.takeRole
    have h2 : OnPlan false s₀ s2 := .ite h1.twHist h1
    have hu : OnPlan false s₀ u := h2.twHist
    have h3 : OnPlan false s₀ s3 := .ite hu.upd h2
    exact h3.refollow

/-! ### The twin link and gate lists -/

theorem OnPlan.twinSend {r : TwinRec} (h : OnPlan false s₀ s) : OnPlan false s₀ (s.twinSend r) := h.emit.emit

theorem OnPlan.twinOrbitSend (h : OnPlan false s₀ s) : OnPlan false s₀ s.twinOrbitSend := by
  unfold State.twinOrbitSend
  extract_lets g s1 c s2 s3
  have h1 : OnPlan false s₀ s1 := h.twinSend
  have h2 : OnPlan false s₀ s2 := h1.emit
  have h3 : OnPlan false s₀ s3 := h2.foldl fun _ _ hu => hu.twinSend
  exact .ite h (.ite h2 h3.twinSend.twinSend)

theorem OnPlan.twinOrbit (h : OnPlan false s₀ s) : OnPlan false s₀ s.twinOrbit := h.provWithdraw.roleOrbit.upd.refollow.alignJudge
theorem OnPlan.setGlist {p : Nat} {l : Option GateList} (h : OnPlan false s₀ s) : OnPlan false s₀ (s.setGlist p l) := h.upd
theorem OnPlan.setGpend {p : Nat} {l : Option GateList} (h : OnPlan false s₀ s) : OnPlan false s₀ (s.setGpend p l) := h.upd

theorem OnPlan.timeGlist {p : Nat} {l : GateList} {x0 : Int} (h : OnPlan false s₀ s) : OnPlan false s₀ (s.timeGlist p l x0) :=
  h.setGpend.setReg.setReg.setReg

theorem OnPlan.dropGlists {e : Nat} (h : OnPlan false s₀ s) : OnPlan false s₀ (s.dropGlists e) := h.foldl fun _ _ hu => hu.setGlist.setGpend.setBit.setBit

theorem OnPlan.takeGlists (h : OnPlan false s₀ s) : OnPlan false s₀ s.takeGlists :=
  h.foldl fun _ _ hu => .ite hu ((hu.foldl fun _ _ hu2 => hu2.setGlist.setGpend).setEng)

theorem OnPlan.showGlists (h : OnPlan false s₀ s) : OnPlan false s₀ s.showGlists := by
  unfold State.showGlists
  refine .foldl h fun _ _ hu => ?_
  split
  · extract_lets s1
    have h1 : OnPlan false s₀ s1 := hu.setBit.setBit
    exact .ite (.ite h1.setGlist h1) hu
  · exact hu

/-! ### Engines at an Orbit start -/

theorem OnPlan.beginRun {e : Nat} (h : OnPlan false s₀ s) : OnPlan false s₀ (s.beginRun e) := h.wr.setEng
theorem OnPlan.compiledRun {e : Nat} (h : OnPlan false s₀ s) : OnPlan false s₀ (s.compiledRun e) := h.upd.wr.count.noteCyc.setEng
theorem OnPlan.startStop {e : Nat} (h : OnPlan false s₀ s) : OnPlan false s₀ (s.startStop e) := .ite h.setEng (.ite h.setEng h)

theorem OnPlan.swapAt {e : Nat} (h : OnPlan false s₀ s) : OnPlan false s₀ (s.swapAt e) := by
  unfold State.swapAt
  extract_lets E s1
  have h1 : OnPlan false s₀ s1 := h.setEng
  split
  · exact .ite (.ite h1.dropGlists h1) h
  · exact h

theorem OnPlan.runAt {e : Nat} (h : OnPlan false s₀ s) : OnPlan false s₀ (s.runAt e) := .ite h (.ite h.setEng.compiledRun h.setEng.beginRun)
theorem OnPlan.engOrbit {e : Nat} (h : OnPlan false s₀ s) : OnPlan false s₀ (s.engOrbit e) := h.setEng.startStop.swapAt.runAt
theorem OnPlan.park {o : Nat} (h : OnPlan false s₀ s) : OnPlan false s₀ (s.park o) := h.sampleDiscard.setEng.upd.setOct.calAbort
theorem OnPlan.p3Enter (h : OnPlan false s₀ s) : OnPlan false s₀ s.p3Enter := .ite h ((h.foldl fun _ _ hu => .ite hu hu.park).setBit.toMode)
theorem OnPlan.orbSlot (h : OnPlan false s₀ s) : OnPlan false s₀ s.orbSlot := h.wr.wr

/-! ### Register writes -/

theorem OnPlan.putReg {a : Nat} {m v : Word} (h : OnPlan false s₀ s) : OnPlan false s₀ (s.putReg a m v) := by
  unfold State.putReg
  extract_lets w
  split
  · exact h
  · exact h.setReg

theorem OnPlan.syncVecs {l : List Nat} (h : OnPlan false s₀ s) : OnPlan false s₀ (s.syncVecs l) := h.foldl fun _ _ hu => hu.syncVec
theorem OnPlan.evlRdMove (h : OnPlan false s₀ s) : OnPlan false s₀ s.evlRdMove := .ite h.wr h
theorem OnPlan.mbeClear (h : OnPlan false s₀ s) : OnPlan false s₀ s.mbeClear := h.setReg.foldl fun _ _ hu => hu.setReg
theorem OnPlan.rearm {base : Nat} {v : Word} (h : OnPlan false s₀ s) : OnPlan false s₀ (s.rearm base v) := h.foldl fun _ _ hu => .ite hu.deliver hu

theorem OnPlan.writeGlb {a : Nat} {m v : Word} (h : OnPlan false s₀ s) : OnPlan false s₀ (s.writeGlb a m v) :=
  .ite h.resetWrite <|
  .ite h.putReg.evlRdMove <|
  .ite (.ite h.mbeClear h) <|
  .ite h.rearm <|
  .ite h.rearm (.ite h.putReg.syncVecs h.putReg)

theorem OnPlan.writeCtr {a : Nat} {m v : Word} (h : OnPlan false s₀ s) : OnPlan false s₀ (s.writeCtr a m v) := by
  unfold State.writeCtr
  split
  · exact h.ctrWriteLow
  · split
    · exact .ite h.putReg h.ctrHold
    · exact h.putReg

theorem OnPlan.writeOct {a : Nat} {m v : Word} (h : OnPlan false s₀ s) : OnPlan false s₀ (s.writeOct a m v) := by
  unfold State.writeOct
  extract_lets o off p s1 k w s1'
  have h1 : OnPlan false s₀ s1 := h.putReg.syncVec
  have h1' : OnPlan false s₀ s1' := h.putReg
  split
  · exact h
  · split
    · exact .ite h h.writeCtr
    · split
      · exact .ite h1.trackerReset h1
      · split
        · exact .ite h.hlsWrite (.ite h h.putReg)
        · exact .ite h.setShaper.putReg <|
            .ite (.ite h1'.mmVerify h1') <|
            .ite h.putReg.xoffScan h.putReg

theorem OnPlan.writeFab {a : Nat} {m v : Word} (h : OnPlan false s₀ s) : OnPlan false s₀ (s.writeFab a m v) :=
  .ite (.ite h.rsvRequest h) <|
  .ite h h.putReg

theorem OnPlan.writeStr {a : Nat} {m v : Word} (h : OnPlan false s₀ s) : OnPlan false s₀ (s.writeStr a m v) := by
  unfold State.writeStr
  extract_lets x s1
  have h1 : OnPlan false s₀ s1 := h.setBucket.putReg
  exact .ite (.ite h1.bucketFull h1) <|
    .ite h.writeCtr h.putReg

theorem OnPlan.writeDom {d a : Nat} {m v : Word} (h : OnPlan false s₀ s) : OnPlan false s₀ (s.writeDom d a m v) := by
  unfold State.writeDom
  extract_lets r s1
  have h1 : OnPlan false s₀ s1 := by
    unfold s1
    exact .ite h.rateLoWrite <|
      .ite h.rateHiWrite <|
      .ite h.stepReqWrite <|
      .ite (.ite h.putReg h.ignoreWrite) h.putReg
  exact h1.syncVec

theorem OnPlan.writeTim {a : Nat} {m v : Word} (h : OnPlan false s₀ s) : OnPlan false s₀ (s.writeTim a m v) := by
  unfold State.writeTim
  extract_lets p s1 u k w
  have h1 : OnPlan false s₀ s1 := h.putReg
  split
  · exact h.writeDom
  · split
    · exact .ite h.snapRequest h
    · split
      · exact .ite h1.setTout h1
      · split
        · exact h.putReg.calPinTaken.syncVec
        · split
          · exact .ite h.trgWrite <|
              .ite h.putReg.syncVec (.ite h.putReg.syncVec h)
          · exact h.putReg

theorem OnPlan.ivlCfgWrite {u : Nat} {m v : Word} (h : OnPlan false s₀ s) : OnPlan false s₀ (s.ivlCfgWrite u m v) := by
  unfold State.ivlCfgWrite
  extract_lets s1 u
  have h1 : OnPlan false s₀ s1 := h.ivlTake.ivlDrop.putReg
  exact .ite h1.calPinTaken h1.setIvl

theorem OnPlan.writeTdc {a : Nat} {m v : Word} (h : OnPlan false s₀ s) : OnPlan false s₀ (s.writeTdc a m v) :=
  .ite h.ivlCfgWrite <|
  .ite h.ivlTake.ivlDrop.putReg <|
  .ite (h.putReg.foldl fun _ _ hu => hu.calScan) (.ite h.putReg.syncVec h.putReg)

theorem OnPlan.ccfgWrite {d k : Nat} {m v : Word} (h : OnPlan false s₀ s) : OnPlan false s₀ (s.ccfgWrite d k m v) := .ite h.putReg h.putReg.wr.setCand

theorem OnPlan.writeRef {a : Nat} {m v : Word} (h : OnPlan false s₀ s) : OnPlan false s₀ (s.writeRef a m v) := by
  unfold State.writeRef
  extract_lets r d u s1
  have h1 : OnPlan false s₀ s1 := .ite h.setRef.putReg (.ite h.ccfgWrite h.putReg)
  exact .ite h1.syncVec h1.syncVec

theorem OnPlan.writeTwn {a : Nat} {m v : Word} (h : OnPlan false s₀ s) : OnPlan false s₀ (s.writeTwn a m v) := .ite h.putReg h.putReg.syncVec
theorem OnPlan.writeGrid {a : Nat} {m v : Word} (h : OnPlan false s₀ s) : OnPlan false s₀ (s.gridWrite a m v) := .ite h.putReg.setGridWrite h.setBit
theorem OnPlan.engCtrlWrite {e : Nat} {m v : Word} (h : OnPlan false s₀ s) : OnPlan false s₀ (s.engCtrlWrite e m v) := .ite h.putReg h.putReg.setEng
theorem OnPlan.engStatWrite {e : Nat} {m v : Word} (h : OnPlan false s₀ s) : OnPlan false s₀ (s.engStatWrite e m v) := .ite h.putReg.faultClear h.putReg

theorem OnPlan.writeOrb {a : Nat} {m v : Word} (h : OnPlan false s₀ s) : OnPlan false s₀ (s.writeOrb a m v) := by
  unfold State.writeOrb
  extract_lets e
  split
  · exact h.writeGrid
  · split
    · exact h.foldl fun _ _ hu => .ite hu.swapReq hu
    · split
      · exact .ite h.engCtrlWrite <|
          .ite h.engStatWrite (.ite h.writeCtr h.putReg)
      · exact .ite (.ite h h.putReg) h.putReg

theorem OnPlan.writeHub {a : Nat} {m v : Word} (h : OnPlan false s₀ s) : OnPlan false s₀ (s.writeHub a m v) := .ite h.smpWrite h.putReg.syncVec

theorem OnPlan.writePwr {a : Nat} {m v : Word} (h : OnPlan false s₀ s) : OnPlan false s₀ (s.writePwr a m v) :=
  .ite h.putReg.upd <|
  .ite h.clkobsWrite <|
  .ite h.putReg.ltrOct <|
  .ite h.putReg.ltrDev <|
  .ite h.lvfWrite <|
  .ite (.ite h.lvfAck h) h.putReg.syncVec

theorem OnPlan.msixCtlWrite {k a : Nat} {m v : Word} (h : OnPlan false s₀ s) : OnPlan false s₀ (s.msixCtlWrite k a m v) := .ite h.putReg.deliver h.putReg

theorem OnPlan.writeBar4 {a : Nat} {m v : Word} (h : OnPlan false s₀ s) : OnPlan false s₀ (s.writeBar4 a m v) :=
  .ite (.ite h h.setReg) <|
  .ite h.msixCtlWrite h.putReg.syncVec

theorem OnPlan.writeAt {a : Nat} {m v : Word} (h : OnPlan false s₀ s) : OnPlan false s₀ (s.writeAt a m v) :=
  .ite h.writeGlb <|
  .ite h.writeOct <|
  .ite h.writeFab <|
  .ite h.writeStr <|
  .ite h.writeTim <|
  .ite h.writeTdc <|
  .ite h.writeRef <|
  .ite h.writeTwn <|
  .ite h.writeOrb <|
  .ite h.writeHub (.ite h.writePwr h.writeBar4)

theorem OnPlan.regWrite {a : Nat} {m v : Word} (h : OnPlan false s₀ s) : OnPlan false s₀ (s.regWrite a m v) := by
  unfold State.regWrite
  extract_lets s1 u
  have h1 : OnPlan false s₀ s1 := h.writeAt
  exact .ite h1 h1.upd

/-! ### Changes of a transaction -/

theorem OnPlan.zeroWords {a n : Nat} (h : OnPlan false s₀ s) : OnPlan false s₀ (s.zeroWords a n) := h.setWords

theorem OnPlan.putCtx {x : Nat} {w : Option (List Word)} (h : OnPlan false s₀ s) : OnPlan false s₀ (s.putCtx x w) := by
  unfold State.putCtx
  extract_lets s1
  have h1 : OnPlan false s₀ s1 := h.setBucket
  split
  · extract_lets s2
    have h2 : OnPlan false s₀ s2 := h1.setWords
    exact .ite h2.bucketFull h2
  · exact h1.zeroWords.zeroWords

theorem OnPlan.putRec {f : Nat} {w : Option (List Word)} (h : OnPlan false s₀ s) : OnPlan false s₀ (s.putRec f w) := by
  unfold State.putRec
  split
  · extract_lets s1
    have h1 : OnPlan false s₀ s1 := h.setWords
    exact .ite h1 h1.takeAny
  · exact h.zeroWords.zeroWords

theorem OnPlan.putObj {kind i : Nat} {w : Option (List Word)} (h : OnPlan false s₀ s) : OnPlan false s₀ (s.putObj kind i w) := by
  unfold State.putObj
  split
  · exact h.putCtx
  · exact h.setWords
  · split
    · exact h.setWords
    · exact h.zeroWords
  · exact h.putRec

theorem OnPlan.selectProfile {d prof : Nat} (h : OnPlan false s₀ s) : OnPlan false s₀ (s.selectProfile d prof) := by
  unfold State.selectProfile
  extract_lets s1 s2 own s3
  have h1 : OnPlan false s₀ s1 := h.wr
  have h2 : OnPlan false s₀ s2 := .ite h1.wr h1
  have h3 : OnPlan false s₀ s3 := h2.upd
  refine .foldl h3 fun _ _ hu => ?_
  exact .ite hu <|
    .ite hu.wr.wr.setBit (.ite hu.wr.wr hu.wr)

theorem OnPlan.itemWrite {a : Nat} {m v : Word} (h : OnPlan false s₀ s) : OnPlan false s₀ (s.itemWrite a m v) :=
  .ite ((OnPlan.ite h.selectProfile h).regWrite) <|
  .ite h.regWrite.setReg (.ite h.setReg h.regWrite)

theorem OnPlan.loadChunk {e : Nat} {first last : Bool} {addr : Nat} {ws : List Word} (h : OnPlan false s₀ s) :
    OnPlan false s₀ (s.loadChunk e first last addr ws) :=
  (OnPlan.ite h.mapRegs h).setWords.setEng

theorem OnPlan.loopSet {d : Nat} {opn : Bool} (h : OnPlan false s₀ s) : OnPlan false s₀ (s.loopSet d opn) := by
  unfold State.loopSet
  extract_lets s1 u u'
  have h1 : OnPlan false s₀ s1 := h.deselect
  clear_value s1
  exact .ite h (.ite h1.setDom.domState h.setDom)

theorem OnPlan.putGrid {g : Grid} (h : OnPlan false s₀ s) : OnPlan false s₀ (s.putGrid g) := h.setWords.setGridWrite

theorem OnPlan.applyChange {c : Change} (h : OnPlan false s₀ s) : OnPlan false s₀ (s.applyChange c) := by
  unfold State.applyChange
  split
  · exact h.itemWrite
  · exact h.upd
  · exact h.setWords
  · exact h.putObj
  · exact h
  · exact h.putGrid
  · exact h.loadChunk
  · exact h.foldl fun _ _ hu => .ite hu.swapReq hu
  · exact h
  · exact .ite h.setRate (.ite h.adjust h.adjust)
  · exact h.loopSet

theorem OnPlan.jot {seq p st : Nat} (h : OnPlan false s₀ s) : OnPlan false s₀ (s.jot seq p st) := .ite h h.upd

/-- `f` is an operation that leaves the timetable. -/
def OnPlanBy {α : Type} (f : State → α → State) : Prop := ∀ s₀ s x, OnPlan false s₀ s → OnPlan false s₀ (f s x)

theorem OnPlanBy.of_eq {α : Type} {f g : State → α → State} (e : f = g) (h : OnPlanBy g) : OnPlanBy f := e ▸ h

/-- Stated of the function, as `KeptBy.closeTxn` is. -/
theorem OnPlanBy.closeTxn : OnPlanBy State.closeTxn := by
  refine .of_eq (by delta State.closeTxn; rfl) ?_
  intro s₀ s t h
  beta_reduce
  have h1 : OnPlan false s₀ (((s.jot t.seq t.partner 1).wr R.GLB_RCV_SEQ t.seq).log 0x11 t.seq 0) := h.jot.wr.log
  extract_lets -underBinder s1
  change OnPlan false s₀ s1 at h1
  clear_value s1
  cases (s1.mb t.partner).msg with
  | none => exact h1
  | some m => exact .ite h1.setMb.mbClose h1

theorem OnPlan.closeTxn {t : Txn} (h : OnPlan false s₀ s) : OnPlan false s₀ (s.closeTxn t) := OnPlanBy.closeTxn s₀ s t h

theorem OnPlan.applyTxn {x0 : Int} {t : Txn} (h : OnPlan false s₀ s) : OnPlan false s₀ (State.applyTxn x0 s t) := by
  unfold State.applyTxn
  extract_lets s1 s2
  have h1 : OnPlan false s₀ s1 := h.foldl fun _ _ hu => hu.applyChange
  have h2 : OnPlan false s₀ s2 := by
    unfold s2
    refine .foldl h1 fun _ _ hu => ?_
    split
    · exact .ite hu.timeGlist hu
    · exact hu
  exact h2.closeTxn

theorem OnPlan.applyDue {n : Nat} (h : OnPlan false s₀ s) : OnPlan false s₀ (State.applyDue n s) := by
  induction n generalizing s with
  | zero => exact h
  | succ n ih =>
    unfold State.applyDue
    split
    · exact h
    · exact .ite (ih h.upd.applyTxn) h

/-! ### The Orbit start (R140) -/

theorem stepDue_of_none {d : Nat} (h : (s.dom d).step = none) : s.stepDue d = none := by
  unfold State.stepDue
  rw [h]

theorem fireDue_of_none (h : ∀ d, (s.dom d).step = none) : s.fireDue = s :=
  List.foldl_fixed' (fun d => if_neg (by simp [stepDue_of_none (h d)])) _

theorem stepAt_of_none {d : Nat} (h : (s.dom d).step = none) : s.stepAt d = (s, 0) := by
  unfold State.stepAt
  rw [applyStep_of_none (stepDue_of_none h), stepDue_of_none h]

theorem stepsAt_of_none (h : ∀ d, (s.dom d).step = none) : s.stepsAt = (s, 0) :=
  List.foldl_fixed' (fun d => by simp [stepAt_of_none (h d)]) _

theorem fireStepped_of_same {u : State} (h : ∀ d, s.dom d = u.dom d) : s.fireStepped u = s :=
  List.foldl_fixed' (fun d => if_neg (by simp [h])) _

/-- The next Orbit starts one period after this one. -/
def State.periodOn (s : State) : State := { s with orbit := { s.orbit with next := s.orbit.start + (s.orbit.grid.period : Int), stretched := false } }

theorem periodOn_start (s : State) : s.numbered.periodOn.orbit.start = s.orbit.next := rfl
theorem periodOn_next (s : State) : s.numbered.periodOn.orbit.next = s.orbit.next + (s.orbit.grid.period : Int) := rfl
theorem periodOn_grid (s : State) : s.numbered.periodOn.orbit.grid = s.orbit.grid := rfl
theorem periodOn_stretched (s : State) : s.numbered.periodOn.orbit.stretched = false := rfl

theorem anchor_periodOn (s : State) : s.anchor 0 false false = s.periodOn := by simp [State.anchor, State.periodOn]

/-- With no step and no grid pending the Orbit is numbered, and nothing else is new but the start of the next. -/
theorem orbitBegin_of_none (hstep : ∀ d, (s.dom d).step = none) (hgrid : s.orbit.gridWrite = none) : s.orbitBegin = s.numbered.periodOn := by
  have hnum : ∀ d, (s.numbered.dom d).step = none := hstep
  have hdue : (s.numbered.stepDue s.numbered.orbit.grid.dom).isSome = false := by rw [stepDue_of_none (hnum _), Option.isSome_none]
  have hfresh : s.numbered.gridDue = false := by
    have hwrite : s.numbered.orbit.gridWrite = none := hgrid
    unfold State.gridDue
    rw [hwrite]
  unfold State.orbitBegin
  extract_lets n u s1 stepped
  have h1 : s1 = s.numbered := fireDue_of_none hnum
  have h2 : stepped = false := by
    unfold stepped
    rw [h1, hdue, Bool.false_and]
  rw [h2, h1, stepsAt_of_none hnum]
  dsimp only
  rw [hfresh, if_neg Bool.false_ne_true, anchor_periodOn]
  exact fireStepped_of_same fun _ => rfl

theorem OnPlan.afterBegin (hr : s.orbitsRun = true) : OnPlan false s.orbitEnd.orbitBegin s.orbitStart := by
  unfold State.orbitStart
  rw [if_neg (by simp [hr])]
  extract_lets s0 s1 s2 s3 s4
  have h1 : OnPlan false s0 s1 := (OnPlan.refl false s0).applyDue.twinOrbit.prvOrbit.p3Enter
  have h2 : OnPlan false s0 s2 := h1.takeGlists.showGlists
  have h3 : OnPlan false s0 s3 := h2.applyClk.clkobsAfter.foldl fun _ _ hu => hu.engOrbit
  have h4 : OnPlan false s0 s4 := (h3.foldl fun _ _ hu => hu.applyCfg).markStart
  exact h4.hubTake.hubPeriodic.orbSlot.twinOrbitSend.mbPoll

/-- R140: the part of O13 on Orbit starts. -/
theorem orbitStartsOnePeriodApart : Rules.OrbitStartsOnePeriodApart := by
  intro s hrun hstep hgrid
  have hend : OnPlan true s s.orbitEnd := (OnPlan.refl true s).orbitEnd
  have hbegin : s.orbitEnd.orbitBegin = s.orbitEnd.numbered.periodOn :=
    orbitBegin_of_none (fun d => (hend.step rfl d).trans (hstep d)) ((hend.written rfl).trans hgrid)
  have hafter : OnPlan false s.orbitEnd.numbered.periodOn s.orbitStart := hbegin ▸ OnPlan.afterBegin hrun
  refine ⟨_, rfl, ?_, ?_, ?_, hafter.stretched.trans (periodOn_stretched _)⟩
  · rw [hafter.start, periodOn_start, hend.next]
  · rw [hafter.next, periodOn_next, hend.next, hend.grid]
  · rw [hafter.grid, periodOn_grid, hend.grid]

/-- Settles O13: what an Orbit's end and start do besides leaves the timetable (`OnPlan`), and the seal sets the engines one after another. -/
theorem orbitStartsAndSeals : Obligations.OrbitStartsAndSeals := ⟨orbitStartsOnePeriodApart, listSeal, gateListLoadEndsStaging⟩

end Sys2Proof.Machine
end
